-- ==== Sys2Proof/Word.lean ====
section
/-! DEFINITION. Word types of the CTM-6400 model and the plainest arithmetic on them. -/

namespace Sys2Proof

/-- One byte of a memory, a packet or a mailbox frame. -/
abbrev Byte := BitVec 8

/-- One 32-bit register word (00_scope.md, Notation). -/
abbrev W32 := BitVec 32

/-- One 64-bit word: a Hamper word (R460), a work entry or a completion record (R200). -/
abbrev W64 := BitVec 64

/-- The number given by bytes stored least significant byte first (R414). -/
def leNat : List Byte → Nat
  | [] => 0
  | b :: bs => b.toNat + 256 * leNat bs

/-- The number given by bytes stored most significant byte first (link header fields, R41, and
MSPI addresses, R412). -/
def beNat (bs : List Byte) : Nat :=
  bs.foldl (fun a b => 256 * a + b.toNat) 0

/-- `n` bytes of `v`, least significant first (R414). -/
def leBytes : Nat → Nat → List Byte
  | 0, _ => []
  | n + 1, v => BitVec.ofNat 8 v :: leBytes n (v / 256)

/-- `n` bytes of `v`, most significant first. -/
def beBytes (n v : Nat) : List Byte := (leBytes n v).reverse

/-- The `w`-bit two's complement number whose bits are `v`. -/
def sgn (w v : Nat) : Int :=
  let r := v % 2 ^ w
  if r < 2 ^ (w - 1) then (r : Int) else (r : Int) - 2 ^ w

/-- The `w` bits of the two's complement of `z`. -/
def unsgn (w : Nat) (z : Int) : Nat := (z % (2 ^ w : Int)).toNat

/-- `z` held within `lo` and `hi`. -/
def clampI (lo hi z : Int) : Int := max lo (min hi z)

/-- `v` held within `lo` and `hi`. -/
def clampN (lo hi v : Nat) : Nat := max lo (min hi v)

/-- Bit `i` of `v`. -/
def bitN (v i : Nat) : Bool := v.testBit i

/-- The `n` bits of `v` from bit `lo`. -/
def bitsN (v lo n : Nat) : Nat := v / 2 ^ lo % 2 ^ n

/-- `b` as the number 1 or 0. -/
def b2n (b : Bool) : Nat := if b then 1 else 0

/-- Round a quotient to the nearest whole number, a tie going to the even one (R131, R181). -/
def convRound (num : Int) (den : Nat) : Int :=
  let q := num / (den : Int)
  let r := num % (den : Int)
  if 2 * r < (den : Int) then q
  else if 2 * r > (den : Int) then q + 1
  else if q % 2 = 0 then q else q + 1

/-- `v` with bit `i` set to `b`. -/
def setBitN (v i : Nat) (b : Bool) : Nat :=
  if v.testBit i = b then v else if b then v + 2 ^ i else v - 2 ^ i

end Sys2Proof
end

