-- ==== Sys2Proof/Syntax.lean ====
section
/-! DEFINITION. The commands of the block (spec/opcode_table.json), with their operands. -/

namespace Sys2Proof

/-- A requester of the register space (R10): a control processor, a DMA channel or the management SPI. -/
inductive Requester where
  | cp0
  | cp1
  | dma (c : Fin 16)
  | mspi
  deriving DecidableEq, Repr

/-- The header of a command frame (R414); its OPCODE is that of the command, its LEN the payload's length and its
FLAGS zero. -/
structure CmdHdr where
  mb : Fin 4
  tag : Byte
  seq : BitVec 16
  deriving DecidableEq, Repr

/-- What the check code says of a 64-bit word (R460). -/
inductive ErrClass where
  | clean
  | ce
  | ue
  | addr
  deriving DecidableEq, Repr

/-- Bit errors that have struck the stored word at byte address `8 * word` since its last write, as the check code
classifies them (R460): the environment's part in a read. -/
structure Upset where
  word : Nat
  cls : ErrClass
  synd : Byte
  deriving DecidableEq, Repr

/-- A level of the line code's four (R40). -/
inductive Level where
  | l0
  | l1
  | l2
  | l3
  deriving DecidableEq, Repr

/-- A low pulse on RESET_N by its length (R511): shorter than 100 ns, between 100 ns and 1 µs (with what it turns out
to do), or at least 1 µs. -/
inductive ResetPulse where
  | glitch
  | between (taken : Bool)
  | full
  deriving DecidableEq, Repr

/-- A direction of a chain (R225). -/
inductive Dir where
  | tx
  | rx
  deriving DecidableEq, Repr

/-- An oscillator with a two-word frequency (R214, R363): a tile's band NCO, a carrier's, or the Rambler's. -/
inductive Nco where
  | band (t : Fin 4) (d : Dir)
  | carrier (k : Fin 8) (d : Dir)
  | rambler (d : Dir)
  deriving DecidableEq, Repr

/-- A set of equaliser coefficients of a lane, as its four registers hold them (R55, R82). -/
structure EqCoef where
  ctle : BitVec 32 := 0
  dfe0 : BitVec 32 := 0
  dfe1 : BitVec 32 := 0
  dfe2 : BitVec 32 := 0
  deriving DecidableEq, Repr

/-- A position in air time (R99, R102). -/
structure AirPos where
  sfn : Nat
  subframe : Nat
  slot : Nat
  symbol : Nat
  deriving DecidableEq, Repr

/-- What a lane's receiver finds when it meets the criterion of a stage (R55, R60, R62): the polarity seen, its eye
margin and transition density in 1/256, and its coefficients. -/
structure LaneMeas where
  inverted : Bool
  eye : Byte
  density : Byte
  coef : EqCoef
  deriving DecidableEq, Repr

/-- What a lane's receiver measures while it runs (R55 to R58). -/
structure EqMeas where
  eye : Byte
  density : Byte
  coef : EqCoef
  deriving DecidableEq, Repr

/-- An uplink section as combining produces it (R111): one descriptor's PRBs for one layer, 24 values a PRB. -/
structure UlSection where
  stream : Fin 4096
  pos : AirPos
  start : Nat
  nprb : Nat
  vals : List Int
  deriving DecidableEq, Repr

/-- The estimate of one port and one subband of a carrier (R158): the value of each antenna, none where its tile was
not locked (R233). -/
structure SubEstimate where
  port : Nat
  sub : Nat
  ant : List (Option (Rat × Rat))
  deriving DecidableEq, Repr

/-- What the estimator makes of one SRS occasion (R158): the context, ĥ by port and subband, and the noise power of
each port. -/
structure SrsEstimate where
  ctx : Fin 512
  ests : List SubEstimate
  noise : List Rat
  deriving DecidableEq, Repr

/-- An external request to a cluster's local memory (R174): a read of bytes, or a write with its byte enables (none: the
byte is left). -/
inductive ExtAccess where
  | read (off n : Nat)
  | write (off : Nat) (bytes : List (Option Byte))
  deriving DecidableEq, Repr

/-- What a symbol met on its way through the data plane, as far as the data itself decides it: bit errors in the weight
memory (R150), saturated components of transform and carrier gain, of the band-group sum (R218), of the stages by tile
(R223) and of uplink combining (R133), clamped actuator components and largest amplitude by path (R247), paths whose
table memory showed an uncorrectable entry (R250), output lines missing by cluster (R193), and words in error in the
jitter buffer with the layers and PRBs lost with them (R462). -/
structure SymEnv where
  ups : List Upset := []
  sat : Nat := 0
  sumSat : Nat := 0
  tileSat : List (Fin 4 × Nat) := []
  beamSat : Nat := 0
  dpd : List (Fin 64 × Nat × Nat) := []
  tableUe : List (Fin 64) := []
  late : List (Fin 16 × Nat) := []
  jitter : List Upset := []
  lost : List (Nat × Nat) := []
  deriving DecidableEq, Repr

/-- What a capture window holds (R268), elements as in R171: the observation, the path's actuator input and those of its
four neighbours (each with the seven samples before the window), the actuator output where the path's table changed
inside the window, and how many observation codes reached full scale. -/
structure CaptureData where
  obs : List (BitVec 32)
  inp : List (BitVec 32)
  nbs : List (List (BitVec 32))
  out : List (BitVec 32)
  clips : Nat
  deriving DecidableEq, Repr

/-- The sums over one block of 4,096 samples of each sub-ADC (R291): Σ x, Σ x² and Σ of successive products. -/
structure StatsBlock where
  s1 : List Int
  s2 : List Int
  c : List Int
  deriving DecidableEq, Repr

/-- A preamble as the correlator finds it (R350): the level of each branch in signed 0.25 dBFS, and the strength of each,
normalised to the lands, in dB. -/
structure Preamble where
  lev0 : Int
  lev1 : Int
  at0 : Rat
  at1 : Rat
  deriving DecidableEq, Repr

/-- What the receiver has of a packet when it leaves it (R349, R353, R354): the header so far, the payload bytes (with the
CRC where it has come), the EVM in signed 0.25 dB, and of a SOUND frame the two channels and their exponent. -/
structure RxPayload where
  hdr : BitVec 64
  bytes : List Byte
  evm : Int
  ch0 : BitVec 32
  ch1 : BitVec 32
  exp : Byte
  deriving DecidableEq, Repr

/-- A runtime image in a flash slot that carries good signatures (R443 to R447): the digest m, VERSION, its signer
(false vendor, true owner) and its SVN. -/
structure SlotImage where
  digest : List Byte
  version : BitVec 32
  owner : Bool
  svn : Nat
  deriving DecidableEq, Repr

/-- What the boot flash holds when the boot loader runs (R427, R428): the digest m of the first boot loader copy that
verifies, the image of each slot that carries good signatures, and SLOT_PREF of the profile area (none: absent). -/
structure BootImages where
  loader : Option (List Byte)
  slotA : Option SlotImage
  slotB : Option SlotImage
  pref : Option Bool
  deriving DecidableEq, Repr

/-- One port of the link profile (R519, R545): the word for LINK_Px_CTRL, with EN in its place. -/
structure PortProfile where
  ctrl : BitVec 32
  deriving DecidableEq, Repr

/-- The link profile of the flash (R519). -/
structure LinkProfile where
  bond : Nat
  seeds : List (BitVec 32)
  ports : List PortProfile
  /-- Words for LINK_Ln_CTRL: the transmit equaliser. -/
  lanes : List (BitVec 32) := []
  deriving DecidableEq, Repr

/-- The front-end profile of the flash, as far as the block acts on it (R519). -/
structure FeProfile where
  refclk : Bool
  /-- Words for registers of the bias and monitoring blocks: address and word. -/
  words : List (BitVec 32 × BitVec 32) := []
  deriving DecidableEq, Repr

/-- A kernel embedded in the running image, with good signatures (R448). -/
structure KernelEntry where
  digest : List Byte
  id : BitVec 32
  owner : Bool
  deriving DecidableEq, Repr

/-- What the runtime firmware finds at its start: the profile records that are present with a good CRC-32 (R545), and
the kernels of its image (R448). -/
structure Profiles where
  link : Option LinkProfile
  fe : Option FeProfile
  kernels : List KernelEntry
  deriving DecidableEq, Repr

/-- What the boot finds: new faulty rows of the Hamper, by 1 MiB row block (R469), and trim fuse words whose parity fails,
by tile and page offset (R285). -/
structure BootBist where
  faults : List (Fin 128 × Nat)
  trims : List (Fin 4 × Nat) := []
  deriving DecidableEq, Repr


/-- The commands the block takes: one constructor for each row of spec/opcode_table.json, in its order. -/
inductive Instr where
  /-- REGISTER_WRITE (R5): A write to a register field that has no behaviour of its own stores, sets or clears it according to its access type. -/
  | registerWrite (r : Requester) (addr v : BitVec 32)
  /-- SNAPSHOT_READ (R8): A read of the lowest word of a multi-word group latches the other words for the reading requester and clears the group's RC fields. -/
  | snapshotRead (r : Requester) (addr : BitVec 32)
  /-- RC_READ (R5): A read of an RC field returns its value and clears it to zero. -/
  | rcRead (r : Requester) (addr : BitVec 32)
  /-- STAGED_WORD_WRITE (R12): A write to a higher word of a writable group is staged for the writing requester until that requester commits the lowest word. -/
  | stagedWordWrite (r : Requester) (addr v : BitVec 32)
  /-- PORT_ENABLE (R73): Firmware sets LINK_Px_CTRL.EN and the port starts a full training. -/
  | portEnable (x : Fin 4)
  /-- PORT_DISABLE (R71): Firmware clears EN, so the port enters LINK_DOWN with REASON DISABLED, discards its queues and idles its lanes. -/
  | portDisable (x : Fin 4)
  /-- PORT_RETRAIN (R72): A write of LINK_Px_CTRL.RETRAIN requests a full training, with a discard of the port's queues if the port is UP. -/
  | portRetrain (x : Fin 4)
  /-- LANE_STAGE_PASS (R60): A lane meets the criterion of its current lane stage and moves to the next stage. -/
  | laneStagePass (n : Fin 16) (m : LaneMeas)
  /-- PORT_STAGE_PASS (R60): A port stage (DESKEW or AGREE) meets its criterion for the remaining lanes. -/
  | portStagePass (x : Fin 4)
  /-- STAGE_TIMEOUT (R61): A training stage timer expires, so the stage counts an attempt, re-initialises the lane or lanes, or excludes a lane or fails the training. -/
  | stageTimeout (x : Fin 4) (lane : Option (Fin 16)) (tie : Bool)
  /-- LANE_REINIT_DONE (R61): The re-initialisation of a lane completes and the lane repeats training from stage 1. -/
  | laneReinitDone (n : Fin 16)
  /-- TRAIN_BLOCK_RECEIVE (R66): A TRAIN block is received whole and checked, which can advance IDENTITY or AGREE, pull a down port into training, or signal ABORT or a restart. -/
  | trainBlockReceive (n : Fin 16) (payload : List Byte)
  /-- BLOCK_RECEIVE (R51): A DATA or SKIP block is received and its header is checked; SKIP is discarded and DATA enters deskew. -/
  | blockReceive (n : Fin 16) (symbols : List Level)
  /-- FRT_REQ (R546): A CTRL message FRT_REQ that passes CCHK puts an UP port into FAST_RETRAIN and starts its reply. -/
  | frtReq (x : Fin 4) (laneMask : BitVec 16)
  /-- FRT_DONE (R76): A CTRL message FRT_DONE is received from the partner at the end of its fast retrain. -/
  | frtDone (x : Fin 4) (laneMask : BitVec 16)
  /-- PORT_ABORT (R77): A CTRL message PORT_ABORT fails a fast retrain and the port goes down. -/
  | portAbort (x : Fin 4) (laneMask : BitVec 16)
  /-- LANE_SIGNAL_DETECT (R72): A receive lane goes from no signal to signal, which starts a full training on a down port. -/
  | laneSignalDetect (n : Fin 16)
  /-- LANE_LOSS_OF_SIGNAL (R74): A working lane's amplitude has stayed below threshold for 5 µs, so the lane is marked down. -/
  | laneLossOfSignal (n : Fin 16)
  /-- FRT_DEADLINE (R77): The 1 ms fast-retrain deadline expires without AGREE, so the port goes down with FRT_FAIL and discards its queues. -/
  | frtDeadline (x : Fin 4) (tie : Bool)
  /-- LINK_RETRY_EXPIRY (R72): LINK_RETRY_MS has elapsed in LINK_DOWN and a full training starts. -/
  | linkRetryExpiry (x : Fin 4)
  /-- EQ_RESUME (R56): The freeze conditions have been clear for 10 µs and equaliser adaptation resumes. -/
  | eqResume (n : Fin 16) (m : EqMeas)
  /-- EQ_SNAPSHOT (R57): The 1 ms snapshot timer of a lane expires and the coefficients are saved if the millisecond was clean. -/
  | eqSnapshot (n : Fin 16) (m : EqMeas)
  /-- EQ_ROLLBACK (R58): A lane diverges, so it reloads its last good snapshot and counts the rollback. -/
  | eqRollback (n : Fin 16) (m : EqMeas)
  /-- PACKET_RECEIVE (R86): A packet is received whole from the byte stream and checked by CRC, VC and LEN, then routed by channel. -/
  | packetReceive (x : Fin 4) (bytes : List Byte)
  /-- LINK_CONTROL_RECEIVE (R90): A link control packet updates the acknowledgement, the credit limits and any NAK. -/
  | linkControlReceive (x : Fin 4) (bytes : List Byte)
  /-- LINK_CONTROL_SEND (R91): A link control packet is sent when an acknowledgement, a NAK or the 1 µs period falls due. -/
  | linkControlSend (x : Fin 4)
  /-- REPLAY_TIMEOUT (R94): The replay timer expires and every held packet is replayed in SEQ order. -/
  | replayTimeout (x : Fin 4) (tie : Bool)
  /-- PACKET_START (R89): At a packet start the transmitter sends the highest-priority waiting packet that has credits. -/
  | packetStart (x : Fin 4)
  /-- USER_PLANE_SECTION (R99): A U packet section is checked against its stream, window and format, then buffered, combined as a partial sum or discarded. -/
  | userPlaneSection (x : Fin 4) (tie : Bool)
  /-- CONTROL_PLANE_SECTION (R102): A C packet of descriptors is accepted for its symbols or discarded by deadline, enable or reserved codes. -/
  | controlPlaneSection (x : Fin 4) (tie : Bool)
  /-- SECTION_DEADLINE (R107): At the DL_LEAD deadline, carried PRBs with no data are zeroed and unclaimed U data is released. -/
  | sectionDeadline (k : Fin 8) (pos : AirPos)
  /-- UPLINK_SECTION_PRODUCED (R111): Combining produces an uplink section, which is queued as U packets in order on the UPSTREAM port. -/
  | uplinkSectionProduced (sec : UlSection)
  /-- UL_DROP_EXPIRY (R112): An uplink packet that is still waiting for credits after UL_DROP is discarded. -/
  | ulDropExpiry (x : Fin 4)
  /-- PSUM_WAIT_EXPIRY (R118): No partial sum has arrived within WAIT_US, so the module sends its own contribution alone. -/
  | psumWaitExpiry (entry : Nat) (tie : Bool)
  /-- TIMING_MESSAGE (R121): A T packet carrying an IEEE 1588 message is timestamped and its entry pushed into the timestamp FIFO. -/
  | timingMessage (x : Fin 4) (egress replayed : Bool) (msg : List Byte)
  /-- TS_FIFO_READ (R130): A read of FHP_TS_INFO removes the head timestamp entry and latches its other words. -/
  | tsFifoRead (r : Requester)
  /-- STREAM_CFG (R128): The command maps stream entries after the capacity check. -/
  | streamCfg (h : CmdHdr) (pl : List Byte)
  /-- FH_TIMING (R128): The command sets DL_LEAD, DL_EARLY and UL_DROP, which take effect at the next frame. -/
  | fhTiming (h : CmdHdr) (pl : List Byte)
  /-- CASCADE_CFG (R128): The command sets POS, LAST and the partial-sum parameters. -/
  | cascadeCfg (h : CmdHdr) (pl : List Byte)
  /-- FH_CHECK (R128): The command runs the link capacity check and changes nothing. -/
  | fhCheck (h : CmdHdr) (pl : List Byte)
  /-- BEAM_WS_USED (R144): A write of USED in BEAM_WSn_CFG moves the set between FREE and OPEN. -/
  | beamWsUsed (w : Fin 64) (used : Bool)
  /-- BEAM_WS_COMMIT (R145): A write of COMMIT commits the OPEN shadow for its target, or for the next boundary when NEXT is set. -/
  | beamWsCommit (w : Fin 64) (grp : Byte) (tie : Bool)
  /-- BEAM_WS_ABORT (R145): A write of ABORT withdraws a COMMITTED shadow back to OPEN. -/
  | beamWsAbort (w : Fin 64)
  /-- WSET_CUTOFF (R144): The cutoff 50 µs before the target boundary locks committed shadows. -/
  | wsetCutoff (w : Fin 64)
  /-- WSET_HOLD_EXPIRY (R144): 32 µs after an uplink exchange, the HELD shadow becomes OPEN. -/
  | wsetHoldExpiry (w : Fin 64)
  /-- WEIGHT_WRITE_RELEASE (R147): A held B-channel weight write is applied once its set's shadow becomes OPEN, and B credits resume. -/
  | weightWriteRelease (x : Fin 4)
  /-- SRS_DONE (R159): The estimation of an SRS occasion completes, and the estimates, exponents and VALID are written. -/
  | srsDone (est : SrsEstimate)
  /-- CONTEXT_AGE_TICK (R159): Every 0.5 ms each user context's AGE advances, saturating at 255. -/
  | contextAgeTick
  /-- USER_CONTEXT_CFG_WRITE (R155): A write to BEAM_UCn_CFG clears VALID, and the new parameters apply from the next occasion. -/
  | userContextCfgWrite (u : Fin 512) (v : BitVec 32)
  /-- WEIGHT_JOB_START (R163): A GROUP_CALC job starts at the later of its acceptance and its window start, using the estimates as they stand. -/
  | weightJobStart (job : Nat)
  /-- WEIGHT_JOB_DONE (R163): A weight job completes and the firmware commits each of its sets for the target. -/
  | weightJobDone (job : Nat)
  /-- WMEM_CFG (R168): The command sets NBEAM after the capacity check. -/
  | wmemCfg (h : CmdHdr) (pl : List Byte)
  /-- CLU_MAP (R168): The command sets the weight-cluster mask after the capacity check. -/
  | cluMap (h : CmdHdr) (pl : List Byte)
  /-- WSET_CFG (R168): The command configures one set, or several checked together, with their copies placed. -/
  | wsetCfg (h : CmdHdr) (pl : List Byte)
  /-- WSET_FREE (R168): The command frees a weight set. -/
  | wsetFree (h : CmdHdr) (pl : List Byte)
  /-- WSET_COMMIT (R542): The command resolves its target and commits the shadow once BCOUNT bytes have arrived, or reports MISSED. -/
  | wsetCommit (h : CmdHdr) (pl : List Byte)
  /-- WSET_WRITE (R168): The command writes entries into an OPEN shadow. -/
  | wsetWrite (h : CmdHdr) (pl : List Byte)
  /-- WSET_STAT (R168): The command returns a set's registers. -/
  | wsetStat (h : CmdHdr) (pl : List Byte)
  /-- FALLBACK_SET (R168): The command loads fallback matrix columns. -/
  | fallbackSet (h : CmdHdr) (pl : List Byte)
  /-- BEAM_SET (R168): The command loads fixed beams. -/
  | beamSet (h : CmdHdr) (pl : List Byte)
  /-- CTX_CFG (R168): The command sets the geometry of the user-context store. -/
  | ctxCfg (h : CmdHdr) (pl : List Byte)
  /-- USER_CFG (R168): The command writes a user context's CFG word. -/
  | userCfg (h : CmdHdr) (pl : List Byte)
  /-- USER_READ (R168): The command returns a user context's words and estimates. -/
  | userRead (h : CmdHdr) (pl : List Byte)
  /-- GROUP_CFG (R168): The command defines a user group's layers, REG and MAX_AGE. -/
  | groupCfg (h : CmdHdr) (pl : List Byte)
  /-- GROUP_CALC (R163): The command schedules a weight job for a user group and a target slot. -/
  | groupCalc (h : CmdHdr) (pl : List Byte)
  /-- BEAM_STAT (R168): The command returns every BEAM counter together with the firmware counts. -/
  | beamStat (h : CmdHdr) (pl : List Byte)
  /-- VNOP (R187): The V slot does nothing for one cycle. -/
  | opVnop (c : Fin 16)
  /-- CMAC (R180): The outer-product complex multiply accumulates into an accumulator set. -/
  | opCmac (c : Fin 16)
  /-- VOUT (R187): An accumulator set is narrowed into an output buffer or a quad of vector registers. -/
  | opVout (c : Fin 16)
  /-- VMULE (R187): Element-wise multiply with narrowing. -/
  | opVmule (c : Fin 16)
  /-- VADD (R187): Element-wise add or subtract with narrowing. -/
  | opVadd (c : Fin 16)
  /-- VRSQ (R187): Per-element reciprocal square root. -/
  | opVrsq (c : Fin 16)
  /-- VRCP (R187): Per-element reciprocal. -/
  | opVrcp (c : Fin 16)
  /-- VNORM (R187): Counts the redundant sign bits over an accumulator set. -/
  | opVnorm (c : Fin 16)
  /-- VTR (R187): Transposes a 16 by 16 matrix held in a register quad. -/
  | opVtr (c : Fin 16)
  /-- VCFCOL (R187): Moves two coefficient-file columns into a vector register. -/
  | opVcfcol (c : Fin 16)
  /-- VMOV (R187): Copies a vector register, optionally conjugated. -/
  | opVmov (c : Fin 16)
  /-- VZERO (R187): Zeroes an accumulator set. -/
  | opVzero (c : Fin 16)
  /-- ANOP (R188): The A slot does nothing. -/
  | opAnop (c : Fin 16)
  /-- LD (R188): Loads a line from local memory or the input FIFO into a register or the coefficient file. -/
  | opLd (c : Fin 16) (ups : List Upset)
  /-- ST (R188): Stores a line to local memory or the output FIFO. -/
  | opSt (c : Fin 16)
  /-- AGSET (R188): Sets an address generator's BASE, LENGTH, OFFSET and MODE, and clears PTR. -/
  | opAgset (c : Fin 16)
  /-- AGPTR (R188): Sets an address generator's PTR. -/
  | opAgptr (c : Fin 16)
  /-- AGOFF (R188): Sets an address generator's OFFSET. -/
  | opAgoff (c : Fin 16)
  /-- AGSTEP (R188): Applies an address generator's post-step without an access. -/
  | opAgstep (c : Fin 16)
  /-- SNOP (R189): The S slot does nothing. -/
  | opSnop (c : Fin 16)
  /-- ADD (R189): Scalar add. -/
  | opAdd (c : Fin 16)
  /-- SUB (R189): Scalar subtract. -/
  | opSub (c : Fin 16)
  /-- AND (R189): Scalar and. -/
  | opAnd (c : Fin 16)
  /-- OR (R189): Scalar or. -/
  | opOr (c : Fin 16)
  /-- XOR (R189): Scalar exclusive or. -/
  | opXor (c : Fin 16)
  /-- SHL (R189): Scalar shift left. -/
  | opShl (c : Fin 16)
  /-- SHR (R189): Scalar logical shift right. -/
  | opShr (c : Fin 16)
  /-- SAR (R189): Scalar arithmetic shift right. -/
  | opSar (c : Fin 16)
  /-- MUL (R189): Scalar multiply, keeping the low 32 bits. -/
  | opMul (c : Fin 16)
  /-- SLT (R189): Signed set-less-than. -/
  | opSlt (c : Fin 16)
  /-- SEXT16 (R189): Sign-extends the low half-word. -/
  | opSext16 (c : Fin 16)
  /-- BR (R189): Unconditional branch. -/
  | opBr (c : Fin 16)
  /-- BRZ (R189): Branch if the source is zero. -/
  | opBrz (c : Fin 16)
  /-- BRNZ (R189): Branch if the source is nonzero. -/
  | opBrnz (c : Fin 16)
  /-- LOOP (R190): Opens a zero-overhead loop, nested at most two deep. -/
  | opLoop (c : Fin 16)
  /-- WQPOP (R189): Pops the next work entry into two scalar registers, waiting while the queue is empty. -/
  | opWqpop (c : Fin 16)
  /-- CQPUSH (R189): Pushes a completion record and raises DONE, waiting while the queue is full. -/
  | opCqpush (c : Fin 16)
  /-- CFLD (R189): Starts a background load of coefficient entries from the Hamper into a bank. -/
  | opCfld (c : Fin 16)
  /-- CFLD_DONE (R191): A coefficient bank load completes with its status, fallback or zero fill. -/
  | cfldDone (c : Fin 16) (bank : Fin 2) (ups : List Upset)
  /-- CFWAIT (R189): Waits for a bank load and returns its status. -/
  | opCfwait (c : Fin 16)
  /-- HCOPY (R189): Starts a background copy between the Hamper and local memory. -/
  | opHcopy (c : Fin 16)
  /-- HCOPY_DONE (R191): A Hamper copy completes. -/
  | hcopyDone (c : Fin 16) (ups : List Upset)
  /-- HWAIT (R189): Waits for all of the cluster's copies and returns their status. -/
  | opHwait (c : Fin 16)
  /-- MFVR (R189): Moves a vector element to a scalar register. -/
  | opMfvr (c : Fin 16)
  /-- MFNORM (R189): Moves the last VNORM result to a scalar register. -/
  | opMfnorm (c : Fin 16)
  /-- MFAG (R189): Moves a generator's PTR to a scalar register. -/
  | opMfag (c : Fin 16)
  /-- HALT (R196): Ends the run and the cluster goes to IDLE. -/
  | opHalt (c : Fin 16)
  /-- FAULT (R203): Faults the cluster with SW_FAULT and the code given. -/
  | opFault (c : Fin 16)
  /-- LOCAL_WRITEBACK (R175): A corrected local-memory word is written back in the next free write phase. -/
  | localWriteback (c : Fin 16)
  /-- EXTERNAL_ACCESS (R174): An external request to local memory takes a free phase, or forces one after 8 cycles of waiting. -/
  | externalAccess (c : Fin 16) (r : Requester) (acc : ExtAccess) (forced : Bool) (ups : List Upset)
  /-- CLU_LOAD (R195): A write of LOAD starts the loading of a kernel image into the instruction store. -/
  | cluLoad (c : Fin 16)
  /-- CLU_LOAD_DONE (R195): The load completes, entering the bundles if the digest is in the table, or failing with LOAD_ERR. -/
  | cluLoadDone (c : Fin 16) (ups : List Upset)
  /-- CLU_START (R197): A write of START initialises the registers and runs from ENTRY. -/
  | cluStart (c : Fin 16)
  /-- CLU_STOP (R198): A write of STOP halts the cluster at the next bundle boundary. -/
  | cluStop (c : Fin 16)
  /-- CLU_STOP_DONE (R198): The outstanding transfers complete after a STOP and the cluster reads IDLE. -/
  | cluStopDone (c : Fin 16)
  /-- CLU_CLEAR (R196): A write of CLEAR returns a faulted cluster to IDLE. -/
  | cluClear (c : Fin 16)
  /-- CLU_WQ_PUSH (R200): A write of CLU_WQ_LO pushes the staged 64-bit work entry. -/
  | cluWqPush (r : Requester) (c : Fin 16) (lo : BitVec 32)
  /-- CLU_CQ_POP (R200): A read of CLU_CQ_LO removes the oldest completion record and latches its high word. -/
  | cluCqPop (r : Requester) (c : Fin 16)
  /-- CLU_WDOG_EXPIRY (R201): The cluster watchdog expires and the cluster faults with WDOG. -/
  | cluWdogExpiry (c : Fin 16) (tie : Bool)
  /-- KERNEL_ADD (R205): The command verifies and registers an owner kernel image. -/
  | kernelAdd (h : CmdHdr) (pl : List Byte)
  /-- CLU_ASSIGN (R205): The command assigns clusters to an owner kernel and loads and starts it, or returns the clusters to runtime use. -/
  | cluAssign (h : CmdHdr) (pl : List Byte)
  /-- CLU_WORK (R205): The command pushes work entries to an owner cluster. -/
  | cluWork (h : CmdHdr) (pl : List Byte)
  /-- CLU_POLL (R205): The command removes and returns completion records. -/
  | cluPoll (h : CmdHdr) (pl : List Byte)
  /-- CLU_STAT (R205): The command returns a cluster's registers and clears its RC counters. -/
  | cluStat (h : CmdHdr) (pl : List Byte)
  /-- SYMBOL_BOUNDARY (R313): A carrier's downlink symbol strobe applies pending symbol-boundary changes and drives transmission, beam application and power-down. -/
  | symbolBoundary (k : Fin 8) (env : SymEnv)
  /-- UL_SYMBOL_BOUNDARY (R236): A carrier's uplink symbol strobe samples RX_ON and starts reception of the symbol. -/
  | ulSymbolBoundary (k : Fin 8) (env : SymEnv)
  /-- SLOT_BOUNDARY (R313): A carrier's slot boundary exchanges locked weight sets and applies slot-boundary changes. -/
  | slotBoundary (k : Fin 8)
  /-- SUBFRAME_BOUNDARY (R213): NCO phases return to zero and carrier EN changes take effect. -/
  | subframeBoundary
  /-- FRAME_BOUNDARY (R313): A frame boundary applies frame-boundary changes such as the Timetable swap, an ACTIVE write and the FHP timing. -/
  | frameBoundary
  /-- NCO_WORD_COMMIT (R214): A write of the low word of an NCO frequency pair commits the staged word. -/
  | ncoWordCommit (r : Requester) (nco : Nco) (lo : BitVec 32)
  /-- NCO_WORD_APPLY (R214): A committed NCO word takes effect at its symbol boundary, or within 1 µs when there is no boundary. -/
  | ncoWordApply (nco : Nco)
  /-- CHAIN_STOP (R225): Clearing TX_RUN or RX_RUN stops the chain at the end of the symbol in progress. -/
  | chainStop (t : Fin 4) (d : Dir)
  /-- CHAIN_DRAINED (R225): A stopped chain's pipeline drains and STOPPED reads 1. -/
  | chainDrained (t : Fin 4) (d : Dir)
  /-- CHAIN_START (R225): Setting RUN starts the chain from zeros at the first symbol at least 5 µs later. -/
  | chainStart (t : Fin 4) (d : Dir)
  /-- COEF_WRITE (R224): A write to a coefficient or stage register is accepted only while the chain is stopped. -/
  | coefWrite (r : Requester) (addr v : BitVec 32)
  /-- SPLIT_WRITE (R209): A write of TILE_GROUP.SPLIT is accepted only while every chain is stopped. -/
  | splitWrite (split : Bool)
  /-- CARRIER_TABLE_WRITE (R244): A write to a carrier-table entry is checked against EN and applied at its boundary. -/
  | carrierTableWrite (r : Requester) (addr v : BitVec 32)
  /-- PLL_POWER_UP (R231): A tile PLL leaves OFF for CAL once the reference is present, the tile is awake and references are settled. -/
  | pllPowerUp (t : Fin 4)
  /-- PLL_LOCK_DETECT (R231): The lock detector asserts and the PLL enters SETTLING. -/
  | pllLockDetect (t : Fin 4)
  /-- PLL_CAL_TIMEOUT (R231): No lock within 1 ms of CAL, so the PLL enters FAIL. -/
  | pllCalTimeout (t : Fin 4)
  /-- PLL_SETTLE_DONE (R231): The settle time elapses and the PLL is LOCKED. -/
  | pllSettleDone (t : Fin 4)
  /-- PLL_LOCK_LOST (R231): The lock detector drops and the PLL enters UNLOCKED. -/
  | pllLockLost (t : Fin 4)
  /-- PLL_UNLOCK_TIMEOUT (R231): With no relock within 2 ms, the PLL restarts calibration. -/
  | pllUnlockTimeout (t : Fin 4)
  /-- PLL_CAL (R235): A write of PLL_CAL starts a calibration in any state but OFF. -/
  | pllCal (t : Fin 4)
  /-- VT_WARN (R231): The tuning voltage leaves its centre window and VT_WARN is set. -/
  | vtWarn (t : Fin 4) (code : Byte)
  /-- SLEEP_SET (R239): Setting TILE_CTRL.SLEEP stops the chains and powers down the PLL and converters. -/
  | sleepSet (t : Fin 4)
  /-- SLEEP_DONE (R239): The tile is asleep, with ASLEEP set and the function bit cleared. -/
  | sleepDone (t : Fin 4)
  /-- WAKE_START (R240): Clearing SLEEP starts the wake through CAL and SETTLING. -/
  | wakeStart (t : Fin 4)
  /-- WAKE_DONE (R240): The wake completes and the tile's function bit is set. -/
  | wakeDone (t : Fin 4)
  /-- PATH_WAKE (R237): A powered-down path is woken 2 µs before its next symbol with something to send. -/
  | pathWake (p : Fin 64)
  /-- BAND_CFG (R242): The command sets the band frequencies and SPLIT after the plan check. -/
  | bandCfg (h : CmdHdr) (pl : List Byte)
  /-- CARRIER_CFG (R242): The command configures a carrier after the plan and capacity checks. -/
  | carrierCfg (h : CmdHdr) (pl : List Byte)
  /-- CARRIER_RETUNE (R242): The command retunes a carrier's centres at a symbol boundary. -/
  | carrierRetune (h : CmdHdr) (pl : List Byte)
  /-- CARRIER_DEL (R242): The command deletes a carrier. -/
  | carrierDel (h : CmdHdr) (pl : List Byte)
  /-- FILTER_LOAD (R242): The command loads custom coefficients into a stage. -/
  | filterLoad (h : CmdHdr) (pl : List Byte)
  /-- FILTER_SELECT (R242): The command loads a shipped filter option into a stage. -/
  | filterSelect (h : CmdHdr) (pl : List Byte)
  /-- PLL_RECAL (R242): The command calibrates tile PLLs, now or at a named symbol. -/
  | pllRecal (h : CmdHdr) (pl : List Byte)
  /-- TILE_SLEEP (R242): The command puts tiles to sleep or wakes them. -/
  | tileSleep (h : CmdHdr) (pl : List Byte)
  /-- PATH_MASK (R242): The command sets the TX and RX path enables. -/
  | pathMask (h : CmdHdr) (pl : List Byte)
  /-- RF_STAT (R242): The command returns tile status and counters, and clears the counters. -/
  | rfStat (h : CmdHdr) (pl : List Byte)
  /-- DPD_LOAD (R255): A write of DPD_LOAD_MASK_LO starts a loader transfer for the named paths. -/
  | dpdLoad (r : Requester) (lo : BitVec 32)
  /-- DPD_LOAD_DONE (R255): A loader transfer ends, with refusals recorded per path. -/
  | dpdLoadDone (ups : List Upset)
  /-- DPD_COMMIT (R256): A write of DPD_COMMIT_LO sets PEND on the named paths. -/
  | dpdCommit (r : Requester) (lo : BitVec 32)
  /-- CAPTURE_REQUEST (R265): A write of DPD_ORXr_REQ_LO pushes a capture request. -/
  | captureRequest (r : Requester) (o : Fin 8) (lo : BitVec 32)
  /-- CAPTURE_HEAD (R264): A request reaches the head of its queue and FBSEL is changed. -/
  | captureHead (o : Fin 8)
  /-- CAPTURE_WINDOW_OPEN (R266): A capture window opens at its reference instant after the settle. -/
  | captureWindowOpen (o : Fin 8)
  /-- CAPTURE_WINDOW_CLOSE (R267): The 16,384-sample window closes and its flags are decided. -/
  | captureWindowClose (o : Fin 8) (cap : CaptureData)
  /-- CAPTURE_RECORD_DONE (R269): A record is complete in the Hamper and its completion entry is queued. -/
  | captureRecordDone (o : Fin 8)
  /-- CAPTURE_TIMEOUT (R267): The trigger has not come within TIMEOUT_MS, so the request completes as TIMEOUT. -/
  | captureTimeout (o : Fin 8) (tie : Bool)
  /-- CAPTURE_DONE_READ (R269): A read of DPD_ORXr_DONE_LO removes the oldest completion entry. -/
  | captureDoneRead (r : Requester) (o : Fin 8)
  /-- ADAPT_UPDATE (R273): The firmware fits a new table from a clean capture and stamps it. -/
  | adaptUpdate (p : Fin 64)
  /-- DPD_UPDATE_TIMER (R276): UPDATE_MS elapses and a converged or frozen path is captured again. -/
  | dpdUpdateTimer (p : Fin 64)
  /-- CAPGEN_RECAPTURE (R275): 2 ms after a generation rise, captures of that tile resume. -/
  | capgenRecapture (t : Fin 4)
  /-- DPD_MODE (R279): The command sets BYPASS, HOLD or ADAPT with STEP and UPDATE_MS. -/
  | dpdMode (h : CmdHdr) (pl : List Byte)
  /-- DPD_NEIGHBOUR (R279): The command sets a path's neighbour map. -/
  | dpdNeighbour (h : CmdHdr) (pl : List Byte)
  /-- DPD_TABLE_LOAD (R279): The command loads a table image, optionally committing it. -/
  | dpdTableLoad (h : CmdHdr) (pl : List Byte)
  /-- DPD_TABLE_READ (R279): The command returns a table copy. -/
  | dpdTableRead (h : CmdHdr) (pl : List Byte)
  /-- DPD_RESET (R279): The command switches the named paths to the identity table. -/
  | dpdReset (h : CmdHdr) (pl : List Byte)
  /-- DPD_CAPTURE (R279): The command requests a capture for the host. -/
  | dpdCapture (h : CmdHdr) (pl : List Byte)
  /-- DPD_STAT (R279): The command returns path status and clears its RC fields. -/
  | dpdStat (h : CmdHdr) (pl : List Byte)
  /-- TRIM_WRITE (R286): A write to a staged trim stores the code while the bank is OPEN. -/
  | trimWrite (r : Requester) (addr v : BitVec 32)
  /-- CAL_COMMIT (R286): A COMMIT arms the staged bank and clears HOLD. -/
  | calCommit (t : Fin 4)
  /-- CAL_ABORT (R286): An ABORT returns an ARMED bank to OPEN. -/
  | calAbort (t : Fin 4)
  /-- STATS_BLOCK (R291): A block of 4,096 samples per sub-ADC is gathered into the path's sums if its power qualifies. -/
  | statsBlock (p : Fin 64) (blk : StatsBlock)
  /-- ENGINE_UPDATE (R292): Adequate statistics lead the engine to compute, stage and commit trim updates. -/
  | engineUpdate (t : Fin 4)
  /-- STARVE_EXPIRY (R294): STARVE_MS passes without an adequate update and the path starves. -/
  | starveExpiry (p : Fin 64) (tie : Bool)
  /-- DAC_FIT (R295): The firmware fits DAC sub-array mismatch from a clean capture and stages it. -/
  | dacFit (p : Fin 64)
  /-- DAC_STARVE (R296): 60 s without a usable capture reports the path STARVED for DAC trims. -/
  | dacStarve (p : Fin 64)
  /-- RECIP_MEASURE_START (R298): A write of CAL_RECIP_CFG.RUN starts a reciprocity measurement. -/
  | recipMeasureStart
  /-- RECIP_BURST (R297): A reciprocity burst completes inside a CAL_RECIP window, or is discarded if an epoch fell in it. -/
  | recipBurst (meas : List (Int × Int)) (epochInside : Bool)
  /-- RECIP_SWAP_REQUEST (R301): A write of SWAP requests the table copy at the next slot boundary. -/
  | recipSwapRequest
  /-- MON_CAL_START (R303): A write of CAL_MON.START starts the monitoring converter's calibration. -/
  | monCalStart (cv : Fin 2)
  /-- MON_CAL_DONE (R303): The 20 µs monitoring converter calibration completes. -/
  | monCalDone (cv : Fin 2)
  /-- CAL_MODE (R304): The command sets the tracking and reciprocity enables. -/
  | calMode (h : CmdHdr) (pl : List Byte)
  /-- CAL_READ (R304): The command returns a bank page. -/
  | calRead (h : CmdHdr) (pl : List Byte)
  /-- CAL_RESET (R304): The command stages and arms the baseline. -/
  | calReset (h : CmdHdr) (pl : List Byte)
  /-- RECIP_RUN (R304): The command runs a reciprocity measurement, optionally applying it. -/
  | recipRun (h : CmdHdr) (pl : List Byte)
  /-- RECIP_READ (R304): The command returns reciprocity entries. -/
  | recipRead (h : CmdHdr) (pl : List Byte)
  /-- RECIP_HOST (R304): The command sets host front-end factors. -/
  | recipHost (h : CmdHdr) (pl : List Byte)
  /-- MON_CAL (R304): The command calibrates monitoring converters. -/
  | monCal (h : CmdHdr) (pl : List Byte)
  /-- CAL_STAT (R304): The command returns calibration status and clears the counters. -/
  | calStat (h : CmdHdr) (pl : List Byte)
  /-- TIME_BASE_TICK (R307): A 500 MHz tick adds INCR, with slew and servo terms, to the time base. -/
  | timeBaseTick
  /-- PPS_OUT_FALL (R320): PPS_OUT falls after OUT_WIDTH. -/
  | ppsOutFall
  /-- TIME_STEP_COMMIT (R310): A write of TIME_LOAD_NS commits a step, applied at once or queued for the next second. -/
  | timeStepCommit (r : Requester) (ns : BitVec 32)
  /-- TIME_STEP (R310): A pending step applies at the next whole second, with the step record, the muting and the passed-over boundaries. -/
  | timeStep
  /-- SLEW_START (R312): A write of TIME_SLEW_LO starts or replaces a slew. -/
  | slewStart (r : Requester) (lo : BitVec 32)
  /-- SLEW_END (R312): A slew's offset is used up and SLEWING clears. -/
  | slewEnd
  /-- MEAS_COMMIT (R314): A write of TIME_MEAS_LO delivers an offset to the servo. -/
  | measCommit (r : Requester) (lo : BitVec 32)
  /-- PPS_IN_EDGE (R315): A rising edge of PPS_IN is timestamped and becomes a PPS offset. -/
  | ppsInEdge (tie : Bool)
  /-- PPS_MISS (R315): 1.1 s passes without an accepted edge and a miss is counted. -/
  | ppsMiss (tie : Bool)
  /-- SERVO_EVAL (R316): The servo period expires, and the control law updates y and the servo state. -/
  | servoEval (tie : Bool)
  /-- HOLD_EXP (R318): HOLD_MAX minutes pass in HOLDOVER and HOLD_EXP is set. -/
  | holdExp
  /-- INCR_COMMIT (R318): A write of TIME_INCR_LO in MANUAL commits a new increment. -/
  | incrCommit (r : Requester) (lo : BitVec 32)
  /-- CLK_SRC_CHANGE (R317): A write of CLK_SRC moves the common reference when every tile is asleep or has its PLL OFF. -/
  | clkSrcChange (refclk agree : Bool)
  /-- TTBL_COMMIT (R321): A write of COMMIT checks the staged bank and sets PEND for the next frame. -/
  | ttblCommit
  /-- TTBL_COPY (R321): A write of COPY loads the staged bank from the active bank. -/
  | ttblCopy
  /-- TT_ENTRY_FIRE (R324): A Timetable entry comes due and acts on its level or event target. -/
  | ttEntryFire (e : Fin 256)
  /-- TT_PULSE_END (R323): The width of a PULSE action elapses and the target clears. -/
  | ttPulseEnd (target : Fin 64)
  /-- TT_IN_EDGE (R326): An accepted edge on a TT_IN land is timestamped into its FIFO. -/
  | ttInEdge (land : Fin 8) (rising tooClose : Bool)
  /-- TT_IN_READ (R326): A read of TTBL_INn_INFO removes the head entry and latches its time. -/
  | ttInRead (r : Requester) (land : Fin 8)
  /-- MB3_SCRIPT_RUN (R422): A script doorbell on MB3 runs the script's bound commands in order. -/
  | mb3ScriptRun (sc : Fin 8)
  /-- PTP_EXCHANGE (R329): A completed IEEE 1588 exchange yields an offset fed to the servo, with an automatic step where allowed. -/
  | ptpExchange (theta : Int) (replayed : Bool)
  /-- TIME_CFG (R330): The command configures the clock source, the servo, the PPS and the automatic step. -/
  | timeCfg (h : CmdHdr) (pl : List Byte)
  /-- TIME_SET (R330): The command steps the time base, now or at the next second. -/
  | timeSet (h : CmdHdr) (pl : List Byte)
  /-- TIME_SLEW (R330): The command slews the time base by an offset. -/
  | timeSlew (h : CmdHdr) (pl : List Byte)
  /-- TIME_GET (R330): The command returns the time and the servo status. -/
  | timeGet (h : CmdHdr) (pl : List Byte)
  /-- PTP_CFG (R330): The command configures IEEE 1588. -/
  | ptpCfg (h : CmdHdr) (pl : List Byte)
  /-- TT_WRITE (R330): The command writes staged Timetable entries. -/
  | ttWrite (h : CmdHdr) (pl : List Byte)
  /-- TT_COMMIT (R330): The command commits the staged Timetable bank. -/
  | ttCommit (h : CmdHdr) (pl : List Byte)
  /-- TT_READ (R330): The command returns Timetable entries. -/
  | ttRead (h : CmdHdr) (pl : List Byte)
  /-- TT_SCRIPT (R330): The command binds commands to an MB3 script. -/
  | ttScript (h : CmdHdr) (pl : List Byte)
  /-- RMB_WINDOW_OPEN (R335): RMB_WIN rises and the window opens as a transmit or receive window by TXPAT. -/
  | rmbWindowOpen
  /-- RMB_WINDOW_CLOSE (R334): RMB_WIN falls, so a running burst is cut and a reception is aborted. -/
  | rmbWindowClose (rx : RxPayload)
  /-- RMB_TXQ_PUSH (R344): A write of RMB_TXQ queues a burst descriptor. -/
  | rmbTxqPush (desc : BitVec 32)
  /-- BURST_START (R345): The head burst starts at its instant once grant, lock and fit allow, or completes with an error. -/
  | burstStart (gnt : Bool) (tie : Bool)
  /-- BURST_END (R345): A burst ramps down and completes, or starts its acknowledgement timer. -/
  | burstEnd
  /-- SYNTH_HOLD_EXPIRY (R346): HOLD_US ends with a PLL unlocked, so the burst completes as SYNTH_BUSY. -/
  | synthHoldExpiry (tie : Bool)
  /-- TXDONE_READ (R348): A read of RMB_TXDONE_LO removes the oldest TX completion. -/
  | txdoneRead (r : Requester)
  /-- PREAMBLE_DETECT (R350): A preamble is detected or captured, so the AGC freezes and a branch is chosen. -/
  | preambleDetect (pre : Preamble) (rx : RxPayload)
  /-- SYNC_FOUND (R349): The sync word is found and the equaliser trains. -/
  | syncFound (ts : Int)
  /-- SYNC_TIMEOUT (R349): No sync within 48 symbols, so the receiver returns to SEARCH. -/
  | syncTimeout
  /-- HEADER_RECEIVE (R349): A header is checked and the receiver goes to PAYLOAD or SEARCH. -/
  | headerReceive (hdr : BitVec 64)
  /-- PAYLOAD_RECEIVE (R349): The last CRC byte ends a frame, whose record is written and whose ACK or response is queued. -/
  | payloadReceive (rx : RxPayload) (tie : Bool)
  /-- RX_SLOT_FREE (R354): A write of RMB_RX_FREE returns a ring slot. -/
  | rxSlotFree (slot : Fin 16)
  /-- RXQ_READ (R354): A read of RMB_RXQ removes the oldest RX completion. -/
  | rxqRead (r : Requester)
  /-- ACK_TIMEOUT (R355): The acknowledgement timer expires, and the frame is retransmitted or completes as ACK_FAIL. -/
  | ackTimeout (seq : BitVec 6) (tie : Bool)
  /-- TT_TIMEOUT (R357): A time exchange gets no response within MAX_MS and is dropped. -/
  | ttTimeout (tie : Bool)
  /-- TIME_REQ_INTERVAL (R361): The firmware's interval elapses and a TIME_REQ is queued. -/
  | timeReqInterval
  /-- COEX_REQUEST (R359): LEAD_US before a burst, COEX_REQ_OUT rises with PRI. -/
  | coexRequest
  /-- COEX_REQ_IN_EDGE (R360): A change of COEX_REQ_IN blocks bursts and drives GNT_OUT. -/
  | coexReqInEdge (high : Bool)
  /-- RMB_CFG (R361): The command configures the paths, channel, unit, pattern and window. -/
  | rmbCfg (h : CmdHdr) (pl : List Byte)
  /-- RMB_SEND (R361): The command queues a DATA or SOUND burst. -/
  | rmbSend (h : CmdHdr) (pl : List Byte)
  /-- RMB_TT (R361): The command configures time transfer. -/
  | rmbTt (h : CmdHdr) (pl : List Byte)
  /-- COEX_CFG (R361): The command configures the coexistence wires. -/
  | coexCfg (h : CmdHdr) (pl : List Byte)
  /-- RMB_STAT (R361): The command returns Rambler status and counters. -/
  | rmbStat (h : CmdHdr) (pl : List Byte)
  /-- AUXD_QUEUE_PUSH (R366): A write of AUXD_CHn_Q pushes a code entry. -/
  | auxdQueuePush (ch : Fin 96) (entry : BitVec 13)
  /-- AUXD_TICK (R367): The 1 MHz update tick pops entries, applies limits and updates the outputs. -/
  | auxdTick
  /-- DEGLITCH_HOLD_END (R369): A deglitcher hold ends and the output steps to its new value. -/
  | deglitchHoldEnd (ch : Fin 96)
  /-- FORCE_HIZ (R371): A write of FORCE_HIZ returns every channel to high impedance and flushes the queues. -/
  | forceHiz
  /-- MON_INJECT_REQUEST (R374): A write of MON_INJc_REQ queues an injected conversion. -/
  | monInjectRequest (cv : Fin 2) (input : Byte)
  /-- CONVERSION_DONE (R375): A conversion result is written with its tag and checked by its window comparator. -/
  | conversionDone (cv : Fin 2) (delay : Bool) (code : BitVec 12)
  /-- MUTE_RELEASE (R377): A write of 1 to a mute bit releases it if no covering comparator is out. -/
  | muteRelease (addr v : BitVec 32)
  /-- TXMUTE_FALL (R378): TXMUTE_N low forces every TX DAC input to zero. -/
  | txmuteFall
  /-- TXMUTE_RISE (R378): TXMUTE_N rises and TX resumes at a symbol boundary at least 1 µs later. -/
  | txmuteRise
  /-- FESPI_START (R379): A write of FESPIk_CMD starts an SPI transfer. -/
  | fespiStart (r : Requester) (ctl : Fin 4) (cmd : BitVec 32)
  /-- FESPI_DONE (R379): An SPI transfer ends. -/
  | fespiDone (ctl : Fin 4) (miso : BitVec 64)
  /-- FEI2C_START (R380): A write of GO starts an I²C transfer. -/
  | fei2cStart
  /-- FEI2C_DONE (R380): An I²C transfer ends with its RESULT. -/
  | fei2cDone (result : Fin 5) (rx : List Byte) (done : Nat)
  /-- FEI2C_STRETCH_TIMEOUT (R380): SCL held low for STRETCH_MS ends the transfer as STRETCH_TO. -/
  | fei2cStretchTimeout (tie : Bool)
  /-- AUXD_CFG (R381): The command configures a bias channel and its limits. -/
  | auxdCfg (h : CmdHdr) (pl : List Byte)
  /-- AUXD_PUSH (R381): The command pushes code entries. -/
  | auxdPush (h : CmdHdr) (pl : List Byte)
  /-- AUXD_HIZ (R381): The command puts channels to high impedance. -/
  | auxdHiz (h : CmdHdr) (pl : List Byte)
  /-- MON_SEQ (R381): The command writes a continuous list. -/
  | monSeq (h : CmdHdr) (pl : List Byte)
  /-- MON_TRIG (R381): The command writes a triggered list. -/
  | monTrig (h : CmdHdr) (pl : List Byte)
  /-- MON_INJECT (R381): The command makes an injected conversion. -/
  | monInject (h : CmdHdr) (pl : List Byte)
  /-- MON_READ (R381): The command returns result groups. -/
  | monRead (h : CmdHdr) (pl : List Byte)
  /-- MON_WINDOW (R381): The command configures a window comparator. -/
  | monWindow (h : CmdHdr) (pl : List Byte)
  /-- MON_UNMUTE (R381): The command releases comparator mutes. -/
  | monUnmute (h : CmdHdr) (pl : List Byte)
  /-- FESPI_XFER (R381): The command runs a front-end SPI transfer. -/
  | fespiXfer (h : CmdHdr) (pl : List Byte)
  /-- FEI2C_XFER (R381): The command runs a front-end I²C transfer. -/
  | fei2cXfer (h : CmdHdr) (pl : List Byte)
  /-- FE_STAT (R381): The command returns front-end status and clears the counters. -/
  | feStat (h : CmdHdr) (pl : List Byte)
  /-- SENSOR_SAMPLE (R386): The 1 ms sample checks plausibility and updates zone states, caps, sheds and shutdown. -/
  | sensorSample (temps : List Int)
  /-- GRACE_EXPIRY (R391): An ASK zone's grace timer expires and it enters THROTTLE. -/
  | graceExpiry (z : Fin 7) (tie : Bool)
  /-- NOVALID_GRACE_EXPIRY (R388): A zone with no valid sensor goes to its deepest step. -/
  | novalidGraceExpiry (z : Fin 7) (tie : Bool)
  /-- SENSOR_CLEAR (R387): A write of a sensor's CLEAR bit clears FAILED if its last 64 samples were plausible. -/
  | sensorClear (sn : Fin 124)
  /-- POWER_SAMPLE (R396): The 1 kHz input power sample steps the limiter up or down. -/
  | powerSample (vin10mV iinMa pinMw : Nat)
  /-- THERM_CFG (R398): The command sets a zone's thresholds and mode. -/
  | thermCfg (h : CmdHdr) (pl : List Byte)
  /-- SHED_ORDER (R398): The command writes the shed table. -/
  | shedOrder (h : CmdHdr) (pl : List Byte)
  /-- SENS_CLEAR (R398): The command clears failed sensors. -/
  | sensClear (h : CmdHdr) (pl : List Byte)
  /-- PWR_CFG (R398): The command sets PLIM_W. -/
  | pwrCfg (h : CmdHdr) (pl : List Byte)
  /-- THERM_STAT (R398): The command returns thermal status and clears the counters. -/
  | thermStat (h : CmdHdr) (pl : List Byte)
  /-- STATE_WRITE (R406): A write of SYS_STATE.STATE performs an accepted transition. -/
  | stateWrite (st : BitVec 3)
  /-- SAFE_CAUSE_CLEAR (R407): A W1C write to SYS_SAFE_CAUSE clears the causes that no longer hold. -/
  | safeCauseClear (v : BitVec 32)
  /-- FRAME_WRITE (R412): An MSPI transaction delivers an inbound frame to MB1. -/
  | frameWrite (bytes : List Byte)
  /-- FRAME_READ (R412): An MSPI transaction removes and returns the oldest outbound MB1 frame. -/
  | frameRead
  /-- STAT_READ (R412): An MSPI transaction returns MBOX_1_STAT. -/
  | statRead
  /-- REG_READ (R412): An MSPI transaction reads a register through the observation path. -/
  | regRead (addr : BitVec 32)
  /-- REG_WRITE (R412): An MSPI transaction writes a register in MAKER or OWNER_OPEN. -/
  | regWrite (addr v : BitVec 32)
  /-- EXECUTION_LIMIT (R420): A PENDING operation reaches its limit and ends with TIMEOUT. -/
  | executionLimit (mb : Fin 4) (seq : BitVec 16) (tie : Bool)
  /-- WDOG_KICK (R423): A write of the key to SYS_WDOG_KICK restarts the watchdog. -/
  | wdogKick (key : BitVec 32) (tie : Bool)
  /-- WDOG_EXPIRY (R424): The watchdog expires, first raising WDOG_WARN and then entering SAFE with a warm reset. -/
  | wdogExpiry (tie : Bool)
  /-- MBOX_IN_POP (R436): A write of MBOX_m_IN_POP frees the oldest inbound slot. -/
  | mboxInPop (m : Fin 4)
  /-- MBOX_OUT_PUSH (R436): A write of MBOX_m_OUT_PUSH sends the outbound frame in slot OUT_TAIL. -/
  | mboxOutPush (m : Fin 4) (v : BitVec 32)
  /-- WARM_RESET (R512): A warm reset resets the processors and keeps registers, Hamper and rings, then reboots in SAFE. -/
  | warmReset
  /-- BOOT_LOADER_START (R428): The boot loader selects and verifies a runtime slot and records the measurements. -/
  | bootLoaderStart (img : BootImages)
  /-- RUNTIME_START (R519): The runtime firmware starts, programs clock and link, enters STANDBY and confirms. -/
  | runtimeStart (prof : Profiles)
  /-- SYS_INFO (R433): The command returns identity, boot state, version and readiness. -/
  | sysInfo (h : CmdHdr) (pl : List Byte)
  /-- SYS_STATE_SET (R433): The command requests a module state transition. -/
  | sysStateSet (h : CmdHdr) (pl : List Byte)
  /-- SAFE_CLEAR (R433): The command clears SAFE causes. -/
  | safeClear (h : CmdHdr) (pl : List Byte)
  /-- SYS_REBOOT (R433): The command causes a warm reset, optionally into the other slot. -/
  | sysReboot (h : CmdHdr) (pl : List Byte)
  /-- WDOG_CFG (R433): The command sets the watchdog period and lock. -/
  | wdogCfg (h : CmdHdr) (pl : List Byte)
  /-- FW_STAGE (R433): The command verifies an image and writes it to the idle slot. -/
  | fwStage (h : CmdHdr) (pl : List Byte)
  /-- FW_ACTIVATE (R433): The command sets SLOT_PREF. -/
  | fwActivate (h : CmdHdr) (pl : List Byte)
  /-- FW_STAT (R433): The command returns the slot versions and states. -/
  | fwStat (h : CmdHdr) (pl : List Byte)
  /-- PIN_LOOPBACK (R523): The command runs a land test on a group. -/
  | pinLoopback (h : CmdHdr) (pl : List Byte)
  /-- VERIFY_IMAGE (R445): An engine job with OP 0 verifies an image signature. -/
  | verifyImage (ups : List Upset)
  /-- VERIFY_KERNEL (R448): An engine job with OP 1 verifies a kernel and enters it in the verified-kernel table. -/
  | verifyKernel (ups : List Upset)
  /-- VERIFY_AUTHORISATION (R451): An engine job with OP 2 verifies an authorisation and carries out its operation. -/
  | verifyAuthorisation (ups : List Upset)
  /-- ATTESTATION_REPORT (R453): An engine job with OP 3 builds and signs an attestation report. -/
  | attestationReport (ups : List Upset)
  /-- ENGINE_JOB_DONE (R449): An engine job ends with its RESULT and a new nonce. -/
  | engineJobDone
  /-- LC_STAT (R455): The command returns the life-cycle state, measurements and device key. -/
  | lcStat (h : CmdHdr) (pl : List Byte)
  /-- LC_NONCE (R455): The command returns LCS_NONCE. -/
  | lcNonce (h : CmdHdr) (pl : List Byte)
  /-- LC_AUTH (R455): The command submits an authorisation. -/
  | lcAuth (h : CmdHdr) (pl : List Byte)
  /-- OWNER_KEY_SET (R455): The command writes an empty owner slot in OWNER_OPEN. -/
  | ownerKeySet (h : CmdHdr) (pl : List Byte)
  /-- ATTEST (R454): The command produces an attestation report. -/
  | attest (h : CmdHdr) (pl : List Byte)
  /-- SVN_COMMIT (R446): The command raises the signer's SVN counter. -/
  | svnCommit (h : CmdHdr) (pl : List Byte)
  /-- PART_COMMIT (R458): A write of MEMI_PART_CTRL.COMMIT applies the staged region sizes in STANDBY. -/
  | partCommit
  /-- HAMPER_WRITEBACK (R461): A corrected Hamper word is written back unless a requester write wins. -/
  | hamperWriteback (word : Nat)
  /-- SCRUB_READ (R463): The scrubber reads the next word in the background and corrects or logs it. -/
  | scrubRead (ups : List Upset)
  /-- LOG_READ (R464): A read of MEMI_LOG_INFO removes the head error entry and latches its words. -/
  | logRead (r : Requester)
  /-- RETIRE_START (R466): A write of MEMI_RETIRE starts migrating a page to a spare page. -/
  | retireStart (page : BitVec 15)
  /-- RETIRE_DONE (R466): The migration ends and the page enters the remap table. -/
  | retireDone
  /-- BIST_START (R467): A write of BIST_CTRL.START starts testing a slice via migration to the spare slice. -/
  | bistStart
  /-- BIST_STOP (R468): A write of STOP aborts the slice test according to its phase. -/
  | bistStop
  /-- BIST_DONE (R468): A slice test ends with its RESULT. -/
  | bistDone (faultyRows : Nat)
  /-- BIST_PACE (R468): The runtime pace timer expires and the next slice is tested. -/
  | bistPace
  /-- BIST_FUSE_COMMIT (R469): A write of BIST_FUSE.COMMIT blows the soft repairs into fuses in MAKER or OWNER_OPEN. -/
  | bistFuseCommit
  /-- LB_START (R470): A write of BIST_LB_CTRL.START starts a converter loopback test. -/
  | lbStart
  /-- LOOPBACK_DONE (R470): The loopback bursts complete and the verdicts are written. -/
  | loopbackDone (meas : List (Int × Nat))
  /-- BULK_WRITE (R473): A B packet writes data into the bulk window. -/
  | bulkWrite (x : Fin 4)
  /-- WEIGHT_WRITE (R473): A B packet writes weight entries into a set's OPEN shadow, or is held. -/
  | weightWrite (x : Fin 4)
  /-- BULK_MARK (R474): A B packet marks a point, after which BULK_DONE is sent. -/
  | bulkMark (x : Fin 4)
  /-- DMA_START (R476): A write of START begins a channel's transfer after its checks. -/
  | dmaStart (c : Fin 16)
  /-- DMA_STOP (R478): A write of STOP ends the transfer after the burst in progress. -/
  | dmaStop (c : Fin 16)
  /-- DMA_RESUME (R480): A write of RESUME continues a PAUSED channel from DONE. -/
  | dmaResume (c : Fin 16)
  /-- DMA_BURST_DONE (R478): A 4 KiB burst completes, advancing DONE or ending the transfer. -/
  | dmaBurstDone (c : Fin 16) (ups : List Upset)
  /-- DMA_WDOG_EXPIRY (R478): The channel watchdog expires and the channel stops with TIMEOUT. -/
  | dmaWdogExpiry (c : Fin 16) (tie : Bool)
  /-- CLU_PWR_WRITE (R480): A write of MEMI_CLU_PWR puts cluster memories into or out of retention after draining DMA. -/
  | cluPwrWrite (on : BitVec 16)
  /-- DRAIN_TIMEOUT (R480): The 10 µs drain expires and the channel stops with ABORTED_POWER. -/
  | drainTimeout (c : Fin 16) (tie : Bool)
  /-- HAMPER_DEEP_SLEEP (R522): After 100 µs without requester access under the sleep conditions, the Hamper enters retention. -/
  | hamperDeepSleep
  /-- MEM_PARTITION (R481): The command sets the region sizes. -/
  | memPartition (h : CmdHdr) (pl : List Byte)
  /-- MEM_READ (R475): The command reads Hamper data out as BULK_DATA packets. -/
  | memRead (h : CmdHdr) (pl : List Byte)
  /-- MEM_LOG (R481): The command removes and returns error-log entries. -/
  | memLog (h : CmdHdr) (pl : List Byte)
  /-- PAGE_RETIRE (R481): The command retires a page. -/
  | pageRetire (h : CmdHdr) (pl : List Byte)
  /-- BIST_CFG (R481): The command sets the BIST pace or starts a pass. -/
  | bistCfg (h : CmdHdr) (pl : List Byte)
  /-- BIST_STAT (R481): The command returns BIST and MEMI status and clears the counters. -/
  | bistStat (h : CmdHdr) (pl : List Byte)
  /-- FUSE_REPAIR (R481): The command blows soft repairs into fuses. -/
  | fuseRepair (h : CmdHdr) (pl : List Byte)
  /-- LOOPBACK (R481): The command runs the converter loopback test. -/
  | loopback (h : CmdHdr) (pl : List Byte)
  /-- HARD_FAULT (R488): A clock, fuse or engine monitor detects a hard fault and enters SAFE. -/
  | hardFault (bit : Fin 6)
  /-- TB_PLL_RELOCK (R488): The time-base PLL relocks and the counter resumes from its held value. -/
  | tbPllRelock
  /-- FAULT_CLEAR (R490): A W1C write to OBS_FAULT_STAT or OBS_DEGR_STAT clears bits whose conditions are gone. -/
  | faultClear (addr v : BitVec 32)
  /-- TRACE_SYNC (R494): Every millisecond a SYNC record is sent on all trace lanes and any pending OBS_TRC_CTRL write applies. -/
  | traceSync
  /-- OBS_READ (R498): The command reads words through the observation path. -/
  | obsRead (h : CmdHdr) (pl : List Byte)
  /-- OBS_FAULTS (R498): The command returns the fault status and the first fault. -/
  | obsFaults (h : CmdHdr) (pl : List Byte)
  /-- OBS_FAULT_CLEAR (R498): The command clears fault bits. -/
  | obsFaultClear (h : CmdHdr) (pl : List Byte)
  /-- FAULTN_CFG (R498): The command sets OBS_FAULTN_MASK. -/
  | faultnCfg (h : CmdHdr) (pl : List Byte)
  /-- TRACE_CFG (R498): The command configures the trace port. -/
  | traceCfg (h : CmdHdr) (pl : List Byte)
  /-- VIN_UV_RISE (R506): VIN has held at or above UV_RISE for 10 ms and start-up begins. -/
  | vinUvRise
  /-- VIN_UV_FALL (R506): VIN below UV_FALL for 10 µs starts a power-down. -/
  | vinUvFall
  /-- VIN_OV_RISE (R506): VIN above OV_RISE for 10 µs starts a power-down. -/
  | vinOvRise
  /-- VIN_OV_FALL (R506): VIN has held at or below OV_FALL for 10 ms and start-up is allowed again. -/
  | vinOvFall
  /-- RAIL_FAULT (R508): An internal rail leaves regulation and the module enters SAFE with cause RAIL. -/
  | railFault (rail : Fin 4)
  /-- RAIL_TIMEOUT (R508): A rail out of regulation for 10 ms causes a power-down and restart. -/
  | railTimeout
  /-- PWR_GOOD_RISE (R510): PWR_GOOD rises after power-on or RESET_N, which is the boot origin, and the boot ROM starts. -/
  | pwrGoodRise (bist : BootBist)
  /-- RESET_N_FALL (R511): RESET_N low for at least 1 µs resets the module with the rails up. -/
  | resetNFall (width : ResetPulse)
  /-- RESET_N_RISE (R511): RESET_N rises and PWR_GOOD follows, so the boot begins again. -/
  | resetNRise
  /-- TILE_COLD_START (R518): At its staggered time a tile starts its cold power-up with the references settling. -/
  | tileColdStart (t : Fin 4)
  /-- EQ_FREEZE (R56): A lane's transition density falls below DENSITY_FLOOR or its eye margin below EYE_FLOOR, so adaptation freezes and EQ_FROZEN is set. -/
  | eqFreeze (n : Fin 16) (m : EqMeas)
  /-- FEED_ENGINE_FILL (R192): The feed engine delivers a line into a cluster's input FIFO, which releases an LD waiting on an empty FIFO. -/
  | feedEngineFill (c : Fin 16) (line : BitVec 512)
  /-- DRAIN_ENGINE_EMPTY (R192): The drain engine removes a line from a cluster's output FIFO, which releases an ST waiting on a full FIFO. -/
  | drainEngineEmpty (c : Fin 16)
  /-- RAIL_RECOVERY (R510): An internal rail returns to regulation within 10 ms, so PWR_GOOD rises again without a boot, the power-down is cancelled and cause RAIL can be cleared. -/
  | railRecovery (rail : Fin 4)
  /-- RAMBLER_PLL_LOCK (R346): The Rambler PLL reaches lock, which releases a burst held under HOLD_US and at power-up lets SYS_FUNC_READY.RMB be set. -/
  | ramblerPllLock
  /-- FUNCTION_READY (R517): A hardware block completes its own power-up, such as the time-base PLL first locking or the bias reference settling, and sets its SYS_FUNC_READY bit. -/
  | functionReady (fn : Fin 18)
  deriving DecidableEq, Repr

end Sys2Proof
end

