-- ==== Sys2Proof/Config.lean ====
section
/-! DEFINITION. What the spec leaves open: free values. Each is a constant without a body, applied to the
free-value counter of the state (or to the operands it depends on), so that no proof can see what it is. -/

namespace Sys2Proof.Config

/-- Whether a quotient whose rounding the spec does not state is taken up (true) or down (false) at use `n`. -/
opaque roundUp : Nat → Bool

/-- A free 32-bit value at use `n`. -/
opaque freeWord : Nat → BitVec 32

/-- A free number at use `n`. -/
opaque freeNat : Nat → Nat

/-- A free truth value at use `n`. -/
opaque freeBool : Nat → Bool

/-- Word `i` of the nonce of generation `g` (R451: random). -/
opaque nonce : Nat → Nat → BitVec 32

/-- Coefficient `i` of shipped filter option `o` (R221 names the options; the spec prints no coefficient). -/
opaque shippedCoef : Nat → Nat → BitVec 18

/-- Whether an RSASSA-PSS signature verifies over a message under a modulus (R444). -/
opaque rsaGood : List Byte → List Byte → List Byte → Bool

/-- Whether an SLH-DSA-SHA2-192s signature verifies over a message under a public key (R444). -/
opaque slhGood : List Byte → List Byte → List Byte → Bool

/-- Byte `i` of the two signatures the device key puts on covered bytes (R453). -/
opaque deviceSign : List Byte → Nat → BitVec 8

/-- Byte `i` of the device public key: 384 bytes of modulus, then 48 of SLH-DSA key (R442). -/
opaque deviceKey : Nat → BitVec 8

/-- The key hash that vendor slot `i` of the fuses holds (R441). -/
opaque vendorHash : Nat → List Byte

/-- Word `i` of the 128-bit device identity (R442). -/
opaque devId : Nat → BitVec 32

/-- Byte offset, within the firmware-and-kernels region, of the area in which the runtime firmware has a report built
(R455 gives none). -/
opaque attestOffset : Nat

/-- Address at which the runtime firmware keeps ring `d` (0 inbound, 1 outbound) of mailbox `m` (R459 keeps the
rings in the resident area and gives no address). -/
opaque ringBase : Nat → Nat → BitVec 32

/-- The zone whose DWELL the input power limiter uses (R396 names DWELL and the limiter has none of its own). -/
opaque dwellZone : Fin 7

/-- TILEt_DROOP for a TX band word in the DAC's upper Nyquist zone, which R211 forbids and R230 does not cover. -/
opaque droopAbove : Nat → BitVec 16

/-- Which of the amplitudes within 1 LSB of the magnitude of a sample the actuator forms (R246). -/
opaque ampPick : Int → Int → Nat

/-- The trim code word that the fuses of tile `t` hold at a page offset (R285: written in the factory). -/
opaque trimFuse : Nat → Nat → BitVec 32

end Sys2Proof.Config
end

