-- ==== Sys2Proof/Machine/RegRow.lean ====
section
/-! DEFINITION. The form of a register-map row and of a field (00_scope.md, R5, R6, R8). -/

namespace Sys2Proof.Machine

/-- A register field: the word's address, its lowest bit and its width. -/
structure Fld where
  addr : Nat
  lo : Nat
  w : Nat
  deriving DecidableEq, Repr

/-- One row of a register map: the first address, the repeats (stride and count, outermost first), the bits of each
access type of R5, the reset value, and the word's place in its multi-word group (R8): index in the group and
length of the group (1 for a word in no group). -/
structure RegRow where
  base : Nat
  dims : List (Nat × Nat)
  rw : Nat
  w1c : Nat
  w1s : Nat
  rc : Nat
  rst : Nat
  gi : Nat
  gl : Nat
  deriving DecidableEq, Repr

/-- Whether the distance `d` from a row's base is one of its repeats. -/
def RegRow.hitsDims : List (Nat × Nat) → Nat → Bool
  | [], d => d == 0
  | (s, c) :: ds, d => decide (d / s < c) && RegRow.hitsDims ds (d % s)

/-- Whether address `a` is a word of the row. -/
def RegRow.hits (r : RegRow) (a : Nat) : Bool := decide (r.base ≤ a) && RegRow.hitsDims r.dims (a - r.base)

end Sys2Proof.Machine
end

