-- ==== Sys2Proof/Machine/RegBeam.lean ====
section
/-! DEFINITION. Addresses and fields of the BEAM, CLU registers, and their access rows, as the register maps of the spec print them. -/

namespace Sys2Proof.Machine

/-- BEAM_ID (04_beamforming.md, R170). -/
def A.BEAM_ID : Nat := 0x40070000
def F.BEAM_ID_MAJOR : Fld := ⟨A.BEAM_ID, 8, 8⟩
def F.BEAM_ID_MINOR : Fld := ⟨A.BEAM_ID, 0, 8⟩
/-- BEAM_CTRL (04_beamforming.md, R170). -/
def A.BEAM_CTRL : Nat := 0x40070004
def F.BEAM_CTRL_SRS_EN : Fld := ⟨A.BEAM_CTRL, 2, 1⟩
def F.BEAM_CTRL_UL_EN : Fld := ⟨A.BEAM_CTRL, 1, 1⟩
def F.BEAM_CTRL_DL_EN : Fld := ⟨A.BEAM_CTRL, 0, 1⟩
/-- BEAM_WMEM_BASE (04_beamforming.md, R170). -/
def A.BEAM_WMEM_BASE : Nat := 0x40070008
def F.BEAM_WMEM_BASE_ADDR : Fld := ⟨A.BEAM_WMEM_BASE, 0, 32⟩
/-- BEAM_WMEM_SIZE (04_beamforming.md, R170). -/
def A.BEAM_WMEM_SIZE : Nat := 0x4007000C
def F.BEAM_WMEM_SIZE_ENTRIES : Fld := ⟨A.BEAM_WMEM_SIZE, 0, 23⟩
/-- BEAM_NBEAM (04_beamforming.md, R170). -/
def A.BEAM_NBEAM : Nat := 0x40070010
def F.BEAM_NBEAM_NBEAM : Fld := ⟨A.BEAM_NBEAM, 0, 13⟩
/-- BEAM_CLU_MAP (04_beamforming.md, R170). -/
def A.BEAM_CLU_MAP : Nat := 0x40070014
def F.BEAM_CLU_MAP_CALC : Fld := ⟨A.BEAM_CLU_MAP, 0, 16⟩
/-- BEAM_CTX_CFG (04_beamforming.md, R170). -/
def A.BEAM_CTX_CFG : Nat := 0x40070018
def F.BEAM_CTX_CFG_PORTS : Fld := ⟨A.BEAM_CTX_CFG, 22, 1⟩
def F.BEAM_CTX_CFG_SB : Fld := ⟨A.BEAM_CTX_CFG, 20, 2⟩
def F.BEAM_CTX_CFG_NSB : Fld := ⟨A.BEAM_CTX_CFG, 10, 10⟩
def F.BEAM_CTX_CFG_N_USER : Fld := ⟨A.BEAM_CTX_CFG, 0, 10⟩
/-- BEAM_CTX_BASE (04_beamforming.md, R170). -/
def A.BEAM_CTX_BASE : Nat := 0x4007001C
def F.BEAM_CTX_BASE_ADDR : Fld := ⟨A.BEAM_CTX_BASE, 0, 32⟩
/-- BEAM_INT_STAT (04_beamforming.md, R170). -/
def A.BEAM_INT_STAT : Nat := 0x40070020
def F.BEAM_INT_STAT_SAT : Fld := ⟨A.BEAM_INT_STAT, 10, 1⟩
def F.BEAM_INT_STAT_GROUP_MISS : Fld := ⟨A.BEAM_INT_STAT, 9, 1⟩
def F.BEAM_INT_STAT_WSEL_ERR : Fld := ⟨A.BEAM_INT_STAT, 8, 1⟩
def F.BEAM_INT_STAT_SRS_OVER : Fld := ⟨A.BEAM_INT_STAT, 7, 1⟩
def F.BEAM_INT_STAT_SRS_DONE : Fld := ⟨A.BEAM_INT_STAT, 6, 1⟩
def F.BEAM_INT_STAT_CMD_ERR : Fld := ⟨A.BEAM_INT_STAT, 5, 1⟩
def F.BEAM_INT_STAT_PROT_VIOL : Fld := ⟨A.BEAM_INT_STAT, 4, 1⟩
def F.BEAM_INT_STAT_FB_FAIL : Fld := ⟨A.BEAM_INT_STAT, 3, 1⟩
def F.BEAM_INT_STAT_UE_FALLBACK : Fld := ⟨A.BEAM_INT_STAT, 2, 1⟩
def F.BEAM_INT_STAT_LATE_COMMIT : Fld := ⟨A.BEAM_INT_STAT, 1, 1⟩
def F.BEAM_INT_STAT_SWAP : Fld := ⟨A.BEAM_INT_STAT, 0, 1⟩
/-- BEAM_INT_EN (04_beamforming.md, R170). -/
def A.BEAM_INT_EN : Nat := 0x40070024
/-- BEAM_TIE (04_beamforming.md, R170). -/
def A.BEAM_TIE : Nat := 0x40070028
def F.BEAM_TIE_COUNT : Fld := ⟨A.BEAM_TIE, 0, 32⟩
/-- BEAM_FSCALE_DL (04_beamforming.md, R170). -/
def A.BEAM_FSCALE_DL : Nat := 0x4007002C
def F.BEAM_FSCALE_DL_SCALE : Fld := ⟨A.BEAM_FSCALE_DL, 0, 24⟩
/-- BEAM_FSCALE_UL (04_beamforming.md, R170). -/
def A.BEAM_FSCALE_UL : Nat := 0x40070030
def F.BEAM_FSCALE_UL_SCALE : Fld := ⟨A.BEAM_FSCALE_UL, 0, 24⟩
/-- BEAM_CALC_WIN (04_beamforming.md, R170). -/
def A.BEAM_CALC_WIN : Nat := 0x40070034
def F.BEAM_CALC_WIN_US : Fld := ⟨A.BEAM_CALC_WIN, 0, 10⟩
/-- BEAM_SWAP_CNT (04_beamforming.md, R170). -/
def A.BEAM_SWAP_CNT : Nat := 0x40070040
def F.BEAM_SWAP_CNT_COUNT : Fld := ⟨A.BEAM_SWAP_CNT, 0, 32⟩
/-- BEAM_LATE_COMMIT (04_beamforming.md, R170). -/
def A.BEAM_LATE_COMMIT : Nat := 0x40070044
def F.BEAM_LATE_COMMIT_COUNT : Fld := ⟨A.BEAM_LATE_COMMIT, 0, 32⟩
/-- BEAM_UE_GRP (04_beamforming.md, R170). -/
def A.BEAM_UE_GRP : Nat := 0x40070048
def F.BEAM_UE_GRP_COUNT : Fld := ⟨A.BEAM_UE_GRP, 0, 32⟩
/-- BEAM_FB_FAIL (04_beamforming.md, R170). -/
def A.BEAM_FB_FAIL : Nat := 0x4007004C
def F.BEAM_FB_FAIL_COUNT : Fld := ⟨A.BEAM_FB_FAIL, 0, 32⟩
/-- BEAM_PROT_VIOL (04_beamforming.md, R170). -/
def A.BEAM_PROT_VIOL : Nat := 0x40070050
def F.BEAM_PROT_VIOL_COUNT : Fld := ⟨A.BEAM_PROT_VIOL, 0, 32⟩
/-- BEAM_CMD_ERR (04_beamforming.md, R170). -/
def A.BEAM_CMD_ERR : Nat := 0x40070054
def F.BEAM_CMD_ERR_COUNT : Fld := ⟨A.BEAM_CMD_ERR, 0, 32⟩
/-- BEAM_WSEL_ERR (04_beamforming.md, R170). -/
def A.BEAM_WSEL_ERR : Nat := 0x40070058
def F.BEAM_WSEL_ERR_COUNT : Fld := ⟨A.BEAM_WSEL_ERR, 0, 32⟩
/-- BEAM_GROUP_MISS (04_beamforming.md, R170). -/
def A.BEAM_GROUP_MISS : Nat := 0x4007005C
def F.BEAM_GROUP_MISS_COUNT : Fld := ⟨A.BEAM_GROUP_MISS, 0, 32⟩
/-- BEAM_SRS_OVER (04_beamforming.md, R170). -/
def A.BEAM_SRS_OVER : Nat := 0x40070060
def F.BEAM_SRS_OVER_COUNT : Fld := ⟨A.BEAM_SRS_OVER, 0, 32⟩
/-- BEAM_SAT_LO (04_beamforming.md, R170). -/
def A.BEAM_SAT_LO : Nat := 0x40070068
def F.BEAM_SAT_LO_COUNT : Fld := ⟨A.BEAM_SAT_LO, 0, 32⟩
/-- BEAM_SAT_HI (04_beamforming.md, R170). -/
def A.BEAM_SAT_HI : Nat := 0x4007006C
def F.BEAM_SAT_HI_COUNT : Fld := ⟨A.BEAM_SAT_HI, 0, 32⟩
/-- BEAM_WSn_CFG (04_beamforming.md, R170). -/
def A.BEAM_WSn_CFG (n : Nat) : Nat := 0x40070100 + 0x20 * n
def F.BEAM_WSn_CFG_USED (n : Nat) : Fld := ⟨A.BEAM_WSn_CFG n, 31, 1⟩
def F.BEAM_WSn_CFG_SRC (n : Nat) : Fld := ⟨A.BEAM_WSn_CFG n, 30, 1⟩
def F.BEAM_WSn_CFG_DIR (n : Nat) : Fld := ⟨A.BEAM_WSn_CFG n, 29, 1⟩
def F.BEAM_WSn_CFG_CARRIER (n : Nat) : Fld := ⟨A.BEAM_WSn_CFG n, 26, 3⟩
def F.BEAM_WSn_CFG_GSIZE (n : Nat) : Fld := ⟨A.BEAM_WSn_CFG n, 23, 3⟩
def F.BEAM_WSn_CFG_LAYERS_M1 (n : Nat) : Fld := ⟨A.BEAM_WSn_CFG n, 18, 5⟩
def F.BEAM_WSn_CFG_SCALE (n : Nat) : Fld := ⟨A.BEAM_WSn_CFG n, 15, 3⟩
/-- BEAM_WSn_BASE0 (04_beamforming.md, R170). -/
def A.BEAM_WSn_BASE0 (n : Nat) : Nat := 0x40070104 + 0x20 * n
def F.BEAM_WSn_BASE0_ENTRY (n : Nat) : Fld := ⟨A.BEAM_WSn_BASE0 n, 0, 23⟩
/-- BEAM_WSn_BASE1 (04_beamforming.md, R170). -/
def A.BEAM_WSn_BASE1 (n : Nat) : Nat := 0x40070108 + 0x20 * n
def F.BEAM_WSn_BASE1_ENTRY (n : Nat) : Fld := ⟨A.BEAM_WSn_BASE1 n, 0, 23⟩
/-- BEAM_WSn_STAT (04_beamforming.md, R170). -/
def A.BEAM_WSn_STAT (n : Nat) : Nat := 0x4007010C + 0x20 * n
def F.BEAM_WSn_STAT_ACT (n : Nat) : Fld := ⟨A.BEAM_WSn_STAT n, 31, 1⟩
def F.BEAM_WSn_STAT_PRIMED (n : Nat) : Fld := ⟨A.BEAM_WSn_STAT n, 30, 1⟩
def F.BEAM_WSn_STAT_STATE (n : Nat) : Fld := ⟨A.BEAM_WSn_STAT n, 27, 3⟩
def F.BEAM_WSn_STAT_GRP_ACT (n : Nat) : Fld := ⟨A.BEAM_WSn_STAT n, 8, 8⟩
def F.BEAM_WSn_STAT_GRP_SHD (n : Nat) : Fld := ⟨A.BEAM_WSn_STAT n, 0, 8⟩
/-- BEAM_WSn_TARGET (04_beamforming.md, R170). -/
def A.BEAM_WSn_TARGET (n : Nat) : Nat := 0x40070110 + 0x20 * n
def F.BEAM_WSn_TARGET_SFN (n : Nat) : Fld := ⟨A.BEAM_WSn_TARGET n, 22, 10⟩
def F.BEAM_WSn_TARGET_SUBFRAME (n : Nat) : Fld := ⟨A.BEAM_WSn_TARGET n, 18, 4⟩
def F.BEAM_WSn_TARGET_SLOT (n : Nat) : Fld := ⟨A.BEAM_WSn_TARGET n, 17, 1⟩
def F.BEAM_WSn_TARGET_NEXT (n : Nat) : Fld := ⟨A.BEAM_WSn_TARGET n, 16, 1⟩
/-- BEAM_WSn_WCNT (04_beamforming.md, R170). -/
def A.BEAM_WSn_WCNT (n : Nat) : Nat := 0x40070114 + 0x20 * n
def F.BEAM_WSn_WCNT_BYTES (n : Nat) : Fld := ⟨A.BEAM_WSn_WCNT n, 0, 32⟩
/-- BEAM_WSn_CMD (04_beamforming.md, R170). -/
def A.BEAM_WSn_CMD (n : Nat) : Nat := 0x40070118 + 0x20 * n
def F.BEAM_WSn_CMD_COMMIT (n : Nat) : Fld := ⟨A.BEAM_WSn_CMD n, 31, 1⟩
def F.BEAM_WSn_CMD_ABORT (n : Nat) : Fld := ⟨A.BEAM_WSn_CMD n, 30, 1⟩
def F.BEAM_WSn_CMD_GRP (n : Nat) : Fld := ⟨A.BEAM_WSn_CMD n, 0, 8⟩
/-- BEAM_UCn_CFG (04_beamforming.md, R170). -/
def A.BEAM_UCn_CFG (n : Nat) : Nat := 0x40071000 + 0x10 * n
def F.BEAM_UCn_CFG_EN (n : Nat) : Fld := ⟨A.BEAM_UCn_CFG n, 31, 1⟩
def F.BEAM_UCn_CFG_PORTS2 (n : Nat) : Fld := ⟨A.BEAM_UCn_CFG n, 30, 1⟩
def F.BEAM_UCn_CFG_COMB (n : Nat) : Fld := ⟨A.BEAM_UCn_CFG n, 28, 2⟩
def F.BEAM_UCn_CFG_COMB_OFF (n : Nat) : Fld := ⟨A.BEAM_UCn_CFG n, 25, 3⟩
def F.BEAM_UCn_CFG_CS0 (n : Nat) : Fld := ⟨A.BEAM_UCn_CFG n, 21, 4⟩
def F.BEAM_UCn_CFG_CS1 (n : Nat) : Fld := ⟨A.BEAM_UCn_CFG n, 17, 4⟩
def F.BEAM_UCn_CFG_U (n : Nat) : Fld := ⟨A.BEAM_UCn_CFG n, 12, 5⟩
def F.BEAM_UCn_CFG_V (n : Nat) : Fld := ⟨A.BEAM_UCn_CFG n, 11, 1⟩
def F.BEAM_UCn_CFG_ALPHA_K (n : Nat) : Fld := ⟨A.BEAM_UCn_CFG n, 8, 3⟩
/-- BEAM_UCn_STAT (04_beamforming.md, R170). -/
def A.BEAM_UCn_STAT (n : Nat) : Nat := 0x40071004 + 0x10 * n
def F.BEAM_UCn_STAT_VALID (n : Nat) : Fld := ⟨A.BEAM_UCn_STAT n, 31, 1⟩
def F.BEAM_UCn_STAT_AGE (n : Nat) : Fld := ⟨A.BEAM_UCn_STAT n, 16, 8⟩
def F.BEAM_UCn_STAT_UPDATES (n : Nat) : Fld := ⟨A.BEAM_UCn_STAT n, 0, 16⟩
/-- BEAM_UCn_EXP (04_beamforming.md, R170). -/
def A.BEAM_UCn_EXP (n : Nat) : Nat := 0x40071008 + 0x10 * n
def F.BEAM_UCn_EXP_EXP1 (n : Nat) : Fld := ⟨A.BEAM_UCn_EXP n, 8, 8⟩
def F.BEAM_UCn_EXP_EXP0 (n : Nat) : Fld := ⟨A.BEAM_UCn_EXP n, 0, 8⟩
/-- BEAM_UCn_NOISE (04_beamforming.md, R170). -/
def A.BEAM_UCn_NOISE (n : Nat) : Nat := 0x4007100C + 0x10 * n
def F.BEAM_UCn_NOISE_NOISE1 (n : Nat) : Fld := ⟨A.BEAM_UCn_NOISE n, 16, 16⟩
def F.BEAM_UCn_NOISE_NOISE0 (n : Nat) : Fld := ⟨A.BEAM_UCn_NOISE n, 0, 16⟩

/-- Access rows of the BEAM block, part 0. -/
def beamRows0 : List RegRow := [
  ⟨0x40070000, [], 0x0, 0x0, 0x0, 0x0, 0x100, 0, 1⟩,
  ⟨0x40070004, [], 0x7, 0x0, 0x0, 0x0, 0x0, 0, 1⟩,
  ⟨0x40070008, [], 0x0, 0x0, 0x0, 0x0, 0x10000000, 0, 1⟩,
  ⟨0x4007000C, [], 0x0, 0x0, 0x0, 0x0, 0x500000, 0, 1⟩,
  ⟨0x40070010, [], 0x1FFF, 0x0, 0x0, 0x0, 0x400, 0, 1⟩,
  ⟨0x40070014, [], 0xFFFF, 0x0, 0x0, 0x0, 0xF000, 0, 1⟩,
  ⟨0x40070018, [], 0x7FFFFF, 0x0, 0x0, 0x0, 0x144600, 0, 1⟩,
  ⟨0x4007001C, [], 0x0, 0x0, 0x0, 0x0, 0x11400000, 0, 1⟩,
  ⟨0x40070020, [], 0x0, 0x7FF, 0x0, 0x0, 0x0, 0, 1⟩,
  ⟨0x40070024, [], 0x7FF, 0x0, 0x0, 0x0, 0x0, 0, 1⟩,
  ⟨0x40070028, [], 0x0, 0x0, 0x0, 0xFFFFFFFF, 0x0, 0, 1⟩,
  ⟨0x4007002C, [], 0xFFFFFF, 0x0, 0x0, 0x0, 0x6DB6DB, 0, 1⟩]
/-- Access rows of the BEAM block, part 1. -/
def beamRows1 : List RegRow := [
  ⟨0x40070030, [], 0xFFFFFF, 0x0, 0x0, 0x0, 0x6DB6DB, 0, 1⟩,
  ⟨0x40070034, [], 0x3FF, 0x0, 0x0, 0x0, 0xFA, 0, 1⟩,
  ⟨0x40070040, [], 0x0, 0x0, 0x0, 0xFFFFFFFF, 0x0, 0, 1⟩,
  ⟨0x40070044, [], 0x0, 0x0, 0x0, 0xFFFFFFFF, 0x0, 0, 1⟩,
  ⟨0x40070048, [], 0x0, 0x0, 0x0, 0xFFFFFFFF, 0x0, 0, 1⟩,
  ⟨0x4007004C, [], 0x0, 0x0, 0x0, 0xFFFFFFFF, 0x0, 0, 1⟩,
  ⟨0x40070050, [], 0x0, 0x0, 0x0, 0xFFFFFFFF, 0x0, 0, 1⟩,
  ⟨0x40070054, [], 0x0, 0x0, 0x0, 0xFFFFFFFF, 0x0, 0, 1⟩,
  ⟨0x40070058, [], 0x0, 0x0, 0x0, 0xFFFFFFFF, 0x0, 0, 1⟩,
  ⟨0x4007005C, [], 0x0, 0x0, 0x0, 0xFFFFFFFF, 0x0, 0, 1⟩,
  ⟨0x40070060, [], 0x0, 0x0, 0x0, 0xFFFFFFFF, 0x0, 0, 1⟩,
  ⟨0x40070068, [], 0x0, 0x0, 0x0, 0xFFFFFFFF, 0x0, 0, 2⟩]
/-- Access rows of the BEAM block, part 2. -/
def beamRows2 : List RegRow := [
  ⟨0x4007006C, [], 0x0, 0x0, 0x0, 0xFFFFFFFF, 0x0, 1, 2⟩,
  ⟨0x40070100, [(0x20, 64)], 0xFFFF8000, 0x0, 0x0, 0x0, 0x18000, 0, 1⟩,
  ⟨0x40070104, [(0x20, 64)], 0x7FFFFF, 0x0, 0x0, 0x0, 0x0, 0, 1⟩,
  ⟨0x40070108, [(0x20, 64)], 0x7FFFFF, 0x0, 0x0, 0x0, 0x0, 0, 1⟩,
  ⟨0x4007010C, [(0x20, 64)], 0x0, 0x0, 0x0, 0x0, 0x0, 0, 1⟩,
  ⟨0x40070110, [(0x20, 64)], 0xFFFF0000, 0x0, 0x0, 0x0, 0x0, 0, 1⟩,
  ⟨0x40070114, [(0x20, 64)], 0x0, 0x0, 0x0, 0x0, 0x0, 0, 1⟩,
  ⟨0x40070118, [(0x20, 64)], 0xFF, 0x0, 0xC0000000, 0x0, 0x0, 0, 1⟩,
  ⟨0x40071000, [(0x10, 512)], 0xFFFFFF00, 0x0, 0x0, 0x0, 0x0, 0, 1⟩,
  ⟨0x40071004, [(0x10, 512)], 0x0, 0x0, 0x0, 0x0, 0x0, 0, 3⟩,
  ⟨0x40071008, [(0x10, 512)], 0x0, 0x0, 0x0, 0x0, 0x0, 1, 3⟩,
  ⟨0x4007100C, [(0x10, 512)], 0x0, 0x0, 0x0, 0x0, 0x0, 2, 3⟩]
/-- Access rows of the BEAM block. -/
def beamRows : List RegRow := beamRows0 ++ beamRows1 ++ beamRows2

/-- CLU_ID (05_beam_clusters.md, R206). -/
def A.CLU_ID (c : Nat) : Nat := 0x40080000 + 0x1000 * c
def F.CLU_ID_MAJOR (c : Nat) : Fld := ⟨A.CLU_ID c, 16, 8⟩
def F.CLU_ID_MINOR (c : Nat) : Fld := ⟨A.CLU_ID c, 8, 8⟩
def F.CLU_ID_INDEX (c : Nat) : Fld := ⟨A.CLU_ID c, 0, 4⟩
/-- CLU_CTRL (05_beam_clusters.md, R206). -/
def A.CLU_CTRL (c : Nat) : Nat := 0x40080004 + 0x1000 * c
def F.CLU_CTRL_LOCK (c : Nat) : Fld := ⟨A.CLU_CTRL c, 7, 1⟩
def F.CLU_CTRL_BEAM_ACCT (c : Nat) : Fld := ⟨A.CLU_CTRL c, 6, 1⟩
def F.CLU_CTRL_CLEAR (c : Nat) : Fld := ⟨A.CLU_CTRL c, 4, 1⟩
def F.CLU_CTRL_STOP (c : Nat) : Fld := ⟨A.CLU_CTRL c, 3, 1⟩
def F.CLU_CTRL_START (c : Nat) : Fld := ⟨A.CLU_CTRL c, 2, 1⟩
def F.CLU_CTRL_LOAD (c : Nat) : Fld := ⟨A.CLU_CTRL c, 1, 1⟩
/-- CLU_STAT (05_beam_clusters.md, R206). -/
def A.CLU_STAT (c : Nat) : Nat := 0x40080008 + 0x1000 * c
def F.CLU_STAT_STATE (c : Nat) : Fld := ⟨A.CLU_STAT c, 29, 3⟩
def F.CLU_STAT_WAITING (c : Nat) : Fld := ⟨A.CLU_STAT c, 28, 1⟩
def F.CLU_STAT_WAIT_CAUSE (c : Nat) : Fld := ⟨A.CLU_STAT c, 24, 4⟩
def F.CLU_STAT_DOMAIN (c : Nat) : Fld := ⟨A.CLU_STAT c, 23, 1⟩
def F.CLU_STAT_ACC_WRAP (c : Nat) : Fld := ⟨A.CLU_STAT c, 22, 1⟩
def F.CLU_STAT_PC (c : Nat) : Fld := ⟨A.CLU_STAT c, 0, 11⟩
/-- CLU_FAULT (05_beam_clusters.md, R206). -/
def A.CLU_FAULT (c : Nat) : Nat := 0x4008000C + 0x1000 * c
def F.CLU_FAULT_CODE (c : Nat) : Fld := ⟨A.CLU_FAULT c, 24, 8⟩
def F.CLU_FAULT_SWCODE (c : Nat) : Fld := ⟨A.CLU_FAULT c, 16, 8⟩
def F.CLU_FAULT_LOAD_ERR (c : Nat) : Fld := ⟨A.CLU_FAULT c, 12, 4⟩
def F.CLU_FAULT_PC (c : Nat) : Fld := ⟨A.CLU_FAULT c, 0, 11⟩
/-- CLU_LOAD_ADDR (05_beam_clusters.md, R206). -/
def A.CLU_LOAD_ADDR (c : Nat) : Nat := 0x40080010 + 0x1000 * c
def F.CLU_LOAD_ADDR_ADDR (c : Nat) : Fld := ⟨A.CLU_LOAD_ADDR c, 0, 32⟩
/-- CLU_KERNEL (05_beam_clusters.md, R206). -/
def A.CLU_KERNEL (c : Nat) : Nat := 0x40080014 + 0x1000 * c
def F.CLU_KERNEL_ID (c : Nat) : Fld := ⟨A.CLU_KERNEL c, 0, 32⟩
/-- CLU_KVER (05_beam_clusters.md, R206). -/
def A.CLU_KVER (c : Nat) : Nat := 0x40080018 + 0x1000 * c
def F.CLU_KVER_KVER (c : Nat) : Fld := ⟨A.CLU_KVER c, 0, 32⟩
/-- CLU_WDOG (05_beam_clusters.md, R206). -/
def A.CLU_WDOG (c : Nat) : Nat := 0x4008001C + 0x1000 * c
def F.CLU_WDOG_PERIOD (c : Nat) : Fld := ⟨A.CLU_WDOG c, 0, 16⟩
/-- CLU_INT_STAT (05_beam_clusters.md, R206). -/
def A.CLU_INT_STAT (c : Nat) : Nat := 0x40080020 + 0x1000 * c
def F.CLU_INT_STAT_LATE_OUT (c : Nat) : Fld := ⟨A.CLU_INT_STAT c, 6, 1⟩
def F.CLU_INT_STAT_UE (c : Nat) : Fld := ⟨A.CLU_INT_STAT c, 5, 1⟩
def F.CLU_INT_STAT_LOAD_FAIL (c : Nat) : Fld := ⟨A.CLU_INT_STAT c, 4, 1⟩
def F.CLU_INT_STAT_LOAD_DONE (c : Nat) : Fld := ⟨A.CLU_INT_STAT c, 3, 1⟩
def F.CLU_INT_STAT_FAULT (c : Nat) : Fld := ⟨A.CLU_INT_STAT c, 2, 1⟩
def F.CLU_INT_STAT_HALTED (c : Nat) : Fld := ⟨A.CLU_INT_STAT c, 1, 1⟩
def F.CLU_INT_STAT_DONE (c : Nat) : Fld := ⟨A.CLU_INT_STAT c, 0, 1⟩
/-- CLU_INT_EN (05_beam_clusters.md, R206). -/
def A.CLU_INT_EN (c : Nat) : Nat := 0x40080024 + 0x1000 * c
/-- CLU_TIE (05_beam_clusters.md, R206). -/
def A.CLU_TIE (c : Nat) : Nat := 0x40080028 + 0x1000 * c
def F.CLU_TIE_COUNT (c : Nat) : Fld := ⟨A.CLU_TIE c, 0, 32⟩
/-- CLU_CMD_ERR (05_beam_clusters.md, R206). -/
def A.CLU_CMD_ERR (c : Nat) : Nat := 0x4008002C + 0x1000 * c
def F.CLU_CMD_ERR_COUNT (c : Nat) : Fld := ⟨A.CLU_CMD_ERR c, 0, 32⟩
/-- CLU_ARGn (05_beam_clusters.md, R206). -/
def A.CLU_ARGn (c : Nat) (n : Nat) : Nat := 0x40080040 + 0x1000 * c + 0x4 * n
def F.CLU_ARGn_VALUE (c : Nat) (n : Nat) : Fld := ⟨A.CLU_ARGn c n, 0, 32⟩
/-- CLU_WQ_LO (05_beam_clusters.md, R206). -/
def A.CLU_WQ_LO (c : Nat) : Nat := 0x40080080 + 0x1000 * c
def F.CLU_WQ_LO_ENTRY (c : Nat) : Fld := ⟨A.CLU_WQ_LO c, 0, 32⟩
/-- CLU_WQ_HI (05_beam_clusters.md, R206). -/
def A.CLU_WQ_HI (c : Nat) : Nat := 0x40080084 + 0x1000 * c
def F.CLU_WQ_HI_ENTRY (c : Nat) : Fld := ⟨A.CLU_WQ_HI c, 0, 32⟩
/-- CLU_WQ_STAT (05_beam_clusters.md, R206). -/
def A.CLU_WQ_STAT (c : Nat) : Nat := 0x40080088 + 0x1000 * c
def F.CLU_WQ_STAT_COUNT (c : Nat) : Fld := ⟨A.CLU_WQ_STAT c, 0, 7⟩
/-- CLU_CQ_LO (05_beam_clusters.md, R206). -/
def A.CLU_CQ_LO (c : Nat) : Nat := 0x40080090 + 0x1000 * c
def F.CLU_CQ_LO_RECORD (c : Nat) : Fld := ⟨A.CLU_CQ_LO c, 0, 32⟩
/-- CLU_CQ_HI (05_beam_clusters.md, R206). -/
def A.CLU_CQ_HI (c : Nat) : Nat := 0x40080094 + 0x1000 * c
def F.CLU_CQ_HI_RECORD (c : Nat) : Fld := ⟨A.CLU_CQ_HI c, 0, 32⟩
/-- CLU_CQ_STAT (05_beam_clusters.md, R206). -/
def A.CLU_CQ_STAT (c : Nat) : Nat := 0x40080098 + 0x1000 * c
def F.CLU_CQ_STAT_COUNT (c : Nat) : Fld := ⟨A.CLU_CQ_STAT c, 0, 7⟩
/-- CLU_CYCLE_LO (05_beam_clusters.md, R206). -/
def A.CLU_CYCLE_LO (c : Nat) : Nat := 0x400800A0 + 0x1000 * c
def F.CLU_CYCLE_LO_COUNT (c : Nat) : Fld := ⟨A.CLU_CYCLE_LO c, 0, 32⟩
/-- CLU_CYCLE_HI (05_beam_clusters.md, R206). -/
def A.CLU_CYCLE_HI (c : Nat) : Nat := 0x400800A4 + 0x1000 * c
def F.CLU_CYCLE_HI_COUNT (c : Nat) : Fld := ⟨A.CLU_CYCLE_HI c, 0, 32⟩
/-- CLU_SAT_LO (05_beam_clusters.md, R206). -/
def A.CLU_SAT_LO (c : Nat) : Nat := 0x400800A8 + 0x1000 * c
def F.CLU_SAT_LO_COUNT (c : Nat) : Fld := ⟨A.CLU_SAT_LO c, 0, 32⟩
/-- CLU_SAT_HI (05_beam_clusters.md, R206). -/
def A.CLU_SAT_HI (c : Nat) : Nat := 0x400800AC + 0x1000 * c
def F.CLU_SAT_HI_COUNT (c : Nat) : Fld := ⟨A.CLU_SAT_HI c, 0, 32⟩
/-- CLU_STALL (05_beam_clusters.md, R206). -/
def A.CLU_STALL (c : Nat) : Nat := 0x400800B0 + 0x1000 * c
def F.CLU_STALL_COUNT (c : Nat) : Fld := ⟨A.CLU_STALL c, 0, 32⟩
/-- CLU_EXT_STALL (05_beam_clusters.md, R206). -/
def A.CLU_EXT_STALL (c : Nat) : Nat := 0x400800B4 + 0x1000 * c
def F.CLU_EXT_STALL_COUNT (c : Nat) : Fld := ⟨A.CLU_EXT_STALL c, 0, 32⟩
/-- CLU_CE_CNT (05_beam_clusters.md, R206). -/
def A.CLU_CE_CNT (c : Nat) : Nat := 0x400800B8 + 0x1000 * c
def F.CLU_CE_CNT_COUNT (c : Nat) : Fld := ⟨A.CLU_CE_CNT c, 0, 32⟩
/-- CLU_UE_CNT (05_beam_clusters.md, R206). -/
def A.CLU_UE_CNT (c : Nat) : Nat := 0x400800BC + 0x1000 * c
def F.CLU_UE_CNT_COUNT (c : Nat) : Fld := ⟨A.CLU_UE_CNT c, 0, 32⟩
/-- CLU_UE_ADDR (05_beam_clusters.md, R206). -/
def A.CLU_UE_ADDR (c : Nat) : Nat := 0x400800C0 + 0x1000 * c
def F.CLU_UE_ADDR_LINE (c : Nat) : Fld := ⟨A.CLU_UE_ADDR c, 0, 13⟩
/-- CLU_LATE_OUT (05_beam_clusters.md, R206). -/
def A.CLU_LATE_OUT (c : Nat) : Nat := 0x400800C4 + 0x1000 * c
def F.CLU_LATE_OUT_COUNT (c : Nat) : Fld := ⟨A.CLU_LATE_OUT c, 0, 32⟩

/-- Access rows of the CLU block, part 0. -/
def cluRows0 : List RegRow := [
  ⟨0x40080000, [], 0x0, 0x0, 0x0, 0x0, 0x10000, 0, 1⟩,
  ⟨0x40081000, [], 0x0, 0x0, 0x0, 0x0, 0x10001, 0, 1⟩,
  ⟨0x40082000, [], 0x0, 0x0, 0x0, 0x0, 0x10002, 0, 1⟩,
  ⟨0x40083000, [], 0x0, 0x0, 0x0, 0x0, 0x10003, 0, 1⟩,
  ⟨0x40084000, [], 0x0, 0x0, 0x0, 0x0, 0x10004, 0, 1⟩,
  ⟨0x40085000, [], 0x0, 0x0, 0x0, 0x0, 0x10005, 0, 1⟩,
  ⟨0x40086000, [], 0x0, 0x0, 0x0, 0x0, 0x10006, 0, 1⟩,
  ⟨0x40087000, [], 0x0, 0x0, 0x0, 0x0, 0x10007, 0, 1⟩,
  ⟨0x40088000, [], 0x0, 0x0, 0x0, 0x0, 0x10008, 0, 1⟩,
  ⟨0x40089000, [], 0x0, 0x0, 0x0, 0x0, 0x10009, 0, 1⟩,
  ⟨0x4008A000, [], 0x0, 0x0, 0x0, 0x0, 0x1000A, 0, 1⟩,
  ⟨0x4008B000, [], 0x0, 0x0, 0x0, 0x0, 0x1000B, 0, 1⟩]
/-- Access rows of the CLU block, part 1. -/
def cluRows1 : List RegRow := [
  ⟨0x4008C000, [], 0x0, 0x0, 0x0, 0x0, 0x1000C, 0, 1⟩,
  ⟨0x4008D000, [], 0x0, 0x0, 0x0, 0x0, 0x1000D, 0, 1⟩,
  ⟨0x4008E000, [], 0x0, 0x0, 0x0, 0x0, 0x1000E, 0, 1⟩,
  ⟨0x4008F000, [], 0x0, 0x0, 0x0, 0x0, 0x1000F, 0, 1⟩,
  ⟨0x40080004, [(0x1000, 16)], 0xC0, 0x0, 0x1E, 0x0, 0x0, 0, 1⟩,
  ⟨0x40080008, [(0x1000, 16)], 0x0, 0x0, 0x0, 0x0, 0x0, 0, 1⟩,
  ⟨0x4008000C, [(0x1000, 16)], 0x0, 0x0, 0x0, 0x0, 0x0, 0, 1⟩,
  ⟨0x40080010, [(0x1000, 16)], 0xFFFFFFFF, 0x0, 0x0, 0x0, 0x0, 0, 1⟩,
  ⟨0x40080014, [(0x1000, 16)], 0x0, 0x0, 0x0, 0x0, 0x0, 0, 1⟩,
  ⟨0x40080018, [(0x1000, 16)], 0x0, 0x0, 0x0, 0x0, 0x0, 0, 1⟩,
  ⟨0x4008001C, [(0x1000, 16)], 0xFFFF, 0x0, 0x0, 0x0, 0x0, 0, 1⟩,
  ⟨0x40080020, [(0x1000, 16)], 0x0, 0x7F, 0x0, 0x0, 0x0, 0, 1⟩]
/-- Access rows of the CLU block, part 2. -/
def cluRows2 : List RegRow := [
  ⟨0x40080024, [(0x1000, 16)], 0x7F, 0x0, 0x0, 0x0, 0x0, 0, 1⟩,
  ⟨0x40080028, [(0x1000, 16)], 0x0, 0x0, 0x0, 0xFFFFFFFF, 0x0, 0, 1⟩,
  ⟨0x4008002C, [(0x1000, 16)], 0x0, 0x0, 0x0, 0xFFFFFFFF, 0x0, 0, 1⟩,
  ⟨0x40080040, [(0x1000, 16), (0x4, 16)], 0xFFFFFFFF, 0x0, 0x0, 0x0, 0x0, 0, 1⟩,
  ⟨0x40080080, [(0x1000, 16)], 0x0, 0x0, 0x0, 0x0, 0x0, 0, 2⟩,
  ⟨0x40080084, [(0x1000, 16)], 0x0, 0x0, 0x0, 0x0, 0x0, 1, 2⟩,
  ⟨0x40080088, [(0x1000, 16)], 0x0, 0x0, 0x0, 0x0, 0x0, 0, 1⟩,
  ⟨0x40080090, [(0x1000, 16)], 0x0, 0x0, 0x0, 0x0, 0x0, 0, 2⟩,
  ⟨0x40080094, [(0x1000, 16)], 0x0, 0x0, 0x0, 0x0, 0x0, 1, 2⟩,
  ⟨0x40080098, [(0x1000, 16)], 0x0, 0x0, 0x0, 0x0, 0x0, 0, 1⟩,
  ⟨0x400800A0, [(0x1000, 16)], 0x0, 0x0, 0x0, 0xFFFFFFFF, 0x0, 0, 2⟩,
  ⟨0x400800A4, [(0x1000, 16)], 0x0, 0x0, 0x0, 0xFFFFFFFF, 0x0, 1, 2⟩]
/-- Access rows of the CLU block, part 3. -/
def cluRows3 : List RegRow := [
  ⟨0x400800A8, [(0x1000, 16)], 0x0, 0x0, 0x0, 0xFFFFFFFF, 0x0, 0, 2⟩,
  ⟨0x400800AC, [(0x1000, 16)], 0x0, 0x0, 0x0, 0xFFFFFFFF, 0x0, 1, 2⟩,
  ⟨0x400800B0, [(0x1000, 16)], 0x0, 0x0, 0x0, 0xFFFFFFFF, 0x0, 0, 1⟩,
  ⟨0x400800B4, [(0x1000, 16)], 0x0, 0x0, 0x0, 0xFFFFFFFF, 0x0, 0, 1⟩,
  ⟨0x400800B8, [(0x1000, 16)], 0x0, 0x0, 0x0, 0xFFFFFFFF, 0x0, 0, 1⟩,
  ⟨0x400800BC, [(0x1000, 16)], 0x0, 0x0, 0x0, 0xFFFFFFFF, 0x0, 0, 1⟩,
  ⟨0x400800C0, [(0x1000, 16)], 0x0, 0x0, 0x0, 0x0, 0x0, 0, 1⟩,
  ⟨0x400800C4, [(0x1000, 16)], 0x0, 0x0, 0x0, 0xFFFFFFFF, 0x0, 0, 1⟩]
/-- Access rows of the CLU block. -/
def cluRows : List RegRow := cluRows0 ++ cluRows1 ++ cluRows2 ++ cluRows3

end Sys2Proof.Machine
end

