-- ==== Sys2Proof/Machine/RegFe.lean ====
section
/-! DEFINITION. Addresses and fields of the AUXD, MON, THRM, PWR registers, and their access rows, as the register maps of the spec print them. -/

namespace Sys2Proof.Machine

/-- AUXD_ID (11_front_end_control.md, R383). -/
def A.AUXD_ID : Nat := 0x40230000
def F.AUXD_ID_MAJOR : Fld := ⟨A.AUXD_ID, 8, 8⟩
def F.AUXD_ID_MINOR : Fld := ⟨A.AUXD_ID, 0, 8⟩
/-- AUXD_CTRL (11_front_end_control.md, R383). -/
def A.AUXD_CTRL : Nat := 0x40230004
def F.AUXD_CTRL_FORCE_HIZ : Fld := ⟨A.AUXD_CTRL, 0, 1⟩
/-- AUXD_STAT (11_front_end_control.md, R383). -/
def A.AUXD_STAT : Nat := 0x40230008
def F.AUXD_STAT_TXMUTE : Fld := ⟨A.AUXD_STAT, 31, 1⟩
def F.AUXD_STAT_HIZ_CAUSE : Fld := ⟨A.AUXD_STAT, 0, 3⟩
/-- AUXD_INT_STAT (11_front_end_control.md, R383). -/
def A.AUXD_INT_STAT : Nat := 0x4023000C
def F.AUXD_INT_STAT_I2C_DONE : Fld := ⟨A.AUXD_INT_STAT, 5, 1⟩
def F.AUXD_INT_STAT_SPI_DONE : Fld := ⟨A.AUXD_INT_STAT, 4, 1⟩
def F.AUXD_INT_STAT_TXMUTE : Fld := ⟨A.AUXD_INT_STAT, 3, 1⟩
def F.AUXD_INT_STAT_HIZ : Fld := ⟨A.AUXD_INT_STAT, 2, 1⟩
def F.AUXD_INT_STAT_UNDERRUN : Fld := ⟨A.AUXD_INT_STAT, 1, 1⟩
def F.AUXD_INT_STAT_LIM_HIT : Fld := ⟨A.AUXD_INT_STAT, 0, 1⟩
/-- AUXD_INT_EN (11_front_end_control.md, R383). -/
def A.AUXD_INT_EN : Nat := 0x40230010
/-- AUXD_TIE (11_front_end_control.md, R383). -/
def A.AUXD_TIE : Nat := 0x40230014
def F.AUXD_TIE_COUNT : Fld := ⟨A.AUXD_TIE, 0, 32⟩
/-- AUXD_LIM_HIT (11_front_end_control.md, R383). -/
def A.AUXD_LIM_HIT : Nat := 0x40230018
def F.AUXD_LIM_HIT_COUNT : Fld := ⟨A.AUXD_LIM_HIT, 0, 32⟩
/-- AUXD_UNDERRUN (11_front_end_control.md, R383). -/
def A.AUXD_UNDERRUN : Nat := 0x4023001C
def F.AUXD_UNDERRUN_COUNT : Fld := ⟨A.AUXD_UNDERRUN, 0, 32⟩
/-- AUXD_DEFER (11_front_end_control.md, R383). -/
def A.AUXD_DEFER : Nat := 0x40230020
def F.AUXD_DEFER_COUNT : Fld := ⟨A.AUXD_DEFER, 0, 32⟩
/-- AUXD_TXMUTE_CNT (11_front_end_control.md, R383). -/
def A.AUXD_TXMUTE_CNT : Nat := 0x40230024
def F.AUXD_TXMUTE_CNT_COUNT : Fld := ⟨A.AUXD_TXMUTE_CNT, 0, 32⟩
/-- AUXD_CMD_ERR (11_front_end_control.md, R383). -/
def A.AUXD_CMD_ERR : Nat := 0x40230028
def F.AUXD_CMD_ERR_COUNT : Fld := ⟨A.AUXD_CMD_ERR, 0, 32⟩
/-- AUXD_CHn_CFG (11_front_end_control.md, R383). -/
def A.AUXD_CHn_CFG (n : Nat) : Nat := 0x40230100 + 0x10 * n
def F.AUXD_CHn_CFG_EN (n : Nat) : Fld := ⟨A.AUXD_CHn_CFG n, 31, 1⟩
def F.AUXD_CHn_CFG_RECIRC (n : Nat) : Fld := ⟨A.AUXD_CHn_CFG n, 30, 1⟩
def F.AUXD_CHn_CFG_GROUP (n : Nat) : Fld := ⟨A.AUXD_CHn_CFG n, 27, 3⟩
/-- AUXD_CHn_LIM (11_front_end_control.md, R383). -/
def A.AUXD_CHn_LIM (n : Nat) : Nat := 0x40230104 + 0x10 * n
def F.AUXD_CHn_LIM_MAX (n : Nat) : Fld := ⟨A.AUXD_CHn_LIM n, 16, 13⟩
def F.AUXD_CHn_LIM_MIN (n : Nat) : Fld := ⟨A.AUXD_CHn_LIM n, 0, 13⟩
/-- AUXD_CHn_STAT (11_front_end_control.md, R383). -/
def A.AUXD_CHn_STAT (n : Nat) : Nat := 0x40230108 + 0x10 * n
def F.AUXD_CHn_STAT_DRIVEN (n : Nat) : Fld := ⟨A.AUXD_CHn_STAT n, 31, 1⟩
def F.AUXD_CHn_STAT_GAIN (n : Nat) : Fld := ⟨A.AUXD_CHn_STAT n, 30, 1⟩
def F.AUXD_CHn_STAT_HOLDING (n : Nat) : Fld := ⟨A.AUXD_CHn_STAT n, 29, 1⟩
def F.AUXD_CHn_STAT_QCOUNT (n : Nat) : Fld := ⟨A.AUXD_CHn_STAT n, 24, 5⟩
def F.AUXD_CHn_STAT_CODE (n : Nat) : Fld := ⟨A.AUXD_CHn_STAT n, 0, 12⟩
/-- AUXD_CHn_Q (11_front_end_control.md, R383). -/
def A.AUXD_CHn_Q (n : Nat) : Nat := 0x4023010C + 0x10 * n
def F.AUXD_CHn_Q_GAIN (n : Nat) : Fld := ⟨A.AUXD_CHn_Q n, 12, 1⟩
def F.AUXD_CHn_Q_CODE (n : Nat) : Fld := ⟨A.AUXD_CHn_Q n, 0, 12⟩
/-- AUXD_FLIMn (11_front_end_control.md, R383). -/
def A.AUXD_FLIMn (n : Nat) : Nat := 0x40230800 + 0x4 * n
def F.AUXD_FLIMn_MAX (n : Nat) : Fld := ⟨A.AUXD_FLIMn n, 16, 13⟩
def F.AUXD_FLIMn_MIN (n : Nat) : Fld := ⟨A.AUXD_FLIMn n, 0, 13⟩
/-- FESPIk_CMD (11_front_end_control.md, R383). -/
def A.FESPIk_CMD (k : Nat) : Nat := 0x40230A00 + 0x40 * k
def F.FESPIk_CMD_READ (k : Nat) : Fld := ⟨A.FESPIk_CMD k, 10, 1⟩
def F.FESPIk_CMD_CS (k : Nat) : Fld := ⟨A.FESPIk_CMD k, 8, 2⟩
def F.FESPIk_CMD_BITS_M1 (k : Nat) : Fld := ⟨A.FESPIk_CMD k, 0, 6⟩
/-- FESPIk_TX_LO (11_front_end_control.md, R383). -/
def A.FESPIk_TX_LO (k : Nat) : Nat := 0x40230A04 + 0x40 * k
def F.FESPIk_TX_LO_DATA (k : Nat) : Fld := ⟨A.FESPIk_TX_LO k, 0, 32⟩
/-- FESPIk_TX_HI (11_front_end_control.md, R383). -/
def A.FESPIk_TX_HI (k : Nat) : Nat := 0x40230A08 + 0x40 * k
def F.FESPIk_TX_HI_DATA (k : Nat) : Fld := ⟨A.FESPIk_TX_HI k, 0, 32⟩
/-- FESPIk_RX_LO (11_front_end_control.md, R383). -/
def A.FESPIk_RX_LO (k : Nat) : Nat := 0x40230A0C + 0x40 * k
def F.FESPIk_RX_LO_DATA (k : Nat) : Fld := ⟨A.FESPIk_RX_LO k, 0, 32⟩
/-- FESPIk_RX_HI (11_front_end_control.md, R383). -/
def A.FESPIk_RX_HI (k : Nat) : Nat := 0x40230A10 + 0x40 * k
def F.FESPIk_RX_HI_DATA (k : Nat) : Fld := ⟨A.FESPIk_RX_HI k, 0, 32⟩
/-- FESPIk_STAT (11_front_end_control.md, R383). -/
def A.FESPIk_STAT (k : Nat) : Nat := 0x40230A14 + 0x40 * k
def F.FESPIk_STAT_BUSY (k : Nat) : Fld := ⟨A.FESPIk_STAT k, 0, 1⟩
/-- FESPIk_CFG (11_front_end_control.md, R383). -/
def A.FESPIk_CFG (k : Nat) : Nat := 0x40230A18 + 0x40 * k
def F.FESPIk_CFG_EN (k : Nat) : Fld := ⟨A.FESPIk_CFG k, 31, 1⟩
def F.FESPIk_CFG_MODE (k : Nat) : Fld := ⟨A.FESPIk_CFG k, 29, 2⟩
def F.FESPIk_CFG_LSB_FIRST (k : Nat) : Fld := ⟨A.FESPIk_CFG k, 28, 1⟩
def F.FESPIk_CFG_THREE_WIRE (k : Nat) : Fld := ⟨A.FESPIk_CFG k, 27, 1⟩
def F.FESPIk_CFG_DIV (k : Nat) : Fld := ⟨A.FESPIk_CFG k, 16, 8⟩
def F.FESPIk_CFG_CS_SETUP (k : Nat) : Fld := ⟨A.FESPIk_CFG k, 8, 8⟩
def F.FESPIk_CFG_CS_HOLD (k : Nat) : Fld := ⟨A.FESPIk_CFG k, 0, 8⟩
/-- FEI2C_CMD (11_front_end_control.md, R383). -/
def A.FEI2C_CMD : Nat := 0x40230B00
def F.FEI2C_CMD_GO : Fld := ⟨A.FEI2C_CMD, 31, 1⟩
def F.FEI2C_CMD_READ : Fld := ⟨A.FEI2C_CMD, 30, 1⟩
def F.FEI2C_CMD_NOSTOP : Fld := ⟨A.FEI2C_CMD, 29, 1⟩
def F.FEI2C_CMD_ADDR : Fld := ⟨A.FEI2C_CMD, 16, 7⟩
def F.FEI2C_CMD_COUNT_M1 : Fld := ⟨A.FEI2C_CMD, 0, 4⟩
/-- FEI2C_DATAi (11_front_end_control.md, R383). -/
def A.FEI2C_DATAi (i : Nat) : Nat := 0x40230B04 + 0x4 * i
def F.FEI2C_DATAi_DATA (i : Nat) : Fld := ⟨A.FEI2C_DATAi i, 0, 32⟩
/-- FEI2C_STAT (11_front_end_control.md, R383). -/
def A.FEI2C_STAT : Nat := 0x40230B14
def F.FEI2C_STAT_BUSY : Fld := ⟨A.FEI2C_STAT, 31, 1⟩
def F.FEI2C_STAT_RESULT : Fld := ⟨A.FEI2C_STAT, 8, 3⟩
def F.FEI2C_STAT_DONE : Fld := ⟨A.FEI2C_STAT, 0, 5⟩
/-- FEI2C_CFG (11_front_end_control.md, R383). -/
def A.FEI2C_CFG : Nat := 0x40230B18
def F.FEI2C_CFG_STRETCH_MS : Fld := ⟨A.FEI2C_CFG, 8, 8⟩
def F.FEI2C_CFG_FAST : Fld := ⟨A.FEI2C_CFG, 1, 1⟩
def F.FEI2C_CFG_EN : Fld := ⟨A.FEI2C_CFG, 0, 1⟩

/-- Access rows of the AUXD block, part 0. -/
def auxdRows0 : List RegRow := [
  ⟨0x40230000, [], 0x0, 0x0, 0x0, 0x0, 0x100, 0, 1⟩,
  ⟨0x40230004, [], 0x0, 0x0, 0x1, 0x0, 0x0, 0, 1⟩,
  ⟨0x40230008, [], 0x0, 0x0, 0x0, 0x0, 0x80000000, 0, 1⟩,
  ⟨0x4023000C, [], 0x0, 0x3F, 0x0, 0x0, 0x0, 0, 1⟩,
  ⟨0x40230010, [], 0x3F, 0x0, 0x0, 0x0, 0x0, 0, 1⟩,
  ⟨0x40230014, [], 0x0, 0x0, 0x0, 0xFFFFFFFF, 0x0, 0, 1⟩,
  ⟨0x40230018, [], 0x0, 0x0, 0x0, 0xFFFFFFFF, 0x0, 0, 1⟩,
  ⟨0x4023001C, [], 0x0, 0x0, 0x0, 0xFFFFFFFF, 0x0, 0, 1⟩,
  ⟨0x40230020, [], 0x0, 0x0, 0x0, 0xFFFFFFFF, 0x0, 0, 1⟩,
  ⟨0x40230024, [], 0x0, 0x0, 0x0, 0xFFFFFFFF, 0x0, 0, 1⟩,
  ⟨0x40230028, [], 0x0, 0x0, 0x0, 0xFFFFFFFF, 0x0, 0, 1⟩,
  ⟨0x40230100, [(0x10, 96)], 0xF8000000, 0x0, 0x0, 0x0, 0x0, 0, 1⟩]
/-- Access rows of the AUXD block, part 1. -/
def auxdRows1 : List RegRow := [
  ⟨0x40230104, [(0x10, 96)], 0x1FFF1FFF, 0x0, 0x0, 0x0, 0x1FFE0000, 0, 1⟩,
  ⟨0x40230108, [(0x10, 96)], 0x0, 0x0, 0x0, 0x0, 0x0, 0, 1⟩,
  ⟨0x4023010C, [(0x10, 96)], 0x0, 0x0, 0x0, 0x0, 0x0, 0, 1⟩,
  ⟨0x40230800, [(0x4, 96)], 0x0, 0x0, 0x0, 0x0, 0x0, 0, 1⟩,
  ⟨0x40230A00, [(0x40, 4)], 0x0, 0x0, 0x0, 0x0, 0x0, 0, 3⟩,
  ⟨0x40230A04, [(0x40, 4)], 0x0, 0x0, 0x0, 0x0, 0x0, 1, 3⟩,
  ⟨0x40230A08, [(0x40, 4)], 0x0, 0x0, 0x0, 0x0, 0x0, 2, 3⟩,
  ⟨0x40230A0C, [(0x40, 4)], 0x0, 0x0, 0x0, 0x0, 0x0, 0, 2⟩,
  ⟨0x40230A10, [(0x40, 4)], 0x0, 0x0, 0x0, 0x0, 0x0, 1, 2⟩,
  ⟨0x40230A14, [(0x40, 4)], 0x0, 0x0, 0x0, 0x0, 0x0, 0, 1⟩,
  ⟨0x40230A18, [(0x40, 4)], 0xF8FFFFFF, 0x0, 0x0, 0x0, 0x40202, 0, 1⟩,
  ⟨0x40230B00, [], 0x607F000F, 0x0, 0x80000000, 0x0, 0x0, 0, 1⟩]
/-- Access rows of the AUXD block, part 2. -/
def auxdRows2 : List RegRow := [
  ⟨0x40230B04, [(0x4, 4)], 0xFFFFFFFF, 0x0, 0x0, 0x0, 0x0, 0, 1⟩,
  ⟨0x40230B14, [], 0x0, 0x0, 0x0, 0x0, 0x0, 0, 1⟩,
  ⟨0x40230B18, [], 0xFF03, 0x0, 0x0, 0x0, 0xA00, 0, 1⟩]
/-- Access rows of the AUXD block. -/
def auxdRows : List RegRow := auxdRows0 ++ auxdRows1 ++ auxdRows2

/-- MON_ID (11_front_end_control.md, R384). -/
def A.MON_ID : Nat := 0x40240000
def F.MON_ID_MAJOR : Fld := ⟨A.MON_ID, 8, 8⟩
def F.MON_ID_MINOR : Fld := ⟨A.MON_ID, 0, 8⟩
/-- MON_CTRL (11_front_end_control.md, R384). -/
def A.MON_CTRL : Nat := 0x40240004
def F.MON_CTRL_TRIG_EN : Fld := ⟨A.MON_CTRL, 2, 2⟩
def F.MON_CTRL_CONT_EN : Fld := ⟨A.MON_CTRL, 0, 2⟩
/-- MON_STAT (11_front_end_control.md, R384). -/
def A.MON_STAT : Nat := 0x40240008
def F.MON_STAT_INJ_PEND1 : Fld := ⟨A.MON_STAT, 14, 2⟩
def F.MON_STAT_INJ_PEND0 : Fld := ⟨A.MON_STAT, 12, 2⟩
def F.MON_STAT_TRIG_RUN : Fld := ⟨A.MON_STAT, 10, 2⟩
/-- MON_INT_STAT (11_front_end_control.md, R384). -/
def A.MON_INT_STAT : Nat := 0x4024000C
def F.MON_INT_STAT_MUTE : Fld := ⟨A.MON_INT_STAT, 4, 1⟩
def F.MON_INT_STAT_TRIP : Fld := ⟨A.MON_INT_STAT, 3, 1⟩
def F.MON_INT_STAT_INJ_DONE : Fld := ⟨A.MON_INT_STAT, 2, 1⟩
def F.MON_INT_STAT_TRIG_LOST : Fld := ⟨A.MON_INT_STAT, 1, 1⟩
def F.MON_INT_STAT_TRIG_OVR : Fld := ⟨A.MON_INT_STAT, 0, 1⟩
/-- MON_INT_EN (11_front_end_control.md, R384). -/
def A.MON_INT_EN : Nat := 0x40240010
/-- MON_SEQc_CFG (11_front_end_control.md, R384). -/
def A.MON_SEQc_CFG (c : Nat) : Nat := 0x40240040 + 0x4 * c
def F.MON_SEQc_CFG_LEN (c : Nat) : Fld := ⟨A.MON_SEQc_CFG c, 0, 8⟩
/-- MON_TRGc_CFG (11_front_end_control.md, R384). -/
def A.MON_TRGc_CFG (c : Nat) : Nat := 0x40240048 + 0x4 * c
def F.MON_TRGc_CFG_DELAY (c : Nat) : Fld := ⟨A.MON_TRGc_CFG c, 16, 16⟩
def F.MON_TRGc_CFG_LEN (c : Nat) : Fld := ⟨A.MON_TRGc_CFG c, 0, 5⟩
/-- MON_INJc_REQ (11_front_end_control.md, R384). -/
def A.MON_INJc_REQ (c : Nat) : Nat := 0x40240050 + 0x4 * c
def F.MON_INJc_REQ_INPUT (c : Nat) : Fld := ⟨A.MON_INJc_REQ c, 0, 8⟩
/-- MON_TRIG_OVR (11_front_end_control.md, R384). -/
def A.MON_TRIG_OVR : Nat := 0x40240060
def F.MON_TRIG_OVR_COUNT : Fld := ⟨A.MON_TRIG_OVR, 0, 32⟩
/-- MON_TRIG_LOST (11_front_end_control.md, R384). -/
def A.MON_TRIG_LOST : Nat := 0x40240064
def F.MON_TRIG_LOST_COUNT : Fld := ⟨A.MON_TRIG_LOST, 0, 32⟩
/-- MON_TRIP_CNT (11_front_end_control.md, R384). -/
def A.MON_TRIP_CNT : Nat := 0x40240068
def F.MON_TRIP_CNT_COUNT : Fld := ⟨A.MON_TRIP_CNT, 0, 32⟩
/-- MON_MUTE_CNT (11_front_end_control.md, R384). -/
def A.MON_MUTE_CNT : Nat := 0x4024006C
def F.MON_MUTE_CNT_COUNT : Fld := ⟨A.MON_MUTE_CNT, 0, 32⟩
/-- MON_CMD_ERR (11_front_end_control.md, R384). -/
def A.MON_CMD_ERR : Nat := 0x40240070
def F.MON_CMD_ERR_COUNT : Fld := ⟨A.MON_CMD_ERR, 0, 32⟩
/-- MON_MUTE_LO (11_front_end_control.md, R384). -/
def A.MON_MUTE_LO : Nat := 0x40240080
def F.MON_MUTE_LO_PATH : Fld := ⟨A.MON_MUTE_LO, 0, 32⟩
/-- MON_MUTE_HI (11_front_end_control.md, R384). -/
def A.MON_MUTE_HI : Nat := 0x40240084
def F.MON_MUTE_HI_PATH : Fld := ⟨A.MON_MUTE_HI, 0, 32⟩
/-- MON_MUTE_ALL (11_front_end_control.md, R384). -/
def A.MON_MUTE_ALL : Nat := 0x40240088
def F.MON_MUTE_ALL_ALL : Fld := ⟨A.MON_MUTE_ALL, 0, 1⟩
/-- MON_RESn_LO (11_front_end_control.md, R384). -/
def A.MON_RESn_LO (n : Nat) : Nat := 0x40241000 + 0x8 * n
def F.MON_RESn_LO_TAG (n : Nat) : Fld := ⟨A.MON_RESn_LO n, 24, 8⟩
def F.MON_RESn_LO_SRC (n : Nat) : Fld := ⟨A.MON_RESn_LO n, 22, 2⟩
def F.MON_RESn_LO_SLIP (n : Nat) : Fld := ⟨A.MON_RESn_LO n, 21, 1⟩
def F.MON_RESn_LO_CONV (n : Nat) : Fld := ⟨A.MON_RESn_LO n, 20, 1⟩
def F.MON_RESn_LO_CODE (n : Nat) : Fld := ⟨A.MON_RESn_LO n, 0, 12⟩
/-- MON_RESn_TS (11_front_end_control.md, R384). -/
def A.MON_RESn_TS (n : Nat) : Nat := 0x40241004 + 0x8 * n
def F.MON_RESn_TS_NS (n : Nat) : Fld := ⟨A.MON_RESn_TS n, 0, 32⟩
/-- MON_WINn (11_front_end_control.md, R384). -/
def A.MON_WINn (n : Nat) : Nat := 0x40242000 + 0x8 * n
def F.MON_WINn_HIGH (n : Nat) : Fld := ⟨A.MON_WINn n, 16, 12⟩
def F.MON_WINn_LOW (n : Nat) : Fld := ⟨A.MON_WINn n, 0, 12⟩
/-- MON_WACTn (11_front_end_control.md, R384). -/
def A.MON_WACTn (n : Nat) : Nat := 0x40242004 + 0x8 * n
def F.MON_WACTn_EN (n : Nat) : Fld := ⟨A.MON_WACTn n, 31, 1⟩
def F.MON_WACTn_OUT (n : Nat) : Fld := ⟨A.MON_WACTn n, 30, 1⟩
def F.MON_WACTn_ACTION (n : Nat) : Fld := ⟨A.MON_WACTn n, 28, 2⟩
def F.MON_WACTn_CNT (n : Nat) : Fld := ⟨A.MON_WACTn n, 24, 4⟩
def F.MON_WACTn_PATH (n : Nat) : Fld := ⟨A.MON_WACTn n, 16, 6⟩
/-- MON_CLIST (11_front_end_control.md, R384). -/
def A.MON_CLIST (c : Nat) (i : Nat) : Nat := 0x40240200 + 0x300 * c + 0x4 * i
def F.MON_CLIST_INPUT (c : Nat) (i : Nat) : Fld := ⟨A.MON_CLIST c i, 0, 8⟩
/-- MON_TLIST (11_front_end_control.md, R384). -/
def A.MON_TLIST (c : Nat) (i : Nat) : Nat := 0x40240800 + 0x40 * c + 0x4 * i
def F.MON_TLIST_INPUT (c : Nat) (i : Nat) : Fld := ⟨A.MON_TLIST c i, 0, 8⟩

/-- Access rows of the MON block, part 0. -/
def monRows0 : List RegRow := [
  ⟨0x40240000, [], 0x0, 0x0, 0x0, 0x0, 0x100, 0, 1⟩,
  ⟨0x40240004, [], 0xF, 0x0, 0x0, 0x0, 0x0, 0, 1⟩,
  ⟨0x40240008, [], 0x0, 0x0, 0x0, 0x0, 0x0, 0, 1⟩,
  ⟨0x4024000C, [], 0x0, 0x1F, 0x0, 0x0, 0x0, 0, 1⟩,
  ⟨0x40240010, [], 0x1F, 0x0, 0x0, 0x0, 0x0, 0, 1⟩,
  ⟨0x40240040, [(0x4, 2)], 0xFF, 0x0, 0x0, 0x0, 0x1, 0, 1⟩,
  ⟨0x40240048, [(0x4, 2)], 0xFFFF001F, 0x0, 0x0, 0x0, 0x1, 0, 1⟩,
  ⟨0x40240050, [(0x4, 2)], 0x0, 0x0, 0x0, 0x0, 0x0, 0, 1⟩,
  ⟨0x40240060, [], 0x0, 0x0, 0x0, 0xFFFFFFFF, 0x0, 0, 1⟩,
  ⟨0x40240064, [], 0x0, 0x0, 0x0, 0xFFFFFFFF, 0x0, 0, 1⟩,
  ⟨0x40240068, [], 0x0, 0x0, 0x0, 0xFFFFFFFF, 0x0, 0, 1⟩,
  ⟨0x4024006C, [], 0x0, 0x0, 0x0, 0xFFFFFFFF, 0x0, 0, 1⟩]
/-- Access rows of the MON block, part 1. -/
def monRows1 : List RegRow := [
  ⟨0x40240070, [], 0x0, 0x0, 0x0, 0xFFFFFFFF, 0x0, 0, 1⟩,
  ⟨0x40240080, [], 0x0, 0xFFFFFFFF, 0x0, 0x0, 0x0, 0, 2⟩,
  ⟨0x40240084, [], 0x0, 0xFFFFFFFF, 0x0, 0x0, 0x0, 1, 2⟩,
  ⟨0x40240088, [], 0x0, 0x1, 0x0, 0x0, 0x0, 0, 1⟩,
  ⟨0x40241000, [(0x8, 160)], 0x0, 0x0, 0x0, 0x0, 0x0, 0, 2⟩,
  ⟨0x40241004, [(0x8, 160)], 0x0, 0x0, 0x0, 0x0, 0x0, 1, 2⟩,
  ⟨0x40242000, [(0x8, 144)], 0xFFF0FFF, 0x0, 0x0, 0x0, 0xFFF0000, 0, 1⟩,
  ⟨0x40242004, [(0x8, 128)], 0xBF3F0000, 0x0, 0x0, 0x0, 0x1000000, 0, 1⟩,
  ⟨0x40242404, [(0x8, 16)], 0xBF3F0000, 0x0, 0x0, 0x0, 0x1000000, 0, 1⟩,
  ⟨0x40240200, [(0x300, 2), (0x4, 160)], 0xFF, 0x0, 0x0, 0x0, 0x0, 0, 1⟩,
  ⟨0x40240800, [(0x40, 2), (0x4, 16)], 0xFF, 0x0, 0x0, 0x0, 0x0, 0, 1⟩]
/-- Access rows of the MON block. -/
def monRows : List RegRow := monRows0 ++ monRows1

/-- THRM_ID (12_thermal.md, R400). -/
def A.THRM_ID : Nat := 0x40250000
def F.THRM_ID_MAJOR : Fld := ⟨A.THRM_ID, 8, 8⟩
def F.THRM_ID_MINOR : Fld := ⟨A.THRM_ID, 0, 8⟩
/-- THRM_CTRL (12_thermal.md, R400). -/
def A.THRM_CTRL : Nat := 0x40250004
def F.THRM_CTRL_ASK : Fld := ⟨A.THRM_CTRL, 0, 7⟩
/-- THRM_STAT (12_thermal.md, R400). -/
def A.THRM_STAT : Nat := 0x40250008
def F.THRM_STAT_SHUT : Fld := ⟨A.THRM_STAT, 31, 1⟩
def F.THRM_STAT_NOVALID : Fld := ⟨A.THRM_STAT, 24, 7⟩
def F.THRM_STAT_XO_SUBST : Fld := ⟨A.THRM_STAT, 23, 1⟩
def F.THRM_STAT_SUBST : Fld := ⟨A.THRM_STAT, 16, 7⟩
def F.THRM_STAT_THROT : Fld := ⟨A.THRM_STAT, 8, 7⟩
def F.THRM_STAT_WARN : Fld := ⟨A.THRM_STAT, 0, 7⟩
/-- THRM_INT_STAT (12_thermal.md, R400). -/
def A.THRM_INT_STAT : Nat := 0x4025000C
def F.THRM_INT_STAT_SHUT : Fld := ⟨A.THRM_INT_STAT, 8, 1⟩
def F.THRM_INT_STAT_NOVALID : Fld := ⟨A.THRM_INT_STAT, 7, 1⟩
def F.THRM_INT_STAT_SENS_FAIL : Fld := ⟨A.THRM_INT_STAT, 6, 1⟩
def F.THRM_INT_STAT_RELAX : Fld := ⟨A.THRM_INT_STAT, 5, 1⟩
def F.THRM_INT_STAT_STEP : Fld := ⟨A.THRM_INT_STAT, 4, 1⟩
def F.THRM_INT_STAT_GRACE_EXP : Fld := ⟨A.THRM_INT_STAT, 3, 1⟩
def F.THRM_INT_STAT_ASK_REQ : Fld := ⟨A.THRM_INT_STAT, 2, 1⟩
def F.THRM_INT_STAT_WARN : Fld := ⟨A.THRM_INT_STAT, 1, 1⟩
/-- THRM_INT_EN (12_thermal.md, R400). -/
def A.THRM_INT_EN : Nat := 0x40250010
/-- THRM_PLAUS (12_thermal.md, R400). -/
def A.THRM_PLAUS : Nat := 0x40250014
def F.THRM_PLAUS_FAIL_CNT : Fld := ⟨A.THRM_PLAUS, 16, 4⟩
def F.THRM_PLAUS_AGREE_C : Fld := ⟨A.THRM_PLAUS, 8, 8⟩
def F.THRM_PLAUS_RATE_C : Fld := ⟨A.THRM_PLAUS, 0, 8⟩
/-- THRM_CAP (12_thermal.md, R400). -/
def A.THRM_CAP : Nat := 0x40250018
def F.THRM_CAP_TILE3 : Fld := ⟨A.THRM_CAP, 24, 5⟩
def F.THRM_CAP_TILE2 : Fld := ⟨A.THRM_CAP, 16, 5⟩
def F.THRM_CAP_TILE1 : Fld := ⟨A.THRM_CAP, 8, 5⟩
def F.THRM_CAP_TILE0 : Fld := ⟨A.THRM_CAP, 0, 5⟩
/-- THRM_FUSE (12_thermal.md, R400). -/
def A.THRM_FUSE : Nat := 0x4025001C
def F.THRM_FUSE_SHUT_MAX : Fld := ⟨A.THRM_FUSE, 0, 8⟩
/-- THRM_TIE (12_thermal.md, R400). -/
def A.THRM_TIE : Nat := 0x40250020
def F.THRM_TIE_COUNT : Fld := ⟨A.THRM_TIE, 0, 32⟩
/-- THRM_SENS_FAIL_CNT (12_thermal.md, R400). -/
def A.THRM_SENS_FAIL_CNT : Nat := 0x40250024
def F.THRM_SENS_FAIL_CNT_COUNT : Fld := ⟨A.THRM_SENS_FAIL_CNT, 0, 32⟩
/-- THRM_STEP_CNT (12_thermal.md, R400). -/
def A.THRM_STEP_CNT : Nat := 0x40250028
def F.THRM_STEP_CNT_COUNT : Fld := ⟨A.THRM_STEP_CNT, 0, 32⟩
/-- THRM_SHUT_CNT (12_thermal.md, R400). -/
def A.THRM_SHUT_CNT : Nat := 0x4025002C
def F.THRM_SHUT_CNT_COUNT : Fld := ⟨A.THRM_SHUT_CNT, 0, 32⟩
/-- THRM_CMD_ERR (12_thermal.md, R400). -/
def A.THRM_CMD_ERR : Nat := 0x40250030
def F.THRM_CMD_ERR_COUNT : Fld := ⟨A.THRM_CMD_ERR, 0, 32⟩
/-- THRM_SHEDi (12_thermal.md, R400). -/
def A.THRM_SHEDi (i : Nat) : Nat := 0x40250040 + 0x4 * i
def F.THRM_SHEDi_PATH_B (i : Nat) : Fld := ⟨A.THRM_SHEDi i, 8, 6⟩
def F.THRM_SHEDi_PATH_A (i : Nat) : Fld := ⟨A.THRM_SHEDi i, 0, 6⟩
/-- THRM_Zz_CFG (12_thermal.md, R400). -/
def A.THRM_Zz_CFG (z : Nat) : Nat := 0x40250100 + 0x20 * z
def F.THRM_Zz_CFG_SHUT (z : Nat) : Fld := ⟨A.THRM_Zz_CFG z, 24, 8⟩
def F.THRM_Zz_CFG_THROT (z : Nat) : Fld := ⟨A.THRM_Zz_CFG z, 16, 8⟩
def F.THRM_Zz_CFG_WARN (z : Nat) : Fld := ⟨A.THRM_Zz_CFG z, 8, 8⟩
def F.THRM_Zz_CFG_GRACE (z : Nat) : Fld := ⟨A.THRM_Zz_CFG z, 0, 8⟩
/-- THRM_Zz_HYS (12_thermal.md, R400). -/
def A.THRM_Zz_HYS (z : Nat) : Nat := 0x40250104 + 0x20 * z
def F.THRM_Zz_HYS_OFFSET (z : Nat) : Fld := ⟨A.THRM_Zz_HYS z, 22, 5⟩
def F.THRM_Zz_HYS_DWELL (z : Nat) : Fld := ⟨A.THRM_Zz_HYS z, 17, 5⟩
def F.THRM_Zz_HYS_HYS_S (z : Nat) : Fld := ⟨A.THRM_Zz_HYS z, 8, 4⟩
def F.THRM_Zz_HYS_HYS_T (z : Nat) : Fld := ⟨A.THRM_Zz_HYS z, 4, 4⟩
def F.THRM_Zz_HYS_HYS_W (z : Nat) : Fld := ⟨A.THRM_Zz_HYS z, 0, 4⟩
/-- THRM_Zz_STAT (12_thermal.md, R400). -/
def A.THRM_Zz_STAT (z : Nat) : Nat := 0x40250108 + 0x20 * z
def F.THRM_Zz_STAT_STATE (z : Nat) : Fld := ⟨A.THRM_Zz_STAT z, 29, 3⟩
def F.THRM_Zz_STAT_K (z : Nat) : Fld := ⟨A.THRM_Zz_STAT z, 24, 5⟩
def F.THRM_Zz_STAT_TEMP (z : Nat) : Fld := ⟨A.THRM_Zz_STAT z, 0, 16⟩
/-- THRM_Ss (12_thermal.md, R400). -/
def A.THRM_Ss (s : Nat) : Nat := 0x40250400 + 0x4 * s
def F.THRM_Ss_CLEAR (s : Nat) : Fld := ⟨A.THRM_Ss s, 31, 1⟩
def F.THRM_Ss_FAILED (s : Nat) : Fld := ⟨A.THRM_Ss s, 30, 1⟩
def F.THRM_Ss_IMPL (s : Nat) : Fld := ⟨A.THRM_Ss s, 29, 1⟩
def F.THRM_Ss_ZONE (s : Nat) : Fld := ⟨A.THRM_Ss s, 16, 3⟩
def F.THRM_Ss_TEMP (s : Nat) : Fld := ⟨A.THRM_Ss s, 0, 16⟩

/-- Access rows of the THRM block, part 0. -/
def thrmRows0 : List RegRow := [
  ⟨0x40250000, [], 0x0, 0x0, 0x0, 0x0, 0x100, 0, 1⟩,
  ⟨0x40250004, [], 0x7F, 0x0, 0x0, 0x0, 0x0, 0, 1⟩,
  ⟨0x40250008, [], 0x0, 0x0, 0x0, 0x0, 0x0, 0, 1⟩,
  ⟨0x4025000C, [], 0x0, 0x1FE, 0x0, 0x0, 0x0, 0, 1⟩,
  ⟨0x40250010, [], 0x1FE, 0x0, 0x0, 0x0, 0x0, 0, 1⟩,
  ⟨0x40250014, [], 0xFFFFF, 0x0, 0x0, 0x0, 0x41405, 0, 1⟩,
  ⟨0x40250018, [], 0x0, 0x0, 0x0, 0x0, 0x0, 0, 1⟩,
  ⟨0x4025001C, [], 0x0, 0x0, 0x0, 0x0, 0x0, 0, 1⟩,
  ⟨0x40250020, [], 0x0, 0x0, 0x0, 0xFFFFFFFF, 0x0, 0, 1⟩,
  ⟨0x40250024, [], 0x0, 0x0, 0x0, 0xFFFFFFFF, 0x0, 0, 1⟩,
  ⟨0x40250028, [], 0x0, 0x0, 0x0, 0xFFFFFFFF, 0x0, 0, 1⟩,
  ⟨0x4025002C, [], 0x0, 0x0, 0x0, 0xFFFFFFFF, 0x0, 0, 1⟩]
/-- Access rows of the THRM block, part 1. -/
def thrmRows1 : List RegRow := [
  ⟨0x40250030, [], 0x0, 0x0, 0x0, 0xFFFFFFFF, 0x0, 0, 1⟩,
  ⟨0x40250040, [], 0x3F3F, 0x0, 0x0, 0x0, 0x301, 0, 1⟩,
  ⟨0x40250044, [], 0x3F3F, 0x0, 0x0, 0x0, 0x1311, 0, 1⟩,
  ⟨0x40250048, [], 0x3F3F, 0x0, 0x0, 0x0, 0x2321, 0, 1⟩,
  ⟨0x4025004C, [], 0x3F3F, 0x0, 0x0, 0x0, 0x3331, 0, 1⟩,
  ⟨0x40250050, [], 0x3F3F, 0x0, 0x0, 0x0, 0x705, 0, 1⟩,
  ⟨0x40250054, [], 0x3F3F, 0x0, 0x0, 0x0, 0x1715, 0, 1⟩,
  ⟨0x40250058, [], 0x3F3F, 0x0, 0x0, 0x0, 0x2725, 0, 1⟩,
  ⟨0x4025005C, [], 0x3F3F, 0x0, 0x0, 0x0, 0x3735, 0, 1⟩,
  ⟨0x40250060, [], 0x3F3F, 0x0, 0x0, 0x0, 0xB09, 0, 1⟩,
  ⟨0x40250064, [], 0x3F3F, 0x0, 0x0, 0x0, 0x1B19, 0, 1⟩,
  ⟨0x40250068, [], 0x3F3F, 0x0, 0x0, 0x0, 0x2B29, 0, 1⟩]
/-- Access rows of the THRM block, part 2. -/
def thrmRows2 : List RegRow := [
  ⟨0x4025006C, [], 0x3F3F, 0x0, 0x0, 0x0, 0x3B39, 0, 1⟩,
  ⟨0x40250070, [], 0x3F3F, 0x0, 0x0, 0x0, 0xF0D, 0, 1⟩,
  ⟨0x40250074, [], 0x3F3F, 0x0, 0x0, 0x0, 0x1F1D, 0, 1⟩,
  ⟨0x40250078, [], 0x3F3F, 0x0, 0x0, 0x0, 0x2F2D, 0, 1⟩,
  ⟨0x4025007C, [], 0x3F3F, 0x0, 0x0, 0x0, 0x3F3D, 0, 1⟩,
  ⟨0x40250100, [(0x20, 6)], 0xFFFFFFFF, 0x0, 0x0, 0x0, 0x7D6E640A, 0, 1⟩,
  ⟨0x402501C0, [], 0xFFFFFFFF, 0x0, 0x0, 0x0, 0x6E645F0A, 0, 1⟩,
  ⟨0x40250104, [(0x20, 7)], 0x7FE0FFF, 0x0, 0x0, 0x0, 0x2200555, 0, 1⟩,
  ⟨0x40250108, [(0x20, 7)], 0x0, 0x0, 0x0, 0x0, 0x0, 0, 1⟩,
  ⟨0x40250400, [(0x4, 24)], 0x0, 0x0, 0x80000000, 0x0, 0x0, 0, 1⟩,
  ⟨0x40250460, [(0x4, 24)], 0x0, 0x0, 0x80000000, 0x0, 0x10000, 0, 1⟩,
  ⟨0x402504C0, [(0x4, 24)], 0x0, 0x0, 0x80000000, 0x0, 0x20000, 0, 1⟩]
/-- Access rows of the THRM block, part 3. -/
def thrmRows3 : List RegRow := [
  ⟨0x40250520, [(0x4, 24)], 0x0, 0x0, 0x80000000, 0x0, 0x30000, 0, 1⟩,
  ⟨0x40250580, [(0x4, 20)], 0x0, 0x0, 0x80000000, 0x0, 0x40000, 0, 1⟩,
  ⟨0x402505D0, [(0x4, 4)], 0x0, 0x0, 0x80000000, 0x0, 0x50000, 0, 1⟩,
  ⟨0x402505E0, [(0x4, 4)], 0x0, 0x0, 0x80000000, 0x0, 0x60000, 0, 1⟩]
/-- Access rows of the THRM block. -/
def thrmRows : List RegRow := thrmRows0 ++ thrmRows1 ++ thrmRows2 ++ thrmRows3

/-- PWR_ID (12_thermal.md, R401). -/
def A.PWR_ID : Nat := 0x402A0000
def F.PWR_ID_MAJOR : Fld := ⟨A.PWR_ID, 8, 8⟩
def F.PWR_ID_MINOR : Fld := ⟨A.PWR_ID, 0, 8⟩
/-- PWR_LIMIT (12_thermal.md, R401). -/
def A.PWR_LIMIT : Nat := 0x402A0004
def F.PWR_LIMIT_STEP : Fld := ⟨A.PWR_LIMIT, 8, 5⟩
def F.PWR_LIMIT_PLIM_W : Fld := ⟨A.PWR_LIMIT, 0, 8⟩
/-- PWR_VIN (12_thermal.md, R401). -/
def A.PWR_VIN : Nat := 0x402A0008
def F.PWR_VIN_MV10 : Fld := ⟨A.PWR_VIN, 0, 16⟩
/-- PWR_IIN (12_thermal.md, R401). -/
def A.PWR_IIN : Nat := 0x402A000C
def F.PWR_IIN_MA : Fld := ⟨A.PWR_IIN, 0, 16⟩
/-- PWR_PIN (12_thermal.md, R401). -/
def A.PWR_PIN : Nat := 0x402A0010
def F.PWR_PIN_MW : Fld := ⟨A.PWR_PIN, 0, 18⟩
/-- PWR_ENERGY_LO (12_thermal.md, R401). -/
def A.PWR_ENERGY_LO : Nat := 0x402A0014
def F.PWR_ENERGY_LO_MJ : Fld := ⟨A.PWR_ENERGY_LO, 0, 32⟩
/-- PWR_ENERGY_HI (12_thermal.md, R401). -/
def A.PWR_ENERGY_HI : Nat := 0x402A0018
def F.PWR_ENERGY_HI_MJ : Fld := ⟨A.PWR_ENERGY_HI, 0, 32⟩
/-- PWR_PEAK (12_thermal.md, R401). -/
def A.PWR_PEAK : Nat := 0x402A001C
def F.PWR_PEAK_MW : Fld := ⟨A.PWR_PEAK, 0, 18⟩
/-- PWR_STAT (12_thermal.md, R401). -/
def A.PWR_STAT : Nat := 0x402A0020
def F.PWR_STAT_LIM : Fld := ⟨A.PWR_STAT, 0, 1⟩
/-- PWR_LIM_CNT (12_thermal.md, R401). -/
def A.PWR_LIM_CNT : Nat := 0x402A0024
def F.PWR_LIM_CNT_COUNT : Fld := ⟨A.PWR_LIM_CNT, 0, 32⟩

/-- Access rows of the PWR block, part 0. -/
def pwrRows0 : List RegRow := [
  ⟨0x402A0000, [], 0x0, 0x0, 0x0, 0x0, 0x100, 0, 1⟩,
  ⟨0x402A0004, [], 0xFF, 0x0, 0x0, 0x0, 0x55, 0, 1⟩,
  ⟨0x402A0008, [], 0x0, 0x0, 0x0, 0x0, 0x0, 0, 3⟩,
  ⟨0x402A000C, [], 0x0, 0x0, 0x0, 0x0, 0x0, 1, 3⟩,
  ⟨0x402A0010, [], 0x0, 0x0, 0x0, 0x0, 0x0, 2, 3⟩,
  ⟨0x402A0014, [], 0x0, 0x0, 0x0, 0x0, 0x0, 0, 2⟩,
  ⟨0x402A0018, [], 0x0, 0x0, 0x0, 0x0, 0x0, 1, 2⟩,
  ⟨0x402A001C, [], 0x0, 0x0, 0x0, 0x3FFFF, 0x0, 0, 1⟩,
  ⟨0x402A0020, [], 0x0, 0x1, 0x0, 0x0, 0x0, 0, 1⟩,
  ⟨0x402A0024, [], 0x0, 0x0, 0x0, 0xFFFFFFFF, 0x0, 0, 1⟩]
/-- Access rows of the PWR block. -/
def pwrRows : List RegRow := pwrRows0

end Sys2Proof.Machine
end

