-- ==== Sys2Proof/Machine/RegLink.lean ====
section
/-! DEFINITION. Addresses and fields of the LINK, FHP registers, and their access rows, as the register maps of the spec print them. -/

namespace Sys2Proof.Machine

/-- LINK_ID (02_link_lanes.md, R82). -/
def A.LINK_ID : Nat := 0x40050000
def F.LINK_ID_MAJOR : Fld := ⟨A.LINK_ID, 8, 8⟩
def F.LINK_ID_MINOR : Fld := ⟨A.LINK_ID, 0, 8⟩
/-- LINK_BOND (02_link_lanes.md, R82). -/
def A.LINK_BOND : Nat := 0x40050004
def F.LINK_BOND_BOND : Fld := ⟨A.LINK_BOND, 0, 3⟩
/-- LINK_RETRY_MS (02_link_lanes.md, R82). -/
def A.LINK_RETRY_MS : Nat := 0x40050008
def F.LINK_RETRY_MS_MS : Fld := ⟨A.LINK_RETRY_MS, 0, 11⟩
/-- LINK_EQ_CFG (02_link_lanes.md, R82). -/
def A.LINK_EQ_CFG : Nat := 0x4005000C
def F.LINK_EQ_CFG_DIVERGE : Fld := ⟨A.LINK_EQ_CFG, 24, 8⟩
def F.LINK_EQ_CFG_EYE_TARGET : Fld := ⟨A.LINK_EQ_CFG, 16, 8⟩
def F.LINK_EQ_CFG_EYE_FLOOR : Fld := ⟨A.LINK_EQ_CFG, 8, 8⟩
def F.LINK_EQ_CFG_DENSITY_FLOOR : Fld := ⟨A.LINK_EQ_CFG, 0, 8⟩
/-- LINK_TRAIN_STAT (02_link_lanes.md, R82). -/
def A.LINK_TRAIN_STAT : Nat := 0x40050010
def F.LINK_TRAIN_STAT_STAGE_D : Fld := ⟨A.LINK_TRAIN_STAT, 28, 4⟩
def F.LINK_TRAIN_STAT_TRIES_D : Fld := ⟨A.LINK_TRAIN_STAT, 24, 4⟩
def F.LINK_TRAIN_STAT_STAGE_C : Fld := ⟨A.LINK_TRAIN_STAT, 20, 4⟩
def F.LINK_TRAIN_STAT_TRIES_C : Fld := ⟨A.LINK_TRAIN_STAT, 16, 4⟩
def F.LINK_TRAIN_STAT_STAGE_B : Fld := ⟨A.LINK_TRAIN_STAT, 12, 4⟩
def F.LINK_TRAIN_STAT_TRIES_B : Fld := ⟨A.LINK_TRAIN_STAT, 8, 4⟩
def F.LINK_TRAIN_STAT_STAGE_A : Fld := ⟨A.LINK_TRAIN_STAT, 4, 4⟩
def F.LINK_TRAIN_STAT_TRIES_A : Fld := ⟨A.LINK_TRAIN_STAT, 0, 4⟩
/-- LINK_INT_STAT (02_link_lanes.md, R82). -/
def A.LINK_INT_STAT : Nat := 0x40050014
def F.LINK_INT_STAT_EQ_ROLLBACK_A : Fld := ⟨A.LINK_INT_STAT, 5, 1⟩
def F.LINK_INT_STAT_EQ_ROLLBACK_B : Fld := ⟨A.LINK_INT_STAT, 11, 1⟩
def F.LINK_INT_STAT_EQ_ROLLBACK_C : Fld := ⟨A.LINK_INT_STAT, 17, 1⟩
def F.LINK_INT_STAT_EQ_ROLLBACK_D : Fld := ⟨A.LINK_INT_STAT, 23, 1⟩
def F.LINK_INT_STAT_FRT_FAIL_A : Fld := ⟨A.LINK_INT_STAT, 4, 1⟩
def F.LINK_INT_STAT_FRT_FAIL_B : Fld := ⟨A.LINK_INT_STAT, 10, 1⟩
def F.LINK_INT_STAT_FRT_FAIL_C : Fld := ⟨A.LINK_INT_STAT, 16, 1⟩
def F.LINK_INT_STAT_FRT_FAIL_D : Fld := ⟨A.LINK_INT_STAT, 22, 1⟩
def F.LINK_INT_STAT_FRT_START_A : Fld := ⟨A.LINK_INT_STAT, 3, 1⟩
def F.LINK_INT_STAT_FRT_START_B : Fld := ⟨A.LINK_INT_STAT, 9, 1⟩
def F.LINK_INT_STAT_FRT_START_C : Fld := ⟨A.LINK_INT_STAT, 15, 1⟩
def F.LINK_INT_STAT_FRT_START_D : Fld := ⟨A.LINK_INT_STAT, 21, 1⟩
def F.LINK_INT_STAT_DEGRADED_A : Fld := ⟨A.LINK_INT_STAT, 2, 1⟩
def F.LINK_INT_STAT_DEGRADED_B : Fld := ⟨A.LINK_INT_STAT, 8, 1⟩
def F.LINK_INT_STAT_DEGRADED_C : Fld := ⟨A.LINK_INT_STAT, 14, 1⟩
def F.LINK_INT_STAT_DEGRADED_D : Fld := ⟨A.LINK_INT_STAT, 20, 1⟩
def F.LINK_INT_STAT_DOWN_A : Fld := ⟨A.LINK_INT_STAT, 1, 1⟩
def F.LINK_INT_STAT_DOWN_B : Fld := ⟨A.LINK_INT_STAT, 7, 1⟩
def F.LINK_INT_STAT_DOWN_C : Fld := ⟨A.LINK_INT_STAT, 13, 1⟩
def F.LINK_INT_STAT_DOWN_D : Fld := ⟨A.LINK_INT_STAT, 19, 1⟩
def F.LINK_INT_STAT_UP_A : Fld := ⟨A.LINK_INT_STAT, 0, 1⟩
def F.LINK_INT_STAT_UP_B : Fld := ⟨A.LINK_INT_STAT, 6, 1⟩
def F.LINK_INT_STAT_UP_C : Fld := ⟨A.LINK_INT_STAT, 12, 1⟩
def F.LINK_INT_STAT_UP_D : Fld := ⟨A.LINK_INT_STAT, 18, 1⟩
/-- LINK_INT_EN (02_link_lanes.md, R82). -/
def A.LINK_INT_EN : Nat := 0x40050018
/-- LINK_TIE (02_link_lanes.md, R82). -/
def A.LINK_TIE : Nat := 0x4005001C
def F.LINK_TIE_COUNT : Fld := ⟨A.LINK_TIE, 0, 32⟩
/-- LINK_MUTE_SYM (02_link_lanes.md, R82). -/
def A.LINK_MUTE_SYM : Nat := 0x40050020
def F.LINK_MUTE_SYM_COUNT : Fld := ⟨A.LINK_MUTE_SYM, 0, 32⟩
/-- LINK_SEEDk (02_link_lanes.md, R82). -/
def A.LINK_SEEDk (k : Nat) : Nat := 0x40050040 + 0x4 * k
def F.LINK_SEEDk_SEED (k : Nat) : Fld := ⟨A.LINK_SEEDk k, 0, 23⟩
/-- LINK_Px_CTRL (02_link_lanes.md, R82). -/
def A.LINK_Px_CTRL (x : Nat) : Nat := 0x40050100 + 0x40 * x
def F.LINK_Px_CTRL_RETRAIN (x : Nat) : Fld := ⟨A.LINK_Px_CTRL x, 9, 1⟩
def F.LINK_Px_CTRL_FRT_EN (x : Nat) : Fld := ⟨A.LINK_Px_CTRL x, 8, 1⟩
def F.LINK_Px_CTRL_MIN_WIDTH (x : Nat) : Fld := ⟨A.LINK_Px_CTRL x, 3, 5⟩
def F.LINK_Px_CTRL_ROLE (x : Nat) : Fld := ⟨A.LINK_Px_CTRL x, 1, 2⟩
def F.LINK_Px_CTRL_EN (x : Nat) : Fld := ⟨A.LINK_Px_CTRL x, 0, 1⟩
/-- LINK_Px_STAT (02_link_lanes.md, R82). -/
def A.LINK_Px_STAT (x : Nat) : Nat := 0x40050104 + 0x40 * x
def F.LINK_Px_STAT_DEGRADED (x : Nat) : Fld := ⟨A.LINK_Px_STAT x, 28, 1⟩
def F.LINK_Px_STAT_BOND_REV (x : Nat) : Fld := ⟨A.LINK_Px_STAT x, 27, 1⟩
def F.LINK_Px_STAT_PORT_REV (x : Nat) : Fld := ⟨A.LINK_Px_STAT x, 26, 1⟩
def F.LINK_Px_STAT_TX_FIRST (x : Nat) : Fld := ⟨A.LINK_Px_STAT x, 22, 4⟩
def F.LINK_Px_STAT_RX_FIRST (x : Nat) : Fld := ⟨A.LINK_Px_STAT x, 18, 4⟩
def F.LINK_Px_STAT_TX_WIDTH (x : Nat) : Fld := ⟨A.LINK_Px_STAT x, 13, 5⟩
def F.LINK_Px_STAT_RX_WIDTH (x : Nat) : Fld := ⟨A.LINK_Px_STAT x, 8, 5⟩
def F.LINK_Px_STAT_REASON (x : Nat) : Fld := ⟨A.LINK_Px_STAT x, 4, 4⟩
def F.LINK_Px_STAT_STAGE (x : Nat) : Fld := ⟨A.LINK_Px_STAT x, 0, 4⟩
/-- LINK_Px_MASK (02_link_lanes.md, R82). -/
def A.LINK_Px_MASK (x : Nat) : Nat := 0x40050108 + 0x40 * x
def F.LINK_Px_MASK_TX_MASK (x : Nat) : Fld := ⟨A.LINK_Px_MASK x, 16, 16⟩
def F.LINK_Px_MASK_RX_MASK (x : Nat) : Fld := ⟨A.LINK_Px_MASK x, 0, 16⟩
/-- LINK_Px_DOWN_CNT (02_link_lanes.md, R82). -/
def A.LINK_Px_DOWN_CNT (x : Nat) : Nat := 0x4005010C + 0x40 * x
def F.LINK_Px_DOWN_CNT_COUNT (x : Nat) : Fld := ⟨A.LINK_Px_DOWN_CNT x, 0, 32⟩
/-- LINK_Px_FRT_CNT (02_link_lanes.md, R82). -/
def A.LINK_Px_FRT_CNT (x : Nat) : Nat := 0x40050110 + 0x40 * x
def F.LINK_Px_FRT_CNT_COUNT (x : Nat) : Fld := ⟨A.LINK_Px_FRT_CNT x, 0, 32⟩
/-- LINK_Px_FRT_FAIL_CNT (02_link_lanes.md, R82). -/
def A.LINK_Px_FRT_FAIL_CNT (x : Nat) : Nat := 0x40050114 + 0x40 * x
def F.LINK_Px_FRT_FAIL_CNT_COUNT (x : Nat) : Fld := ⟨A.LINK_Px_FRT_FAIL_CNT x, 0, 32⟩
/-- LINK_Px_DISCARD_LO (02_link_lanes.md, R82). -/
def A.LINK_Px_DISCARD_LO (x : Nat) : Nat := 0x40050118 + 0x40 * x
def F.LINK_Px_DISCARD_LO_COUNT (x : Nat) : Fld := ⟨A.LINK_Px_DISCARD_LO x, 0, 32⟩
/-- LINK_Px_DISCARD_HI (02_link_lanes.md, R82). -/
def A.LINK_Px_DISCARD_HI (x : Nat) : Nat := 0x4005011C + 0x40 * x
def F.LINK_Px_DISCARD_HI_COUNT (x : Nat) : Fld := ⟨A.LINK_Px_DISCARD_HI x, 0, 32⟩
/-- LINK_Ln_CTRL (02_link_lanes.md, R82). -/
def A.LINK_Ln_CTRL (n : Nat) : Nat := 0x40050400 + 0x40 * n
def F.LINK_Ln_CTRL_EQ_HOLD (n : Nat) : Fld := ⟨A.LINK_Ln_CTRL n, 14, 1⟩
def F.LINK_Ln_CTRL_TX_SWING (n : Nat) : Fld := ⟨A.LINK_Ln_CTRL n, 11, 2⟩
def F.LINK_Ln_CTRL_TX_POST (n : Nat) : Fld := ⟨A.LINK_Ln_CTRL n, 6, 5⟩
def F.LINK_Ln_CTRL_TX_PRE (n : Nat) : Fld := ⟨A.LINK_Ln_CTRL n, 2, 4⟩
def F.LINK_Ln_CTRL_POL_MODE (n : Nat) : Fld := ⟨A.LINK_Ln_CTRL n, 0, 2⟩
/-- LINK_Ln_STAT (02_link_lanes.md, R82). -/
def A.LINK_Ln_STAT (n : Nat) : Nat := 0x40050404 + 0x40 * n
def F.LINK_Ln_STAT_FAIL_STAGE (n : Nat) : Fld := ⟨A.LINK_Ln_STAT n, 11, 4⟩
def F.LINK_Ln_STAT_EQ_FROZEN (n : Nat) : Fld := ⟨A.LINK_Ln_STAT n, 10, 1⟩
def F.LINK_Ln_STAT_IN_SET (n : Nat) : Fld := ⟨A.LINK_Ln_STAT n, 9, 1⟩
def F.LINK_Ln_STAT_LOGICAL (n : Nat) : Fld := ⟨A.LINK_Ln_STAT n, 5, 4⟩
def F.LINK_Ln_STAT_BLOCK_LOCK (n : Nat) : Fld := ⟨A.LINK_Ln_STAT n, 4, 1⟩
def F.LINK_Ln_STAT_POL_INV (n : Nat) : Fld := ⟨A.LINK_Ln_STAT n, 3, 1⟩
def F.LINK_Ln_STAT_CDR_LOCK (n : Nat) : Fld := ⟨A.LINK_Ln_STAT n, 2, 1⟩
def F.LINK_Ln_STAT_LOS (n : Nat) : Fld := ⟨A.LINK_Ln_STAT n, 1, 1⟩
def F.LINK_Ln_STAT_SIGNAL (n : Nat) : Fld := ⟨A.LINK_Ln_STAT n, 0, 1⟩
/-- LINK_Ln_EYE (02_link_lanes.md, R82). -/
def A.LINK_Ln_EYE (n : Nat) : Nat := 0x40050408 + 0x40 * n
def F.LINK_Ln_EYE_SNAP_EYE (n : Nat) : Fld := ⟨A.LINK_Ln_EYE n, 16, 8⟩
def F.LINK_Ln_EYE_DENSITY (n : Nat) : Fld := ⟨A.LINK_Ln_EYE n, 8, 8⟩
def F.LINK_Ln_EYE_EYE_MARGIN (n : Nat) : Fld := ⟨A.LINK_Ln_EYE n, 0, 8⟩
/-- LINK_Ln_CTLE (02_link_lanes.md, R82). -/
def A.LINK_Ln_CTLE (n : Nat) : Nat := 0x4005040C + 0x40 * n
def F.LINK_Ln_CTLE_CTLE3 (n : Nat) : Fld := ⟨A.LINK_Ln_CTLE n, 8, 3⟩
def F.LINK_Ln_CTLE_CTLE2 (n : Nat) : Fld := ⟨A.LINK_Ln_CTLE n, 4, 3⟩
def F.LINK_Ln_CTLE_CTLE1 (n : Nat) : Fld := ⟨A.LINK_Ln_CTLE n, 0, 3⟩
/-- LINK_Ln_DFE0 (02_link_lanes.md, R82). -/
def A.LINK_Ln_DFE0 (n : Nat) : Nat := 0x40050410 + 0x40 * n
def F.LINK_Ln_DFE0_TAP4_TAP1 (n : Nat) : Fld := ⟨A.LINK_Ln_DFE0 n, 0, 32⟩
/-- LINK_Ln_DFE1 (02_link_lanes.md, R82). -/
def A.LINK_Ln_DFE1 (n : Nat) : Nat := 0x40050414 + 0x40 * n
def F.LINK_Ln_DFE1_TAP8_TAP5 (n : Nat) : Fld := ⟨A.LINK_Ln_DFE1 n, 0, 32⟩
/-- LINK_Ln_DFE2 (02_link_lanes.md, R82). -/
def A.LINK_Ln_DFE2 (n : Nat) : Nat := 0x40050418 + 0x40 * n
def F.LINK_Ln_DFE2_TAP12_TAP9 (n : Nat) : Fld := ⟨A.LINK_Ln_DFE2 n, 0, 32⟩
/-- LINK_Ln_HDR_ERR (02_link_lanes.md, R82). -/
def A.LINK_Ln_HDR_ERR (n : Nat) : Nat := 0x4005041C + 0x40 * n
def F.LINK_Ln_HDR_ERR_COUNT (n : Nat) : Fld := ⟨A.LINK_Ln_HDR_ERR n, 0, 32⟩
/-- LINK_Ln_STUFF_CNT (02_link_lanes.md, R82). -/
def A.LINK_Ln_STUFF_CNT (n : Nat) : Nat := 0x40050420 + 0x40 * n
def F.LINK_Ln_STUFF_CNT_COUNT (n : Nat) : Fld := ⟨A.LINK_Ln_STUFF_CNT n, 0, 32⟩
/-- LINK_Ln_ROLLBACK_CNT (02_link_lanes.md, R82). -/
def A.LINK_Ln_ROLLBACK_CNT (n : Nat) : Nat := 0x40050424 + 0x40 * n
def F.LINK_Ln_ROLLBACK_CNT_COUNT (n : Nat) : Fld := ⟨A.LINK_Ln_ROLLBACK_CNT n, 0, 32⟩

/-- Access rows of the LINK block, part 0. -/
def linkRows0 : List RegRow := [
  ⟨0x40050000, [], 0x0, 0x0, 0x0, 0x0, 0x200, 0, 1⟩,
  ⟨0x40050004, [], 0x7, 0x0, 0x0, 0x0, 0x0, 0, 1⟩,
  ⟨0x40050008, [], 0x7FF, 0x0, 0x0, 0x0, 0x64, 0, 1⟩,
  ⟨0x4005000C, [], 0xFFFFFFFF, 0x0, 0x0, 0x0, 0x804D1A20, 0, 1⟩,
  ⟨0x40050010, [], 0x0, 0x0, 0x0, 0x0, 0x0, 0, 1⟩,
  ⟨0x40050014, [], 0x0, 0xFFFFFF, 0x0, 0x0, 0x0, 0, 1⟩,
  ⟨0x40050018, [], 0xFFFFFF, 0x0, 0x0, 0x0, 0x0, 0, 1⟩,
  ⟨0x4005001C, [], 0x0, 0x0, 0x0, 0xFFFFFFFF, 0x0, 0, 1⟩,
  ⟨0x40050020, [], 0x0, 0x0, 0x0, 0xFFFFFFFF, 0x0, 0, 1⟩,
  ⟨0x40050040, [], 0x7FFFFF, 0x0, 0x0, 0x0, 0x2AAAAA, 0, 1⟩,
  ⟨0x40050044, [], 0x7FFFFF, 0x0, 0x0, 0x0, 0x2AAAAB, 0, 1⟩,
  ⟨0x40050048, [], 0x7FFFFF, 0x0, 0x0, 0x0, 0x2AAAA8, 0, 1⟩]
/-- Access rows of the LINK block, part 1. -/
def linkRows1 : List RegRow := [
  ⟨0x4005004C, [], 0x7FFFFF, 0x0, 0x0, 0x0, 0x2AAAA9, 0, 1⟩,
  ⟨0x40050050, [], 0x7FFFFF, 0x0, 0x0, 0x0, 0x2AAAAE, 0, 1⟩,
  ⟨0x40050054, [], 0x7FFFFF, 0x0, 0x0, 0x0, 0x2AAAAF, 0, 1⟩,
  ⟨0x40050058, [], 0x7FFFFF, 0x0, 0x0, 0x0, 0x2AAAAC, 0, 1⟩,
  ⟨0x4005005C, [], 0x7FFFFF, 0x0, 0x0, 0x0, 0x2AAAAD, 0, 1⟩,
  ⟨0x40050060, [], 0x7FFFFF, 0x0, 0x0, 0x0, 0x2AAAA2, 0, 1⟩,
  ⟨0x40050064, [], 0x7FFFFF, 0x0, 0x0, 0x0, 0x2AAAA3, 0, 1⟩,
  ⟨0x40050068, [], 0x7FFFFF, 0x0, 0x0, 0x0, 0x2AAAA0, 0, 1⟩,
  ⟨0x4005006C, [], 0x7FFFFF, 0x0, 0x0, 0x0, 0x2AAAA1, 0, 1⟩,
  ⟨0x40050070, [], 0x7FFFFF, 0x0, 0x0, 0x0, 0x2AAAA6, 0, 1⟩,
  ⟨0x40050074, [], 0x7FFFFF, 0x0, 0x0, 0x0, 0x2AAAA7, 0, 1⟩,
  ⟨0x40050078, [], 0x7FFFFF, 0x0, 0x0, 0x0, 0x2AAAA4, 0, 1⟩]
/-- Access rows of the LINK block, part 2. -/
def linkRows2 : List RegRow := [
  ⟨0x4005007C, [], 0x7FFFFF, 0x0, 0x0, 0x0, 0x2AAAA5, 0, 1⟩,
  ⟨0x40050100, [(0x40, 4)], 0x1FF, 0x0, 0x200, 0x0, 0x108, 0, 1⟩,
  ⟨0x40050104, [(0x40, 4)], 0x0, 0x0, 0x0, 0x0, 0x0, 0, 1⟩,
  ⟨0x40050108, [(0x40, 4)], 0x0, 0x0, 0x0, 0x0, 0x0, 0, 1⟩,
  ⟨0x4005010C, [(0x40, 4)], 0x0, 0x0, 0x0, 0xFFFFFFFF, 0x0, 0, 1⟩,
  ⟨0x40050110, [(0x40, 4)], 0x0, 0x0, 0x0, 0xFFFFFFFF, 0x0, 0, 1⟩,
  ⟨0x40050114, [(0x40, 4)], 0x0, 0x0, 0x0, 0xFFFFFFFF, 0x0, 0, 1⟩,
  ⟨0x40050118, [(0x40, 4)], 0x0, 0x0, 0x0, 0xFFFFFFFF, 0x0, 0, 2⟩,
  ⟨0x4005011C, [(0x40, 4)], 0x0, 0x0, 0x0, 0xFFFFFFFF, 0x0, 1, 2⟩,
  ⟨0x40050400, [(0x40, 16)], 0x5FFF, 0x0, 0x0, 0x0, 0x1188, 0, 1⟩,
  ⟨0x40050404, [(0x40, 16)], 0x0, 0x0, 0x0, 0x0, 0x0, 0, 1⟩,
  ⟨0x40050408, [(0x40, 16)], 0x0, 0x0, 0x0, 0x0, 0x0, 0, 1⟩]
/-- Access rows of the LINK block, part 3. -/
def linkRows3 : List RegRow := [
  ⟨0x4005040C, [(0x40, 16)], 0x0, 0x0, 0x0, 0x0, 0x0, 0, 4⟩,
  ⟨0x40050410, [(0x40, 16)], 0x0, 0x0, 0x0, 0x0, 0x0, 1, 4⟩,
  ⟨0x40050414, [(0x40, 16)], 0x0, 0x0, 0x0, 0x0, 0x0, 2, 4⟩,
  ⟨0x40050418, [(0x40, 16)], 0x0, 0x0, 0x0, 0x0, 0x0, 3, 4⟩,
  ⟨0x4005041C, [(0x40, 16)], 0x0, 0x0, 0x0, 0xFFFFFFFF, 0x0, 0, 1⟩,
  ⟨0x40050420, [(0x40, 16)], 0x0, 0x0, 0x0, 0xFFFFFFFF, 0x0, 0, 1⟩,
  ⟨0x40050424, [(0x40, 16)], 0x0, 0x0, 0x0, 0xFFFFFFFF, 0x0, 0, 1⟩]
/-- Access rows of the LINK block. -/
def linkRows : List RegRow := linkRows0 ++ linkRows1 ++ linkRows2 ++ linkRows3

/-- FHP_ID (03_link_messages.md, R130). -/
def A.FHP_ID : Nat := 0x40060000
def F.FHP_ID_MAJOR : Fld := ⟨A.FHP_ID, 8, 8⟩
def F.FHP_ID_MINOR : Fld := ⟨A.FHP_ID, 0, 8⟩
/-- FHP_CTRL (03_link_messages.md, R130). -/
def A.FHP_CTRL : Nat := 0x40060004
def F.FHP_CTRL_POS : Fld := ⟨A.FHP_CTRL, 4, 2⟩
def F.FHP_CTRL_LAST : Fld := ⟨A.FHP_CTRL, 3, 1⟩
def F.FHP_CTRL_UL_EN : Fld := ⟨A.FHP_CTRL, 1, 1⟩
def F.FHP_CTRL_DL_EN : Fld := ⟨A.FHP_CTRL, 0, 1⟩
/-- FHP_DL_LEAD (03_link_messages.md, R130). -/
def A.FHP_DL_LEAD : Nat := 0x40060008
def F.FHP_DL_LEAD_NS : Fld := ⟨A.FHP_DL_LEAD, 0, 20⟩
/-- FHP_DL_EARLY (03_link_messages.md, R130). -/
def A.FHP_DL_EARLY : Nat := 0x4006000C
def F.FHP_DL_EARLY_NS : Fld := ⟨A.FHP_DL_EARLY, 0, 21⟩
/-- FHP_UL_DROP (03_link_messages.md, R130). -/
def A.FHP_UL_DROP : Nat := 0x40060010
def F.FHP_UL_DROP_US : Fld := ⟨A.FHP_UL_DROP, 0, 10⟩
/-- FHP_REPLAY (03_link_messages.md, R130). -/
def A.FHP_REPLAY : Nat := 0x40060014
def F.FHP_REPLAY_STALL_LIMIT : Fld := ⟨A.FHP_REPLAY, 8, 8⟩
def F.FHP_REPLAY_TIMER_US : Fld := ⟨A.FHP_REPLAY, 0, 7⟩
/-- FHP_PSUM (03_link_messages.md, R130). -/
def A.FHP_PSUM : Nat := 0x40060018
def F.FHP_PSUM_COMP : Fld := ⟨A.FHP_PSUM, 16, 4⟩
def F.FHP_PSUM_WAIT_US : Fld := ⟨A.FHP_PSUM, 0, 6⟩
/-- FHP_INT_STAT (03_link_messages.md, R130). -/
def A.FHP_INT_STAT : Nat := 0x4006001C
def F.FHP_INT_STAT_CREDIT_SHORT : Fld := ⟨A.FHP_INT_STAT, 16, 1⟩
def F.FHP_INT_STAT_TS_AVAIL : Fld := ⟨A.FHP_INT_STAT, 15, 1⟩
def F.FHP_INT_STAT_TS_OVF : Fld := ⟨A.FHP_INT_STAT, 14, 1⟩
def F.FHP_INT_STAT_MISROUTE : Fld := ⟨A.FHP_INT_STAT, 13, 1⟩
def F.FHP_INT_STAT_FWD_DROP : Fld := ⟨A.FHP_INT_STAT, 12, 1⟩
def F.FHP_INT_STAT_PSUM_LATE : Fld := ⟨A.FHP_INT_STAT, 11, 1⟩
def F.FHP_INT_STAT_PSUM_MISS : Fld := ⟨A.FHP_INT_STAT, 10, 1⟩
def F.FHP_INT_STAT_UL_DROP : Fld := ⟨A.FHP_INT_STAT, 9, 1⟩
def F.FHP_INT_STAT_COMP_ERR : Fld := ⟨A.FHP_INT_STAT, 8, 1⟩
def F.FHP_INT_STAT_OVERLAP : Fld := ⟨A.FHP_INT_STAT, 7, 1⟩
def F.FHP_INT_STAT_ORPHAN : Fld := ⟨A.FHP_INT_STAT, 6, 1⟩
def F.FHP_INT_STAT_EARLY : Fld := ⟨A.FHP_INT_STAT, 5, 1⟩
def F.FHP_INT_STAT_LATE : Fld := ⟨A.FHP_INT_STAT, 4, 1⟩
def F.FHP_INT_STAT_STALL : Fld := ⟨A.FHP_INT_STAT, 0, 4⟩
/-- FHP_INT_EN (03_link_messages.md, R130). -/
def A.FHP_INT_EN : Nat := 0x40060020
/-- FHP_TIE (03_link_messages.md, R130). -/
def A.FHP_TIE : Nat := 0x40060024
def F.FHP_TIE_COUNT : Fld := ⟨A.FHP_TIE, 0, 32⟩
/-- FHP_LATE_LO (03_link_messages.md, R130). -/
def A.FHP_LATE_LO : Nat := 0x40060040
def F.FHP_LATE_LO_COUNT : Fld := ⟨A.FHP_LATE_LO, 0, 32⟩
/-- FHP_LATE_HI (03_link_messages.md, R130). -/
def A.FHP_LATE_HI : Nat := 0x40060044
def F.FHP_LATE_HI_COUNT : Fld := ⟨A.FHP_LATE_HI, 0, 32⟩
/-- FHP_EARLY (03_link_messages.md, R130). -/
def A.FHP_EARLY : Nat := 0x40060048
def F.FHP_EARLY_COUNT : Fld := ⟨A.FHP_EARLY, 0, 32⟩
/-- FHP_ZERO_PRB_LO (03_link_messages.md, R130). -/
def A.FHP_ZERO_PRB_LO : Nat := 0x40060050
def F.FHP_ZERO_PRB_LO_COUNT : Fld := ⟨A.FHP_ZERO_PRB_LO, 0, 32⟩
/-- FHP_ZERO_PRB_HI (03_link_messages.md, R130). -/
def A.FHP_ZERO_PRB_HI : Nat := 0x40060054
def F.FHP_ZERO_PRB_HI_COUNT : Fld := ⟨A.FHP_ZERO_PRB_HI, 0, 32⟩
/-- FHP_ORPHAN (03_link_messages.md, R130). -/
def A.FHP_ORPHAN : Nat := 0x40060058
def F.FHP_ORPHAN_COUNT : Fld := ⟨A.FHP_ORPHAN, 0, 32⟩
/-- FHP_OVERLAP (03_link_messages.md, R130). -/
def A.FHP_OVERLAP : Nat := 0x4006005C
def F.FHP_OVERLAP_COUNT : Fld := ⟨A.FHP_OVERLAP, 0, 32⟩
/-- FHP_COMP_ERR (03_link_messages.md, R130). -/
def A.FHP_COMP_ERR : Nat := 0x40060060
def F.FHP_COMP_ERR_COUNT : Fld := ⟨A.FHP_COMP_ERR, 0, 32⟩
/-- FHP_UL_DROP_CNT (03_link_messages.md, R130). -/
def A.FHP_UL_DROP_CNT : Nat := 0x40060064
def F.FHP_UL_DROP_CNT_COUNT : Fld := ⟨A.FHP_UL_DROP_CNT, 0, 32⟩
/-- FHP_PSUM_MISS (03_link_messages.md, R130). -/
def A.FHP_PSUM_MISS : Nat := 0x40060068
def F.FHP_PSUM_MISS_COUNT : Fld := ⟨A.FHP_PSUM_MISS, 0, 32⟩
/-- FHP_PSUM_LATE (03_link_messages.md, R130). -/
def A.FHP_PSUM_LATE : Nat := 0x4006006C
def F.FHP_PSUM_LATE_COUNT : Fld := ⟨A.FHP_PSUM_LATE, 0, 32⟩
/-- FHP_FWD_DROP (03_link_messages.md, R130). -/
def A.FHP_FWD_DROP : Nat := 0x40060070
def F.FHP_FWD_DROP_COUNT : Fld := ⟨A.FHP_FWD_DROP, 0, 32⟩
/-- FHP_MISROUTE (03_link_messages.md, R130). -/
def A.FHP_MISROUTE : Nat := 0x40060074
def F.FHP_MISROUTE_COUNT : Fld := ⟨A.FHP_MISROUTE, 0, 32⟩
/-- FHP_TS_INFO (03_link_messages.md, R130). -/
def A.FHP_TS_INFO : Nat := 0x40060080
def F.FHP_TS_INFO_VALID : Fld := ⟨A.FHP_TS_INFO, 31, 1⟩
def F.FHP_TS_INFO_REPLAYED : Fld := ⟨A.FHP_TS_INFO, 30, 1⟩
def F.FHP_TS_INFO_DIR : Fld := ⟨A.FHP_TS_INFO, 29, 1⟩
def F.FHP_TS_INFO_PORT : Fld := ⟨A.FHP_TS_INFO, 27, 2⟩
def F.FHP_TS_INFO_MSGTYPE : Fld := ⟨A.FHP_TS_INFO, 20, 4⟩
def F.FHP_TS_INFO_SEQ_ID : Fld := ⟨A.FHP_TS_INFO, 0, 16⟩
/-- FHP_TS_SEC_LO (03_link_messages.md, R130). -/
def A.FHP_TS_SEC_LO : Nat := 0x40060084
def F.FHP_TS_SEC_LO_SEC : Fld := ⟨A.FHP_TS_SEC_LO, 0, 32⟩
/-- FHP_TS_SEC_HI (03_link_messages.md, R130). -/
def A.FHP_TS_SEC_HI : Nat := 0x40060088
def F.FHP_TS_SEC_HI_SEC : Fld := ⟨A.FHP_TS_SEC_HI, 0, 32⟩
/-- FHP_TS_NS (03_link_messages.md, R130). -/
def A.FHP_TS_NS : Nat := 0x4006008C
def F.FHP_TS_NS_NS : Fld := ⟨A.FHP_TS_NS, 0, 32⟩
/-- FHP_TS_FRAC (03_link_messages.md, R130). -/
def A.FHP_TS_FRAC : Nat := 0x40060090
def F.FHP_TS_FRAC_FRAC : Fld := ⟨A.FHP_TS_FRAC, 29, 3⟩
/-- FHP_Px_TX_SEQ (03_link_messages.md, R130). -/
def A.FHP_Px_TX_SEQ (x : Nat) : Nat := 0x40060100 + 0x40 * x
def F.FHP_Px_TX_SEQ_SEQ (x : Nat) : Fld := ⟨A.FHP_Px_TX_SEQ x, 0, 24⟩
/-- FHP_Px_ACK_SEQ (03_link_messages.md, R130). -/
def A.FHP_Px_ACK_SEQ (x : Nat) : Nat := 0x40060104 + 0x40 * x
def F.FHP_Px_ACK_SEQ_SEQ (x : Nat) : Fld := ⟨A.FHP_Px_ACK_SEQ x, 0, 24⟩
/-- FHP_Px_RX_SEQ (03_link_messages.md, R130). -/
def A.FHP_Px_RX_SEQ (x : Nat) : Nat := 0x40060108 + 0x40 * x
def F.FHP_Px_RX_SEQ_SEQ (x : Nat) : Fld := ⟨A.FHP_Px_RX_SEQ x, 0, 24⟩
/-- FHP_Px_REPLAY_CNT (03_link_messages.md, R130). -/
def A.FHP_Px_REPLAY_CNT (x : Nat) : Nat := 0x4006010C + 0x40 * x
def F.FHP_Px_REPLAY_CNT_COUNT (x : Nat) : Fld := ⟨A.FHP_Px_REPLAY_CNT x, 0, 32⟩
/-- FHP_Px_NAK_CNT (03_link_messages.md, R130). -/
def A.FHP_Px_NAK_CNT (x : Nat) : Nat := 0x40060110 + 0x40 * x
def F.FHP_Px_NAK_CNT_COUNT (x : Nat) : Fld := ⟨A.FHP_Px_NAK_CNT x, 0, 32⟩
/-- FHP_Px_CRC_ERR (03_link_messages.md, R130). -/
def A.FHP_Px_CRC_ERR (x : Nat) : Nat := 0x40060114 + 0x40 * x
def F.FHP_Px_CRC_ERR_COUNT (x : Nat) : Fld := ⟨A.FHP_Px_CRC_ERR x, 0, 32⟩
/-- FHP_Px_DUP_CNT (03_link_messages.md, R130). -/
def A.FHP_Px_DUP_CNT (x : Nat) : Nat := 0x40060118 + 0x40 * x
def F.FHP_Px_DUP_CNT_COUNT (x : Nat) : Fld := ⟨A.FHP_Px_DUP_CNT x, 0, 32⟩
/-- FHP_Px_STALL_CNT (03_link_messages.md, R130). -/
def A.FHP_Px_STALL_CNT (x : Nat) : Nat := 0x4006011C + 0x40 * x
def F.FHP_Px_STALL_CNT_COUNT (x : Nat) : Fld := ⟨A.FHP_Px_STALL_CNT x, 0, 32⟩
/-- FHP_STRMn (03_link_messages.md, R130). -/
def A.FHP_STRMn (n : Nat) : Nat := 0x40064000 + 0x4 * n
def F.FHP_STRMn_VALID (n : Nat) : Fld := ⟨A.FHP_STRMn n, 31, 1⟩
def F.FHP_STRMn_DIR (n : Nat) : Fld := ⟨A.FHP_STRMn n, 30, 1⟩
def F.FHP_STRMn_CARRIER (n : Nat) : Fld := ⟨A.FHP_STRMn n, 27, 3⟩
def F.FHP_STRMn_LAYER (n : Nat) : Fld := ⟨A.FHP_STRMn n, 22, 5⟩
def F.FHP_STRMn_COMP (n : Nat) : Fld := ⟨A.FHP_STRMn n, 18, 4⟩

/-- Access rows of the FHP block, part 0. -/
def fhpRows0 : List RegRow := [
  ⟨0x40060000, [], 0x0, 0x0, 0x0, 0x0, 0x200, 0, 1⟩,
  ⟨0x40060004, [], 0x3B, 0x0, 0x0, 0x0, 0x8, 0, 1⟩,
  ⟨0x40060008, [], 0xFFFFF, 0x0, 0x0, 0x0, 0x186A0, 0, 1⟩,
  ⟨0x4006000C, [], 0x1FFFFF, 0x0, 0x0, 0x0, 0x3D090, 0, 1⟩,
  ⟨0x40060010, [], 0x3FF, 0x0, 0x0, 0x0, 0xC8, 0, 1⟩,
  ⟨0x40060014, [], 0xFF7F, 0x0, 0x0, 0x0, 0x804, 0, 1⟩,
  ⟨0x40060018, [], 0xF003F, 0x0, 0x0, 0x0, 0x1000A, 0, 1⟩,
  ⟨0x4006001C, [], 0x0, 0x1FFFF, 0x0, 0x0, 0x0, 0, 1⟩,
  ⟨0x40060020, [], 0x1FFFF, 0x0, 0x0, 0x0, 0x0, 0, 1⟩,
  ⟨0x40060024, [], 0x0, 0x0, 0x0, 0xFFFFFFFF, 0x0, 0, 1⟩,
  ⟨0x40060040, [], 0x0, 0x0, 0x0, 0xFFFFFFFF, 0x0, 0, 2⟩,
  ⟨0x40060044, [], 0x0, 0x0, 0x0, 0xFFFFFFFF, 0x0, 1, 2⟩]
/-- Access rows of the FHP block, part 1. -/
def fhpRows1 : List RegRow := [
  ⟨0x40060048, [], 0x0, 0x0, 0x0, 0xFFFFFFFF, 0x0, 0, 1⟩,
  ⟨0x40060050, [], 0x0, 0x0, 0x0, 0xFFFFFFFF, 0x0, 0, 2⟩,
  ⟨0x40060054, [], 0x0, 0x0, 0x0, 0xFFFFFFFF, 0x0, 1, 2⟩,
  ⟨0x40060058, [], 0x0, 0x0, 0x0, 0xFFFFFFFF, 0x0, 0, 1⟩,
  ⟨0x4006005C, [], 0x0, 0x0, 0x0, 0xFFFFFFFF, 0x0, 0, 1⟩,
  ⟨0x40060060, [], 0x0, 0x0, 0x0, 0xFFFFFFFF, 0x0, 0, 1⟩,
  ⟨0x40060064, [], 0x0, 0x0, 0x0, 0xFFFFFFFF, 0x0, 0, 1⟩,
  ⟨0x40060068, [], 0x0, 0x0, 0x0, 0xFFFFFFFF, 0x0, 0, 1⟩,
  ⟨0x4006006C, [], 0x0, 0x0, 0x0, 0xFFFFFFFF, 0x0, 0, 1⟩,
  ⟨0x40060070, [], 0x0, 0x0, 0x0, 0xFFFFFFFF, 0x0, 0, 1⟩,
  ⟨0x40060074, [], 0x0, 0x0, 0x0, 0xFFFFFFFF, 0x0, 0, 1⟩,
  ⟨0x40060080, [], 0x0, 0x0, 0x0, 0x0, 0x0, 0, 5⟩]
/-- Access rows of the FHP block, part 2. -/
def fhpRows2 : List RegRow := [
  ⟨0x40060084, [], 0x0, 0x0, 0x0, 0x0, 0x0, 1, 5⟩,
  ⟨0x40060088, [], 0x0, 0x0, 0x0, 0x0, 0x0, 2, 5⟩,
  ⟨0x4006008C, [], 0x0, 0x0, 0x0, 0x0, 0x0, 3, 5⟩,
  ⟨0x40060090, [], 0x0, 0x0, 0x0, 0x0, 0x0, 4, 5⟩,
  ⟨0x40060100, [(0x40, 4)], 0x0, 0x0, 0x0, 0x0, 0x0, 0, 1⟩,
  ⟨0x40060104, [(0x40, 4)], 0x0, 0x0, 0x0, 0x0, 0x0, 0, 1⟩,
  ⟨0x40060108, [(0x40, 4)], 0x0, 0x0, 0x0, 0x0, 0x0, 0, 1⟩,
  ⟨0x4006010C, [(0x40, 4)], 0x0, 0x0, 0x0, 0xFFFFFFFF, 0x0, 0, 1⟩,
  ⟨0x40060110, [(0x40, 4)], 0x0, 0x0, 0x0, 0xFFFFFFFF, 0x0, 0, 1⟩,
  ⟨0x40060114, [(0x40, 4)], 0x0, 0x0, 0x0, 0xFFFFFFFF, 0x0, 0, 1⟩,
  ⟨0x40060118, [(0x40, 4)], 0x0, 0x0, 0x0, 0xFFFFFFFF, 0x0, 0, 1⟩,
  ⟨0x4006011C, [(0x40, 4)], 0x0, 0x0, 0x0, 0xFFFFFFFF, 0x0, 0, 1⟩]
/-- Access rows of the FHP block, part 3. -/
def fhpRows3 : List RegRow := [
  ⟨0x40064000, [(0x4, 4096)], 0xFFFC0000, 0x0, 0x0, 0x0, 0x0, 0, 1⟩]
/-- Access rows of the FHP block. -/
def fhpRows : List RegRow := fhpRows0 ++ fhpRows1 ++ fhpRows2 ++ fhpRows3

end Sys2Proof.Machine
end

