-- ==== Sys2Proof/Machine/RegRf.lean ====
section
/-! DEFINITION. Addresses and fields of the TILE, DPD, CAL registers, and their access rows, as the register maps of the spec print them. -/

namespace Sys2Proof.Machine

/-- TILE_ID (06_rf_paths.md, R244). -/
def A.TILE_ID (t : Nat) : Nat := 0x40100000 + 0x40000 * t
def F.TILE_ID_MAJOR (t : Nat) : Fld := ⟨A.TILE_ID t, 16, 8⟩
def F.TILE_ID_MINOR (t : Nat) : Fld := ⟨A.TILE_ID t, 8, 8⟩
def F.TILE_ID_INDEX (t : Nat) : Fld := ⟨A.TILE_ID t, 0, 2⟩
/-- TILE_CTRL (06_rf_paths.md, R244). -/
def A.TILE_CTRL (t : Nat) : Nat := 0x40100004 + 0x40000 * t
def F.TILE_CTRL_PLL_CAL (t : Nat) : Fld := ⟨A.TILE_CTRL t, 7, 1⟩
def F.TILE_CTRL_SLEEP (t : Nat) : Fld := ⟨A.TILE_CTRL t, 6, 1⟩
def F.TILE_CTRL_AUTO_SHUT (t : Nat) : Fld := ⟨A.TILE_CTRL t, 5, 1⟩
def F.TILE_CTRL_RX_RUN (t : Nat) : Fld := ⟨A.TILE_CTRL t, 4, 1⟩
def F.TILE_CTRL_TX_RUN (t : Nat) : Fld := ⟨A.TILE_CTRL t, 3, 1⟩
/-- TILE_STAT (06_rf_paths.md, R244). -/
def A.TILE_STAT (t : Nat) : Nat := 0x40100008 + 0x40000 * t
def F.TILE_STAT_PLL_STATE (t : Nat) : Fld := ⟨A.TILE_STAT t, 29, 3⟩
def F.TILE_STAT_LOCK (t : Nat) : Fld := ⟨A.TILE_STAT t, 28, 1⟩
def F.TILE_STAT_VT_WARN (t : Nat) : Fld := ⟨A.TILE_STAT t, 27, 1⟩
def F.TILE_STAT_ASLEEP (t : Nat) : Fld := ⟨A.TILE_STAT t, 26, 1⟩
def F.TILE_STAT_TX_STOPPED (t : Nat) : Fld := ⟨A.TILE_STAT t, 25, 1⟩
def F.TILE_STAT_RX_STOPPED (t : Nat) : Fld := ⟨A.TILE_STAT t, 24, 1⟩
def F.TILE_STAT_VT_CODE (t : Nat) : Fld := ⟨A.TILE_STAT t, 16, 8⟩
/-- TILE_PATH_EN (06_rf_paths.md, R244). -/
def A.TILE_PATH_EN (t : Nat) : Nat := 0x4010000C + 0x40000 * t
def F.TILE_PATH_EN_TX_EN (t : Nat) : Fld := ⟨A.TILE_PATH_EN t, 16, 16⟩
def F.TILE_PATH_EN_RX_EN (t : Nat) : Fld := ⟨A.TILE_PATH_EN t, 0, 16⟩
/-- TILE_SHED (06_rf_paths.md, R244). -/
def A.TILE_SHED (t : Nat) : Nat := 0x40100010 + 0x40000 * t
def F.TILE_SHED_TX_SHED (t : Nat) : Fld := ⟨A.TILE_SHED t, 0, 16⟩
/-- TILE_SETTLE (06_rf_paths.md, R244). -/
def A.TILE_SETTLE (t : Nat) : Nat := 0x40100014 + 0x40000 * t
def F.TILE_SETTLE_US (t : Nat) : Fld := ⟨A.TILE_SETTLE t, 0, 8⟩
/-- TILE_FRAME_ADJ (06_rf_paths.md, R244). -/
def A.TILE_FRAME_ADJ (t : Nat) : Nat := 0x40100018 + 0x40000 * t
def F.TILE_FRAME_ADJ_TX_ADJ (t : Nat) : Fld := ⟨A.TILE_FRAME_ADJ t, 16, 16⟩
def F.TILE_FRAME_ADJ_RX_ADJ (t : Nat) : Fld := ⟨A.TILE_FRAME_ADJ t, 0, 16⟩
/-- TILE_DROOP (06_rf_paths.md, R244). -/
def A.TILE_DROOP (t : Nat) : Nat := 0x4010001C + 0x40000 * t
def F.TILE_DROOP_DROOP (t : Nat) : Fld := ⟨A.TILE_DROOP t, 0, 16⟩
/-- TILE_TX_FTW_LO (06_rf_paths.md, R244). -/
def A.TILE_TX_FTW_LO (t : Nat) : Nat := 0x40100020 + 0x40000 * t
def F.TILE_TX_FTW_LO_FTW (t : Nat) : Fld := ⟨A.TILE_TX_FTW_LO t, 0, 32⟩
/-- TILE_TX_FTW_HI (06_rf_paths.md, R244). -/
def A.TILE_TX_FTW_HI (t : Nat) : Nat := 0x40100024 + 0x40000 * t
def F.TILE_TX_FTW_HI_FTW (t : Nat) : Fld := ⟨A.TILE_TX_FTW_HI t, 0, 16⟩
/-- TILE_RX_FTW_LO (06_rf_paths.md, R244). -/
def A.TILE_RX_FTW_LO (t : Nat) : Nat := 0x40100028 + 0x40000 * t
def F.TILE_RX_FTW_LO_FTW (t : Nat) : Fld := ⟨A.TILE_RX_FTW_LO t, 0, 32⟩
/-- TILE_RX_FTW_HI (06_rf_paths.md, R244). -/
def A.TILE_RX_FTW_HI (t : Nat) : Nat := 0x4010002C + 0x40000 * t
def F.TILE_RX_FTW_HI_FTW (t : Nat) : Fld := ⟨A.TILE_RX_FTW_HI t, 0, 16⟩
/-- TILE_GROUP (06_rf_paths.md, R244). -/
def A.TILE_GROUP : Nat := 0x40100030
def F.TILE_GROUP_SPLIT : Fld := ⟨A.TILE_GROUP, 0, 1⟩
/-- TILE_INT_STAT (06_rf_paths.md, R244). -/
def A.TILE_INT_STAT (t : Nat) : Nat := 0x40100040 + 0x40000 * t
def F.TILE_INT_STAT_CAR_ERR (t : Nat) : Fld := ⟨A.TILE_INT_STAT t, 10, 1⟩
def F.TILE_INT_STAT_SAT (t : Nat) : Fld := ⟨A.TILE_INT_STAT t, 9, 1⟩
def F.TILE_INT_STAT_WAKE_DONE (t : Nat) : Fld := ⟨A.TILE_INT_STAT t, 8, 1⟩
def F.TILE_INT_STAT_SLEEP_DONE (t : Nat) : Fld := ⟨A.TILE_INT_STAT t, 7, 1⟩
def F.TILE_INT_STAT_RX_STOPPED (t : Nat) : Fld := ⟨A.TILE_INT_STAT t, 6, 1⟩
def F.TILE_INT_STAT_TX_STOPPED (t : Nat) : Fld := ⟨A.TILE_INT_STAT t, 5, 1⟩
def F.TILE_INT_STAT_COEF_WHILE_RUN (t : Nat) : Fld := ⟨A.TILE_INT_STAT t, 4, 1⟩
def F.TILE_INT_STAT_VT_WARN (t : Nat) : Fld := ⟨A.TILE_INT_STAT t, 3, 1⟩
def F.TILE_INT_STAT_CAL_FAIL (t : Nat) : Fld := ⟨A.TILE_INT_STAT t, 2, 1⟩
def F.TILE_INT_STAT_RELOCKED (t : Nat) : Fld := ⟨A.TILE_INT_STAT t, 1, 1⟩
def F.TILE_INT_STAT_LOCK_LOST (t : Nat) : Fld := ⟨A.TILE_INT_STAT t, 0, 1⟩
/-- TILE_INT_EN (06_rf_paths.md, R244). -/
def A.TILE_INT_EN (t : Nat) : Nat := 0x40100044 + 0x40000 * t
/-- TILE_UNLOCK_CNT (06_rf_paths.md, R244). -/
def A.TILE_UNLOCK_CNT (t : Nat) : Nat := 0x40100080 + 0x40000 * t
def F.TILE_UNLOCK_CNT_COUNT (t : Nat) : Fld := ⟨A.TILE_UNLOCK_CNT t, 0, 32⟩
/-- TILE_TX_UNLOCK_SYM (06_rf_paths.md, R244). -/
def A.TILE_TX_UNLOCK_SYM (t : Nat) : Nat := 0x40100084 + 0x40000 * t
def F.TILE_TX_UNLOCK_SYM_COUNT (t : Nat) : Fld := ⟨A.TILE_TX_UNLOCK_SYM t, 0, 32⟩
/-- TILE_RX_UNLOCK_SYM (06_rf_paths.md, R244). -/
def A.TILE_RX_UNLOCK_SYM (t : Nat) : Nat := 0x40100088 + 0x40000 * t
def F.TILE_RX_UNLOCK_SYM_COUNT (t : Nat) : Fld := ⟨A.TILE_RX_UNLOCK_SYM t, 0, 32⟩
/-- TILE_COEF_ERR (06_rf_paths.md, R244). -/
def A.TILE_COEF_ERR (t : Nat) : Nat := 0x4010008C + 0x40000 * t
def F.TILE_COEF_ERR_COUNT (t : Nat) : Fld := ⟨A.TILE_COEF_ERR t, 0, 32⟩
/-- TILE_CAR_ERR (06_rf_paths.md, R244). -/
def A.TILE_CAR_ERR (t : Nat) : Nat := 0x40100090 + 0x40000 * t
def F.TILE_CAR_ERR_COUNT (t : Nat) : Fld := ⟨A.TILE_CAR_ERR t, 0, 32⟩
/-- TILE_SHUT_US_LO (06_rf_paths.md, R244). -/
def A.TILE_SHUT_US_LO (t : Nat) : Nat := 0x40100098 + 0x40000 * t
def F.TILE_SHUT_US_LO_COUNT (t : Nat) : Fld := ⟨A.TILE_SHUT_US_LO t, 0, 32⟩
/-- TILE_SHUT_US_HI (06_rf_paths.md, R244). -/
def A.TILE_SHUT_US_HI (t : Nat) : Nat := 0x4010009C + 0x40000 * t
def F.TILE_SHUT_US_HI_COUNT (t : Nat) : Fld := ⟨A.TILE_SHUT_US_HI t, 0, 32⟩
/-- TILE_TX_SAT_LO (06_rf_paths.md, R244). -/
def A.TILE_TX_SAT_LO (t : Nat) : Nat := 0x401000A0 + 0x40000 * t
def F.TILE_TX_SAT_LO_COUNT (t : Nat) : Fld := ⟨A.TILE_TX_SAT_LO t, 0, 32⟩
/-- TILE_TX_SAT_HI (06_rf_paths.md, R244). -/
def A.TILE_TX_SAT_HI (t : Nat) : Nat := 0x401000A4 + 0x40000 * t
def F.TILE_TX_SAT_HI_COUNT (t : Nat) : Fld := ⟨A.TILE_TX_SAT_HI t, 0, 32⟩
/-- TILE_RX_SAT_LO (06_rf_paths.md, R244). -/
def A.TILE_RX_SAT_LO (t : Nat) : Nat := 0x401000A8 + 0x40000 * t
def F.TILE_RX_SAT_LO_COUNT (t : Nat) : Fld := ⟨A.TILE_RX_SAT_LO t, 0, 32⟩
/-- TILE_RX_SAT_HI (06_rf_paths.md, R244). -/
def A.TILE_RX_SAT_HI (t : Nat) : Nat := 0x401000AC + 0x40000 * t
def F.TILE_RX_SAT_HI_COUNT (t : Nat) : Fld := ⟨A.TILE_RX_SAT_HI t, 0, 32⟩
/-- TILE_DUC_S1_CFG (06_rf_paths.md, R244). -/
def A.TILE_DUC_S1_CFG (t : Nat) : Nat := 0x40100100 + 0x40000 * t
def F.TILE_DUC_S1_CFG_GDLY (t : Nat) : Fld := ⟨A.TILE_DUC_S1_CFG t, 20, 12⟩
def F.TILE_DUC_S1_CFG_MINPH (t : Nat) : Fld := ⟨A.TILE_DUC_S1_CFG t, 19, 1⟩
def F.TILE_DUC_S1_CFG_SYM (t : Nat) : Fld := ⟨A.TILE_DUC_S1_CFG t, 18, 1⟩
def F.TILE_DUC_S1_CFG_NTAPS (t : Nat) : Fld := ⟨A.TILE_DUC_S1_CFG t, 11, 7⟩
def F.TILE_DUC_S1_CFG_SHIFT (t : Nat) : Fld := ⟨A.TILE_DUC_S1_CFG t, 8, 3⟩
/-- TILE_DUC_S2_CFG (06_rf_paths.md, R244). -/
def A.TILE_DUC_S2_CFG (t : Nat) : Nat := 0x40100104 + 0x40000 * t
def F.TILE_DUC_S2_CFG_GDLY (t : Nat) : Fld := ⟨A.TILE_DUC_S2_CFG t, 20, 12⟩
def F.TILE_DUC_S2_CFG_MINPH (t : Nat) : Fld := ⟨A.TILE_DUC_S2_CFG t, 19, 1⟩
def F.TILE_DUC_S2_CFG_SYM (t : Nat) : Fld := ⟨A.TILE_DUC_S2_CFG t, 18, 1⟩
def F.TILE_DUC_S2_CFG_NTAPS (t : Nat) : Fld := ⟨A.TILE_DUC_S2_CFG t, 11, 7⟩
def F.TILE_DUC_S2_CFG_SHIFT (t : Nat) : Fld := ⟨A.TILE_DUC_S2_CFG t, 8, 3⟩
/-- TILE_DDC_S1_CFG (06_rf_paths.md, R244). -/
def A.TILE_DDC_S1_CFG (t : Nat) : Nat := 0x4010010C + 0x40000 * t
def F.TILE_DDC_S1_CFG_GDLY (t : Nat) : Fld := ⟨A.TILE_DDC_S1_CFG t, 20, 12⟩
def F.TILE_DDC_S1_CFG_MINPH (t : Nat) : Fld := ⟨A.TILE_DDC_S1_CFG t, 19, 1⟩
def F.TILE_DDC_S1_CFG_SYM (t : Nat) : Fld := ⟨A.TILE_DDC_S1_CFG t, 18, 1⟩
def F.TILE_DDC_S1_CFG_NTAPS (t : Nat) : Fld := ⟨A.TILE_DDC_S1_CFG t, 11, 7⟩
def F.TILE_DDC_S1_CFG_SHIFT (t : Nat) : Fld := ⟨A.TILE_DDC_S1_CFG t, 8, 3⟩
/-- TILE_DDC_S2_CFG (06_rf_paths.md, R244). -/
def A.TILE_DDC_S2_CFG (t : Nat) : Nat := 0x40100110 + 0x40000 * t
def F.TILE_DDC_S2_CFG_GDLY (t : Nat) : Fld := ⟨A.TILE_DDC_S2_CFG t, 20, 12⟩
def F.TILE_DDC_S2_CFG_MINPH (t : Nat) : Fld := ⟨A.TILE_DDC_S2_CFG t, 19, 1⟩
def F.TILE_DDC_S2_CFG_SYM (t : Nat) : Fld := ⟨A.TILE_DDC_S2_CFG t, 18, 1⟩
def F.TILE_DDC_S2_CFG_NTAPS (t : Nat) : Fld := ⟨A.TILE_DDC_S2_CFG t, 11, 7⟩
def F.TILE_DDC_S2_CFG_SHIFT (t : Nat) : Fld := ⟨A.TILE_DDC_S2_CFG t, 8, 3⟩
/-- TILE_DUC_FIX_CFG (06_rf_paths.md, R244). -/
def A.TILE_DUC_FIX_CFG (t : Nat) : Nat := 0x40100108 + 0x40000 * t
def F.TILE_DUC_FIX_CFG_S4_SHIFT (t : Nat) : Fld := ⟨A.TILE_DUC_FIX_CFG t, 3, 3⟩
def F.TILE_DUC_FIX_CFG_S3_SHIFT (t : Nat) : Fld := ⟨A.TILE_DUC_FIX_CFG t, 0, 3⟩
/-- TILE_DDC_FIX_CFG (06_rf_paths.md, R244). -/
def A.TILE_DDC_FIX_CFG (t : Nat) : Nat := 0x40100114 + 0x40000 * t
def F.TILE_DDC_FIX_CFG_S3_SHIFT (t : Nat) : Fld := ⟨A.TILE_DDC_FIX_CFG t, 0, 3⟩
/-- TILE_DUC_S1_COEFi (06_rf_paths.md, R244). -/
def A.TILE_DUC_S1_COEFi (t : Nat) (i : Nat) : Nat := 0x40100400 + 0x40000 * t + 0x4 * i
def F.TILE_DUC_S1_COEFi_COEF (t : Nat) (i : Nat) : Fld := ⟨A.TILE_DUC_S1_COEFi t i, 0, 18⟩
/-- TILE_DUC_S2_COEFi (06_rf_paths.md, R244). -/
def A.TILE_DUC_S2_COEFi (t : Nat) (i : Nat) : Nat := 0x40100600 + 0x40000 * t + 0x4 * i
def F.TILE_DUC_S2_COEFi_COEF (t : Nat) (i : Nat) : Fld := ⟨A.TILE_DUC_S2_COEFi t i, 0, 18⟩
/-- TILE_DDC_S1_COEFi (06_rf_paths.md, R244). -/
def A.TILE_DDC_S1_COEFi (t : Nat) (i : Nat) : Nat := 0x40100800 + 0x40000 * t + 0x4 * i
def F.TILE_DDC_S1_COEFi_COEF (t : Nat) (i : Nat) : Fld := ⟨A.TILE_DDC_S1_COEFi t i, 0, 18⟩
/-- TILE_DDC_S2_COEFi (06_rf_paths.md, R244). -/
def A.TILE_DDC_S2_COEFi (t : Nat) (i : Nat) : Nat := 0x40100A00 + 0x40000 * t + 0x4 * i
def F.TILE_DDC_S2_COEFi_COEF (t : Nat) (i : Nat) : Fld := ⟨A.TILE_DDC_S2_COEFi t i, 0, 18⟩
/-- CARk_CFG (06_rf_paths.md, R244). -/
def A.CARk_CFG (k : Nat) : Nat := 0x40101000 + 0x40 * k
def F.CARk_CFG_EN (k : Nat) : Fld := ⟨A.CARk_CFG k, 31, 1⟩
def F.CARk_CFG_BG (k : Nat) : Fld := ⟨A.CARk_CFG k, 29, 1⟩
def F.CARk_CFG_MU (k : Nat) : Fld := ⟨A.CARk_CFG k, 28, 1⟩
def F.CARk_CFG_PHCOMP (k : Nat) : Fld := ⟨A.CARk_CFG k, 27, 1⟩
def F.CARk_CFG_TAO (k : Nat) : Fld := ⟨A.CARk_CFG k, 25, 2⟩
def F.CARk_CFG_NPRB (k : Nat) : Fld := ⟨A.CARk_CFG k, 16, 9⟩
def F.CARk_CFG_IFFT_SHIFT (k : Nat) : Fld := ⟨A.CARk_CFG k, 12, 4⟩
def F.CARk_CFG_FFT_SHIFT (k : Nat) : Fld := ⟨A.CARk_CFG k, 8, 4⟩
/-- CARk_DL_FTW_LO (06_rf_paths.md, R244). -/
def A.CARk_DL_FTW_LO (k : Nat) : Nat := 0x40101004 + 0x40 * k
def F.CARk_DL_FTW_LO_FTW (k : Nat) : Fld := ⟨A.CARk_DL_FTW_LO k, 0, 32⟩
/-- CARk_DL_FTW_HI (06_rf_paths.md, R244). -/
def A.CARk_DL_FTW_HI (k : Nat) : Nat := 0x40101008 + 0x40 * k
def F.CARk_DL_FTW_HI_FTW (k : Nat) : Fld := ⟨A.CARk_DL_FTW_HI k, 0, 16⟩
/-- CARk_UL_FTW_LO (06_rf_paths.md, R244). -/
def A.CARk_UL_FTW_LO (k : Nat) : Nat := 0x4010100C + 0x40 * k
def F.CARk_UL_FTW_LO_FTW (k : Nat) : Fld := ⟨A.CARk_UL_FTW_LO k, 0, 32⟩
/-- CARk_UL_FTW_HI (06_rf_paths.md, R244). -/
def A.CARk_UL_FTW_HI (k : Nat) : Nat := 0x40101010 + 0x40 * k
def F.CARk_UL_FTW_HI_FTW (k : Nat) : Fld := ⟨A.CARk_UL_FTW_HI k, 0, 16⟩
/-- CARk_GAIN (06_rf_paths.md, R244). -/
def A.CARk_GAIN (k : Nat) : Nat := 0x40101014 + 0x40 * k
def F.CARk_GAIN_DL_GAIN (k : Nat) : Fld := ⟨A.CARk_GAIN k, 0, 16⟩
/-- CARk_UL_WIN (06_rf_paths.md, R244). -/
def A.CARk_UL_WIN (k : Nat) : Nat := 0x40101018 + 0x40 * k
def F.CARk_UL_WIN_WIN (k : Nat) : Fld := ⟨A.CARk_UL_WIN k, 0, 10⟩
/-- CARk_STAT (06_rf_paths.md, R244). -/
def A.CARk_STAT (k : Nat) : Nat := 0x4010101C + 0x40 * k
def F.CARk_STAT_DL_PEND (k : Nat) : Fld := ⟨A.CARk_STAT k, 3, 1⟩
def F.CARk_STAT_UL_PEND (k : Nat) : Fld := ⟨A.CARk_STAT k, 2, 1⟩
def F.CARk_STAT_ACTIVE (k : Nat) : Fld := ⟨A.CARk_STAT k, 1, 1⟩
/-- CARk_SAT (06_rf_paths.md, R244). -/
def A.CARk_SAT (k : Nat) : Nat := 0x40101020 + 0x40 * k
def F.CARk_SAT_COUNT (k : Nat) : Fld := ⟨A.CARk_SAT k, 0, 32⟩

/-- Access rows of the TILE block, part 0. -/
def tileRows0 : List RegRow := [
  ⟨0x40100000, [], 0x0, 0x0, 0x0, 0x0, 0x10000, 0, 1⟩,
  ⟨0x40140000, [], 0x0, 0x0, 0x0, 0x0, 0x10001, 0, 1⟩,
  ⟨0x40180000, [], 0x0, 0x0, 0x0, 0x0, 0x10002, 0, 1⟩,
  ⟨0x401C0000, [], 0x0, 0x0, 0x0, 0x0, 0x10003, 0, 1⟩,
  ⟨0x40100004, [(0x40000, 4)], 0x78, 0x0, 0x80, 0x0, 0x20, 0, 1⟩,
  ⟨0x40100008, [(0x40000, 4)], 0x0, 0x0, 0x0, 0x0, 0x3000000, 0, 1⟩,
  ⟨0x4010000C, [(0x40000, 4)], 0xFFFFFFFF, 0x0, 0x0, 0x0, 0xFFFFFFFF, 0, 1⟩,
  ⟨0x40100010, [(0x40000, 4)], 0x0, 0x0, 0x0, 0x0, 0x0, 0, 1⟩,
  ⟨0x40100014, [(0x40000, 4)], 0xFF, 0x0, 0x0, 0x0, 0x14, 0, 1⟩,
  ⟨0x40100018, [(0x40000, 4)], 0xFFFFFFFF, 0x0, 0x0, 0x0, 0x0, 0, 1⟩,
  ⟨0x4010001C, [(0x40000, 4)], 0x0, 0x0, 0x0, 0x0, 0x0, 0, 1⟩,
  ⟨0x40100020, [(0x40000, 4)], 0xFFFFFFFF, 0x0, 0x0, 0x0, 0x0, 0, 2⟩]
/-- Access rows of the TILE block, part 1. -/
def tileRows1 : List RegRow := [
  ⟨0x40100024, [(0x40000, 4)], 0xFFFF, 0x0, 0x0, 0x0, 0x0, 1, 2⟩,
  ⟨0x40100028, [(0x40000, 4)], 0xFFFFFFFF, 0x0, 0x0, 0x0, 0x0, 0, 2⟩,
  ⟨0x4010002C, [(0x40000, 4)], 0xFFFF, 0x0, 0x0, 0x0, 0x0, 1, 2⟩,
  ⟨0x40100030, [], 0x1, 0x0, 0x0, 0x0, 0x0, 0, 1⟩,
  ⟨0x40100040, [(0x40000, 4)], 0x0, 0x7FF, 0x0, 0x0, 0x0, 0, 1⟩,
  ⟨0x40100044, [(0x40000, 4)], 0x7FF, 0x0, 0x0, 0x0, 0x0, 0, 1⟩,
  ⟨0x40100080, [(0x40000, 4)], 0x0, 0x0, 0x0, 0xFFFFFFFF, 0x0, 0, 1⟩,
  ⟨0x40100084, [(0x40000, 4)], 0x0, 0x0, 0x0, 0xFFFFFFFF, 0x0, 0, 1⟩,
  ⟨0x40100088, [(0x40000, 4)], 0x0, 0x0, 0x0, 0xFFFFFFFF, 0x0, 0, 1⟩,
  ⟨0x4010008C, [(0x40000, 4)], 0x0, 0x0, 0x0, 0xFFFFFFFF, 0x0, 0, 1⟩,
  ⟨0x40100090, [(0x40000, 4)], 0x0, 0x0, 0x0, 0xFFFFFFFF, 0x0, 0, 1⟩,
  ⟨0x40100098, [(0x40000, 4)], 0x0, 0x0, 0x0, 0xFFFFFFFF, 0x0, 0, 2⟩]
/-- Access rows of the TILE block, part 2. -/
def tileRows2 : List RegRow := [
  ⟨0x4010009C, [(0x40000, 4)], 0x0, 0x0, 0x0, 0xFFFFFFFF, 0x0, 1, 2⟩,
  ⟨0x401000A0, [(0x40000, 4)], 0x0, 0x0, 0x0, 0xFFFFFFFF, 0x0, 0, 2⟩,
  ⟨0x401000A4, [(0x40000, 4)], 0x0, 0x0, 0x0, 0xFFFFFFFF, 0x0, 1, 2⟩,
  ⟨0x401000A8, [(0x40000, 4)], 0x0, 0x0, 0x0, 0xFFFFFFFF, 0x0, 0, 2⟩,
  ⟨0x401000AC, [(0x40000, 4)], 0x0, 0x0, 0x0, 0xFFFFFFFF, 0x0, 1, 2⟩,
  ⟨0x40100100, [(0x40000, 4)], 0xFFFFFF00, 0x0, 0x0, 0x0, 0x2F06FA00, 0, 1⟩,
  ⟨0x40100104, [(0x40000, 4)], 0xFFFFFF00, 0x0, 0x0, 0x0, 0xB04BA00, 0, 1⟩,
  ⟨0x4010010C, [(0x40000, 4)], 0xFFFFFF00, 0x0, 0x0, 0x0, 0x2F06FB00, 0, 1⟩,
  ⟨0x40100110, [(0x40000, 4)], 0xFFFFFF00, 0x0, 0x0, 0x0, 0xB04BB00, 0, 1⟩,
  ⟨0x40100108, [(0x40000, 4)], 0x3F, 0x0, 0x0, 0x0, 0x0, 0, 1⟩,
  ⟨0x40100114, [(0x40000, 4)], 0x7, 0x0, 0x0, 0x0, 0x0, 0, 1⟩,
  ⟨0x40100400, [(0x40000, 4), (0x4, 96)], 0x3FFFF, 0x0, 0x0, 0x0, 0x0, 0, 1⟩]
/-- Access rows of the TILE block, part 3. -/
def tileRows3 : List RegRow := [
  ⟨0x40100600, [(0x40000, 4), (0x4, 96)], 0x3FFFF, 0x0, 0x0, 0x0, 0x0, 0, 1⟩,
  ⟨0x40100800, [(0x40000, 4), (0x4, 96)], 0x3FFFF, 0x0, 0x0, 0x0, 0x0, 0, 1⟩,
  ⟨0x40100A00, [(0x40000, 4), (0x4, 96)], 0x3FFFF, 0x0, 0x0, 0x0, 0x0, 0, 1⟩,
  ⟨0x40101000, [(0x40, 8)], 0xBFFFFF00, 0x0, 0x0, 0x0, 0x1B116600, 0, 1⟩,
  ⟨0x40101004, [(0x40, 8)], 0xFFFFFFFF, 0x0, 0x0, 0x0, 0x0, 0, 2⟩,
  ⟨0x40101008, [(0x40, 8)], 0xFFFF, 0x0, 0x0, 0x0, 0x0, 1, 2⟩,
  ⟨0x4010100C, [(0x40, 8)], 0xFFFFFFFF, 0x0, 0x0, 0x0, 0x0, 0, 2⟩,
  ⟨0x40101010, [(0x40, 8)], 0xFFFF, 0x0, 0x0, 0x0, 0x0, 1, 2⟩,
  ⟨0x40101014, [(0x40, 8)], 0xFFFF, 0x0, 0x0, 0x0, 0x4000, 0, 1⟩,
  ⟨0x40101018, [(0x40, 8)], 0x3FF, 0x0, 0x0, 0x0, 0x90, 0, 1⟩,
  ⟨0x4010101C, [(0x40, 8)], 0x0, 0x0, 0x0, 0x0, 0x0, 0, 1⟩,
  ⟨0x40101020, [(0x40, 8)], 0x0, 0x0, 0x0, 0xFFFFFFFF, 0x0, 0, 1⟩]
/-- Access rows of the TILE block. -/
def tileRows : List RegRow := tileRows0 ++ tileRows1 ++ tileRows2 ++ tileRows3

/-- DPD_ID (07_predistortion.md, R281). -/
def A.DPD_ID : Nat := 0x40200000
def F.DPD_ID_MAJOR : Fld := ⟨A.DPD_ID, 8, 8⟩
def F.DPD_ID_MINOR : Fld := ⟨A.DPD_ID, 0, 8⟩
/-- DPD_CAP_CFG (07_predistortion.md, R281). -/
def A.DPD_CAP_CFG : Nat := 0x40200004
def F.DPD_CAP_CFG_FLOOR_DB : Fld := ⟨A.DPD_CAP_CFG, 16, 7⟩
def F.DPD_CAP_CFG_TIMEOUT_MS : Fld := ⟨A.DPD_CAP_CFG, 0, 8⟩
/-- DPD_CAPGEN (07_predistortion.md, R281). -/
def A.DPD_CAPGEN : Nat := 0x40200008
def F.DPD_CAPGEN_TILE3 : Fld := ⟨A.DPD_CAPGEN, 24, 8⟩
def F.DPD_CAPGEN_TILE2 : Fld := ⟨A.DPD_CAPGEN, 16, 8⟩
def F.DPD_CAPGEN_TILE1 : Fld := ⟨A.DPD_CAPGEN, 8, 8⟩
def F.DPD_CAPGEN_TILE0 : Fld := ⟨A.DPD_CAPGEN, 0, 8⟩
/-- DPD_TIE (07_predistortion.md, R281). -/
def A.DPD_TIE : Nat := 0x4020000C
def F.DPD_TIE_COUNT : Fld := ⟨A.DPD_TIE, 0, 32⟩
/-- DPD_PATH_EN_LO (07_predistortion.md, R281). -/
def A.DPD_PATH_EN_LO : Nat := 0x40200010
def F.DPD_PATH_EN_LO_EN : Fld := ⟨A.DPD_PATH_EN_LO, 0, 32⟩
/-- DPD_PATH_EN_HI (07_predistortion.md, R281). -/
def A.DPD_PATH_EN_HI : Nat := 0x40200014
def F.DPD_PATH_EN_HI_EN : Fld := ⟨A.DPD_PATH_EN_HI, 0, 32⟩
/-- DPD_COMMIT_LO (07_predistortion.md, R281). -/
def A.DPD_COMMIT_LO : Nat := 0x40200018
def F.DPD_COMMIT_LO_MASK : Fld := ⟨A.DPD_COMMIT_LO, 0, 32⟩
/-- DPD_COMMIT_HI (07_predistortion.md, R281). -/
def A.DPD_COMMIT_HI : Nat := 0x4020001C
def F.DPD_COMMIT_HI_MASK : Fld := ⟨A.DPD_COMMIT_HI, 0, 32⟩
/-- DPD_PEND_LO (07_predistortion.md, R281). -/
def A.DPD_PEND_LO : Nat := 0x40200020
def F.DPD_PEND_LO_PEND : Fld := ⟨A.DPD_PEND_LO, 0, 32⟩
/-- DPD_PEND_HI (07_predistortion.md, R281). -/
def A.DPD_PEND_HI : Nat := 0x40200024
def F.DPD_PEND_HI_PEND : Fld := ⟨A.DPD_PEND_HI, 0, 32⟩
/-- DPD_LOAD_ADDR (07_predistortion.md, R281). -/
def A.DPD_LOAD_ADDR : Nat := 0x40200028
def F.DPD_LOAD_ADDR_ADDR : Fld := ⟨A.DPD_LOAD_ADDR, 0, 32⟩
/-- DPD_LOAD_CTRL (07_predistortion.md, R281). -/
def A.DPD_LOAD_CTRL : Nat := 0x4020002C
def F.DPD_LOAD_CTRL_COPY : Fld := ⟨A.DPD_LOAD_CTRL, 1, 1⟩
def F.DPD_LOAD_CTRL_DIR : Fld := ⟨A.DPD_LOAD_CTRL, 0, 1⟩
/-- DPD_LOAD_MASK_LO (07_predistortion.md, R281). -/
def A.DPD_LOAD_MASK_LO : Nat := 0x40200030
def F.DPD_LOAD_MASK_LO_MASK : Fld := ⟨A.DPD_LOAD_MASK_LO, 0, 32⟩
/-- DPD_LOAD_MASK_HI (07_predistortion.md, R281). -/
def A.DPD_LOAD_MASK_HI : Nat := 0x40200034
def F.DPD_LOAD_MASK_HI_MASK : Fld := ⟨A.DPD_LOAD_MASK_HI, 0, 32⟩
/-- DPD_LOAD_STAT (07_predistortion.md, R281). -/
def A.DPD_LOAD_STAT : Nat := 0x40200038
def F.DPD_LOAD_STAT_BUSY : Fld := ⟨A.DPD_LOAD_STAT, 31, 1⟩
def F.DPD_LOAD_STAT_ERR_CODE : Fld := ⟨A.DPD_LOAD_STAT, 8, 8⟩
def F.DPD_LOAD_STAT_ERR_PATH : Fld := ⟨A.DPD_LOAD_STAT, 0, 6⟩
/-- DPD_INT_STAT (07_predistortion.md, R281). -/
def A.DPD_INT_STAT : Nat := 0x40200040
def F.DPD_INT_STAT_TBL_UE : Fld := ⟨A.DPD_INT_STAT, 9, 1⟩
def F.DPD_INT_STAT_ORX_CLIP : Fld := ⟨A.DPD_INT_STAT, 8, 1⟩
def F.DPD_INT_STAT_SAT : Fld := ⟨A.DPD_INT_STAT, 7, 1⟩
def F.DPD_INT_STAT_CMD_ERR : Fld := ⟨A.DPD_INT_STAT, 6, 1⟩
def F.DPD_INT_STAT_CAP_TIMEOUT : Fld := ⟨A.DPD_INT_STAT, 5, 1⟩
def F.DPD_INT_STAT_CAP_DONE : Fld := ⟨A.DPD_INT_STAT, 4, 1⟩
def F.DPD_INT_STAT_LOAD_ERR : Fld := ⟨A.DPD_INT_STAT, 3, 1⟩
def F.DPD_INT_STAT_LOAD_DONE : Fld := ⟨A.DPD_INT_STAT, 2, 1⟩
def F.DPD_INT_STAT_STALE : Fld := ⟨A.DPD_INT_STAT, 1, 1⟩
def F.DPD_INT_STAT_SWITCHED : Fld := ⟨A.DPD_INT_STAT, 0, 1⟩
/-- DPD_INT_EN (07_predistortion.md, R281). -/
def A.DPD_INT_EN : Nat := 0x40200044
/-- DPD_STALE_CNT (07_predistortion.md, R281). -/
def A.DPD_STALE_CNT : Nat := 0x40200050
def F.DPD_STALE_CNT_COUNT : Fld := ⟨A.DPD_STALE_CNT, 0, 32⟩
/-- DPD_CMD_ERR (07_predistortion.md, R281). -/
def A.DPD_CMD_ERR : Nat := 0x40200054
def F.DPD_CMD_ERR_COUNT : Fld := ⟨A.DPD_CMD_ERR, 0, 32⟩
/-- DPD_LOAD_ERR (07_predistortion.md, R281). -/
def A.DPD_LOAD_ERR : Nat := 0x40200058
def F.DPD_LOAD_ERR_COUNT : Fld := ⟨A.DPD_LOAD_ERR, 0, 32⟩
/-- DPD_CAP_CNT (07_predistortion.md, R281). -/
def A.DPD_CAP_CNT : Nat := 0x4020005C
def F.DPD_CAP_CNT_COUNT : Fld := ⟨A.DPD_CAP_CNT, 0, 32⟩
/-- DPD_ORXr_CTRL (07_predistortion.md, R281). -/
def A.DPD_ORXr_CTRL (r : Nat) : Nat := 0x40200100 + 0x20 * r
def F.DPD_ORXr_CTRL_EN (r : Nat) : Fld := ⟨A.DPD_ORXr_CTRL r, 31, 1⟩
def F.DPD_ORXr_CTRL_SETTLE (r : Nat) : Fld := ⟨A.DPD_ORXr_CTRL r, 8, 8⟩
def F.DPD_ORXr_CTRL_ATT (r : Nat) : Fld := ⟨A.DPD_ORXr_CTRL r, 0, 5⟩
/-- DPD_ORXr_LAG (07_predistortion.md, R281). -/
def A.DPD_ORXr_LAG (r : Nat) : Nat := 0x40200104 + 0x20 * r
def F.DPD_ORXr_LAG_LAG (r : Nat) : Fld := ⟨A.DPD_ORXr_LAG r, 0, 10⟩
/-- DPD_ORXr_STAT (07_predistortion.md, R281). -/
def A.DPD_ORXr_STAT (r : Nat) : Nat := 0x40200108 + 0x20 * r
def F.DPD_ORXr_STAT_BUSY (r : Nat) : Fld := ⟨A.DPD_ORXr_STAT r, 31, 1⟩
def F.DPD_ORXr_STAT_SEL (r : Nat) : Fld := ⟨A.DPD_ORXr_STAT r, 28, 3⟩
def F.DPD_ORXr_STAT_QCOUNT (r : Nat) : Fld := ⟨A.DPD_ORXr_STAT r, 16, 5⟩
def F.DPD_ORXr_STAT_DCOUNT (r : Nat) : Fld := ⟨A.DPD_ORXr_STAT r, 0, 5⟩
/-- DPD_ORXr_REQ_LO (07_predistortion.md, R281). -/
def A.DPD_ORXr_REQ_LO (r : Nat) : Nat := 0x4020010C + 0x20 * r
def F.DPD_ORXr_REQ_LO_OWNER (r : Nat) : Fld := ⟨A.DPD_ORXr_REQ_LO r, 31, 1⟩
def F.DPD_ORXr_REQ_LO_SEL (r : Nat) : Fld := ⟨A.DPD_ORXr_REQ_LO r, 28, 3⟩
def F.DPD_ORXr_REQ_LO_TRIG (r : Nat) : Fld := ⟨A.DPD_ORXr_REQ_LO r, 26, 2⟩
def F.DPD_ORXr_REQ_LO_TAG (r : Nat) : Fld := ⟨A.DPD_ORXr_REQ_LO r, 16, 8⟩
def F.DPD_ORXr_REQ_LO_DELAY (r : Nat) : Fld := ⟨A.DPD_ORXr_REQ_LO r, 0, 16⟩
/-- DPD_ORXr_REQ_HI (07_predistortion.md, R281). -/
def A.DPD_ORXr_REQ_HI (r : Nat) : Nat := 0x40200110 + 0x20 * r
def F.DPD_ORXr_REQ_HI_DEST (r : Nat) : Fld := ⟨A.DPD_ORXr_REQ_HI r, 0, 32⟩
/-- DPD_ORXr_DONE_LO (07_predistortion.md, R281). -/
def A.DPD_ORXr_DONE_LO (r : Nat) : Nat := 0x40200114 + 0x20 * r
def F.DPD_ORXr_DONE_LO_FLAGS (r : Nat) : Fld := ⟨A.DPD_ORXr_DONE_LO r, 24, 8⟩
def F.DPD_ORXr_DONE_LO_TAG (r : Nat) : Fld := ⟨A.DPD_ORXr_DONE_LO r, 16, 8⟩
def F.DPD_ORXr_DONE_LO_VALID (r : Nat) : Fld := ⟨A.DPD_ORXr_DONE_LO r, 15, 1⟩
def F.DPD_ORXr_DONE_LO_OWNER (r : Nat) : Fld := ⟨A.DPD_ORXr_DONE_LO r, 14, 1⟩
def F.DPD_ORXr_DONE_LO_SEL (r : Nat) : Fld := ⟨A.DPD_ORXr_DONE_LO r, 11, 3⟩
/-- DPD_ORXr_DONE_HI (07_predistortion.md, R281). -/
def A.DPD_ORXr_DONE_HI (r : Nat) : Nat := 0x40200118 + 0x20 * r
def F.DPD_ORXr_DONE_HI_DEST (r : Nat) : Fld := ⟨A.DPD_ORXr_DONE_HI r, 0, 32⟩
/-- DPD_Pn_STAT (07_predistortion.md, R281). -/
def A.DPD_Pn_STAT (n : Nat) : Nat := 0x40200400 + 0x10 * n
def F.DPD_Pn_STAT_ACT (n : Nat) : Fld := ⟨A.DPD_Pn_STAT n, 31, 1⟩
def F.DPD_Pn_STAT_PEND (n : Nat) : Fld := ⟨A.DPD_Pn_STAT n, 30, 1⟩
def F.DPD_Pn_STAT_UE_BYPASS (n : Nat) : Fld := ⟨A.DPD_Pn_STAT n, 29, 1⟩
def F.DPD_Pn_STAT_ACT_TAG (n : Nat) : Fld := ⟨A.DPD_Pn_STAT n, 8, 8⟩
def F.DPD_Pn_STAT_SHD_TAG (n : Nat) : Fld := ⟨A.DPD_Pn_STAT n, 0, 8⟩
/-- DPD_Pn_QUAL (07_predistortion.md, R281). -/
def A.DPD_Pn_QUAL (n : Nat) : Nat := 0x40200404 + 0x10 * n
def F.DPD_Pn_QUAL_ACLR (n : Nat) : Fld := ⟨A.DPD_Pn_QUAL n, 16, 16⟩
def F.DPD_Pn_QUAL_EVM (n : Nat) : Fld := ⟨A.DPD_Pn_QUAL n, 0, 16⟩
/-- DPD_Pn_SAT (07_predistortion.md, R281). -/
def A.DPD_Pn_SAT (n : Nat) : Nat := 0x40200408 + 0x10 * n
def F.DPD_Pn_SAT_COUNT (n : Nat) : Fld := ⟨A.DPD_Pn_SAT n, 0, 32⟩
/-- DPD_Pn_PEAK (07_predistortion.md, R281). -/
def A.DPD_Pn_PEAK (n : Nat) : Nat := 0x4020040C + 0x10 * n
def F.DPD_Pn_PEAK_PEAK (n : Nat) : Fld := ⟨A.DPD_Pn_PEAK n, 0, 16⟩

/-- Access rows of the DPD block, part 0. -/
def dpdRows0 : List RegRow := [
  ⟨0x40200000, [], 0x0, 0x0, 0x0, 0x0, 0x100, 0, 1⟩,
  ⟨0x40200004, [], 0x7F00FF, 0x0, 0x0, 0x0, 0x1E0014, 0, 1⟩,
  ⟨0x40200008, [], 0x0, 0x0, 0x0, 0x0, 0x0, 0, 1⟩,
  ⟨0x4020000C, [], 0x0, 0x0, 0x0, 0xFFFFFFFF, 0x0, 0, 1⟩,
  ⟨0x40200010, [], 0xFFFFFFFF, 0x0, 0x0, 0x0, 0x0, 0, 2⟩,
  ⟨0x40200014, [], 0xFFFFFFFF, 0x0, 0x0, 0x0, 0x0, 1, 2⟩,
  ⟨0x40200018, [], 0x0, 0x0, 0x0, 0x0, 0x0, 0, 2⟩,
  ⟨0x4020001C, [], 0x0, 0x0, 0x0, 0x0, 0x0, 1, 2⟩,
  ⟨0x40200020, [], 0x0, 0x0, 0x0, 0x0, 0x0, 0, 2⟩,
  ⟨0x40200024, [], 0x0, 0x0, 0x0, 0x0, 0x0, 1, 2⟩,
  ⟨0x40200028, [], 0xFFFFFFFF, 0x0, 0x0, 0x0, 0x0, 0, 1⟩,
  ⟨0x4020002C, [], 0x3, 0x0, 0x0, 0x0, 0x0, 0, 1⟩]
/-- Access rows of the DPD block, part 1. -/
def dpdRows1 : List RegRow := [
  ⟨0x40200030, [], 0x0, 0x0, 0x0, 0x0, 0x0, 0, 2⟩,
  ⟨0x40200034, [], 0x0, 0x0, 0x0, 0x0, 0x0, 1, 2⟩,
  ⟨0x40200038, [], 0x0, 0x0, 0x0, 0x0, 0x0, 0, 1⟩,
  ⟨0x40200040, [], 0x0, 0x3FF, 0x0, 0x0, 0x0, 0, 1⟩,
  ⟨0x40200044, [], 0x3FF, 0x0, 0x0, 0x0, 0x0, 0, 1⟩,
  ⟨0x40200050, [], 0x0, 0x0, 0x0, 0xFFFFFFFF, 0x0, 0, 1⟩,
  ⟨0x40200054, [], 0x0, 0x0, 0x0, 0xFFFFFFFF, 0x0, 0, 1⟩,
  ⟨0x40200058, [], 0x0, 0x0, 0x0, 0xFFFFFFFF, 0x0, 0, 1⟩,
  ⟨0x4020005C, [], 0x0, 0x0, 0x0, 0xFFFFFFFF, 0x0, 0, 1⟩,
  ⟨0x40200100, [(0x20, 8)], 0x8000FF1F, 0x0, 0x0, 0x0, 0xA0A, 0, 1⟩,
  ⟨0x40200104, [(0x20, 8)], 0x3FF, 0x0, 0x0, 0x0, 0x0, 0, 1⟩,
  ⟨0x40200108, [(0x20, 8)], 0x0, 0x0, 0x0, 0x0, 0x0, 0, 1⟩]
/-- Access rows of the DPD block, part 2. -/
def dpdRows2 : List RegRow := [
  ⟨0x4020010C, [(0x20, 8)], 0x0, 0x0, 0x0, 0x0, 0x0, 0, 2⟩,
  ⟨0x40200110, [(0x20, 8)], 0x0, 0x0, 0x0, 0x0, 0x0, 1, 2⟩,
  ⟨0x40200114, [(0x20, 8)], 0x0, 0x0, 0x0, 0x0, 0x0, 0, 2⟩,
  ⟨0x40200118, [(0x20, 8)], 0x0, 0x0, 0x0, 0x0, 0x0, 1, 2⟩,
  ⟨0x40200400, [(0x10, 64)], 0x0, 0x0, 0x0, 0x0, 0x0, 0, 1⟩,
  ⟨0x40200404, [(0x10, 64)], 0xFFFFFFFF, 0x0, 0x0, 0x0, 0x0, 0, 1⟩,
  ⟨0x40200408, [(0x10, 64)], 0x0, 0x0, 0x0, 0xFFFFFFFF, 0x0, 0, 1⟩,
  ⟨0x4020040C, [(0x10, 64)], 0x0, 0x0, 0x0, 0xFFFF, 0x0, 0, 1⟩]
/-- Access rows of the DPD block. -/
def dpdRows : List RegRow := dpdRows0 ++ dpdRows1 ++ dpdRows2

/-- CAL_ID (08_calibration.md, R306). -/
def A.CAL_ID : Nat := 0x40210000
def F.CAL_ID_MAJOR : Fld := ⟨A.CAL_ID, 8, 8⟩
def F.CAL_ID_MINOR : Fld := ⟨A.CAL_ID, 0, 8⟩
/-- CAL_CTRL (08_calibration.md, R306). -/
def A.CAL_CTRL : Nat := 0x40210004
def F.CAL_CTRL_RECIP_EN : Fld := ⟨A.CAL_CTRL, 12, 1⟩
def F.CAL_CTRL_SKEW_EN : Fld := ⟨A.CAL_CTRL, 8, 4⟩
def F.CAL_CTRL_ENG_EN : Fld := ⟨A.CAL_CTRL, 0, 4⟩
/-- CAL_ADEQ (08_calibration.md, R306). -/
def A.CAL_ADEQ : Nat := 0x40210008
def F.CAL_ADEQ_MIN_OCC : Fld := ⟨A.CAL_ADEQ, 24, 8⟩
def F.CAL_ADEQ_ETA_MIN : Fld := ⟨A.CAL_ADEQ, 16, 8⟩
def F.CAL_ADEQ_PWR_MAX : Fld := ⟨A.CAL_ADEQ, 8, 8⟩
def F.CAL_ADEQ_PWR_MIN : Fld := ⟨A.CAL_ADEQ, 0, 8⟩
/-- CAL_DWELL (08_calibration.md, R306). -/
def A.CAL_DWELL : Nat := 0x4021000C
def F.CAL_DWELL_STARVE_MS : Fld := ⟨A.CAL_DWELL, 16, 16⟩
def F.CAL_DWELL_DWELL_MS : Fld := ⟨A.CAL_DWELL, 0, 16⟩
/-- CAL_LOOP (08_calibration.md, R306). -/
def A.CAL_LOOP : Nat := 0x40210010
def F.CAL_LOOP_MAX_STEP : Fld := ⟨A.CAL_LOOP, 16, 8⟩
def F.CAL_LOOP_MIN_LOG2N : Fld := ⟨A.CAL_LOOP, 8, 5⟩
def F.CAL_LOOP_MU : Fld := ⟨A.CAL_LOOP, 0, 3⟩
/-- CAL_INT_STAT (08_calibration.md, R306). -/
def A.CAL_INT_STAT : Nat := 0x40210014
def F.CAL_INT_STAT_MON_DONE : Fld := ⟨A.CAL_INT_STAT, 9, 1⟩
def F.CAL_INT_STAT_RECIP_SWAP : Fld := ⟨A.CAL_INT_STAT, 8, 1⟩
def F.CAL_INT_STAT_RECIP_DONE : Fld := ⟨A.CAL_INT_STAT, 7, 1⟩
def F.CAL_INT_STAT_BASE_ERR : Fld := ⟨A.CAL_INT_STAT, 6, 1⟩
def F.CAL_INT_STAT_CMD_ERR : Fld := ⟨A.CAL_INT_STAT, 5, 1⟩
def F.CAL_INT_STAT_TRIM_RAIL : Fld := ⟨A.CAL_INT_STAT, 4, 1⟩
def F.CAL_INT_STAT_SKEW_BLIND : Fld := ⟨A.CAL_INT_STAT, 3, 1⟩
def F.CAL_INT_STAT_STARVED : Fld := ⟨A.CAL_INT_STAT, 2, 1⟩
def F.CAL_INT_STAT_DEFERRED : Fld := ⟨A.CAL_INT_STAT, 1, 1⟩
def F.CAL_INT_STAT_APPLIED : Fld := ⟨A.CAL_INT_STAT, 0, 1⟩
/-- CAL_INT_EN (08_calibration.md, R306). -/
def A.CAL_INT_EN : Nat := 0x40210018
/-- CAL_TIE (08_calibration.md, R306). -/
def A.CAL_TIE : Nat := 0x4021001C
def F.CAL_TIE_COUNT : Fld := ⟨A.CAL_TIE, 0, 32⟩
/-- CAL_CMD_ERR (08_calibration.md, R306). -/
def A.CAL_CMD_ERR : Nat := 0x40210020
def F.CAL_CMD_ERR_COUNT : Fld := ⟨A.CAL_CMD_ERR, 0, 32⟩
/-- CAL_MON (08_calibration.md, R306). -/
def A.CAL_MON : Nat := 0x40210024
def F.CAL_MON_BUSY : Fld := ⟨A.CAL_MON, 4, 2⟩
def F.CAL_MON_PEND : Fld := ⟨A.CAL_MON, 2, 2⟩
def F.CAL_MON_START : Fld := ⟨A.CAL_MON, 0, 2⟩
/-- CAL_RECIP_CFG (08_calibration.md, R306). -/
def A.CAL_RECIP_CFG : Nat := 0x40210028
def F.CAL_RECIP_CFG_SWAP_PEND : Fld := ⟨A.CAL_RECIP_CFG, 20, 1⟩
def F.CAL_RECIP_CFG_SWAP : Fld := ⟨A.CAL_RECIP_CFG, 19, 1⟩
def F.CAL_RECIP_CFG_BUSY : Fld := ⟨A.CAL_RECIP_CFG, 18, 1⟩
def F.CAL_RECIP_CFG_RUN : Fld := ⟨A.CAL_RECIP_CFG, 17, 1⟩
def F.CAL_RECIP_CFG_WIN_US : Fld := ⟨A.CAL_RECIP_CFG, 8, 8⟩
def F.CAL_RECIP_CFG_REF : Fld := ⟨A.CAL_RECIP_CFG, 0, 6⟩
/-- CAL_RECIP_STAT (08_calibration.md, R306). -/
def A.CAL_RECIP_STAT : Nat := 0x4021002C
def F.CAL_RECIP_STAT_WINDOWS : Fld := ⟨A.CAL_RECIP_STAT, 8, 8⟩
def F.CAL_RECIP_STAT_BURSTS : Fld := ⟨A.CAL_RECIP_STAT, 0, 5⟩
/-- CAL_RECIP_CNT (08_calibration.md, R306). -/
def A.CAL_RECIP_CNT : Nat := 0x40210030
def F.CAL_RECIP_CNT_COUNT : Fld := ⟨A.CAL_RECIP_CNT, 0, 32⟩
/-- CAL_Tt_CMD (08_calibration.md, R306). -/
def A.CAL_Tt_CMD (t : Nat) : Nat := 0x40210100 + 0x40 * t
def F.CAL_Tt_CMD_HOLD (t : Nat) : Fld := ⟨A.CAL_Tt_CMD t, 2, 1⟩
def F.CAL_Tt_CMD_ABORT (t : Nat) : Fld := ⟨A.CAL_Tt_CMD t, 1, 1⟩
def F.CAL_Tt_CMD_COMMIT (t : Nat) : Fld := ⟨A.CAL_Tt_CMD t, 0, 1⟩
/-- CAL_Tt_STAT (08_calibration.md, R306). -/
def A.CAL_Tt_STAT (t : Nat) : Nat := 0x40210104 + 0x40 * t
def F.CAL_Tt_STAT_STATE (t : Nat) : Fld := ⟨A.CAL_Tt_STAT t, 31, 1⟩
def F.CAL_Tt_STAT_BY_ENG (t : Nat) : Fld := ⟨A.CAL_Tt_STAT t, 30, 1⟩
def F.CAL_Tt_STAT_STARVED (t : Nat) : Fld := ⟨A.CAL_Tt_STAT t, 0, 16⟩
/-- CAL_Tt_VER (08_calibration.md, R306). -/
def A.CAL_Tt_VER (t : Nat) : Nat := 0x40210108 + 0x40 * t
def F.CAL_Tt_VER_VER (t : Nat) : Fld := ⟨A.CAL_Tt_VER t, 0, 16⟩
/-- CAL_Tt_EPOCH_CNT (08_calibration.md, R306). -/
def A.CAL_Tt_EPOCH_CNT (t : Nat) : Nat := 0x4021010C + 0x40 * t
def F.CAL_Tt_EPOCH_CNT_COUNT (t : Nat) : Fld := ⟨A.CAL_Tt_EPOCH_CNT t, 0, 32⟩
/-- CAL_Tt_DEFER_CNT (08_calibration.md, R306). -/
def A.CAL_Tt_DEFER_CNT (t : Nat) : Nat := 0x40210110 + 0x40 * t
def F.CAL_Tt_DEFER_CNT_COUNT (t : Nat) : Fld := ⟨A.CAL_Tt_DEFER_CNT t, 0, 32⟩
/-- CAL_Tt_BLIND (08_calibration.md, R306). -/
def A.CAL_Tt_BLIND (t : Nat) : Nat := 0x40210114 + 0x40 * t
def F.CAL_Tt_BLIND_SKEW_BLIND (t : Nat) : Fld := ⟨A.CAL_Tt_BLIND t, 0, 16⟩
/-- CAL_Tt_ETA (08_calibration.md, R306). -/
def A.CAL_Tt_ETA (t : Nat) : Nat := 0x40210118 + 0x40 * t
def F.CAL_Tt_ETA_FBAR_MHZ (t : Nat) : Fld := ⟨A.CAL_Tt_ETA t, 16, 16⟩
def F.CAL_Tt_ETA_ETA (t : Nat) : Fld := ⟨A.CAL_Tt_ETA t, 0, 8⟩
/-- CAL_Pp_STAT (08_calibration.md, R306). -/
def A.CAL_Pp_STAT (p : Nat) : Nat := 0x40210400 + 0x4 * p
def F.CAL_Pp_STAT_STARVED (p : Nat) : Fld := ⟨A.CAL_Pp_STAT p, 31, 1⟩
def F.CAL_Pp_STAT_SKEW_BLIND (p : Nat) : Fld := ⟨A.CAL_Pp_STAT p, 30, 1⟩
def F.CAL_Pp_STAT_RAIL (p : Nat) : Fld := ⟨A.CAL_Pp_STAT p, 29, 1⟩
def F.CAL_Pp_STAT_WHY (p : Nat) : Fld := ⟨A.CAL_Pp_STAT p, 24, 3⟩
def F.CAL_Pp_STAT_OCC (p : Nat) : Fld := ⟨A.CAL_Pp_STAT p, 16, 8⟩
def F.CAL_Pp_STAT_UPDATES (p : Nat) : Fld := ⟨A.CAL_Pp_STAT p, 0, 16⟩
/-- CAL_RECIP_ACT (08_calibration.md, R306). -/
def A.CAL_RECIP_ACT (n : Nat) (b : Nat) : Nat := 0x4021D000 + 0x40 * n + 0x4 * b
def F.CAL_RECIP_ACT_I (n : Nat) (b : Nat) : Fld := ⟨A.CAL_RECIP_ACT n b, 16, 16⟩
def F.CAL_RECIP_ACT_Q (n : Nat) (b : Nat) : Fld := ⟨A.CAL_RECIP_ACT n b, 0, 16⟩
/-- CAL_RECIP_STG (08_calibration.md, R306). -/
def A.CAL_RECIP_STG (n : Nat) (b : Nat) : Nat := 0x4021E000 + 0x40 * n + 0x4 * b
def F.CAL_RECIP_STG_I (n : Nat) (b : Nat) : Fld := ⟨A.CAL_RECIP_STG n b, 16, 16⟩
def F.CAL_RECIP_STG_Q (n : Nat) (b : Nat) : Fld := ⟨A.CAL_RECIP_STG n b, 0, 16⟩
/-- CAL_ACT_ADC (08_calibration.md, R306). -/
def A.CAL_ACT_ADC (t : Nat) (i : Nat) (m : Nat) : Nat := 0x40211000 + 0x1000 * t + 0x40 * i + 0x4 * m
def F.CAL_ACT_ADC_OFFSET (t : Nat) (i : Nat) (m : Nat) : Fld := ⟨A.CAL_ACT_ADC t i m, 20, 10⟩
def F.CAL_ACT_ADC_GAIN (t : Nat) (i : Nat) (m : Nat) : Fld := ⟨A.CAL_ACT_ADC t i m, 10, 10⟩
def F.CAL_ACT_ADC_SKEW (t : Nat) (i : Nat) (m : Nat) : Fld := ⟨A.CAL_ACT_ADC t i m, 0, 10⟩
/-- CAL_ACT_DAC (08_calibration.md, R306). -/
def A.CAL_ACT_DAC (t : Nat) (i : Nat) (s : Nat) : Nat := 0x40211400 + 0x1000 * t + 0x10 * i + 0x4 * s
def F.CAL_ACT_DAC_GAIN (t : Nat) (i : Nat) (s : Nat) : Fld := ⟨A.CAL_ACT_DAC t i s, 10, 10⟩
def F.CAL_ACT_DAC_SKEW (t : Nat) (i : Nat) (s : Nat) : Fld := ⟨A.CAL_ACT_DAC t i s, 0, 10⟩
/-- CAL_ACT_AREF (08_calibration.md, R306). -/
def A.CAL_ACT_AREF (t : Nat) (q : Nat) : Nat := 0x40211500 + 0x1000 * t + 0x4 * q
def F.CAL_ACT_AREF_REF (t : Nat) (q : Nat) : Fld := ⟨A.CAL_ACT_AREF t q, 0, 10⟩
/-- CAL_ACT_DREF (08_calibration.md, R306). -/
def A.CAL_ACT_DREF (t : Nat) (q : Nat) : Nat := 0x40211510 + 0x1000 * t + 0x4 * q
def F.CAL_ACT_DREF_REF (t : Nat) (q : Nat) : Fld := ⟨A.CAL_ACT_DREF t q, 0, 10⟩
/-- CAL_STG_ADC (08_calibration.md, R306). -/
def A.CAL_STG_ADC (t : Nat) (i : Nat) (m : Nat) : Nat := 0x40215000 + 0x1000 * t + 0x40 * i + 0x4 * m
def F.CAL_STG_ADC_OFFSET (t : Nat) (i : Nat) (m : Nat) : Fld := ⟨A.CAL_STG_ADC t i m, 20, 10⟩
def F.CAL_STG_ADC_GAIN (t : Nat) (i : Nat) (m : Nat) : Fld := ⟨A.CAL_STG_ADC t i m, 10, 10⟩
def F.CAL_STG_ADC_SKEW (t : Nat) (i : Nat) (m : Nat) : Fld := ⟨A.CAL_STG_ADC t i m, 0, 10⟩
/-- CAL_STG_DAC (08_calibration.md, R306). -/
def A.CAL_STG_DAC (t : Nat) (i : Nat) (s : Nat) : Nat := 0x40215400 + 0x1000 * t + 0x10 * i + 0x4 * s
def F.CAL_STG_DAC_GAIN (t : Nat) (i : Nat) (s : Nat) : Fld := ⟨A.CAL_STG_DAC t i s, 10, 10⟩
def F.CAL_STG_DAC_SKEW (t : Nat) (i : Nat) (s : Nat) : Fld := ⟨A.CAL_STG_DAC t i s, 0, 10⟩
/-- CAL_STG_AREF (08_calibration.md, R306). -/
def A.CAL_STG_AREF (t : Nat) (q : Nat) : Nat := 0x40215500 + 0x1000 * t + 0x4 * q
def F.CAL_STG_AREF_REF (t : Nat) (q : Nat) : Fld := ⟨A.CAL_STG_AREF t q, 0, 10⟩
/-- CAL_STG_DREF (08_calibration.md, R306). -/
def A.CAL_STG_DREF (t : Nat) (q : Nat) : Nat := 0x40215510 + 0x1000 * t + 0x4 * q
def F.CAL_STG_DREF_REF (t : Nat) (q : Nat) : Fld := ⟨A.CAL_STG_DREF t q, 0, 10⟩
/-- CAL_BASE_ADC (08_calibration.md, R306). -/
def A.CAL_BASE_ADC (t : Nat) (i : Nat) (m : Nat) : Nat := 0x40219000 + 0x1000 * t + 0x40 * i + 0x4 * m
def F.CAL_BASE_ADC_OFFSET (t : Nat) (i : Nat) (m : Nat) : Fld := ⟨A.CAL_BASE_ADC t i m, 20, 10⟩
def F.CAL_BASE_ADC_GAIN (t : Nat) (i : Nat) (m : Nat) : Fld := ⟨A.CAL_BASE_ADC t i m, 10, 10⟩
def F.CAL_BASE_ADC_SKEW (t : Nat) (i : Nat) (m : Nat) : Fld := ⟨A.CAL_BASE_ADC t i m, 0, 10⟩
/-- CAL_BASE_DAC (08_calibration.md, R306). -/
def A.CAL_BASE_DAC (t : Nat) (i : Nat) (s : Nat) : Nat := 0x40219400 + 0x1000 * t + 0x10 * i + 0x4 * s
def F.CAL_BASE_DAC_GAIN (t : Nat) (i : Nat) (s : Nat) : Fld := ⟨A.CAL_BASE_DAC t i s, 10, 10⟩
def F.CAL_BASE_DAC_SKEW (t : Nat) (i : Nat) (s : Nat) : Fld := ⟨A.CAL_BASE_DAC t i s, 0, 10⟩
/-- CAL_BASE_AREF (08_calibration.md, R306). -/
def A.CAL_BASE_AREF (t : Nat) (q : Nat) : Nat := 0x40219500 + 0x1000 * t + 0x4 * q
def F.CAL_BASE_AREF_REF (t : Nat) (q : Nat) : Fld := ⟨A.CAL_BASE_AREF t q, 0, 10⟩
/-- CAL_BASE_DREF (08_calibration.md, R306). -/
def A.CAL_BASE_DREF (t : Nat) (q : Nat) : Nat := 0x40219510 + 0x1000 * t + 0x4 * q
def F.CAL_BASE_DREF_REF (t : Nat) (q : Nat) : Fld := ⟨A.CAL_BASE_DREF t q, 0, 10⟩

/-- Access rows of the CAL block, part 0. -/
def calRows0 : List RegRow := [
  ⟨0x40210000, [], 0x0, 0x0, 0x0, 0x0, 0x100, 0, 1⟩,
  ⟨0x40210004, [], 0x1F0F, 0x0, 0x0, 0x0, 0xF00, 0, 1⟩,
  ⟨0x40210008, [], 0xFFFFFFFF, 0x0, 0x0, 0x0, 0x1A33032D, 0, 1⟩,
  ⟨0x4021000C, [], 0xFFFFFFFF, 0x0, 0x0, 0x0, 0x27100064, 0, 1⟩,
  ⟨0x40210010, [], 0xFF1F07, 0x0, 0x0, 0x0, 0x101802, 0, 1⟩,
  ⟨0x40210014, [], 0x0, 0x3FF, 0x0, 0x0, 0x0, 0, 1⟩,
  ⟨0x40210018, [], 0x3FF, 0x0, 0x0, 0x0, 0x0, 0, 1⟩,
  ⟨0x4021001C, [], 0x0, 0x0, 0x0, 0xFFFFFFFF, 0x0, 0, 1⟩,
  ⟨0x40210020, [], 0x0, 0x0, 0x0, 0xFFFFFFFF, 0x0, 0, 1⟩,
  ⟨0x40210024, [], 0x0, 0x0, 0x3, 0x0, 0x0, 0, 1⟩,
  ⟨0x40210028, [], 0xFF3F, 0x0, 0xA0000, 0x0, 0x3C00, 0, 1⟩,
  ⟨0x4021002C, [], 0x0, 0x0, 0x0, 0x0, 0x0, 0, 1⟩]
/-- Access rows of the CAL block, part 1. -/
def calRows1 : List RegRow := [
  ⟨0x40210030, [], 0x0, 0x0, 0x0, 0xFFFFFFFF, 0x0, 0, 1⟩,
  ⟨0x40210100, [(0x40, 4)], 0x4, 0x0, 0x3, 0x0, 0x0, 0, 1⟩,
  ⟨0x40210104, [(0x40, 4)], 0x0, 0x0, 0x0, 0x0, 0x0, 0, 1⟩,
  ⟨0x40210108, [(0x40, 4)], 0x0, 0x0, 0x0, 0x0, 0x0, 0, 1⟩,
  ⟨0x4021010C, [(0x40, 4)], 0x0, 0x0, 0x0, 0xFFFFFFFF, 0x0, 0, 1⟩,
  ⟨0x40210110, [(0x40, 4)], 0x0, 0x0, 0x0, 0xFFFFFFFF, 0x0, 0, 1⟩,
  ⟨0x40210114, [(0x40, 4)], 0x0, 0x0, 0x0, 0x0, 0x0, 0, 1⟩,
  ⟨0x40210118, [(0x40, 4)], 0x0, 0x0, 0x0, 0x0, 0x0, 0, 1⟩,
  ⟨0x40210400, [(0x4, 64)], 0x0, 0x0, 0x0, 0x0, 0x0, 0, 1⟩,
  ⟨0x4021D000, [(0x40, 64), (0x4, 16)], 0x0, 0x0, 0x0, 0x0, 0x20000000, 0, 1⟩,
  ⟨0x4021E000, [(0x40, 64), (0x4, 16)], 0xFFFFFFFF, 0x0, 0x0, 0x0, 0x20000000, 0, 1⟩,
  ⟨0x40211000, [(0x1000, 4), (0x40, 16), (0x4, 16)], 0x0, 0x0, 0x0, 0x0, 0x0, 0, 1⟩]
/-- Access rows of the CAL block, part 2. -/
def calRows2 : List RegRow := [
  ⟨0x40211400, [(0x1000, 4), (0x10, 16), (0x4, 4)], 0x0, 0x0, 0x0, 0x0, 0x0, 0, 1⟩,
  ⟨0x40211500, [(0x1000, 4), (0x4, 4)], 0x0, 0x0, 0x0, 0x0, 0x0, 0, 1⟩,
  ⟨0x40211510, [(0x1000, 4), (0x4, 4)], 0x0, 0x0, 0x0, 0x0, 0x0, 0, 1⟩,
  ⟨0x40215000, [(0x1000, 4), (0x40, 16), (0x4, 16)], 0x3FFFFFFF, 0x0, 0x0, 0x0, 0x0, 0, 1⟩,
  ⟨0x40215400, [(0x1000, 4), (0x10, 16), (0x4, 4)], 0xFFFFF, 0x0, 0x0, 0x0, 0x0, 0, 1⟩,
  ⟨0x40215500, [(0x1000, 4), (0x4, 4)], 0x3FF, 0x0, 0x0, 0x0, 0x0, 0, 1⟩,
  ⟨0x40215510, [(0x1000, 4), (0x4, 4)], 0x3FF, 0x0, 0x0, 0x0, 0x0, 0, 1⟩,
  ⟨0x40219000, [(0x1000, 4), (0x40, 16), (0x4, 16)], 0x0, 0x0, 0x0, 0x0, 0x0, 0, 1⟩,
  ⟨0x40219400, [(0x1000, 4), (0x10, 16), (0x4, 4)], 0x0, 0x0, 0x0, 0x0, 0x0, 0, 1⟩,
  ⟨0x40219500, [(0x1000, 4), (0x4, 4)], 0x0, 0x0, 0x0, 0x0, 0x0, 0, 1⟩,
  ⟨0x40219510, [(0x1000, 4), (0x4, 4)], 0x0, 0x0, 0x0, 0x0, 0x0, 0, 1⟩]
/-- Access rows of the CAL block. -/
def calRows : List RegRow := calRows0 ++ calRows1 ++ calRows2

end Sys2Proof.Machine
end

