-- ==== Sys2Proof/Machine/RegSys.lean ====
section
/-! DEFINITION. Addresses and fields of the SYS, MBOX, LCS, MEMI, BIST, DMA, OBS registers, and their access rows, as the register maps of the spec print them. -/

namespace Sys2Proof.Machine

/-- SYS_ID (13_control_firmware.md, R435). -/
def A.SYS_ID : Nat := 0x40000000
def F.SYS_ID_SILICON : Fld := ⟨A.SYS_ID, 16, 8⟩
def F.SYS_ID_PART : Fld := ⟨A.SYS_ID, 8, 8⟩
def F.SYS_ID_GRADE : Fld := ⟨A.SYS_ID, 0, 1⟩
/-- SYS_STATE (13_control_firmware.md, R435). -/
def A.SYS_STATE : Nat := 0x40000004
def F.SYS_STATE_ACT_PEND : Fld := ⟨A.SYS_STATE, 4, 1⟩
def F.SYS_STATE_STATE : Fld := ⟨A.SYS_STATE, 0, 3⟩
/-- SYS_SAFE_CAUSE (13_control_firmware.md, R435). -/
def A.SYS_SAFE_CAUSE : Nat := 0x40000008
def F.SYS_SAFE_CAUSE_FW : Fld := ⟨A.SYS_SAFE_CAUSE, 4, 1⟩
def F.SYS_SAFE_CAUSE_FAULT : Fld := ⟨A.SYS_SAFE_CAUSE, 3, 1⟩
def F.SYS_SAFE_CAUSE_RAIL : Fld := ⟨A.SYS_SAFE_CAUSE, 2, 1⟩
def F.SYS_SAFE_CAUSE_WDOG : Fld := ⟨A.SYS_SAFE_CAUSE, 1, 1⟩
def F.SYS_SAFE_CAUSE_THERM : Fld := ⟨A.SYS_SAFE_CAUSE, 0, 1⟩
/-- SYS_FUNC_READY (13_control_firmware.md, R435). -/
def A.SYS_FUNC_READY : Nat := 0x4000000C
def F.SYS_FUNC_READY_READY : Fld := ⟨A.SYS_FUNC_READY, 0, 18⟩
/-- SYS_FUNC_CHG (13_control_firmware.md, R435). -/
def A.SYS_FUNC_CHG : Nat := 0x40000010
def F.SYS_FUNC_CHG_CHG : Fld := ⟨A.SYS_FUNC_CHG, 0, 18⟩
/-- SYS_INT_STAT (13_control_firmware.md, R435). -/
def A.SYS_INT_STAT : Nat := 0x40000014
def F.SYS_INT_STAT_WDOG_WARN : Fld := ⟨A.SYS_INT_STAT, 3, 1⟩
def F.SYS_INT_STAT_SAFE : Fld := ⟨A.SYS_INT_STAT, 2, 1⟩
def F.SYS_INT_STAT_STATE : Fld := ⟨A.SYS_INT_STAT, 1, 1⟩
def F.SYS_INT_STAT_FUNC : Fld := ⟨A.SYS_INT_STAT, 0, 1⟩
/-- SYS_INT_EN (13_control_firmware.md, R435). -/
def A.SYS_INT_EN : Nat := 0x40000018
/-- SYS_WDOG_CFG (13_control_firmware.md, R435). -/
def A.SYS_WDOG_CFG : Nat := 0x4000001C
def F.SYS_WDOG_CFG_LOCK : Fld := ⟨A.SYS_WDOG_CFG, 31, 1⟩
def F.SYS_WDOG_CFG_PERIOD : Fld := ⟨A.SYS_WDOG_CFG, 0, 14⟩
/-- SYS_WDOG_KICK (13_control_firmware.md, R435). -/
def A.SYS_WDOG_KICK : Nat := 0x40000020
def F.SYS_WDOG_KICK_KEY : Fld := ⟨A.SYS_WDOG_KICK, 0, 16⟩
/-- SYS_BOOT (13_control_firmware.md, R435). -/
def A.SYS_BOOT : Nat := 0x40000024
def F.SYS_BOOT_CONFIRM : Fld := ⟨A.SYS_BOOT, 31, 1⟩
def F.SYS_BOOT_ATTEMPTS : Fld := ⟨A.SYS_BOOT, 10, 2⟩
def F.SYS_BOOT_CAUSE : Fld := ⟨A.SYS_BOOT, 8, 2⟩
def F.SYS_BOOT_FALLBACK : Fld := ⟨A.SYS_BOOT, 2, 1⟩
def F.SYS_BOOT_SLOT_PREF : Fld := ⟨A.SYS_BOOT, 1, 1⟩
def F.SYS_BOOT_SLOT_RUN : Fld := ⟨A.SYS_BOOT, 0, 1⟩
/-- SYS_TIE (13_control_firmware.md, R435). -/
def A.SYS_TIE : Nat := 0x40000028
def F.SYS_TIE_COUNT : Fld := ⟨A.SYS_TIE, 0, 32⟩
/-- SYS_WDOG_CNT (13_control_firmware.md, R435). -/
def A.SYS_WDOG_CNT : Nat := 0x4000002C
def F.SYS_WDOG_CNT_COUNT : Fld := ⟨A.SYS_WDOG_CNT, 0, 32⟩
/-- SYS_CMD_ERR (13_control_firmware.md, R435). -/
def A.SYS_CMD_ERR : Nat := 0x40000030
def F.SYS_CMD_ERR_COUNT : Fld := ⟨A.SYS_CMD_ERR, 0, 32⟩

/-- Access rows of the SYS block, part 0. -/
def sysRows0 : List RegRow := [
  ⟨0x40000000, [], 0x0, 0x0, 0x0, 0x0, 0x16400, 0, 1⟩,
  ⟨0x40000004, [], 0x7, 0x0, 0x0, 0x0, 0x1, 0, 1⟩,
  ⟨0x40000008, [], 0x0, 0x1F, 0x0, 0x0, 0x0, 0, 1⟩,
  ⟨0x4000000C, [], 0x0, 0x0, 0x0, 0x0, 0x0, 0, 1⟩,
  ⟨0x40000010, [], 0x0, 0x3FFFF, 0x0, 0x0, 0x0, 0, 1⟩,
  ⟨0x40000014, [], 0x0, 0xF, 0x0, 0x0, 0x0, 0, 1⟩,
  ⟨0x40000018, [], 0xF, 0x0, 0x0, 0x0, 0x0, 0, 1⟩,
  ⟨0x4000001C, [], 0x3FFF, 0x0, 0x80000000, 0x0, 0x3E8, 0, 1⟩,
  ⟨0x40000020, [], 0x0, 0x0, 0x0, 0x0, 0x0, 0, 1⟩,
  ⟨0x40000024, [], 0x0, 0x0, 0x80000000, 0x0, 0x0, 0, 1⟩,
  ⟨0x40000028, [], 0x0, 0x0, 0x0, 0xFFFFFFFF, 0x0, 0, 1⟩,
  ⟨0x4000002C, [], 0x0, 0x0, 0x0, 0xFFFFFFFF, 0x0, 0, 1⟩]
/-- Access rows of the SYS block, part 1. -/
def sysRows1 : List RegRow := [
  ⟨0x40000030, [], 0x0, 0x0, 0x0, 0xFFFFFFFF, 0x0, 0, 1⟩]
/-- Access rows of the SYS block. -/
def sysRows : List RegRow := sysRows0 ++ sysRows1

/-- MBOX_ID (13_control_firmware.md, R436). -/
def A.MBOX_ID : Nat := 0x40020000
def F.MBOX_ID_MAJOR : Fld := ⟨A.MBOX_ID, 8, 8⟩
def F.MBOX_ID_MINOR : Fld := ⟨A.MBOX_ID, 0, 8⟩
/-- MBOX_INT_STAT (13_control_firmware.md, R436). -/
def A.MBOX_INT_STAT : Nat := 0x40020004
def F.MBOX_INT_STAT_OUT_SPACE : Fld := ⟨A.MBOX_INT_STAT, 4, 4⟩
def F.MBOX_INT_STAT_IN_AVAIL : Fld := ⟨A.MBOX_INT_STAT, 0, 4⟩
/-- MBOX_INT_EN (13_control_firmware.md, R436). -/
def A.MBOX_INT_EN : Nat := 0x40020008
/-- MBOX_TIE (13_control_firmware.md, R436). -/
def A.MBOX_TIE : Nat := 0x4002000C
def F.MBOX_TIE_COUNT : Fld := ⟨A.MBOX_TIE, 0, 32⟩
/-- MBOX_m_CTRL (13_control_firmware.md, R436). -/
def A.MBOX_m_CTRL (m : Nat) : Nat := 0x40020100 + 0x40 * m
def F.MBOX_m_CTRL_EN (m : Nat) : Fld := ⟨A.MBOX_m_CTRL m, 0, 1⟩
/-- MBOX_m_IN_BASE (13_control_firmware.md, R436). -/
def A.MBOX_m_IN_BASE (m : Nat) : Nat := 0x40020104 + 0x40 * m
def F.MBOX_m_IN_BASE_ADDR (m : Nat) : Fld := ⟨A.MBOX_m_IN_BASE m, 0, 32⟩
/-- MBOX_m_OUT_BASE (13_control_firmware.md, R436). -/
def A.MBOX_m_OUT_BASE (m : Nat) : Nat := 0x40020108 + 0x40 * m
def F.MBOX_m_OUT_BASE_ADDR (m : Nat) : Fld := ⟨A.MBOX_m_OUT_BASE m, 0, 32⟩
/-- MBOX_m_STAT (13_control_firmware.md, R436). -/
def A.MBOX_m_STAT (m : Nat) : Nat := 0x4002010C + 0x40 * m
def F.MBOX_m_STAT_IN_COUNT (m : Nat) : Fld := ⟨A.MBOX_m_STAT m, 28, 4⟩
def F.MBOX_m_STAT_IN_FREE (m : Nat) : Fld := ⟨A.MBOX_m_STAT m, 24, 4⟩
def F.MBOX_m_STAT_OUT_COUNT (m : Nat) : Fld := ⟨A.MBOX_m_STAT m, 20, 4⟩
def F.MBOX_m_STAT_OUT_FREE (m : Nat) : Fld := ⟨A.MBOX_m_STAT m, 16, 4⟩
def F.MBOX_m_STAT_IN_HEAD (m : Nat) : Fld := ⟨A.MBOX_m_STAT m, 8, 3⟩
def F.MBOX_m_STAT_OUT_TAIL (m : Nat) : Fld := ⟨A.MBOX_m_STAT m, 0, 3⟩
/-- MBOX_m_IN_POP (13_control_firmware.md, R436). -/
def A.MBOX_m_IN_POP (m : Nat) : Nat := 0x40020110 + 0x40 * m
/-- MBOX_m_OUT_PUSH (13_control_firmware.md, R436). -/
def A.MBOX_m_OUT_PUSH (m : Nat) : Nat := 0x40020114 + 0x40 * m
def F.MBOX_m_OUT_PUSH_BYTES (m : Nat) : Fld := ⟨A.MBOX_m_OUT_PUSH m, 0, 13⟩
/-- MBOX_m_DROP (13_control_firmware.md, R436). -/
def A.MBOX_m_DROP (m : Nat) : Nat := 0x40020118 + 0x40 * m
def F.MBOX_m_DROP_COUNT (m : Nat) : Fld := ⟨A.MBOX_m_DROP m, 0, 32⟩
/-- MBOX_m_FRAME_ERR (13_control_firmware.md, R436). -/
def A.MBOX_m_FRAME_ERR (m : Nat) : Nat := 0x4002011C + 0x40 * m
def F.MBOX_m_FRAME_ERR_COUNT (m : Nat) : Fld := ⟨A.MBOX_m_FRAME_ERR m, 0, 32⟩

/-- Access rows of the MBOX block, part 0. -/
def mboxRows0 : List RegRow := [
  ⟨0x40020000, [], 0x0, 0x0, 0x0, 0x0, 0x100, 0, 1⟩,
  ⟨0x40020004, [], 0x0, 0xFF, 0x0, 0x0, 0x0, 0, 1⟩,
  ⟨0x40020008, [], 0xFF, 0x0, 0x0, 0x0, 0x0, 0, 1⟩,
  ⟨0x4002000C, [], 0x0, 0x0, 0x0, 0xFFFFFFFF, 0x0, 0, 1⟩,
  ⟨0x40020100, [(0x40, 4)], 0x1, 0x0, 0x0, 0x0, 0x0, 0, 1⟩,
  ⟨0x40020104, [(0x40, 4)], 0xFFFFFFFF, 0x0, 0x0, 0x0, 0x0, 0, 1⟩,
  ⟨0x40020108, [(0x40, 4)], 0xFFFFFFFF, 0x0, 0x0, 0x0, 0x0, 0, 1⟩,
  ⟨0x4002010C, [(0x40, 4)], 0x0, 0x0, 0x0, 0x0, 0x80000, 0, 1⟩,
  ⟨0x40020110, [(0x40, 4)], 0x0, 0x0, 0x0, 0x0, 0x0, 0, 1⟩,
  ⟨0x40020114, [(0x40, 4)], 0x0, 0x0, 0x0, 0x0, 0x0, 0, 1⟩,
  ⟨0x40020118, [(0x40, 4)], 0x0, 0x0, 0x0, 0xFFFFFFFF, 0x0, 0, 1⟩,
  ⟨0x4002011C, [(0x40, 4)], 0x0, 0x0, 0x0, 0xFFFFFFFF, 0x0, 0, 1⟩]
/-- Access rows of the MBOX block. -/
def mboxRows : List RegRow := mboxRows0

/-- LCS_ID (14_life_cycle.md, R456). -/
def A.LCS_ID : Nat := 0x40010000
def F.LCS_ID_MAJOR : Fld := ⟨A.LCS_ID, 8, 8⟩
def F.LCS_ID_MINOR : Fld := ⟨A.LCS_ID, 0, 8⟩
/-- LCS_STATE (14_life_cycle.md, R456). -/
def A.LCS_STATE : Nat := 0x40010004
def F.LCS_STATE_OWNER_OK : Fld := ⟨A.LCS_STATE, 8, 4⟩
def F.LCS_STATE_VENDOR_OK : Fld := ⟨A.LCS_STATE, 5, 3⟩
def F.LCS_STATE_UNLOCK : Fld := ⟨A.LCS_STATE, 4, 1⟩
def F.LCS_STATE_TRANS : Fld := ⟨A.LCS_STATE, 2, 1⟩
def F.LCS_STATE_STATE : Fld := ⟨A.LCS_STATE, 0, 2⟩
/-- LCS_DEVID_i (14_life_cycle.md, R456). -/
def A.LCS_DEVID_i (i : Nat) : Nat := 0x40010010 + 0x4 * i
def F.LCS_DEVID_i_ID (i : Nat) : Fld := ⟨A.LCS_DEVID_i i, 0, 32⟩
/-- LCS_NONCE_i (14_life_cycle.md, R456). -/
def A.LCS_NONCE_i (i : Nat) : Nat := 0x40010020 + 0x4 * i
def F.LCS_NONCE_i_NONCE (i : Nat) : Fld := ⟨A.LCS_NONCE_i i, 0, 32⟩
/-- LCS_SVN (14_life_cycle.md, R456). -/
def A.LCS_SVN : Nat := 0x40010030
def F.LCS_SVN_OWNER : Fld := ⟨A.LCS_SVN, 8, 6⟩
def F.LCS_SVN_VENDOR : Fld := ⟨A.LCS_SVN, 0, 6⟩
/-- LCS_VCTRL (14_life_cycle.md, R456). -/
def A.LCS_VCTRL : Nat := 0x40010040
def F.LCS_VCTRL_START : Fld := ⟨A.LCS_VCTRL, 31, 1⟩
def F.LCS_VCTRL_BUSY : Fld := ⟨A.LCS_VCTRL, 30, 1⟩
def F.LCS_VCTRL_OP : Fld := ⟨A.LCS_VCTRL, 28, 2⟩
/-- LCS_VADDR (14_life_cycle.md, R456). -/
def A.LCS_VADDR : Nat := 0x40010044
def F.LCS_VADDR_ADDR : Fld := ⟨A.LCS_VADDR, 0, 32⟩
/-- LCS_VLEN (14_life_cycle.md, R456). -/
def A.LCS_VLEN : Nat := 0x40010048
def F.LCS_VLEN_LEN : Fld := ⟨A.LCS_VLEN, 0, 32⟩
/-- LCS_VSTAT (14_life_cycle.md, R456). -/
def A.LCS_VSTAT : Nat := 0x4001004C
def F.LCS_VSTAT_RESULT : Fld := ⟨A.LCS_VSTAT, 28, 4⟩
def F.LCS_VSTAT_SIGNER : Fld := ⟨A.LCS_VSTAT, 26, 2⟩
def F.LCS_VSTAT_SLOT : Fld := ⟨A.LCS_VSTAT, 24, 2⟩
def F.LCS_VSTAT_ENTRY : Fld := ⟨A.LCS_VSTAT, 0, 5⟩
/-- LCS_CTRL (14_life_cycle.md, R456). -/
def A.LCS_CTRL : Nat := 0x40010050
def F.LCS_CTRL_LOCK : Fld := ⟨A.LCS_CTRL, 0, 1⟩
/-- LCS_INT_STAT (14_life_cycle.md, R456). -/
def A.LCS_INT_STAT : Nat := 0x40010054
def F.LCS_INT_STAT_FAIL : Fld := ⟨A.LCS_INT_STAT, 1, 1⟩
def F.LCS_INT_STAT_DONE : Fld := ⟨A.LCS_INT_STAT, 0, 1⟩
/-- LCS_INT_EN (14_life_cycle.md, R456). -/
def A.LCS_INT_EN : Nat := 0x40010058
/-- LCS_AUTH_FAIL_CNT (14_life_cycle.md, R456). -/
def A.LCS_AUTH_FAIL_CNT : Nat := 0x4001005C
def F.LCS_AUTH_FAIL_CNT_COUNT : Fld := ⟨A.LCS_AUTH_FAIL_CNT, 0, 32⟩
/-- LCS_MEAS_BL_i (14_life_cycle.md, R456). -/
def A.LCS_MEAS_BL_i (i : Nat) : Nat := 0x40010100 + 0x4 * i
def F.LCS_MEAS_BL_i_DIGEST (i : Nat) : Fld := ⟨A.LCS_MEAS_BL_i i, 0, 32⟩
/-- LCS_MEAS_RT_i (14_life_cycle.md, R456). -/
def A.LCS_MEAS_RT_i (i : Nat) : Nat := 0x40010140 + 0x4 * i
def F.LCS_MEAS_RT_i_DIGEST (i : Nat) : Fld := ⟨A.LCS_MEAS_RT_i i, 0, 32⟩
/-- LCS_RT_VER (14_life_cycle.md, R456). -/
def A.LCS_RT_VER : Nat := 0x40010180
def F.LCS_RT_VER_VERSION : Fld := ⟨A.LCS_RT_VER, 0, 32⟩
/-- LCS_KE_DIGEST (14_life_cycle.md, R456). -/
def A.LCS_KE_DIGEST (e : Nat) (i : Nat) : Nat := 0x40010400 + 0x40 * e + 0x4 * i
def F.LCS_KE_DIGEST_DIGEST (e : Nat) (i : Nat) : Fld := ⟨A.LCS_KE_DIGEST e i, 0, 32⟩
/-- LCS_KE_ID (14_life_cycle.md, R456). -/
def A.LCS_KE_ID (e : Nat) : Nat := 0x40010430 + 0x40 * e
def F.LCS_KE_ID_KERNEL_ID (e : Nat) : Fld := ⟨A.LCS_KE_ID e, 0, 32⟩
/-- LCS_KE_INFO (14_life_cycle.md, R456). -/
def A.LCS_KE_INFO (e : Nat) : Nat := 0x40010434 + 0x40 * e
def F.LCS_KE_INFO_VALID (e : Nat) : Fld := ⟨A.LCS_KE_INFO e, 31, 1⟩
def F.LCS_KE_INFO_SIGNER (e : Nat) : Fld := ⟨A.LCS_KE_INFO e, 30, 1⟩

/-- Access rows of the LCS block, part 0. -/
def lcsRows0 : List RegRow := [
  ⟨0x40010000, [], 0x0, 0x0, 0x0, 0x0, 0x100, 0, 1⟩,
  ⟨0x40010004, [], 0x0, 0x0, 0x0, 0x0, 0x0, 0, 1⟩,
  ⟨0x40010010, [(0x4, 4)], 0x0, 0x0, 0x0, 0x0, 0x0, 0, 1⟩,
  ⟨0x40010020, [], 0x0, 0x0, 0x0, 0x0, 0x0, 0, 4⟩,
  ⟨0x40010024, [], 0x0, 0x0, 0x0, 0x0, 0x0, 1, 4⟩,
  ⟨0x40010028, [], 0x0, 0x0, 0x0, 0x0, 0x0, 2, 4⟩,
  ⟨0x4001002C, [], 0x0, 0x0, 0x0, 0x0, 0x0, 3, 4⟩,
  ⟨0x40010030, [], 0x0, 0x0, 0x0, 0x0, 0x0, 0, 1⟩,
  ⟨0x40010040, [], 0x30000000, 0x0, 0x80000000, 0x0, 0x0, 0, 1⟩,
  ⟨0x40010044, [], 0xFFFFFFFF, 0x0, 0x0, 0x0, 0x0, 0, 1⟩,
  ⟨0x40010048, [], 0xFFFFFFFF, 0x0, 0x0, 0x0, 0x0, 0, 1⟩,
  ⟨0x4001004C, [], 0x0, 0x0, 0x0, 0x0, 0x0, 0, 1⟩]
/-- Access rows of the LCS block, part 1. -/
def lcsRows1 : List RegRow := [
  ⟨0x40010050, [], 0x0, 0x0, 0x1, 0x0, 0x0, 0, 1⟩,
  ⟨0x40010054, [], 0x0, 0x3, 0x0, 0x0, 0x0, 0, 1⟩,
  ⟨0x40010058, [], 0x3, 0x0, 0x0, 0x0, 0x0, 0, 1⟩,
  ⟨0x4001005C, [], 0x0, 0x0, 0x0, 0xFFFFFFFF, 0x0, 0, 1⟩,
  ⟨0x40010100, [(0x4, 12)], 0x0, 0x0, 0x0, 0x0, 0x0, 0, 1⟩,
  ⟨0x40010140, [(0x4, 12)], 0xFFFFFFFF, 0x0, 0x0, 0x0, 0x0, 0, 1⟩,
  ⟨0x40010180, [], 0xFFFFFFFF, 0x0, 0x0, 0x0, 0x0, 0, 1⟩,
  ⟨0x40010400, [(0x40, 32), (0x4, 12)], 0x0, 0x0, 0x0, 0x0, 0x0, 0, 1⟩,
  ⟨0x40010430, [(0x40, 32)], 0x0, 0x0, 0x0, 0x0, 0x0, 0, 1⟩,
  ⟨0x40010434, [(0x40, 32)], 0x0, 0x0, 0x0, 0x0, 0x0, 0, 1⟩]
/-- Access rows of the LCS block. -/
def lcsRows : List RegRow := lcsRows0 ++ lcsRows1

/-- MEMI_ID (15_memory_bist_dma.md, R483). -/
def A.MEMI_ID : Nat := 0x40260000
def F.MEMI_ID_MAJOR : Fld := ⟨A.MEMI_ID, 8, 8⟩
def F.MEMI_ID_MINOR : Fld := ⟨A.MEMI_ID, 0, 8⟩
/-- MEMI_CTRL (15_memory_bist_dma.md, R483). -/
def A.MEMI_CTRL : Nat := 0x40260004
def F.MEMI_CTRL_SCRUB_S : Fld := ⟨A.MEMI_CTRL, 8, 8⟩
def F.MEMI_CTRL_SCRUB_EN : Fld := ⟨A.MEMI_CTRL, 0, 1⟩
/-- MEMI_STAT (15_memory_bist_dma.md, R483). -/
def A.MEMI_STAT : Nat := 0x40260008
def F.MEMI_STAT_RETIRING : Fld := ⟨A.MEMI_STAT, 31, 1⟩
def F.MEMI_STAT_SPARE1 : Fld := ⟨A.MEMI_STAT, 24, 7⟩
def F.MEMI_STAT_SPARE0 : Fld := ⟨A.MEMI_STAT, 16, 7⟩
def F.MEMI_STAT_LOG_COUNT : Fld := ⟨A.MEMI_STAT, 0, 11⟩
/-- MEMI_INT_STAT (15_memory_bist_dma.md, R483). -/
def A.MEMI_INT_STAT : Nat := 0x4026000C
def F.MEMI_INT_STAT_PART_ERR : Fld := ⟨A.MEMI_INT_STAT, 6, 1⟩
def F.MEMI_INT_STAT_BULK_ERR : Fld := ⟨A.MEMI_INT_STAT, 5, 1⟩
def F.MEMI_INT_STAT_RETIRED : Fld := ⟨A.MEMI_INT_STAT, 4, 1⟩
def F.MEMI_INT_STAT_LOG_FULL : Fld := ⟨A.MEMI_INT_STAT, 3, 1⟩
def F.MEMI_INT_STAT_ADDR : Fld := ⟨A.MEMI_INT_STAT, 2, 1⟩
def F.MEMI_INT_STAT_UE : Fld := ⟨A.MEMI_INT_STAT, 1, 1⟩
def F.MEMI_INT_STAT_CE : Fld := ⟨A.MEMI_INT_STAT, 0, 1⟩
/-- MEMI_INT_EN (15_memory_bist_dma.md, R483). -/
def A.MEMI_INT_EN : Nat := 0x40260010
/-- MEMI_CE_CNT (15_memory_bist_dma.md, R483). -/
def A.MEMI_CE_CNT : Nat := 0x40260014
def F.MEMI_CE_CNT_COUNT : Fld := ⟨A.MEMI_CE_CNT, 0, 32⟩
/-- MEMI_UE_CNT (15_memory_bist_dma.md, R483). -/
def A.MEMI_UE_CNT : Nat := 0x40260018
def F.MEMI_UE_CNT_COUNT : Fld := ⟨A.MEMI_UE_CNT, 0, 32⟩
/-- MEMI_ADDR_CNT (15_memory_bist_dma.md, R483). -/
def A.MEMI_ADDR_CNT : Nat := 0x4026001C
def F.MEMI_ADDR_CNT_COUNT : Fld := ⟨A.MEMI_ADDR_CNT, 0, 32⟩
/-- MEMI_LOG_LOST (15_memory_bist_dma.md, R483). -/
def A.MEMI_LOG_LOST : Nat := 0x40260020
def F.MEMI_LOG_LOST_COUNT : Fld := ⟨A.MEMI_LOG_LOST, 0, 32⟩
/-- MEMI_SCRUB_PASS (15_memory_bist_dma.md, R483). -/
def A.MEMI_SCRUB_PASS : Nat := 0x40260024
def F.MEMI_SCRUB_PASS_COUNT : Fld := ⟨A.MEMI_SCRUB_PASS, 0, 32⟩
/-- MEMI_BULK_ERR (15_memory_bist_dma.md, R483). -/
def A.MEMI_BULK_ERR : Nat := 0x40260028
def F.MEMI_BULK_ERR_COUNT : Fld := ⟨A.MEMI_BULK_ERR, 0, 32⟩
/-- MEMI_CMD_ERR (15_memory_bist_dma.md, R483). -/
def A.MEMI_CMD_ERR : Nat := 0x4026002C
def F.MEMI_CMD_ERR_COUNT : Fld := ⟨A.MEMI_CMD_ERR, 0, 32⟩
/-- MEMI_BULK_FLOOR (15_memory_bist_dma.md, R483). -/
def A.MEMI_BULK_FLOOR : Nat := 0x40260030
def F.MEMI_BULK_FLOOR_OFS : Fld := ⟨A.MEMI_BULK_FLOOR, 0, 24⟩
/-- MEMI_CLU_PWR (15_memory_bist_dma.md, R483). -/
def A.MEMI_CLU_PWR : Nat := 0x40260034
def F.MEMI_CLU_PWR_ON : Fld := ⟨A.MEMI_CLU_PWR, 0, 16⟩
/-- MEMI_RETIRE (15_memory_bist_dma.md, R483). -/
def A.MEMI_RETIRE : Nat := 0x40260038
def F.MEMI_RETIRE_PAGE : Fld := ⟨A.MEMI_RETIRE, 0, 15⟩
/-- MEMI_LOG_INFO (15_memory_bist_dma.md, R483). -/
def A.MEMI_LOG_INFO : Nat := 0x40260040
def F.MEMI_LOG_INFO_VALID : Fld := ⟨A.MEMI_LOG_INFO, 31, 1⟩
def F.MEMI_LOG_INFO_CLASS : Fld := ⟨A.MEMI_LOG_INFO, 29, 2⟩
def F.MEMI_LOG_INFO_SRC : Fld := ⟨A.MEMI_LOG_INFO, 24, 5⟩
def F.MEMI_LOG_INFO_SYND : Fld := ⟨A.MEMI_LOG_INFO, 0, 8⟩
/-- MEMI_LOG_ADDR (15_memory_bist_dma.md, R483). -/
def A.MEMI_LOG_ADDR : Nat := 0x40260044
def F.MEMI_LOG_ADDR_WORD : Fld := ⟨A.MEMI_LOG_ADDR, 0, 24⟩
/-- MEMI_LOG_NS (15_memory_bist_dma.md, R483). -/
def A.MEMI_LOG_NS : Nat := 0x40260048
def F.MEMI_LOG_NS_NS : Fld := ⟨A.MEMI_LOG_NS, 0, 32⟩
/-- MEMI_LOG_SEC_LO (15_memory_bist_dma.md, R483). -/
def A.MEMI_LOG_SEC_LO : Nat := 0x4026004C
def F.MEMI_LOG_SEC_LO_SEC : Fld := ⟨A.MEMI_LOG_SEC_LO, 0, 32⟩
/-- MEMI_PART_CTRL (15_memory_bist_dma.md, R483). -/
def A.MEMI_PART_CTRL : Nat := 0x40260080
def F.MEMI_PART_CTRL_COMMIT : Fld := ⟨A.MEMI_PART_CTRL, 0, 1⟩
/-- MEMI_PART_SIZEr (15_memory_bist_dma.md, R483). -/
def A.MEMI_PART_SIZEr (r : Nat) : Nat := 0x40260084 + 0x4 * r
def F.MEMI_PART_SIZEr_UNITS (r : Nat) : Fld := ⟨A.MEMI_PART_SIZEr r, 0, 11⟩
/-- MEMI_PART_BASEr (15_memory_bist_dma.md, R483). -/
def A.MEMI_PART_BASEr (r : Nat) : Nat := 0x402600A0 + 0x4 * r
def F.MEMI_PART_BASEr_ADDR (r : Nat) : Fld := ⟨A.MEMI_PART_BASEr r, 0, 32⟩
/-- MEMI_REMAPi (15_memory_bist_dma.md, R483). -/
def A.MEMI_REMAPi (i : Nat) : Nat := 0x40260200 + 0x4 * i
def F.MEMI_REMAPi_VALID (i : Nat) : Fld := ⟨A.MEMI_REMAPi i, 31, 1⟩
def F.MEMI_REMAPi_PAGE (i : Nat) : Fld := ⟨A.MEMI_REMAPi i, 0, 15⟩

/-- Access rows of the MEMI block, part 0. -/
def memiRows0 : List RegRow := [
  ⟨0x40260000, [], 0x0, 0x0, 0x0, 0x0, 0x100, 0, 1⟩,
  ⟨0x40260004, [], 0xFF01, 0x0, 0x0, 0x0, 0xA01, 0, 1⟩,
  ⟨0x40260008, [], 0x0, 0x0, 0x0, 0x0, 0x40400000, 0, 1⟩,
  ⟨0x4026000C, [], 0x0, 0x7F, 0x0, 0x0, 0x0, 0, 1⟩,
  ⟨0x40260010, [], 0x7F, 0x0, 0x0, 0x0, 0x0, 0, 1⟩,
  ⟨0x40260014, [], 0x0, 0x0, 0x0, 0xFFFFFFFF, 0x0, 0, 1⟩,
  ⟨0x40260018, [], 0x0, 0x0, 0x0, 0xFFFFFFFF, 0x0, 0, 1⟩,
  ⟨0x4026001C, [], 0x0, 0x0, 0x0, 0xFFFFFFFF, 0x0, 0, 1⟩,
  ⟨0x40260020, [], 0x0, 0x0, 0x0, 0xFFFFFFFF, 0x0, 0, 1⟩,
  ⟨0x40260024, [], 0x0, 0x0, 0x0, 0xFFFFFFFF, 0x0, 0, 1⟩,
  ⟨0x40260028, [], 0x0, 0x0, 0x0, 0xFFFFFFFF, 0x0, 0, 1⟩,
  ⟨0x4026002C, [], 0x0, 0x0, 0x0, 0xFFFFFFFF, 0x0, 0, 1⟩]
/-- Access rows of the MEMI block, part 1. -/
def memiRows1 : List RegRow := [
  ⟨0x40260030, [], 0xFFFFFF, 0x0, 0x0, 0x0, 0x0, 0, 1⟩,
  ⟨0x40260034, [], 0xFFFF, 0x0, 0x0, 0x0, 0xFFFF, 0, 1⟩,
  ⟨0x40260038, [], 0x0, 0x0, 0x0, 0x0, 0x0, 0, 1⟩,
  ⟨0x40260040, [], 0x0, 0x0, 0x0, 0x0, 0x0, 0, 4⟩,
  ⟨0x40260044, [], 0x0, 0x0, 0x0, 0x0, 0x0, 1, 4⟩,
  ⟨0x40260048, [], 0x0, 0x0, 0x0, 0x0, 0x0, 2, 4⟩,
  ⟨0x4026004C, [], 0x0, 0x0, 0x0, 0x0, 0x0, 3, 4⟩,
  ⟨0x40260080, [], 0x0, 0x0, 0x1, 0x0, 0x0, 0, 1⟩,
  ⟨0x40260084, [], 0x7FF, 0x0, 0x0, 0x0, 0x140, 0, 1⟩,
  ⟨0x40260088, [], 0x7FF, 0x0, 0x0, 0x0, 0x222, 0, 1⟩,
  ⟨0x4026008C, [], 0x7FF, 0x0, 0x0, 0x0, 0x100, 0, 1⟩,
  ⟨0x40260090, [], 0x7FF, 0x0, 0x0, 0x0, 0x180, 0, 1⟩]
/-- Access rows of the MEMI block, part 2. -/
def memiRows2 : List RegRow := [
  ⟨0x40260094, [], 0x7FF, 0x0, 0x0, 0x0, 0x80, 0, 1⟩,
  ⟨0x402600A0, [], 0x0, 0x0, 0x0, 0x0, 0x10000000, 0, 1⟩,
  ⟨0x402600A4, [], 0x0, 0x0, 0x0, 0x0, 0x11400000, 0, 1⟩,
  ⟨0x402600A8, [], 0x0, 0x0, 0x0, 0x0, 0x13620000, 0, 1⟩,
  ⟨0x402600AC, [], 0x0, 0x0, 0x0, 0x0, 0x14620000, 0, 1⟩,
  ⟨0x402600B0, [], 0x0, 0x0, 0x0, 0x0, 0x15E20000, 0, 1⟩,
  ⟨0x402600B4, [], 0x0, 0x0, 0x0, 0x0, 0x16620000, 0, 1⟩,
  ⟨0x40260200, [(0x4, 128)], 0x0, 0x0, 0x0, 0x0, 0x0, 0, 1⟩]
/-- Access rows of the MEMI block. -/
def memiRows : List RegRow := memiRows0 ++ memiRows1 ++ memiRows2

/-- BIST_ID (15_memory_bist_dma.md, R484). -/
def A.BIST_ID : Nat := 0x40270000
def F.BIST_ID_MAJOR : Fld := ⟨A.BIST_ID, 8, 8⟩
def F.BIST_ID_MINOR : Fld := ⟨A.BIST_ID, 0, 8⟩
/-- BIST_CTRL (15_memory_bist_dma.md, R484). -/
def A.BIST_CTRL : Nat := 0x40270004
def F.BIST_CTRL_STOP : Fld := ⟨A.BIST_CTRL, 1, 1⟩
def F.BIST_CTRL_START : Fld := ⟨A.BIST_CTRL, 0, 1⟩
/-- BIST_SLICE (15_memory_bist_dma.md, R484). -/
def A.BIST_SLICE : Nat := 0x40270008
def F.BIST_SLICE_SLICE : Fld := ⟨A.BIST_SLICE, 0, 9⟩
/-- BIST_STAT (15_memory_bist_dma.md, R484). -/
def A.BIST_STAT : Nat := 0x4027000C
def F.BIST_STAT_BUSY : Fld := ⟨A.BIST_STAT, 31, 1⟩
def F.BIST_STAT_PHASE : Fld := ⟨A.BIST_STAT, 28, 3⟩
def F.BIST_STAT_RESULT : Fld := ⟨A.BIST_STAT, 25, 3⟩
def F.BIST_STAT_NO_SPARE : Fld := ⟨A.BIST_STAT, 23, 2⟩
def F.BIST_STAT_SLICE : Fld := ⟨A.BIST_STAT, 0, 9⟩
/-- BIST_INT_STAT (15_memory_bist_dma.md, R484). -/
def A.BIST_INT_STAT : Nat := 0x40270010
def F.BIST_INT_STAT_LB_DONE : Fld := ⟨A.BIST_INT_STAT, 2, 1⟩
def F.BIST_INT_STAT_FAIL : Fld := ⟨A.BIST_INT_STAT, 1, 1⟩
def F.BIST_INT_STAT_DONE : Fld := ⟨A.BIST_INT_STAT, 0, 1⟩
/-- BIST_INT_EN (15_memory_bist_dma.md, R484). -/
def A.BIST_INT_EN : Nat := 0x40270014
/-- BIST_REPAIR_CNT (15_memory_bist_dma.md, R484). -/
def A.BIST_REPAIR_CNT : Nat := 0x40270018
def F.BIST_REPAIR_CNT_COUNT : Fld := ⟨A.BIST_REPAIR_CNT, 0, 32⟩
/-- BIST_CMD_ERR (15_memory_bist_dma.md, R484). -/
def A.BIST_CMD_ERR : Nat := 0x4027001C
def F.BIST_CMD_ERR_COUNT : Fld := ⟨A.BIST_CMD_ERR, 0, 32⟩
/-- BIST_SPARE_ROWS (15_memory_bist_dma.md, R484). -/
def A.BIST_SPARE_ROWS : Nat := 0x40270020
def F.BIST_SPARE_ROWS_FREE : Fld := ⟨A.BIST_SPARE_ROWS, 0, 11⟩
/-- BIST_FUSE (15_memory_bist_dma.md, R484). -/
def A.BIST_FUSE : Nat := 0x40270024
def F.BIST_FUSE_COMMIT : Fld := ⟨A.BIST_FUSE, 0, 1⟩
/-- BIST_LB_CTRL (15_memory_bist_dma.md, R484). -/
def A.BIST_LB_CTRL : Nat := 0x40270030
def F.BIST_LB_CTRL_LB_TOL : Fld := ⟨A.BIST_LB_CTRL, 3, 5⟩
def F.BIST_LB_CTRL_BUSY : Fld := ⟨A.BIST_LB_CTRL, 1, 1⟩
def F.BIST_LB_CTRL_START : Fld := ⟨A.BIST_LB_CTRL, 0, 1⟩
/-- BIST_LB_FAIL_LO (15_memory_bist_dma.md, R484). -/
def A.BIST_LB_FAIL_LO : Nat := 0x40270034
def F.BIST_LB_FAIL_LO_PATH : Fld := ⟨A.BIST_LB_FAIL_LO, 0, 32⟩
/-- BIST_LB_FAIL_HI (15_memory_bist_dma.md, R484). -/
def A.BIST_LB_FAIL_HI : Nat := 0x40270038
def F.BIST_LB_FAIL_HI_PATH : Fld := ⟨A.BIST_LB_FAIL_HI, 0, 32⟩
/-- BIST_LBp (15_memory_bist_dma.md, R484). -/
def A.BIST_LBp (p : Nat) : Nat := 0x40270100 + 0x4 * p
def F.BIST_LBp_VERDICT (p : Nat) : Fld := ⟨A.BIST_LBp p, 30, 2⟩
def F.BIST_LBp_SNR (p : Nat) : Fld := ⟨A.BIST_LBp p, 16, 8⟩
def F.BIST_LBp_GAIN (p : Nat) : Fld := ⟨A.BIST_LBp p, 0, 16⟩

/-- Access rows of the BIST block, part 0. -/
def bistRows0 : List RegRow := [
  ⟨0x40270000, [], 0x0, 0x0, 0x0, 0x0, 0x100, 0, 1⟩,
  ⟨0x40270004, [], 0x0, 0x0, 0x3, 0x0, 0x0, 0, 1⟩,
  ⟨0x40270008, [], 0x1FF, 0x0, 0x0, 0x0, 0x0, 0, 1⟩,
  ⟨0x4027000C, [], 0x0, 0x0, 0x0, 0x0, 0x0, 0, 1⟩,
  ⟨0x40270010, [], 0x0, 0x7, 0x0, 0x0, 0x0, 0, 1⟩,
  ⟨0x40270014, [], 0x7, 0x0, 0x0, 0x0, 0x0, 0, 1⟩,
  ⟨0x40270018, [], 0x0, 0x0, 0x0, 0xFFFFFFFF, 0x0, 0, 1⟩,
  ⟨0x4027001C, [], 0x0, 0x0, 0x0, 0xFFFFFFFF, 0x0, 0, 1⟩,
  ⟨0x40270020, [], 0x0, 0x0, 0x0, 0x0, 0x400, 0, 1⟩,
  ⟨0x40270024, [], 0x0, 0x0, 0x1, 0x0, 0x0, 0, 1⟩,
  ⟨0x40270030, [], 0xF8, 0x0, 0x1, 0x0, 0x18, 0, 1⟩,
  ⟨0x40270034, [], 0x0, 0x0, 0x0, 0x0, 0x0, 0, 2⟩]
/-- Access rows of the BIST block, part 1. -/
def bistRows1 : List RegRow := [
  ⟨0x40270038, [], 0x0, 0x0, 0x0, 0x0, 0x0, 1, 2⟩,
  ⟨0x40270100, [(0x4, 64)], 0x0, 0x0, 0x0, 0x0, 0x0, 0, 1⟩]
/-- Access rows of the BIST block. -/
def bistRows : List RegRow := bistRows0 ++ bistRows1

/-- DMA_ID (15_memory_bist_dma.md, R485). -/
def A.DMA_ID : Nat := 0x40280000
def F.DMA_ID_MAJOR : Fld := ⟨A.DMA_ID, 8, 8⟩
def F.DMA_ID_MINOR : Fld := ⟨A.DMA_ID, 0, 8⟩
/-- DMA_INT_STAT (15_memory_bist_dma.md, R485). -/
def A.DMA_INT_STAT : Nat := 0x40280004
def F.DMA_INT_STAT_END : Fld := ⟨A.DMA_INT_STAT, 0, 16⟩
/-- DMA_INT_EN (15_memory_bist_dma.md, R485). -/
def A.DMA_INT_EN : Nat := 0x40280008
/-- DMA_TIE (15_memory_bist_dma.md, R485). -/
def A.DMA_TIE : Nat := 0x4028000C
def F.DMA_TIE_COUNT : Fld := ⟨A.DMA_TIE, 0, 32⟩
/-- DMA_CHc_SRC (15_memory_bist_dma.md, R485). -/
def A.DMA_CHc_SRC (c : Nat) : Nat := 0x40280100 + 0x40 * c
def F.DMA_CHc_SRC_ADDR (c : Nat) : Fld := ⟨A.DMA_CHc_SRC c, 0, 32⟩
/-- DMA_CHc_DST (15_memory_bist_dma.md, R485). -/
def A.DMA_CHc_DST (c : Nat) : Nat := 0x40280104 + 0x40 * c
def F.DMA_CHc_DST_ADDR (c : Nat) : Fld := ⟨A.DMA_CHc_DST c, 0, 32⟩
/-- DMA_CHc_COUNT (15_memory_bist_dma.md, R485). -/
def A.DMA_CHc_COUNT (c : Nat) : Nat := 0x40280108 + 0x40 * c
def F.DMA_CHc_COUNT_BYTES (c : Nat) : Fld := ⟨A.DMA_CHc_COUNT c, 0, 32⟩
/-- DMA_CHc_CFG (15_memory_bist_dma.md, R485). -/
def A.DMA_CHc_CFG (c : Nat) : Nat := 0x4028010C + 0x40 * c
def F.DMA_CHc_CFG_WAYS_M1 (c : Nat) : Fld := ⟨A.DMA_CHc_CFG c, 8, 6⟩
def F.DMA_CHc_CFG_ESIZE (c : Nat) : Fld := ⟨A.DMA_CHc_CFG c, 4, 2⟩
def F.DMA_CHc_CFG_MODE (c : Nat) : Fld := ⟨A.DMA_CHc_CFG c, 0, 3⟩
/-- DMA_CHc_PSTRIDE (15_memory_bist_dma.md, R485). -/
def A.DMA_CHc_PSTRIDE (c : Nat) : Nat := 0x40280110 + 0x40 * c
def F.DMA_CHc_PSTRIDE_BYTES (c : Nat) : Fld := ⟨A.DMA_CHc_PSTRIDE c, 0, 32⟩
/-- DMA_CHc_WDOG (15_memory_bist_dma.md, R485). -/
def A.DMA_CHc_WDOG (c : Nat) : Nat := 0x40280114 + 0x40 * c
def F.DMA_CHc_WDOG_US (c : Nat) : Fld := ⟨A.DMA_CHc_WDOG c, 0, 16⟩
/-- DMA_CHc_CTRL (15_memory_bist_dma.md, R485). -/
def A.DMA_CHc_CTRL (c : Nat) : Nat := 0x40280118 + 0x40 * c
def F.DMA_CHc_CTRL_RESUME (c : Nat) : Fld := ⟨A.DMA_CHc_CTRL c, 2, 1⟩
def F.DMA_CHc_CTRL_STOP (c : Nat) : Fld := ⟨A.DMA_CHc_CTRL c, 1, 1⟩
def F.DMA_CHc_CTRL_START (c : Nat) : Fld := ⟨A.DMA_CHc_CTRL c, 0, 1⟩
/-- DMA_CHc_STAT (15_memory_bist_dma.md, R485). -/
def A.DMA_CHc_STAT (c : Nat) : Nat := 0x4028011C + 0x40 * c
def F.DMA_CHc_STAT_STATE (c : Nat) : Fld := ⟨A.DMA_CHc_STAT c, 30, 2⟩
def F.DMA_CHc_STAT_STATUS (c : Nat) : Fld := ⟨A.DMA_CHc_STAT c, 27, 3⟩
/-- DMA_CHc_DONE (15_memory_bist_dma.md, R485). -/
def A.DMA_CHc_DONE (c : Nat) : Nat := 0x40280120 + 0x40 * c
def F.DMA_CHc_DONE_BYTES (c : Nat) : Fld := ⟨A.DMA_CHc_DONE c, 0, 32⟩

/-- Access rows of the DMA block, part 0. -/
def dmaRows0 : List RegRow := [
  ⟨0x40280000, [], 0x0, 0x0, 0x0, 0x0, 0x100, 0, 1⟩,
  ⟨0x40280004, [], 0x0, 0xFFFF, 0x0, 0x0, 0x0, 0, 1⟩,
  ⟨0x40280008, [], 0xFFFF, 0x0, 0x0, 0x0, 0x0, 0, 1⟩,
  ⟨0x4028000C, [], 0x0, 0x0, 0x0, 0xFFFFFFFF, 0x0, 0, 1⟩,
  ⟨0x40280100, [(0x40, 16)], 0xFFFFFFFF, 0x0, 0x0, 0x0, 0x0, 0, 1⟩,
  ⟨0x40280104, [(0x40, 16)], 0xFFFFFFFF, 0x0, 0x0, 0x0, 0x0, 0, 1⟩,
  ⟨0x40280108, [(0x40, 16)], 0xFFFFFFFF, 0x0, 0x0, 0x0, 0x0, 0, 1⟩,
  ⟨0x4028010C, [(0x40, 16)], 0x3F37, 0x0, 0x0, 0x0, 0x110, 0, 1⟩,
  ⟨0x40280110, [(0x40, 16)], 0xFFFFFFFF, 0x0, 0x0, 0x0, 0x0, 0, 1⟩,
  ⟨0x40280114, [(0x40, 16)], 0xFFFF, 0x0, 0x0, 0x0, 0x0, 0, 1⟩,
  ⟨0x40280118, [(0x40, 16)], 0x0, 0x0, 0x7, 0x0, 0x0, 0, 1⟩,
  ⟨0x4028011C, [(0x40, 16)], 0x0, 0x0, 0x0, 0x0, 0x0, 0, 1⟩]
/-- Access rows of the DMA block, part 1. -/
def dmaRows1 : List RegRow := [
  ⟨0x40280120, [(0x40, 16)], 0x0, 0x0, 0x0, 0x0, 0x0, 0, 1⟩]
/-- Access rows of the DMA block. -/
def dmaRows : List RegRow := dmaRows0 ++ dmaRows1

/-- OBS_ID (16_errors_observation.md, R500). -/
def A.OBS_ID : Nat := 0x40290000
def F.OBS_ID_MAJOR : Fld := ⟨A.OBS_ID, 8, 8⟩
def F.OBS_ID_MINOR : Fld := ⟨A.OBS_ID, 0, 8⟩
/-- OBS_FAULT_STAT (16_errors_observation.md, R500). -/
def A.OBS_FAULT_STAT : Nat := 0x40290004
def F.OBS_FAULT_STAT_HARD : Fld := ⟨A.OBS_FAULT_STAT, 0, 6⟩
/-- OBS_DEGR_STAT (16_errors_observation.md, R500). -/
def A.OBS_DEGR_STAT : Nat := 0x40290008
def F.OBS_DEGR_STAT_DEGR : Fld := ⟨A.OBS_DEGR_STAT, 0, 12⟩
/-- OBS_FAULTN_MASK (16_errors_observation.md, R500). -/
def A.OBS_FAULTN_MASK : Nat := 0x4029000C
def F.OBS_FAULTN_MASK_MASK : Fld := ⟨A.OBS_FAULTN_MASK, 0, 12⟩
/-- OBS_ACCESS (16_errors_observation.md, R500). -/
def A.OBS_ACCESS : Nat := 0x40290010
def F.OBS_ACCESS_TRACE_OK : Fld := ⟨A.OBS_ACCESS, 2, 1⟩
def F.OBS_ACCESS_MODE : Fld := ⟨A.OBS_ACCESS, 0, 2⟩
/-- OBS_FIRST_INFO (16_errors_observation.md, R500). -/
def A.OBS_FIRST_INFO : Nat := 0x40290014
def F.OBS_FIRST_INFO_VALID : Fld := ⟨A.OBS_FIRST_INFO, 31, 1⟩
def F.OBS_FIRST_INFO_STATE : Fld := ⟨A.OBS_FIRST_INFO, 5, 3⟩
def F.OBS_FIRST_INFO_SRC : Fld := ⟨A.OBS_FIRST_INFO, 0, 5⟩
/-- OBS_FIRST_NS (16_errors_observation.md, R500). -/
def A.OBS_FIRST_NS : Nat := 0x40290018
def F.OBS_FIRST_NS_NS : Fld := ⟨A.OBS_FIRST_NS, 0, 32⟩
/-- OBS_FIRST_SEC_LO (16_errors_observation.md, R500). -/
def A.OBS_FIRST_SEC_LO : Nat := 0x4029001C
def F.OBS_FIRST_SEC_LO_SEC : Fld := ⟨A.OBS_FIRST_SEC_LO, 0, 32⟩
/-- OBS_TRC_CTRL (16_errors_observation.md, R500). -/
def A.OBS_TRC_CTRL : Nat := 0x40290020
def F.OBS_TRC_CTRL_LANES : Fld := ⟨A.OBS_TRC_CTRL, 0, 3⟩
/-- OBS_TRC_SRC (16_errors_observation.md, R500). -/
def A.OBS_TRC_SRC : Nat := 0x40290024
def F.OBS_TRC_SRC_EN : Fld := ⟨A.OBS_TRC_SRC, 0, 10⟩
/-- OBS_WATCH_BASE (16_errors_observation.md, R500). -/
def A.OBS_WATCH_BASE : Nat := 0x40290028
def F.OBS_WATCH_BASE_ADDR : Fld := ⟨A.OBS_WATCH_BASE, 0, 32⟩
/-- OBS_WATCH_LEN (16_errors_observation.md, R500). -/
def A.OBS_WATCH_LEN : Nat := 0x4029002C
def F.OBS_WATCH_LEN_BYTES : Fld := ⟨A.OBS_WATCH_LEN, 0, 32⟩
/-- OBS_INT_STAT (16_errors_observation.md, R500). -/
def A.OBS_INT_STAT : Nat := 0x40290030
def F.OBS_INT_STAT_TRC_DROP : Fld := ⟨A.OBS_INT_STAT, 2, 1⟩
def F.OBS_INT_STAT_DEGR : Fld := ⟨A.OBS_INT_STAT, 1, 1⟩
def F.OBS_INT_STAT_HARD : Fld := ⟨A.OBS_INT_STAT, 0, 1⟩
/-- OBS_INT_EN (16_errors_observation.md, R500). -/
def A.OBS_INT_EN : Nat := 0x40290034
/-- OBS_TRC_DROP (16_errors_observation.md, R500). -/
def A.OBS_TRC_DROP : Nat := 0x40290038
def F.OBS_TRC_DROP_COUNT : Fld := ⟨A.OBS_TRC_DROP, 0, 32⟩
/-- OBS_DENY (16_errors_observation.md, R500). -/
def A.OBS_DENY : Nat := 0x4029003C
def F.OBS_DENY_COUNT : Fld := ⟨A.OBS_DENY, 0, 32⟩

/-- Access rows of the OBS block, part 0. -/
def obsRows0 : List RegRow := [
  ⟨0x40290000, [], 0x0, 0x0, 0x0, 0x0, 0x100, 0, 1⟩,
  ⟨0x40290004, [], 0x0, 0x3F, 0x0, 0x0, 0x0, 0, 1⟩,
  ⟨0x40290008, [], 0x0, 0xFFF, 0x0, 0x0, 0x0, 0, 1⟩,
  ⟨0x4029000C, [], 0xFFF, 0x0, 0x0, 0x0, 0x40D, 0, 1⟩,
  ⟨0x40290010, [], 0x0, 0x0, 0x0, 0x0, 0x0, 0, 1⟩,
  ⟨0x40290014, [], 0x0, 0x0, 0x0, 0x0, 0x0, 0, 3⟩,
  ⟨0x40290018, [], 0x0, 0x0, 0x0, 0x0, 0x0, 1, 3⟩,
  ⟨0x4029001C, [], 0x0, 0x0, 0x0, 0x0, 0x0, 2, 3⟩,
  ⟨0x40290020, [], 0x7, 0x0, 0x0, 0x0, 0x0, 0, 1⟩,
  ⟨0x40290024, [], 0x3FF, 0x0, 0x0, 0x0, 0x41, 0, 1⟩,
  ⟨0x40290028, [], 0xFFFFFFFF, 0x0, 0x0, 0x0, 0x0, 0, 1⟩,
  ⟨0x4029002C, [], 0xFFFFFFFF, 0x0, 0x0, 0x0, 0x0, 0, 1⟩]
/-- Access rows of the OBS block, part 1. -/
def obsRows1 : List RegRow := [
  ⟨0x40290030, [], 0x0, 0x7, 0x0, 0x0, 0x0, 0, 1⟩,
  ⟨0x40290034, [], 0x7, 0x0, 0x0, 0x0, 0x0, 0, 1⟩,
  ⟨0x40290038, [], 0x0, 0x0, 0x0, 0xFFFFFFFF, 0x0, 0, 1⟩,
  ⟨0x4029003C, [], 0x0, 0x0, 0x0, 0xFFFFFFFF, 0x0, 0, 1⟩]
/-- Access rows of the OBS block. -/
def obsRows : List RegRow := obsRows0 ++ obsRows1

end Sys2Proof.Machine
end

