-- ==== Sys2Proof/Machine/RegTime.lean ====
section
/-! DEFINITION. Addresses and fields of the TIME, TTBL, RMB, COEX registers, and their access rows, as the register maps of the spec print them. -/

namespace Sys2Proof.Machine

/-- TIME_ID (09_time.md, R332). -/
def A.TIME_ID : Nat := 0x40030000
def F.TIME_ID_MAJOR : Fld := ⟨A.TIME_ID, 8, 8⟩
def F.TIME_ID_MINOR : Fld := ⟨A.TIME_ID, 0, 8⟩
/-- TIME_CTRL (09_time.md, R332). -/
def A.TIME_CTRL : Nat := 0x40030004
def F.TIME_CTRL_SLEW_PPM : Fld := ⟨A.TIME_CTRL, 8, 8⟩
def F.TIME_CTRL_PPS_GATE : Fld := ⟨A.TIME_CTRL, 6, 1⟩
def F.TIME_CTRL_SYNT_EN : Fld := ⟨A.TIME_CTRL, 5, 1⟩
def F.TIME_CTRL_CLK_SRC : Fld := ⟨A.TIME_CTRL, 4, 1⟩
def F.TIME_CTRL_STEP_AT : Fld := ⟨A.TIME_CTRL, 3, 1⟩
def F.TIME_CTRL_LOAD_REL : Fld := ⟨A.TIME_CTRL, 2, 1⟩
def F.TIME_CTRL_HOLD_FORCE : Fld := ⟨A.TIME_CTRL, 1, 1⟩
def F.TIME_CTRL_AUTO : Fld := ⟨A.TIME_CTRL, 0, 1⟩
/-- TIME_STATUS (09_time.md, R332). -/
def A.TIME_STATUS : Nat := 0x40030008
def F.TIME_STATUS_SERVO_STATE : Fld := ⟨A.TIME_STATUS, 29, 3⟩
def F.TIME_STATUS_HOLD_EXP : Fld := ⟨A.TIME_STATUS, 28, 1⟩
def F.TIME_STATUS_BIG_OFS : Fld := ⟨A.TIME_STATUS, 27, 1⟩
def F.TIME_STATUS_XO_RAIL : Fld := ⟨A.TIME_STATUS, 26, 1⟩
def F.TIME_STATUS_FRESH : Fld := ⟨A.TIME_STATUS, 22, 4⟩
def F.TIME_STATUS_SLEWING : Fld := ⟨A.TIME_STATUS, 21, 1⟩
def F.TIME_STATUS_STEP_PEND : Fld := ⟨A.TIME_STATUS, 20, 1⟩
def F.TIME_STATUS_STEPPED : Fld := ⟨A.TIME_STATUS, 0, 1⟩
/-- TIME_INT_STAT (09_time.md, R332). -/
def A.TIME_INT_STAT : Nat := 0x4003000C
def F.TIME_INT_STAT_XO_RAIL : Fld := ⟨A.TIME_INT_STAT, 7, 1⟩
def F.TIME_INT_STAT_SLEW_DONE : Fld := ⟨A.TIME_INT_STAT, 6, 1⟩
def F.TIME_INT_STAT_PPS_MISS : Fld := ⟨A.TIME_INT_STAT, 5, 1⟩
def F.TIME_INT_STAT_BIG_OFS : Fld := ⟨A.TIME_INT_STAT, 4, 1⟩
def F.TIME_INT_STAT_STEPPED : Fld := ⟨A.TIME_INT_STAT, 3, 1⟩
def F.TIME_INT_STAT_HOLD_EXP : Fld := ⟨A.TIME_INT_STAT, 2, 1⟩
def F.TIME_INT_STAT_STATE : Fld := ⟨A.TIME_INT_STAT, 1, 1⟩
def F.TIME_INT_STAT_EVAL : Fld := ⟨A.TIME_INT_STAT, 0, 1⟩
/-- TIME_INT_EN (09_time.md, R332). -/
def A.TIME_INT_EN : Nat := 0x40030010
/-- TIME_NS (09_time.md, R332). -/
def A.TIME_NS : Nat := 0x40030020
def F.TIME_NS_NS : Fld := ⟨A.TIME_NS, 0, 32⟩
/-- TIME_FRAC (09_time.md, R332). -/
def A.TIME_FRAC : Nat := 0x40030024
def F.TIME_FRAC_FRAC : Fld := ⟨A.TIME_FRAC, 0, 32⟩
/-- TIME_SEC_LO (09_time.md, R332). -/
def A.TIME_SEC_LO : Nat := 0x40030028
def F.TIME_SEC_LO_SEC : Fld := ⟨A.TIME_SEC_LO, 0, 32⟩
/-- TIME_SEC_HI (09_time.md, R332). -/
def A.TIME_SEC_HI : Nat := 0x4003002C
def F.TIME_SEC_HI_SEC : Fld := ⟨A.TIME_SEC_HI, 0, 32⟩
/-- TIME_LOAD_NS (09_time.md, R332). -/
def A.TIME_LOAD_NS : Nat := 0x40030030
def F.TIME_LOAD_NS_NS : Fld := ⟨A.TIME_LOAD_NS, 0, 32⟩
/-- TIME_LOAD_FRAC (09_time.md, R332). -/
def A.TIME_LOAD_FRAC : Nat := 0x40030034
def F.TIME_LOAD_FRAC_FRAC : Fld := ⟨A.TIME_LOAD_FRAC, 0, 32⟩
/-- TIME_LOAD_SEC_LO (09_time.md, R332). -/
def A.TIME_LOAD_SEC_LO : Nat := 0x40030038
def F.TIME_LOAD_SEC_LO_SEC : Fld := ⟨A.TIME_LOAD_SEC_LO, 0, 32⟩
/-- TIME_LOAD_SEC_HI (09_time.md, R332). -/
def A.TIME_LOAD_SEC_HI : Nat := 0x4003003C
def F.TIME_LOAD_SEC_HI_SEC : Fld := ⟨A.TIME_LOAD_SEC_HI, 0, 32⟩
/-- TIME_INCR_LO (09_time.md, R332). -/
def A.TIME_INCR_LO : Nat := 0x40030040
def F.TIME_INCR_LO_FRAC : Fld := ⟨A.TIME_INCR_LO, 0, 32⟩
/-- TIME_INCR_HI (09_time.md, R332). -/
def A.TIME_INCR_HI : Nat := 0x40030044
def F.TIME_INCR_HI_INT : Fld := ⟨A.TIME_INCR_HI, 0, 8⟩
/-- TIME_SLEW_LO (09_time.md, R332). -/
def A.TIME_SLEW_LO : Nat := 0x40030048
def F.TIME_SLEW_LO_OFS : Fld := ⟨A.TIME_SLEW_LO, 0, 32⟩
/-- TIME_SLEW_HI (09_time.md, R332). -/
def A.TIME_SLEW_HI : Nat := 0x4003004C
def F.TIME_SLEW_HI_OFS : Fld := ⟨A.TIME_SLEW_HI, 0, 16⟩
/-- TIME_MEAS_LO (09_time.md, R332). -/
def A.TIME_MEAS_LO : Nat := 0x40030050
def F.TIME_MEAS_LO_OFS : Fld := ⟨A.TIME_MEAS_LO, 0, 32⟩
/-- TIME_MEAS_HI (09_time.md, R332). -/
def A.TIME_MEAS_HI : Nat := 0x40030054
def F.TIME_MEAS_HI_SRC : Fld := ⟨A.TIME_MEAS_HI, 16, 2⟩
def F.TIME_MEAS_HI_OFS : Fld := ⟨A.TIME_MEAS_HI, 0, 16⟩
/-- TIME_OFS_LO (09_time.md, R332). -/
def A.TIME_OFS_LO : Nat := 0x40030058
def F.TIME_OFS_LO_OFS : Fld := ⟨A.TIME_OFS_LO, 0, 32⟩
/-- TIME_OFS_HI (09_time.md, R332). -/
def A.TIME_OFS_HI : Nat := 0x4003005C
def F.TIME_OFS_HI_OFS : Fld := ⟨A.TIME_OFS_HI, 0, 16⟩
/-- TIME_FREQ (09_time.md, R332). -/
def A.TIME_FREQ : Nat := 0x40030060
def F.TIME_FREQ_Y : Fld := ⟨A.TIME_FREQ, 0, 32⟩
/-- TIME_XO_STEER (09_time.md, R332). -/
def A.TIME_XO_STEER : Nat := 0x40030064
def F.TIME_XO_STEER_STEER : Fld := ⟨A.TIME_XO_STEER, 0, 32⟩
/-- TIME_SERVO (09_time.md, R332). -/
def A.TIME_SERVO : Nat := 0x40030068
def F.TIME_SERVO_KP_ACQ : Fld := ⟨A.TIME_SERVO, 24, 4⟩
def F.TIME_SERVO_KI_ACQ : Fld := ⟨A.TIME_SERVO, 20, 4⟩
def F.TIME_SERVO_KP : Fld := ⟨A.TIME_SERVO, 16, 4⟩
def F.TIME_SERVO_KI : Fld := ⟨A.TIME_SERVO, 12, 4⟩
def F.TIME_SERVO_PERIOD : Fld := ⟨A.TIME_SERVO, 0, 3⟩
/-- TIME_LOCK (09_time.md, R332). -/
def A.TIME_LOCK : Nat := 0x4003006C
def F.TIME_LOCK_HOLD_TO : Fld := ⟨A.TIME_LOCK, 24, 8⟩
def F.TIME_LOCK_LOCK_CNT : Fld := ⟨A.TIME_LOCK, 16, 8⟩
def F.TIME_LOCK_LOCK_NS : Fld := ⟨A.TIME_LOCK, 0, 16⟩
/-- TIME_MIX (09_time.md, R332). -/
def A.TIME_MIX : Nat := 0x40030070
def F.TIME_MIX_BIG_US : Fld := ⟨A.TIME_MIX, 24, 8⟩
def F.TIME_MIX_HOLD_MAX : Fld := ⟨A.TIME_MIX, 16, 8⟩
def F.TIME_MIX_W_AUX : Fld := ⟨A.TIME_MIX, 12, 4⟩
def F.TIME_MIX_W_RMB : Fld := ⟨A.TIME_MIX, 8, 4⟩
def F.TIME_MIX_W_PPS : Fld := ⟨A.TIME_MIX, 4, 4⟩
def F.TIME_MIX_W_PTP : Fld := ⟨A.TIME_MIX, 0, 4⟩
/-- TIME_FRAME_OFS (09_time.md, R332). -/
def A.TIME_FRAME_OFS : Nat := 0x40030074
def F.TIME_FRAME_OFS_NS : Fld := ⟨A.TIME_FRAME_OFS, 0, 24⟩
/-- TIME_PPS_CFG (09_time.md, R332). -/
def A.TIME_PPS_CFG : Nat := 0x40030078
def F.TIME_PPS_CFG_DELAY : Fld := ⟨A.TIME_PPS_CFG, 16, 16⟩
def F.TIME_PPS_CFG_OUT_WIDTH : Fld := ⟨A.TIME_PPS_CFG, 8, 8⟩
def F.TIME_PPS_CFG_OUT_EN : Fld := ⟨A.TIME_PPS_CFG, 1, 1⟩
def F.TIME_PPS_CFG_IN_EN : Fld := ⟨A.TIME_PPS_CFG, 0, 1⟩
/-- TIME_PPS_NS (09_time.md, R332). -/
def A.TIME_PPS_NS : Nat := 0x40030080
def F.TIME_PPS_NS_NS : Fld := ⟨A.TIME_PPS_NS, 0, 32⟩
/-- TIME_PPS_FRAC (09_time.md, R332). -/
def A.TIME_PPS_FRAC : Nat := 0x40030084
def F.TIME_PPS_FRAC_FRAC : Fld := ⟨A.TIME_PPS_FRAC, 29, 3⟩
/-- TIME_PPS_SEC_LO (09_time.md, R332). -/
def A.TIME_PPS_SEC_LO : Nat := 0x40030088
def F.TIME_PPS_SEC_LO_SEC : Fld := ⟨A.TIME_PPS_SEC_LO, 0, 32⟩
/-- TIME_STEPREC_NS (09_time.md, R332). -/
def A.TIME_STEPREC_NS : Nat := 0x40030090
def F.TIME_STEPREC_NS_NS : Fld := ⟨A.TIME_STEPREC_NS, 0, 32⟩
/-- TIME_STEPREC_SEC_LO (09_time.md, R332). -/
def A.TIME_STEPREC_SEC_LO : Nat := 0x40030094
def F.TIME_STEPREC_SEC_LO_SEC : Fld := ⟨A.TIME_STEPREC_SEC_LO, 0, 32⟩
/-- TIME_STEPREC_SEC_HI (09_time.md, R332). -/
def A.TIME_STEPREC_SEC_HI : Nat := 0x40030098
def F.TIME_STEPREC_SEC_HI_SEC : Fld := ⟨A.TIME_STEPREC_SEC_HI, 0, 32⟩
/-- TIME_STEPREC_DELTA_LO (09_time.md, R332). -/
def A.TIME_STEPREC_DELTA_LO : Nat := 0x4003009C
def F.TIME_STEPREC_DELTA_LO_D : Fld := ⟨A.TIME_STEPREC_DELTA_LO, 0, 32⟩
/-- TIME_STEPREC_DELTA_HI (09_time.md, R332). -/
def A.TIME_STEPREC_DELTA_HI : Nat := 0x400300A0
def F.TIME_STEPREC_DELTA_HI_D : Fld := ⟨A.TIME_STEPREC_DELTA_HI, 0, 32⟩
/-- TIME_STEP_CNT (09_time.md, R332). -/
def A.TIME_STEP_CNT : Nat := 0x400300B0
def F.TIME_STEP_CNT_COUNT : Fld := ⟨A.TIME_STEP_CNT, 0, 32⟩
/-- TIME_TIE (09_time.md, R332). -/
def A.TIME_TIE : Nat := 0x400300B4
def F.TIME_TIE_COUNT : Fld := ⟨A.TIME_TIE, 0, 32⟩
/-- TIME_PPS_MISS (09_time.md, R332). -/
def A.TIME_PPS_MISS : Nat := 0x400300B8
def F.TIME_PPS_MISS_COUNT : Fld := ⟨A.TIME_PPS_MISS, 0, 32⟩
/-- TIME_MEAS_DROP (09_time.md, R332). -/
def A.TIME_MEAS_DROP : Nat := 0x400300BC
def F.TIME_MEAS_DROP_COUNT : Fld := ⟨A.TIME_MEAS_DROP, 0, 32⟩
/-- TIME_CMD_ERR (09_time.md, R332). -/
def A.TIME_CMD_ERR : Nat := 0x400300C0
def F.TIME_CMD_ERR_COUNT : Fld := ⟨A.TIME_CMD_ERR, 0, 32⟩

/-- Access rows of the TIME block, part 0. -/
def timeRows0 : List RegRow := [
  ⟨0x40030000, [], 0x0, 0x0, 0x0, 0x0, 0x100, 0, 1⟩,
  ⟨0x40030004, [], 0xFF7F, 0x0, 0x0, 0x0, 0x3221, 0, 1⟩,
  ⟨0x40030008, [], 0x0, 0x1, 0x0, 0x0, 0x20000000, 0, 1⟩,
  ⟨0x4003000C, [], 0x0, 0xFF, 0x0, 0x0, 0x0, 0, 1⟩,
  ⟨0x40030010, [], 0xFF, 0x0, 0x0, 0x0, 0x0, 0, 1⟩,
  ⟨0x40030020, [], 0x0, 0x0, 0x0, 0x0, 0x0, 0, 4⟩,
  ⟨0x40030024, [], 0x0, 0x0, 0x0, 0x0, 0x0, 1, 4⟩,
  ⟨0x40030028, [], 0x0, 0x0, 0x0, 0x0, 0x0, 2, 4⟩,
  ⟨0x4003002C, [], 0x0, 0x0, 0x0, 0x0, 0x0, 3, 4⟩,
  ⟨0x40030030, [], 0x0, 0x0, 0x0, 0x0, 0x0, 0, 4⟩,
  ⟨0x40030034, [], 0x0, 0x0, 0x0, 0x0, 0x0, 1, 4⟩,
  ⟨0x40030038, [], 0x0, 0x0, 0x0, 0x0, 0x0, 2, 4⟩]
/-- Access rows of the TIME block, part 1. -/
def timeRows1 : List RegRow := [
  ⟨0x4003003C, [], 0x0, 0x0, 0x0, 0x0, 0x0, 3, 4⟩,
  ⟨0x40030040, [], 0xFFFFFFFF, 0x0, 0x0, 0x0, 0x0, 0, 2⟩,
  ⟨0x40030044, [], 0xFF, 0x0, 0x0, 0x0, 0x2, 1, 2⟩,
  ⟨0x40030048, [], 0xFFFFFFFF, 0x0, 0x0, 0x0, 0x0, 0, 2⟩,
  ⟨0x4003004C, [], 0xFFFF, 0x0, 0x0, 0x0, 0x0, 1, 2⟩,
  ⟨0x40030050, [], 0x0, 0x0, 0x0, 0x0, 0x0, 0, 2⟩,
  ⟨0x40030054, [], 0x0, 0x0, 0x0, 0x0, 0x0, 1, 2⟩,
  ⟨0x40030058, [], 0x0, 0x0, 0x0, 0x0, 0x0, 0, 2⟩,
  ⟨0x4003005C, [], 0x0, 0x0, 0x0, 0x0, 0x0, 1, 2⟩,
  ⟨0x40030060, [], 0x0, 0x0, 0x0, 0x0, 0x0, 0, 1⟩,
  ⟨0x40030064, [], 0x0, 0x0, 0x0, 0x0, 0x0, 0, 1⟩,
  ⟨0x40030068, [], 0xFFFF007, 0x0, 0x0, 0x0, 0x1426004, 0, 1⟩]
/-- Access rows of the TIME block, part 2. -/
def timeRows2 : List RegRow := [
  ⟨0x4003006C, [], 0xFFFFFFFF, 0x0, 0x0, 0x0, 0x20100064, 0, 1⟩,
  ⟨0x40030070, [], 0xFFFFFFFF, 0x0, 0x0, 0x0, 0xA1E0008, 0, 1⟩,
  ⟨0x40030074, [], 0xFFFFFF, 0x0, 0x0, 0x0, 0x0, 0, 1⟩,
  ⟨0x40030078, [], 0xFFFFFF03, 0x0, 0x0, 0x0, 0xA00, 0, 1⟩,
  ⟨0x40030080, [], 0x0, 0x0, 0x0, 0x0, 0x0, 0, 3⟩,
  ⟨0x40030084, [], 0x0, 0x0, 0x0, 0x0, 0x0, 1, 3⟩,
  ⟨0x40030088, [], 0x0, 0x0, 0x0, 0x0, 0x0, 2, 3⟩,
  ⟨0x40030090, [], 0x0, 0x0, 0x0, 0x0, 0x0, 0, 5⟩,
  ⟨0x40030094, [], 0x0, 0x0, 0x0, 0x0, 0x0, 1, 5⟩,
  ⟨0x40030098, [], 0x0, 0x0, 0x0, 0x0, 0x0, 2, 5⟩,
  ⟨0x4003009C, [], 0x0, 0x0, 0x0, 0x0, 0x0, 3, 5⟩,
  ⟨0x400300A0, [], 0x0, 0x0, 0x0, 0x0, 0x0, 4, 5⟩]
/-- Access rows of the TIME block, part 3. -/
def timeRows3 : List RegRow := [
  ⟨0x400300B0, [], 0x0, 0x0, 0x0, 0xFFFFFFFF, 0x0, 0, 1⟩,
  ⟨0x400300B4, [], 0x0, 0x0, 0x0, 0xFFFFFFFF, 0x0, 0, 1⟩,
  ⟨0x400300B8, [], 0x0, 0x0, 0x0, 0xFFFFFFFF, 0x0, 0, 1⟩,
  ⟨0x400300BC, [], 0x0, 0x0, 0x0, 0xFFFFFFFF, 0x0, 0, 1⟩,
  ⟨0x400300C0, [], 0x0, 0x0, 0x0, 0xFFFFFFFF, 0x0, 0, 1⟩]
/-- Access rows of the TIME block. -/
def timeRows : List RegRow := timeRows0 ++ timeRows1 ++ timeRows2 ++ timeRows3

/-- TTBL_ID (09_time.md, R333). -/
def A.TTBL_ID : Nat := 0x40040000
def F.TTBL_ID_MAJOR : Fld := ⟨A.TTBL_ID, 8, 8⟩
def F.TTBL_ID_MINOR : Fld := ⟨A.TTBL_ID, 0, 8⟩
/-- TTBL_CTRL (09_time.md, R333). -/
def A.TTBL_CTRL : Nat := 0x40040004
def F.TTBL_CTRL_COPY : Fld := ⟨A.TTBL_CTRL, 2, 1⟩
def F.TTBL_CTRL_COMMIT : Fld := ⟨A.TTBL_CTRL, 1, 1⟩
def F.TTBL_CTRL_EN : Fld := ⟨A.TTBL_CTRL, 0, 1⟩
/-- TTBL_STAT (09_time.md, R333). -/
def A.TTBL_STAT : Nat := 0x40040008
def F.TTBL_STAT_PEND : Fld := ⟨A.TTBL_STAT, 31, 1⟩
def F.TTBL_STAT_RECIP : Fld := ⟨A.TTBL_STAT, 5, 1⟩
def F.TTBL_STAT_RMB_WIN : Fld := ⟨A.TTBL_STAT, 4, 1⟩
def F.TTBL_STAT_ONS : Fld := ⟨A.TTBL_STAT, 0, 4⟩
/-- TTBL_OUT (09_time.md, R333). -/
def A.TTBL_OUT : Nat := 0x4004000C
def F.TTBL_OUT_LEVEL : Fld := ⟨A.TTBL_OUT, 0, 32⟩
/-- TTBL_OUT_POL (09_time.md, R333). -/
def A.TTBL_OUT_POL : Nat := 0x40040010
def F.TTBL_OUT_POL_POL : Fld := ⟨A.TTBL_OUT_POL, 0, 32⟩
/-- TTBL_OUT_SAFE (09_time.md, R333). -/
def A.TTBL_OUT_SAFE : Nat := 0x40040014
def F.TTBL_OUT_SAFE_SAFE : Fld := ⟨A.TTBL_OUT_SAFE, 0, 32⟩
/-- TTBL_OUT_OE (09_time.md, R333). -/
def A.TTBL_OUT_OE : Nat := 0x40040018
def F.TTBL_OUT_OE_OE : Fld := ⟨A.TTBL_OUT_OE, 0, 32⟩
/-- TTBL_IN_CFG (09_time.md, R333). -/
def A.TTBL_IN_CFG : Nat := 0x4004001C
def F.TTBL_IN_CFG_EDGE (n : Nat) : Fld := ⟨A.TTBL_IN_CFG, 2 * n, 2⟩
/-- TTBL_INT_STAT (09_time.md, R333). -/
def A.TTBL_INT_STAT : Nat := 0x40040020
def F.TTBL_INT_STAT_STEP_FIRE : Fld := ⟨A.TTBL_INT_STAT, 11, 1⟩
def F.TTBL_INT_STAT_CMD_ERR : Fld := ⟨A.TTBL_INT_STAT, 10, 1⟩
def F.TTBL_INT_STAT_IN_OVF : Fld := ⟨A.TTBL_INT_STAT, 9, 1⟩
def F.TTBL_INT_STAT_SWAPPED : Fld := ⟨A.TTBL_INT_STAT, 8, 1⟩
def F.TTBL_INT_STAT_IN_AVAIL : Fld := ⟨A.TTBL_INT_STAT, 0, 8⟩
/-- TTBL_INT_EN (09_time.md, R333). -/
def A.TTBL_INT_EN : Nat := 0x40040024
/-- TTBL_CMD_ERR (09_time.md, R333). -/
def A.TTBL_CMD_ERR : Nat := 0x40040028
def F.TTBL_CMD_ERR_COUNT : Fld := ⟨A.TTBL_CMD_ERR, 0, 32⟩
/-- TTBL_STEP_FIRED (09_time.md, R333). -/
def A.TTBL_STEP_FIRED : Nat := 0x4004002C
def F.TTBL_STEP_FIRED_COUNT : Fld := ⟨A.TTBL_STEP_FIRED, 0, 32⟩
/-- TTBL_IN_LOST (09_time.md, R333). -/
def A.TTBL_IN_LOST : Nat := 0x40040030
def F.TTBL_IN_LOST_COUNT : Fld := ⟨A.TTBL_IN_LOST, 0, 32⟩
/-- TTBL_INn_INFO (09_time.md, R333). -/
def A.TTBL_INn_INFO (n : Nat) : Nat := 0x40040100 + 0x10 * n
def F.TTBL_INn_INFO_VALID (n : Nat) : Fld := ⟨A.TTBL_INn_INFO n, 31, 1⟩
def F.TTBL_INn_INFO_EDGE (n : Nat) : Fld := ⟨A.TTBL_INn_INFO n, 30, 1⟩
def F.TTBL_INn_INFO_COUNT (n : Nat) : Fld := ⟨A.TTBL_INn_INFO n, 0, 4⟩
/-- TTBL_INn_NS (09_time.md, R333). -/
def A.TTBL_INn_NS (n : Nat) : Nat := 0x40040104 + 0x10 * n
def F.TTBL_INn_NS_NS (n : Nat) : Fld := ⟨A.TTBL_INn_NS n, 0, 32⟩
/-- TTBL_INn_FRAC (09_time.md, R333). -/
def A.TTBL_INn_FRAC (n : Nat) : Nat := 0x40040108 + 0x10 * n
def F.TTBL_INn_FRAC_FRAC (n : Nat) : Fld := ⟨A.TTBL_INn_FRAC n, 29, 3⟩
/-- TTBL_INn_SEC_LO (09_time.md, R333). -/
def A.TTBL_INn_SEC_LO (n : Nat) : Nat := 0x4004010C + 0x10 * n
def F.TTBL_INn_SEC_LO_SEC (n : Nat) : Fld := ⟨A.TTBL_INn_SEC_LO n, 0, 32⟩
/-- TTBL_STGD_W0 (09_time.md, R333). -/
def A.TTBL_STGD_W0 (e : Nat) : Nat := 0x40041000 + 0x8 * e
def F.TTBL_STGD_W0_W (e : Nat) : Fld := ⟨A.TTBL_STGD_W0 e, 0, 32⟩
/-- TTBL_STGD_W1 (09_time.md, R333). -/
def A.TTBL_STGD_W1 (e : Nat) : Nat := 0x40041004 + 0x8 * e
def F.TTBL_STGD_W1_W (e : Nat) : Fld := ⟨A.TTBL_STGD_W1 e, 0, 32⟩
/-- TTBL_ACTV_W0 (09_time.md, R333). -/
def A.TTBL_ACTV_W0 (e : Nat) : Nat := 0x40042000 + 0x8 * e
def F.TTBL_ACTV_W0_W (e : Nat) : Fld := ⟨A.TTBL_ACTV_W0 e, 0, 32⟩
/-- TTBL_ACTV_W1 (09_time.md, R333). -/
def A.TTBL_ACTV_W1 (e : Nat) : Nat := 0x40042004 + 0x8 * e
def F.TTBL_ACTV_W1_W (e : Nat) : Fld := ⟨A.TTBL_ACTV_W1 e, 0, 32⟩

/-- Access rows of the TTBL block, part 0. -/
def ttblRows0 : List RegRow := [
  ⟨0x40040000, [], 0x0, 0x0, 0x0, 0x0, 0x100, 0, 1⟩,
  ⟨0x40040004, [], 0x1, 0x0, 0x6, 0x0, 0x0, 0, 1⟩,
  ⟨0x40040008, [], 0x0, 0x0, 0x0, 0x0, 0x0, 0, 1⟩,
  ⟨0x4004000C, [], 0x0, 0x0, 0x0, 0x0, 0x0, 0, 1⟩,
  ⟨0x40040010, [], 0xFFFFFFFF, 0x0, 0x0, 0x0, 0x0, 0, 1⟩,
  ⟨0x40040014, [], 0xFFFFFFFF, 0x0, 0x0, 0x0, 0x0, 0, 1⟩,
  ⟨0x40040018, [], 0xFFFFFFFF, 0x0, 0x0, 0x0, 0x0, 0, 1⟩,
  ⟨0x4004001C, [], 0xFFFF, 0x0, 0x0, 0x0, 0x0, 0, 1⟩,
  ⟨0x40040020, [], 0x0, 0xFFF, 0x0, 0x0, 0x0, 0, 1⟩,
  ⟨0x40040024, [], 0xFFF, 0x0, 0x0, 0x0, 0x0, 0, 1⟩,
  ⟨0x40040028, [], 0x0, 0x0, 0x0, 0xFFFFFFFF, 0x0, 0, 1⟩,
  ⟨0x4004002C, [], 0x0, 0x0, 0x0, 0xFFFFFFFF, 0x0, 0, 1⟩]
/-- Access rows of the TTBL block, part 1. -/
def ttblRows1 : List RegRow := [
  ⟨0x40040030, [], 0x0, 0x0, 0x0, 0xFFFFFFFF, 0x0, 0, 1⟩,
  ⟨0x40040100, [(0x10, 8)], 0x0, 0x0, 0x0, 0x0, 0x0, 0, 4⟩,
  ⟨0x40040104, [(0x10, 8)], 0x0, 0x0, 0x0, 0x0, 0x0, 1, 4⟩,
  ⟨0x40040108, [(0x10, 8)], 0x0, 0x0, 0x0, 0x0, 0x0, 2, 4⟩,
  ⟨0x4004010C, [(0x10, 8)], 0x0, 0x0, 0x0, 0x0, 0x0, 3, 4⟩,
  ⟨0x40041000, [(0x8, 256)], 0xFFFFFFFF, 0x0, 0x0, 0x0, 0x0, 0, 1⟩,
  ⟨0x40041004, [(0x8, 256)], 0xFFFFFFFF, 0x0, 0x0, 0x0, 0x0, 0, 1⟩,
  ⟨0x40042000, [(0x8, 256)], 0x0, 0x0, 0x0, 0x0, 0x0, 0, 1⟩,
  ⟨0x40042004, [(0x8, 256)], 0x0, 0x0, 0x0, 0x0, 0x0, 0, 1⟩]
/-- Access rows of the TTBL block. -/
def ttblRows : List RegRow := ttblRows0 ++ ttblRows1

/-- RMB_ID (10_rambler.md, R363). -/
def A.RMB_ID : Nat := 0x40220000
def F.RMB_ID_MAJOR : Fld := ⟨A.RMB_ID, 8, 8⟩
def F.RMB_ID_MINOR : Fld := ⟨A.RMB_ID, 0, 8⟩
/-- RMB_CTRL (10_rambler.md, R363). -/
def A.RMB_CTRL : Nat := 0x40220004
def F.RMB_CTRL_UNIT : Fld := ⟨A.RMB_CTRL, 2, 12⟩
def F.RMB_CTRL_RX_EN : Fld := ⟨A.RMB_CTRL, 1, 1⟩
def F.RMB_CTRL_TX_EN : Fld := ⟨A.RMB_CTRL, 0, 1⟩
/-- RMB_PATH (10_rambler.md, R363). -/
def A.RMB_PATH : Nat := 0x40220008
def F.RMB_PATH_RX1 : Fld := ⟨A.RMB_PATH, 16, 6⟩
def F.RMB_PATH_RX0 : Fld := ⟨A.RMB_PATH, 8, 6⟩
def F.RMB_PATH_TX : Fld := ⟨A.RMB_PATH, 0, 6⟩
/-- RMB_TX_FTW_LO (10_rambler.md, R363). -/
def A.RMB_TX_FTW_LO : Nat := 0x4022000C
def F.RMB_TX_FTW_LO_FTW : Fld := ⟨A.RMB_TX_FTW_LO, 0, 32⟩
/-- RMB_TX_FTW_HI (10_rambler.md, R363). -/
def A.RMB_TX_FTW_HI : Nat := 0x40220010
def F.RMB_TX_FTW_HI_FTW : Fld := ⟨A.RMB_TX_FTW_HI, 0, 16⟩
/-- RMB_RX_FTW_LO (10_rambler.md, R363). -/
def A.RMB_RX_FTW_LO : Nat := 0x40220014
def F.RMB_RX_FTW_LO_FTW : Fld := ⟨A.RMB_RX_FTW_LO, 0, 32⟩
/-- RMB_RX_FTW_HI (10_rambler.md, R363). -/
def A.RMB_RX_FTW_HI : Nat := 0x40220018
def F.RMB_RX_FTW_HI_FTW : Fld := ⟨A.RMB_RX_FTW_HI, 0, 16⟩
/-- RMB_TXCFG (10_rambler.md, R363). -/
def A.RMB_TXCFG : Nat := 0x4022001C
def F.RMB_TXCFG_HOLD_US : Fld := ⟨A.RMB_TXCFG, 24, 8⟩
def F.RMB_TXCFG_TX_OFS : Fld := ⟨A.RMB_TXCFG, 16, 8⟩
def F.RMB_TXCFG_ATT : Fld := ⟨A.RMB_TXCFG, 0, 6⟩
/-- RMB_WIN_CFG (10_rambler.md, R363). -/
def A.RMB_WIN_CFG : Nat := 0x40220020
def F.RMB_WIN_CFG_TXPAT : Fld := ⟨A.RMB_WIN_CFG, 16, 16⟩
def F.RMB_WIN_CFG_RANGE_US : Fld := ⟨A.RMB_WIN_CFG, 8, 8⟩
def F.RMB_WIN_CFG_WIN_US : Fld := ⟨A.RMB_WIN_CFG, 0, 8⟩
/-- RMB_RXCFG (10_rambler.md, R363). -/
def A.RMB_RXCFG : Nat := 0x40220024
def F.RMB_RXCFG_EQ_MU : Fld := ⟨A.RMB_RXCFG, 16, 4⟩
def F.RMB_RXCFG_DET_TH : Fld := ⟨A.RMB_RXCFG, 8, 8⟩
def F.RMB_RXCFG_CAPTURE_DB : Fld := ⟨A.RMB_RXCFG, 0, 4⟩
/-- RMB_ACK (10_rambler.md, R363). -/
def A.RMB_ACK : Nat := 0x40220028
def F.RMB_ACK_RETRY : Fld := ⟨A.RMB_ACK, 16, 2⟩
def F.RMB_ACK_TO_MS : Fld := ⟨A.RMB_ACK, 0, 16⟩
/-- RMB_TT (10_rambler.md, R363). -/
def A.RMB_TT : Nat := 0x4022002C
def F.RMB_TT_TT_SERVO : Fld := ⟨A.RMB_TT, 29, 1⟩
def F.RMB_TT_REQ_EN : Fld := ⟨A.RMB_TT, 28, 1⟩
def F.RMB_TT_PEER : Fld := ⟨A.RMB_TT, 16, 12⟩
def F.RMB_TT_MAX_MS : Fld := ⟨A.RMB_TT, 0, 16⟩
/-- RMB_TT_ASYM (10_rambler.md, R363). -/
def A.RMB_TT_ASYM : Nat := 0x40220030
def F.RMB_TT_ASYM_ASYM : Fld := ⟨A.RMB_TT_ASYM, 0, 32⟩
/-- RMB_TXQ (10_rambler.md, R363). -/
def A.RMB_TXQ : Nat := 0x40220034
def F.RMB_TXQ_DESC : Fld := ⟨A.RMB_TXQ, 0, 32⟩
/-- RMB_TXDONE_LO (10_rambler.md, R363). -/
def A.RMB_TXDONE_LO : Nat := 0x40220038
def F.RMB_TXDONE_LO_VALID : Fld := ⟨A.RMB_TXDONE_LO, 31, 1⟩
def F.RMB_TXDONE_LO_CODE : Fld := ⟨A.RMB_TXDONE_LO, 27, 4⟩
def F.RMB_TXDONE_LO_SEQ : Fld := ⟨A.RMB_TXDONE_LO, 21, 6⟩
/-- RMB_TXDONE_HI (10_rambler.md, R363). -/
def A.RMB_TXDONE_HI : Nat := 0x4022003C
def F.RMB_TXDONE_HI_DESC : Fld := ⟨A.RMB_TXDONE_HI, 0, 32⟩
/-- RMB_RX_BASE (10_rambler.md, R363). -/
def A.RMB_RX_BASE : Nat := 0x40220040
def F.RMB_RX_BASE_ADDR : Fld := ⟨A.RMB_RX_BASE, 0, 32⟩
/-- RMB_RXQ (10_rambler.md, R363). -/
def A.RMB_RXQ : Nat := 0x40220044
def F.RMB_RXQ_VALID : Fld := ⟨A.RMB_RXQ, 31, 1⟩
def F.RMB_RXQ_STATUS : Fld := ⟨A.RMB_RXQ, 27, 4⟩
def F.RMB_RXQ_SLOT : Fld := ⟨A.RMB_RXQ, 0, 4⟩
/-- RMB_RX_FREE (10_rambler.md, R363). -/
def A.RMB_RX_FREE : Nat := 0x40220048
def F.RMB_RX_FREE_SLOT : Fld := ⟨A.RMB_RX_FREE, 0, 4⟩
/-- RMB_STATUS (10_rambler.md, R363). -/
def A.RMB_STATUS : Nat := 0x4022004C
def F.RMB_STATUS_RX_STATE : Fld := ⟨A.RMB_STATUS, 29, 3⟩
def F.RMB_STATUS_WIN : Fld := ⟨A.RMB_STATUS, 28, 1⟩
def F.RMB_STATUS_TXWIN : Fld := ⟨A.RMB_STATUS, 27, 1⟩
def F.RMB_STATUS_TT_OUT : Fld := ⟨A.RMB_STATUS, 26, 1⟩
def F.RMB_STATUS_TXQ_COUNT : Fld := ⟨A.RMB_STATUS, 21, 5⟩
def F.RMB_STATUS_FREE_SLOTS : Fld := ⟨A.RMB_STATUS, 16, 5⟩
/-- RMB_TT_OFS_LO (10_rambler.md, R363). -/
def A.RMB_TT_OFS_LO : Nat := 0x40220050
def F.RMB_TT_OFS_LO_OFS : Fld := ⟨A.RMB_TT_OFS_LO, 0, 32⟩
/-- RMB_TT_OFS_HI (10_rambler.md, R363). -/
def A.RMB_TT_OFS_HI : Nat := 0x40220054
def F.RMB_TT_OFS_HI_OFS : Fld := ⟨A.RMB_TT_OFS_HI, 0, 16⟩
/-- RMB_INT_STAT (10_rambler.md, R363). -/
def A.RMB_INT_STAT : Nat := 0x40220060
def F.RMB_INT_STAT_CMD_ERR : Fld := ⟨A.RMB_INT_STAT, 7, 1⟩
def F.RMB_INT_STAT_RX_OVF : Fld := ⟨A.RMB_INT_STAT, 6, 1⟩
def F.RMB_INT_STAT_TT_TIMEOUT : Fld := ⟨A.RMB_INT_STAT, 5, 1⟩
def F.RMB_INT_STAT_TT_DONE : Fld := ⟨A.RMB_INT_STAT, 4, 1⟩
def F.RMB_INT_STAT_CAPTURE : Fld := ⟨A.RMB_INT_STAT, 3, 1⟩
def F.RMB_INT_STAT_RX_DONE : Fld := ⟨A.RMB_INT_STAT, 2, 1⟩
def F.RMB_INT_STAT_TX_FAIL : Fld := ⟨A.RMB_INT_STAT, 1, 1⟩
def F.RMB_INT_STAT_TX_DONE : Fld := ⟨A.RMB_INT_STAT, 0, 1⟩
/-- RMB_INT_EN (10_rambler.md, R363). -/
def A.RMB_INT_EN : Nat := 0x40220064
/-- RMB_TIE (10_rambler.md, R363). -/
def A.RMB_TIE : Nat := 0x40220068
def F.RMB_TIE_COUNT : Fld := ⟨A.RMB_TIE, 0, 32⟩
/-- RMB_TX_CNT (10_rambler.md, R363). -/
def A.RMB_TX_CNT : Nat := 0x40220080
def F.RMB_TX_CNT_COUNT : Fld := ⟨A.RMB_TX_CNT, 0, 32⟩
/-- RMB_RX_OK (10_rambler.md, R363). -/
def A.RMB_RX_OK : Nat := 0x40220084
def F.RMB_RX_OK_COUNT : Fld := ⟨A.RMB_RX_OK, 0, 32⟩
/-- RMB_HDR_ERR (10_rambler.md, R363). -/
def A.RMB_HDR_ERR : Nat := 0x40220088
def F.RMB_HDR_ERR_COUNT : Fld := ⟨A.RMB_HDR_ERR, 0, 32⟩
/-- RMB_PAY_ERR (10_rambler.md, R363). -/
def A.RMB_PAY_ERR : Nat := 0x4022008C
def F.RMB_PAY_ERR_COUNT : Fld := ⟨A.RMB_PAY_ERR, 0, 32⟩
/-- RMB_FALSE_DETECT (10_rambler.md, R363). -/
def A.RMB_FALSE_DETECT : Nat := 0x40220090
def F.RMB_FALSE_DETECT_COUNT : Fld := ⟨A.RMB_FALSE_DETECT, 0, 32⟩
/-- RMB_ABORT_CAP (10_rambler.md, R363). -/
def A.RMB_ABORT_CAP : Nat := 0x40220094
def F.RMB_ABORT_CAP_COUNT : Fld := ⟨A.RMB_ABORT_CAP, 0, 32⟩
/-- RMB_PRE_CAPTURE (10_rambler.md, R363). -/
def A.RMB_PRE_CAPTURE : Nat := 0x40220098
def F.RMB_PRE_CAPTURE_COUNT : Fld := ⟨A.RMB_PRE_CAPTURE, 0, 32⟩
/-- RMB_WIN_ABORT (10_rambler.md, R363). -/
def A.RMB_WIN_ABORT : Nat := 0x4022009C
def F.RMB_WIN_ABORT_COUNT : Fld := ⟨A.RMB_WIN_ABORT, 0, 32⟩
/-- RMB_SYNTH_BUSY (10_rambler.md, R363). -/
def A.RMB_SYNTH_BUSY : Nat := 0x402200A0
def F.RMB_SYNTH_BUSY_COUNT : Fld := ⟨A.RMB_SYNTH_BUSY, 0, 32⟩
/-- RMB_ACK_FAIL (10_rambler.md, R363). -/
def A.RMB_ACK_FAIL : Nat := 0x402200A4
def F.RMB_ACK_FAIL_COUNT : Fld := ⟨A.RMB_ACK_FAIL, 0, 32⟩
/-- RMB_RX_OVF (10_rambler.md, R363). -/
def A.RMB_RX_OVF : Nat := 0x402200A8
def F.RMB_RX_OVF_COUNT : Fld := ⟨A.RMB_RX_OVF, 0, 32⟩
/-- RMB_TT_DROP (10_rambler.md, R363). -/
def A.RMB_TT_DROP : Nat := 0x402200AC
def F.RMB_TT_DROP_COUNT : Fld := ⟨A.RMB_TT_DROP, 0, 32⟩
/-- RMB_DL_DISPLACED (10_rambler.md, R363). -/
def A.RMB_DL_DISPLACED : Nat := 0x402200B0
def F.RMB_DL_DISPLACED_COUNT : Fld := ⟨A.RMB_DL_DISPLACED, 0, 32⟩

/-- Access rows of the RMB block, part 0. -/
def rmbRows0 : List RegRow := [
  ⟨0x40220000, [], 0x0, 0x0, 0x0, 0x0, 0x100, 0, 1⟩,
  ⟨0x40220004, [], 0x3FFF, 0x0, 0x0, 0x0, 0x0, 0, 1⟩,
  ⟨0x40220008, [], 0x3F3F3F, 0x0, 0x0, 0x0, 0x10000, 0, 1⟩,
  ⟨0x4022000C, [], 0xFFFFFFFF, 0x0, 0x0, 0x0, 0x0, 0, 2⟩,
  ⟨0x40220010, [], 0xFFFF, 0x0, 0x0, 0x0, 0x0, 1, 2⟩,
  ⟨0x40220014, [], 0xFFFFFFFF, 0x0, 0x0, 0x0, 0x0, 0, 2⟩,
  ⟨0x40220018, [], 0xFFFF, 0x0, 0x0, 0x0, 0x0, 1, 2⟩,
  ⟨0x4022001C, [], 0xFFFF003F, 0x0, 0x0, 0x0, 0x14050014, 0, 1⟩,
  ⟨0x40220020, [], 0xFFFFFFFF, 0x0, 0x0, 0x0, 0x21E, 0, 1⟩,
  ⟨0x40220024, [], 0xFFF0F, 0x0, 0x0, 0x0, 0x66006, 0, 1⟩,
  ⟨0x40220028, [], 0x3FFFF, 0x0, 0x0, 0x0, 0x30019, 0, 1⟩,
  ⟨0x4022002C, [], 0x3FFFFFFF, 0x0, 0x0, 0x0, 0x1E, 0, 1⟩]
/-- Access rows of the RMB block, part 1. -/
def rmbRows1 : List RegRow := [
  ⟨0x40220030, [], 0xFFFFFFFF, 0x0, 0x0, 0x0, 0x0, 0, 1⟩,
  ⟨0x40220034, [], 0x0, 0x0, 0x0, 0x0, 0x0, 0, 1⟩,
  ⟨0x40220038, [], 0x0, 0x0, 0x0, 0x0, 0x0, 0, 2⟩,
  ⟨0x4022003C, [], 0x0, 0x0, 0x0, 0x0, 0x0, 1, 2⟩,
  ⟨0x40220040, [], 0xFFFFFFFF, 0x0, 0x0, 0x0, 0x0, 0, 1⟩,
  ⟨0x40220044, [], 0x0, 0x0, 0x0, 0x0, 0x0, 0, 1⟩,
  ⟨0x40220048, [], 0x0, 0x0, 0x0, 0x0, 0x0, 0, 1⟩,
  ⟨0x4022004C, [], 0x0, 0x0, 0x0, 0x0, 0x100000, 0, 1⟩,
  ⟨0x40220050, [], 0x0, 0x0, 0x0, 0x0, 0x0, 0, 2⟩,
  ⟨0x40220054, [], 0x0, 0x0, 0x0, 0x0, 0x0, 1, 2⟩,
  ⟨0x40220060, [], 0x0, 0xFF, 0x0, 0x0, 0x0, 0, 1⟩,
  ⟨0x40220064, [], 0xFF, 0x0, 0x0, 0x0, 0x0, 0, 1⟩]
/-- Access rows of the RMB block, part 2. -/
def rmbRows2 : List RegRow := [
  ⟨0x40220068, [], 0x0, 0x0, 0x0, 0xFFFFFFFF, 0x0, 0, 1⟩,
  ⟨0x40220080, [], 0x0, 0x0, 0x0, 0xFFFFFFFF, 0x0, 0, 1⟩,
  ⟨0x40220084, [], 0x0, 0x0, 0x0, 0xFFFFFFFF, 0x0, 0, 1⟩,
  ⟨0x40220088, [], 0x0, 0x0, 0x0, 0xFFFFFFFF, 0x0, 0, 1⟩,
  ⟨0x4022008C, [], 0x0, 0x0, 0x0, 0xFFFFFFFF, 0x0, 0, 1⟩,
  ⟨0x40220090, [], 0x0, 0x0, 0x0, 0xFFFFFFFF, 0x0, 0, 1⟩,
  ⟨0x40220094, [], 0x0, 0x0, 0x0, 0xFFFFFFFF, 0x0, 0, 1⟩,
  ⟨0x40220098, [], 0x0, 0x0, 0x0, 0xFFFFFFFF, 0x0, 0, 1⟩,
  ⟨0x4022009C, [], 0x0, 0x0, 0x0, 0xFFFFFFFF, 0x0, 0, 1⟩,
  ⟨0x402200A0, [], 0x0, 0x0, 0x0, 0xFFFFFFFF, 0x0, 0, 1⟩,
  ⟨0x402200A4, [], 0x0, 0x0, 0x0, 0xFFFFFFFF, 0x0, 0, 1⟩,
  ⟨0x402200A8, [], 0x0, 0x0, 0x0, 0xFFFFFFFF, 0x0, 0, 1⟩]
/-- Access rows of the RMB block, part 3. -/
def rmbRows3 : List RegRow := [
  ⟨0x402200AC, [], 0x0, 0x0, 0x0, 0xFFFFFFFF, 0x0, 0, 1⟩,
  ⟨0x402200B0, [], 0x0, 0x0, 0x0, 0xFFFFFFFF, 0x0, 0, 1⟩]
/-- Access rows of the RMB block. -/
def rmbRows : List RegRow := rmbRows0 ++ rmbRows1 ++ rmbRows2 ++ rmbRows3

/-- COEX_ID (10_rambler.md, R364). -/
def A.COEX_ID : Nat := 0x402B0000
def F.COEX_ID_MAJOR : Fld := ⟨A.COEX_ID, 8, 8⟩
def F.COEX_ID_MINOR : Fld := ⟨A.COEX_ID, 0, 8⟩
/-- COEX_CTRL (10_rambler.md, R364). -/
def A.COEX_CTRL : Nat := 0x402B0004
def F.COEX_CTRL_MAX_DEFER : Fld := ⟨A.COEX_CTRL, 16, 4⟩
def F.COEX_CTRL_LEAD_US : Fld := ⟨A.COEX_CTRL, 8, 8⟩
def F.COEX_CTRL_YIELD_EN : Fld := ⟨A.COEX_CTRL, 1, 1⟩
def F.COEX_CTRL_REQ_EN : Fld := ⟨A.COEX_CTRL, 0, 1⟩
/-- COEX_STAT (10_rambler.md, R364). -/
def A.COEX_STAT : Nat := 0x402B0008
def F.COEX_STAT_GNT_OUT : Fld := ⟨A.COEX_STAT, 4, 1⟩
def F.COEX_STAT_REQ_IN : Fld := ⟨A.COEX_STAT, 3, 1⟩
def F.COEX_STAT_GNT_IN : Fld := ⟨A.COEX_STAT, 2, 1⟩
def F.COEX_STAT_PRI_OUT : Fld := ⟨A.COEX_STAT, 1, 1⟩
def F.COEX_STAT_REQ_OUT : Fld := ⟨A.COEX_STAT, 0, 1⟩
/-- COEX_DEFER_CNT (10_rambler.md, R364). -/
def A.COEX_DEFER_CNT : Nat := 0x402B000C
def F.COEX_DEFER_CNT_COUNT : Fld := ⟨A.COEX_DEFER_CNT, 0, 32⟩
/-- COEX_DENIED_CNT (10_rambler.md, R364). -/
def A.COEX_DENIED_CNT : Nat := 0x402B0010
def F.COEX_DENIED_CNT_COUNT : Fld := ⟨A.COEX_DENIED_CNT, 0, 32⟩
/-- COEX_YIELD_US (10_rambler.md, R364). -/
def A.COEX_YIELD_US : Nat := 0x402B0014
def F.COEX_YIELD_US_COUNT : Fld := ⟨A.COEX_YIELD_US, 0, 32⟩

/-- Access rows of the COEX block, part 0. -/
def coexRows0 : List RegRow := [
  ⟨0x402B0000, [], 0x0, 0x0, 0x0, 0x0, 0x100, 0, 1⟩,
  ⟨0x402B0004, [], 0xFFF03, 0x0, 0x0, 0x0, 0x40500, 0, 1⟩,
  ⟨0x402B0008, [], 0x0, 0x0, 0x0, 0x0, 0x0, 0, 1⟩,
  ⟨0x402B000C, [], 0x0, 0x0, 0x0, 0xFFFFFFFF, 0x0, 0, 1⟩,
  ⟨0x402B0010, [], 0x0, 0x0, 0x0, 0xFFFFFFFF, 0x0, 0, 1⟩,
  ⟨0x402B0014, [], 0x0, 0x0, 0x0, 0xFFFFFFFF, 0x0, 0, 1⟩]
/-- Access rows of the COEX block. -/
def coexRows : List RegRow := coexRows0

end Sys2Proof.Machine
end

