-- ==== Sys2Proof/Machine/Tab.lean ====
section
/-! DEFINITION. Sparse tables kept in one canonical form: keys strictly rising, no entry equal to what an
unlisted key reads as. Registers, memory bytes and per-index sub-states are held in them. -/

namespace Sys2Proof.Machine

/-- A sparse table from numbers to `β`. -/
abbrev Tab (β : Type) := List (Nat × β)

/-- What key `k` reads as; `d k` is what an unlisted key reads as. -/
def Tab.get {β : Type} (d : Nat → β) (k : Nat) : Tab β → β
  | [] => d k
  | (k', v) :: t => if k = k' then v else Tab.get d k t

/-- The table with an entry for key `k`, in its place. -/
def Tab.put {β : Type} (k : Nat) (v : β) : Tab β → Tab β
  | [] => [(k, v)]
  | (k', w) :: t =>
    if k < k' then (k, v) :: (k', w) :: t
    else if k = k' then (k, v) :: t
    else (k', w) :: Tab.put k v t

/-- The table with key `k` reading as `v`, kept in canonical form. -/
def Tab.set {β : Type} [DecidableEq β] (d : Nat → β) (k : Nat) (v : β) (t : Tab β) : Tab β :=
  if v = d k then t.filter (fun e => e.1 != k) else Tab.put k v t

/-- Keys strictly rise from above `lo`, and no entry equals what its key reads as when unlisted. -/
def Tab.wfFrom {β : Type} [DecidableEq β] (d : Nat → β) : Option Nat → Tab β → Bool
  | _, [] => true
  | lo, (k, v) :: t =>
    (match lo with | none => true | some l => decide (l < k)) && decide (v ≠ d k) && Tab.wfFrom d (some k) t

/-- The canonical form of a table. -/
def Tab.wf {β : Type} [DecidableEq β] (d : Nat → β) (t : Tab β) : Bool := Tab.wfFrom d none t

end Sys2Proof.Machine
end

