-- ==== Sys2Proof/Machine/State.lean ====
section
/-! DEFINITION. The state of the CTM-6400 block as plain data, and the state right after reset. Registers that the
register maps name live in `Dev.regs`, keyed by address; the structures hold what no register holds. -/

namespace Sys2Proof.Machine

/-- The module state (R405). -/
inductive ModState where
  | off
  | boot
  | standby
  | ready
  | active
  | safe
  deriving DecidableEq, Repr

/-- A whole module time: seconds, nanoseconds below 10^9, and 2^-32 ns (R307). -/
structure TimeVal where
  sec : Nat := 0
  ns : Nat := 0
  frac : Nat := 0
  deriving DecidableEq, Repr

/-- A step waiting for the next whole second (R310). -/
structure StepReq where
  rel : Bool
  sec : Nat
  ns : Nat
  frac : Nat
  deriving DecidableEq, Repr

/-- The time base, its servo and PPS (R307 to R320), beyond its registers. -/
structure TimeSt where
  now : TimeVal := {}
  /-- The crystal or REFCLK stopped the counter (R488): it holds. -/
  held : Bool := false
  /-- The integrator I of R316, in ns. -/
  integ : Rat := 0
  /-- The servo term of y (R316). -/
  yServo : Rat := 0
  /-- The manual setting of y (R308, R318). -/
  yManual : Rat := 0
  /-- The crystal steering taken out of INCR (R317). -/
  yXo : Rat := 0
  /-- What remains of the slew, in 2^-32 ns (R312). -/
  slewRem : Int := 0
  /-- What one tick takes of it, in 2^-32 ns, and whether a slew has not been reported as ended. -/
  slewTick : Int := 0
  slewOn : Bool := false
  stepPend : Option StepReq := none
  /-- Offsets committed since the last evaluation: source and 2^-16 ns (R314, R316). -/
  meas : List (Nat × Int) := []
  /-- A step fell in this servo period, so its measurements are discarded (R311). -/
  dropMeas : Bool := false
  /-- Time-base cycles since the last accepted PPS_IN edge, none before the first (R315). -/
  ppsAge : Option Nat := none
  /-- The level of PPS_OUT (R320). -/
  ppsOut : Bool := false
  /-- Consecutive updates within LOCK_NS (R318). -/
  lockRun : Nat := 0
  /-- Consecutive evaluations without an update (R318). -/
  noUpd : Nat := 0
  /-- The servo terms of the last LOCKED evaluations, newest first, at most 64 (R318). -/
  yHist : List Rat := []
  /-- Air time is muted until the first frame boundary after a step (R311). -/
  stepMute : Bool := false
  deriving DecidableEq, Repr

/-- A captured edge of a TT_IN land (R326). -/
structure TtEdge where
  rising : Bool
  ns : Nat
  frac : Nat
  secLo : Nat
  deriving DecidableEq, Repr

/-- The Timetable beyond its registers (R321 to R328). -/
structure TtblSt where
  /-- Level targets with a pending clear (PULSE). -/
  pulses : List Nat := []
  /-- Queues of the TT_IN inputs. -/
  fifos : Tab (List TtEdge) := []
  /-- TT_OUT lands that hold their SAFE level until an entry changes them after SAFE (R327). -/
  safeHold : Nat := 0
  deriving DecidableEq, Repr

/-- A PENDING command whose final answer or completing notification is due (R415, R420). -/
structure PendOp where
  mb : Nat
  tag : Nat
  seq : Nat
  opcode : Nat
  /-- What the command named, as its family keeps it. -/
  args : List Nat
  deriving DecidableEq, Repr

/-- One mailbox: its rings, pointers and sequence state (R411 to R421, R436). -/
structure MboxSt where
  /-- Inbound frames held, oldest first, at most 8. -/
  inRing : List (List Byte) := []
  inHead : Nat := 0
  /-- Outbound frames waiting, oldest first, at most 8. -/
  outRing : List (List Byte) := []
  outTail : Nat := 0
  /-- Frames the firmware has made while the ring is full (R418), oldest first. -/
  outWait : List (List Byte) := []
  /-- The SEQ expected next; none until the first command (R417). -/
  expSeq : Option Nat := none
  /-- The last answered SEQ and its stored response (R417). -/
  lastResp : Option (Nat × List Byte) := none
  /-- A command whose immediate response waits for the hardware (R419): the mailbox runs nothing else meanwhile (R418). -/
  waiting : Option PendOp := none
  /-- Notifications sent on the mailbox (R414). -/
  notifySeq : Nat := 0
  deriving DecidableEq, Repr

/-- A runtime slot of the boot flash (R427): the version of a verified image, none where there is none. -/
structure SlotSt where
  verified : Option Nat := none
  deriving DecidableEq, Repr

/-- What the runtime firmware and the boot loader keep (R329, R402, R409, R422, R428, R474). -/
structure FwSt where
  /-- The runtime firmware runs. -/
  running : Bool := false
  /-- The boot loader serves MB1 because both slots failed (R430). -/
  recovery : Bool := false
  /-- The boot loader runs. -/
  loader : Bool := false
  /-- The reset before this boot was a warm one. -/
  warm : Bool := false
  autoStep : Bool := true
  stepUs : Nat := 10
  ptpCfg : Nat := 0
  ptpDomain : Nat := 0
  ptpInterval : Nat := 0
  /-- Scripts of MB3: the bound command frames (R330). -/
  scripts : Tab (List (List Byte)) := []
  /-- Script doorbells waiting on MB3 (R328). -/
  bells : List Nat := []
  /-- A script that waits for the answer to one of its commands, and the position of the next (R422). -/
  scriptsRunning : List (Nat × Nat) := []
  pendingOps : List PendOp := []
  slotA : SlotSt := {}
  slotB : SlotSt := {}
  /-- Preferred slot in the profile area (R428): false A. -/
  slotPref : Bool := false
  /-- Owner kernels registered: KERNEL_ID, Hamper address and length (R204). -/
  kernels : List (Nat × Nat × Nat) := []
  /-- Clusters set aside for owner kernels (R204), as a mask. -/
  ownerClu : Nat := 0
  /-- Signer and SVN of the running image (R446): false vendor. -/
  runOwner : Bool := false
  runSvn : Nat := 0
  /-- The next boot takes the other slot (SYS_REBOOT). -/
  rebootOther : Bool := false
  /-- A SYS_REBOOT has been answered and its warm reset is due. -/
  rebootDue : Bool := false
  /-- A SYS_EVENT STATE waits for LINKA (R519). -/
  stateEventHeld : Bool := false
  /-- BIST pace in ms, 0 stopped (R468), and the next slice. -/
  bistPace : Nat := 100
  bistNext : Nat := 0
  /-- The correctable errors seen, each a word and a time in ns, for the third CE within 24 h (R466). -/
  ceSeen : List (Nat × Nat) := []
  /-- Pages whose retirement waits for the one that runs (R466). -/
  retireWait : List Nat := []
  /-- Pages recorded as retired in the profile area of the flash (R466). -/
  retiredRec : List Nat := []
  deriving DecidableEq, Repr

/-- An entry of the error log (R464). -/
structure LogEntry where
  cls : Nat
  src : Nat
  synd : Nat
  word : Nat
  ns : Nat
  secLo : Nat
  deriving DecidableEq, Repr

/-- The slice test beyond its registers (R467, R468). -/
structure BistSt where
  /-- STOP came during the march: the slice migrates back untested (R468). -/
  stopped : Bool := false
  /-- Rows soft-repaired since power-on and not yet in fuses, by 1 MiB row block (R467, R469). -/
  softRows : Tab Nat := []
  deriving DecidableEq, Repr

/-- A DMA channel beyond its registers (R478, R480). -/
structure DmaSt where
  /-- STOP was written while a burst ran. -/
  stopping : Bool := false
  /-- A word was uncorrectable; a write was dropped. -/
  ue : Bool := false
  prot : Bool := false
  /-- The domain waiting for the burst: none, the Hamper (16) or cluster c. -/
  drain : Option Nat := none
  deriving DecidableEq, Repr

/-- Memory integrity beyond its registers and the bytes themselves (R457 to R481). -/
structure MemSt where
  /-- Check state of stored 64-bit words, by word address (byte address / 8): class and syndrome; unlisted: clean. -/
  ecc : Tab (ErrClass × Byte) := []
  /-- Corrected words whose write-back is due (R461). -/
  writeback : List Nat := []
  log : List LogEntry := []
  /-- Word address and class of the 16 most recent entries (R464). -/
  recent : List (Nat × Nat) := []
  /-- The word the scrubber reads next, from the Hamper's start (R463). -/
  scrubPtr : Nat := 0
  /-- The page being retired (R466). -/
  retiring : Option Nat := none
  bist : BistSt := {}
  dma : Tab DmaSt := []
  /-- Region sizes in force, in 64 KiB units (R457). -/
  sizes : List Nat := [320, 546, 256, 384, 128]
  /-- Per port: bytes applied since the last mark, and packets discarded (R474). -/
  bulkBytes : Tab Nat := []
  bulkDrops : Tab Nat := []
  /-- The Hamper is in deep sleep (R522). -/
  hamperSleep : Bool := false
  deriving DecidableEq, Repr

/-- Observation beyond its registers (R486 to R496). -/
structure ObsSt where
  /-- Hard-fault conditions still present, by bit (R490). -/
  hardCond : Nat := 0
  /-- Trace records waiting, oldest first, at most 4,096 (R496). -/
  trace : List (BitVec 128) := []
  /-- Records lost since the last LOST record. -/
  lost : Nat := 0
  /-- LANES in force (R496). -/
  lanes : Nat := 0
  /-- Scrambler state of each trace lane (R493). -/
  scr : Tab (BitVec 58) := []
  /-- The model's own: the blocks sent last, one pair per lane. -/
  sent : List (BitVec 66) := []
  deriving DecidableEq, Repr

/-- Input, rails and resets (R506 to R511). -/
structure PowerSt where
  /-- VIN has been below UV_FALL, or above OV_RISE, and start-up is not allowed yet (R506). -/
  vinLow : Bool := false
  vinHigh : Bool := false
  /-- Bit r set: rail r is in regulation. -/
  rails : Nat := 0b1111
  /-- The level of RESET_N. -/
  resetN : Bool := true
  /-- PWR_GOOD has risen since the last power-on or RESET_N reset. -/
  booted : Bool := false
  /-- The level of PWR_GOOD. -/
  pwrGood : Bool := false
  /-- The watchdog has expired once since its last restart by a kick (R424). -/
  wdogWarned : Bool := false
  deriving DecidableEq, Repr

/-- A public-key slot of the fuses (R441, R442). -/
structure KeySlot where
  valid : Bool := false
  revoked : Bool := false
  hash : List Byte := []
  deriving DecidableEq, Repr

/-- The life-cycle state (R437). -/
inductive LcState where
  | maker
  | ownerOpen
  | field
  | returned
  deriving DecidableEq, Repr

/-- The one-time-programmable fuses: they survive every reset (R438, R441, R446, R469). -/
structure FuseSt where
  /-- The three pairs: OPEN, FIELD, RETURN; first and second fuse of each. -/
  openA : Bool := true
  openB : Bool := true
  fieldA : Bool := false
  fieldB : Bool := false
  retA : Bool := false
  retB : Bool := false
  vendor : List KeySlot := [{ valid := true, hash := Config.vendorHash 0 }, { valid := true, hash := Config.vendorHash 1 },
    { valid := true, hash := Config.vendorHash 2 }]
  owner : List KeySlot := [{}, {}, {}, {}]
  svnVendor : Nat := 0
  svnOwner : Nat := 0
  devid : List (BitVec 32) := [Config.devId 0, Config.devId 1, Config.devId 2, Config.devId 3]
  /-- Spare rows used by fuse repairs of the Hamper, by 1 MiB row block (R469). -/
  rows : Tab Nat := []
  /-- SYS_ID.GRADE (R3): false IA. -/
  gradeCA : Bool := false
  deriving DecidableEq, Repr

/-- What the signature engine is running (R449). -/
structure EngJob where
  op : Nat
  addr : Nat
  len : Nat
  /-- The opcode of the command it serves; 0 for a job that a register write started. -/
  who : Nat := 0
  deriving DecidableEq, Repr

/-- The signature engine and the life cycle beyond the registers and the fuses. -/
structure LcsSt where
  job : Option EngJob := none
  /-- The result the running job will report: RESULT, SIGNER, SLOT, ENTRY; none until it has been checked. -/
  outcome : Option (Nat × Nat × Nat × Nat) := none
  /-- How many nonces have been drawn (R450). -/
  nonceGen : Nat := 0
  /-- VENDOR_UNLOCK is in force until the next reset (R451). -/
  unlock : Bool := false
  /-- LCS_STATE.TRANS (R438). -/
  trans : Bool := false
  /-- A RETURN has verified and its warm reset is due (R452). -/
  returnDue : Bool := false
  /-- Jobs the firmware has queued (R454). -/
  queue : List EngJob := []
  deriving DecidableEq, Repr

/-- The bias DACs beyond their registers (R366 to R369). -/
structure AuxSt where
  /-- Code queues, oldest first, at most 16 entries of 13 bits. -/
  queues : Tab (List Nat) := []
  /-- Channels an AUXD_STEP event has marked for the next tick (R367). -/
  marked : List Nat := []
  /-- The entry a held channel steps to when its hold ends (R369). -/
  holds : Tab (Option Nat) := []
  /-- Held channels with a group event to pop after the hold (R369). -/
  deferred : List Nat := []
  /-- Channels whose EN has been cleared: high impedance at the next tick (R368). -/
  clearing : List Nat := []
  deriving DecidableEq, Repr

/-- One monitoring converter beyond its registers (R374). -/
structure MonSt where
  /-- Injected inputs, the one running first, at most 4; whether a MON_INJECT command waits for each. -/
  inj : List (Nat × Bool) := []
  /-- The source of the slot in progress: 0 continuous, 1 triggered, 2 injected. -/
  cur : Option Nat := none
  /-- Next place in the triggered list while it runs. -/
  trig : Option Nat := none
  /-- An injected conversion has delayed the rest of the triggered list (SLIP). -/
  slip : Bool := false
  /-- Next place in the continuous list. -/
  cont : Nat := 0
  deriving DecidableEq, Repr

/-- A transfer of an SPI controller (R379). -/
structure SpiXfer where
  bits : Nat
  cs : Nat
  read : Bool
  data : Nat
  deriving DecidableEq, Repr

/-- A transfer of the I²C controller (R380). -/
structure I2cXfer where
  read : Bool
  nostop : Bool
  addr : Nat
  count : Nat
  data : List Byte
  deriving DecidableEq, Repr

/-- The front-end blocks beyond their registers (R365 to R380). -/
structure FeSt where
  aux : AuxSt := {}
  mon : Tab MonSt := []
  /-- Consecutive out-of-band results of each input (R376). -/
  outCnt : Tab Nat := []
  /-- Paths whose comparator mute has been released and that wait for their symbol boundary (R377). -/
  resumeWait : Nat := 0
  /-- TXMUTE_N has risen and TX waits for a symbol boundary at least 1 µs later (R378): the time it rose. -/
  muteRose : Option TimeVal := none
  spi : Tab (Option SpiXfer) := []
  i2c : Option I2cXfer := none
  deriving DecidableEq, Repr

/-- One temperature sensor (R386, R387): all in 0.125 °C. -/
structure SensSt where
  /-- The sample before, none before the first. -/
  prev : Option Int := none
  /-- The last plausible value. -/
  held : Int := 0
  /-- Consecutive implausible samples. -/
  bad : Nat := 0
  /-- Consecutive plausible samples, up to 64. -/
  good : Nat := 0
  deriving DecidableEq, Repr

/-- One thermal zone beyond its registers (R388 to R391): how long each condition has held. -/
structure ZoneSt where
  warnUp : Nat := 0
  warnDn : Nat := 0
  throtUp : Nat := 0
  throtDn : Nat := 0
  shutUp : Nat := 0
  /-- The grace timer of GRACE runs (R391). -/
  grace : Bool := false
  /-- The grace timer of NOVALID runs (R388). -/
  nvGrace : Bool := false
  deriving DecidableEq, Repr

/-- Thermal and power beyond the registers (R385 to R397). -/
structure ThermSt where
  sens : Tab SensSt := []
  zone : Tab ZoneSt := []
  /-- How long the input power has been high, and low (R396). -/
  pwrHi : Nat := 0
  pwrLo : Nat := 0
  /-- Energy below one mJ, in µJ. -/
  energyUj : Nat := 0
  /-- Every zone has been sampled (R410). -/
  sampled : Bool := false
  deriving DecidableEq, Repr

/-- What a TRAIN block says of its sender's lane (R59). -/
structure TrainId where
  port : Nat
  phys : Nat
  logical : Nat
  widthM1 : Nat
  deriving DecidableEq, Repr

/-- One link lane beyond its registers (R47, R48, R55 to R64). -/
structure LaneSt where
  /-- The stage the lane has reached (R60): 1 to 4 and 6 in progress, 5 and 7 waiting for the port; 0 in no training. -/
  stage : Nat := 0
  /-- Attempts made at each stage (R61). -/
  tries : Tab Nat := []
  excluded : Bool := false
  /-- The lane is being re-initialised (R61). -/
  reinit : Bool := false
  /-- Validity of the last headers, newest first, at most 64 (R63). -/
  hdrs : List Bool := []
  /-- Level and length of the run of identical symbols received (R48). -/
  rxRun : Option (Level × Nat) := none
  /-- The same of the symbols sent (R47). -/
  txRun : Option (Level × Nat) := none
  /-- Symbols sent on the lane, and at the start of its last stripe (R50). -/
  txSyms : Nat := 0
  txMark : Nat := 0
  /-- Consecutive consistent TRAIN blocks, and what they say (R60, R64). -/
  trainRun : Nat := 0
  ident : Option TrainId := none
  /-- The last good snapshot (R57). -/
  snap : EqCoef := {}
  /-- In the millisecond running: the lane was frozen, saw header errors, rolled back (R57, R58). -/
  msFrozen : Bool := false
  msErrs : Nat := 0
  msRoll : Bool := false
  /-- The lane has been marked down on the running port (R74). -/
  down : Bool := false
  /-- DATA payloads waiting for deskew: BSN and bytes (R65). -/
  deskew : List (Nat × List Byte) := []
  deriving DecidableEq, Repr

/-- A packet (R84) without SEQ and CRCs. -/
structure Pkt where
  vc : Nat
  mod : Nat := 0
  bcast : Bool := false
  psum : Bool := false
  stream : Nat := 0
  kind : Nat := 0
  hops : Nat := 0
  payload : List Byte := []
  /-- Ingress time of a forwarded event message, in 2^-16 ns (R123). -/
  stamp : Option Nat := none
  /-- Its ingress credits return only when it leaves the forwarding queue (R115). -/
  owe : Bool := false
  deriving DecidableEq, Repr

/-- A packet held in the replay buffer (R94). -/
structure Held where
  seq : Nat
  pkt : Pkt
  /-- Times it has been sent. -/
  sent : Nat
  deriving DecidableEq, Repr

/-- A packet accepted for this module, with its acceptance instant (R104). -/
structure Ingress where
  pkt : Pkt
  at_ : TimeVal
  deriving DecidableEq, Repr

/-- One virtual channel of a port (R87 to R92). -/
structure VcSt where
  txq : List Pkt := []
  /-- Credits consumed, modulo 65,536 (R92). -/
  used : Nat := 0
  /-- The latest limit received since training (R92). -/
  limit : Option Nat := none
  /-- The partner's queue is below the minimum (R88). -/
  short : Bool := false
  /-- Packets accepted and not yet consumed. -/
  rxq : List Ingress := []
  /-- 64-byte units of the ingress queue freed since training, modulo 65,536 (R92). -/
  freed : Nat := 0
  /-- The limit granted last, in 64-byte units (R92). -/
  lim : Nat := 0
  deriving DecidableEq, Repr

/-- One port, or the bond whose lowest port it is, beyond its registers. -/
structure PortSt where
  /-- Attempts made at DESKEW and AGREE (R61). -/
  tries : Tab Nat := []
  /-- Consecutive TRAIN blocks with READY and unchanged masks (R66). -/
  agreeRun : Nat := 0
  /-- The partner's RX_MASK in those blocks. -/
  agreeMask : Nat := 0
  /-- The fast retrain was begun by the partner's FRT_REQ (R546). -/
  frtReplying : Bool := false
  /-- The receive direction has relocked and deskewed in the fast retrain (R75). -/
  frtReady : Bool := false
  /-- The map of R64 is settled: DESKEW has passed in this training. -/
  mapSet : Bool := false
  /-- BSN of the next stripe sent, and of the next stripe deskewed once a DATA block has come. -/
  txBsn : Nat := 0
  rxBsn : Option Nat := none
  /-- Bytes of the byte stream not yet cut into a payload, and the working lane that takes the next payload (R49). -/
  txPart : List Byte := []
  txNext : Nat := 0
  /-- The latest start, in symbols, of a working lane's block of the stripe before the one in progress (R50). -/
  txPrev : Nat := 0
  /-- The model's own: the payload blocks last sent, as lane and symbols. -/
  txOut : List (Nat × List Level) := []
  /-- The model's own: the bytes of the packet last sent. -/
  txLast : List Byte := []
  /-- Deskewed bytes not yet taken as packets. -/
  rxStream : List Byte := []
  vcs : Tab VcSt := []
  txSeq : Nat := 0
  rxExp : Nat := 0
  replay : List Held := []
  /-- Held packets still to be sent again, oldest first (R94). -/
  replayTodo : List Nat := []
  timerReplays : Nat := 0
  /-- Packet starts, modulo 64 (R89). -/
  starts : Nat := 0
  /-- At least one packet has been accepted since training (R90). -/
  ackValid : Bool := false
  ackDue : Bool := false
  nakDue : Bool := false
  /-- A NAK has been sent and the expected SEQ has not come (R91). -/
  nakSent : Bool := false
  /-- The receiver scans for a header (R86). -/
  scanning : Bool := false
  /-- LINK_EVENT codes sent in this training (R129). -/
  events : List Nat := []
  deriving DecidableEq, Repr

/-- An accepted downlink U section in the jitter buffer (R99, R109). -/
structure USec where
  stream : Nat
  carrier : Nat
  layer : Nat
  pos : AirPos
  start : Nat
  nprb : Nat
  comp : Nat
  data : List Byte
  deriving DecidableEq, Repr

/-- An accepted descriptor (R102). -/
structure Desc where
  carrier : Nat
  ul : Bool
  pos : AirPos
  numSym : Nat
  start : Nat
  nprb : Nat
  comp : Nat
  wsrc : Nat
  kind : Nat
  layers : Nat
  wsel : Nat
  sectionId : Nat
  /-- Whether its selection has been judged (R135), and how: muted or not. -/
  judged : Option Bool := none
  deriving DecidableEq, Repr

/-- An uplink section of the module (R111) or a partial sum (R117): 16-bit values, 24 a PRB. -/
structure UlSec where
  stream : Nat
  pos : AirPos
  start : Nat
  nprb : Nat
  comp : Nat
  contrib : Nat
  vals : List Int
  deriving DecidableEq, Repr

/-- An entry of the timestamp FIFO (R121, R130). -/
structure TsEntry where
  replayed : Bool
  egress : Bool
  port : Nat
  msgType : Nat
  seqId : Nat
  sec : Nat
  ns : Nat
  frac : Nat
  deriving DecidableEq, Repr

/-- The link and the packet engine beyond the registers. -/
structure LinkSt where
  lanes : Tab LaneSt := []
  ports : Tab PortSt := []
  /-- The bond in force (R70). -/
  bond : Nat := 0
  /-- Seeds by port and logical lane, minimum widths and roles in force, taken at a training (R46, R70). -/
  seeds : Tab Nat := []
  minWidth : Tab Nat := []
  roles : Tab Nat := []
  deriving DecidableEq, Repr

/-- The fronthaul packet engine beyond its registers (R98 to R124). -/
structure FhpSt where
  secs : List USec := []
  descs : List Desc := []
  /-- Uplink sections waiting for a partial sum, oldest first (R117). -/
  ulWait : List UlSec := []
  /-- Partial sums accepted before their section is ready (R117). -/
  psums : List UlSec := []
  /-- Sections that left without their partial sum (R118). -/
  ulLeft : List UlSec := []
  ts : List TsEntry := []
  /-- DL_LEAD and DL_EARLY in force (R110). -/
  lead : Nat := 100000
  early : Nat := 250000
  /-- Symbols are muted because the UPSTREAM port is down (R80). -/
  downMute : Bool := false
  /-- Carriers and symbols whose downlink data was complete at its deadline (R80, R107). -/
  complete : List (Nat × AirPos) := []
  deriving DecidableEq, Repr

/-- A carrier symbol in progress on a tile (R232, R233): its carrier, its start, and whether its loss has been counted. -/
structure SymSt where
  carrier : Nat
  start : Int
  counted : Bool
  deriving DecidableEq, Repr

/-- One converter tile beyond its registers (R229, R231 to R240, R518). -/
structure TileSt where
  /-- The converter references have settled since the last power-on. -/
  refsOk : Bool := false
  /-- The cold power-up has started (R518). -/
  cold : Bool := false
  /-- SLEEP has been cleared and the tile is on its way to WAKE_DONE (R240). -/
  waking : Bool := false
  /-- The first symbol each chain puts out starts no earlier (R225), in thirds of 2^-32 ns. -/
  txFrom : Int := 0
  rxFrom : Int := 0
  /-- FRAME_ADJ in force (R229). -/
  adj : BitVec 32 := 0
  /-- TX_EN, RX_EN and the shed mask in force (R238). -/
  txEn : Nat := 0xFFFF
  rxEn : Nat := 0xFFFF
  shed : Nat := 0
  /-- TX paths with something to send in the symbol in progress (R237), and RX paths that receive. -/
  busy : Nat := 0
  rxBusy : Nat := 0
  /-- Symbols sent and received at present. -/
  txSyms : List SymSt := []
  rxSyms : List SymSt := []
  /-- TX paths powered down, up to when their time has been counted, and what is left below a path-microsecond (R237). -/
  down : Nat := 0
  downAt : Int := 0
  downRem : Nat := 0
  /-- A calibration that a write of PLL_CAL began is to be reported (R243). -/
  recal : Bool := false
  /-- A LOCK_LOST has no RELOCKED yet, and the TX symbols muted since (R243). -/
  lost : Bool := false
  muted : Nat := 0
  deriving DecidableEq, Repr

/-- What a carrier's symbols run with (R244): the words of CFG, GAIN and UL_WIN in force. -/
structure CarSt where
  cfg : BitVec 32 := 0x1B116600
  gain : BitVec 32 := 0x4000
  win : BitVec 32 := 144
  deriving DecidableEq, Repr

/-- A carrier as a CARRIER_CFG gave it (R242): channel bandwidth in MHz, centres in Hz. -/
structure CarFw where
  bw : Nat
  dl : Nat
  ul : Nat
  deriving DecidableEq, Repr

/-- A CARRIER_RETUNE that has not ended (R242). -/
structure Retune where
  op : PendOp
  carrier : Nat
  /-- The centres asked for, none where the direction stays. -/
  dl : Option Nat
  ul : Option Nat
  /-- The symbol named by AT. -/
  at_ : Option AirPos
  committed : Bool
  /-- The centres before its words were committed. -/
  was : Option CarFw := none
  deriving DecidableEq, Repr

/-- A PLL_RECAL or TILE_SLEEP that has not ended (R242). -/
structure TileOp where
  op : PendOp
  /-- TILE_SLEEP: whether it wakes; PLL_RECAL: false. -/
  wake : Bool
  /-- Tiles that have not answered yet. -/
  left : List Nat
  /-- Tiles on which it has not begun. -/
  todo : List Nat
  /-- The symbol named by AT. -/
  at_ : Option AirPos
  deriving DecidableEq, Repr

/-- Carriers, band words and the RF commands under way. -/
structure RfSt where
  cars : Tab CarSt := []
  /-- Frequency words committed and not yet in force (R214), by oscillator. -/
  nco : Tab (Option Nat) := []
  fwCars : Tab (Option CarFw) := []
  /-- Band frequencies as BAND_CFG gave them, in Hz, by band group. -/
  bands : Tab (Option (Nat × Nat)) := []
  retunes : List Retune := []
  recals : List TileOp := []
  sleeps : List TileOp := []
  deriving DecidableEq, Repr


/-- A user group of the runtime firmware (R161, R168): each layer is a port of a context. -/
structure GroupSt where
  reg : Nat
  maxAge : Nat
  layers : List (Nat × Nat)
  deriving DecidableEq, Repr

/-- A commit that the runtime firmware sees through (R149, R542): of a WSET_COMMIT, or after a GROUP_CALC. -/
structure WCommit where
  set : Nat
  mb : Nat
  tag : Nat
  target : AirPos
  bcount : Nat := 0
  grp : Nat := 0
  /-- COMMIT has been written. -/
  sent : Bool := false
  /-- The command that ends with it; none after a GROUP_CALC. -/
  op : Option PendOp := none
  deriving DecidableEq, Repr

/-- A weight job (R163, R164). -/
structure WJob where
  op : PendOp
  grp : Nat
  carriers : List Nat
  dl : Bool
  ul : Bool
  target : AirPos
  sets : List Nat
  running : Bool := false
  /-- The group as it stood at the start, and the layers found stale (R162). -/
  layers : List (Nat × Nat) := []
  stale : List Nat := []
  /-- Antennas with their column of H at zero. -/
  dark : List Nat := []
  deriving DecidableEq, Repr

/-- A matrix replaced by the fallback for the rest of a slot (R150, R151): group `grp` of set `id`, or fixed beam `id`
as layer `grp`. -/
structure Fallen where
  beam : Bool
  carrier : Nat
  ul : Bool
  id : Nat
  grp : Nat
  /-- The fallback is uncorrectable too. -/
  dark : Bool
  deriving DecidableEq, Repr

/-- Weight sets, groups and jobs beyond the registers. -/
structure BeamSt where
  /-- Sets in the order of their configuration (R140). -/
  order : List Nat := []
  commits : List WCommit := []
  groups : Tab (Option GroupSt) := []
  jobs : List WJob := []
  fallen : List Fallen := []
  /-- Ports whose oldest B packet is a weight write that waits for its shadow (R147), as a mask. -/
  held : Nat := 0
  /-- Firmware counts (R168). -/
  calcLate : Nat := 0
  staleLayer : Nat := 0
  deriving DecidableEq, Repr


/-- An address generator (R176). -/
structure AgSt where
  base : Nat := 0
  len : Nat := 8192
  off : Int := 1
  /-- Post-modify; else circular. -/
  post : Bool := false
  ptr : Int := 0
  deriving DecidableEq, Repr

/-- An open loop (R190): its first and last bundle and how many runs are left. -/
structure LoopSt where
  first : Nat
  last : Nat
  left : Nat
  deriving DecidableEq, Repr

/-- A Hamper copy under way (R189): out of the cluster or into it, Hamper address, local line, lines. -/
structure HCopy where
  out : Bool
  addr : Nat
  line : Nat
  n : Nat
  deriving DecidableEq, Repr

/-- One beam cluster beyond its registers (R171); its local memory is in the machine's memory. -/
structure CluSt where
  /-- Instruction store: the bundles loaded. -/
  store : List (BitVec 256) := []
  entry : Nat := 0
  role : Nat := 0
  /-- V0–V15: element i of Vr is entry 64r + i. -/
  v : Tab (BitVec 32) := []
  /-- N0–N7: element i of Nr is entry 16r + i. -/
  n : Tab (BitVec 32) := []
  /-- Coefficient file: element i of entry e of bank b is entry (32b + e) × 64 + i. -/
  cf : Tab (BitVec 32) := []
  /-- OB0 and OB1: element i of OBb is entry 256b + i. -/
  ob : Tab (BitVec 32) := []
  /-- Line pointers of OB0 and OB1. -/
  obLine0 : Nat := 0
  obLine1 : Nat := 0
  /-- ACC0–ACC7: I and Q of unit u of set k are entry 256k + u, each a number of 48 bits. -/
  acc : Tab (Int × Int) := []
  /-- S1–S31. -/
  s : Tab (BitVec 32) := []
  ag : Tab AgSt := []
  loops : List LoopSt := []
  /-- Result of the last VNORM. -/
  norm : Nat := 0
  wq : List (BitVec 64) := []
  cq : List (BitVec 64) := []
  inq : List (BitVec 512) := []
  outq : List (BitVec 512) := []
  /-- Bank loads under way: Hamper address and entries. -/
  load0 : Option (Nat × Nat) := none
  load1 : Option (Nat × Nat) := none
  /-- Status of the last load of each bank (R191). -/
  stat0 : Nat := 0
  stat1 : Nat := 0
  copies : List HCopy := []
  /-- An uncorrectable word was read, and a write was dropped, since the last HWAIT (R191). -/
  copyUe : Bool := false
  copyDrop : Bool := false
  /-- Why a RUN is ending while transfers complete: 1 a STOP (R198), 2 a fault (R203). -/
  ending : Nat := 0
  /-- Errors in local memory words, by word number (R175). -/
  ecc : Tab ErrClass := []
  /-- Words whose corrected value awaits its write-back (R175). -/
  wback : List Nat := []
  deriving DecidableEq, Repr


/-- A capture request (R265): its record, and who in the firmware waits for it: 0 nobody, 1 adaptation, 2 a DPD_CAPTURE,
3 the DAC fit. -/
structure CapReq where
  owner : Bool
  sel : Nat
  trig : Nat
  tag : Nat
  delay : Nat
  dest : Nat
  who : Nat := 0
  op : Option PendOp := none
  deriving DecidableEq, Repr

/-- An open capture window (R266, R267). -/
structure CapWin where
  req : CapReq
  t0 : TimeVal
  gen : Nat
  /-- Flags seen so far, as in DPD_ORXr_DONE_LO.FLAGS. -/
  flags : Nat
  /-- The header of the active table at its opening, and whether the path's table or bypass has changed since. -/
  head : List (BitVec 32)
  changed : Bool := false
  deriving DecidableEq, Repr

/-- A record that drains into the Hamper (R268). -/
structure CapRec where
  req : CapReq
  flags : Nat
  gen : Nat
  head : List Byte
  streams : List (List (BitVec 32))
  deriving DecidableEq, Repr

/-- A completion (R269): the request, its flags and the generation at the window's start. -/
structure DoneEnt where
  req : CapReq
  flags : Nat
  gen : Nat
  /-- The record's header. -/
  head : List Byte
  deriving DecidableEq, Repr

/-- An observation receiver beyond its registers (R264 to R271). -/
structure OrxSt where
  queue : List CapReq := []
  /-- The request at the head has been taken up: FBSEL is set. -/
  atHead : Bool := false
  /-- Its trigger has come. -/
  trig : Bool := false
  win : Option CapWin := none
  drains : List CapRec := []
  done : List DoneEnt := []
  /-- Completions held while the done queue is full. -/
  held : List DoneEnt := []
  deriving DecidableEq, Repr

/-- A loader transfer under way (R255): paths, direction, copy and address as they were at its start. -/
structure LoadJob where
  mask : Nat
  dir : Bool
  copy : Bool
  addr : Nat
  deriving DecidableEq, Repr

/-- What the runtime firmware keeps of a path's predistortion (R272 to R279). -/
structure DpdFw where
  /-- 0 BYPASS, 1 HOLD, 2 ADAPT. -/
  mode : Nat := 0
  step : Nat := 8
  mu : Nat := 8
  updateMs : Nat := 20
  nbrs : List (Nat × Nat) := []
  frozen : Bool := false
  converged : Bool := false
  /-- Consecutive updates within 0.1 dB of the one before. -/
  calm : Nat := 0
  updates : Nat := 0
  tag : Nat := 0
  /-- A capture has been requested and has not come back. -/
  asked : Bool := false
  /-- A clean capture waits for its update: the generation it was taken under. -/
  clean : Option Nat := none
  /-- The next table, ready to be loaded. -/
  ready : Option (List (BitVec 32)) := none
  /-- Estimates of the last update in 0.01 dB, and the best since convergence: EVM and ACLR. -/
  evm : Option Int := none
  bestEvm : Int := 0
  bestAclr : Int := 0
  deriving DecidableEq, Repr

/-- A DPD_TABLE_LOAD with COMMIT or a DPD_RESET that has not ended: paths still to switch. -/
structure DpdOp where
  op : PendOp
  left : List Nat
  deriving DecidableEq, Repr

/-- Predistortion beyond its registers. -/
structure DpdSt where
  /-- Table copies in the form of an image (R252, R253): copy c of path n is entry 2n + c; unlisted: the identity. -/
  tables : Tab (List (BitVec 32)) := []
  /-- DPD_PATH_EN in force, by path (R249). -/
  en : Nat := 0
  load : Option LoadJob := none
  orx : Tab OrxSt := []
  fw : Tab DpdFw := []
  ops : List DpdOp := []
  /-- Generation of each tile under which the firmware captures (R275). -/
  gens : Tab Nat := []
  /-- Band groups committed in the slot in progress (R278), as a mask. -/
  slotDone : Nat := 0
  /-- The next record place of the firmware. -/
  nextRec : Nat := 0
  deriving DecidableEq, Repr


/-- Statistics of one RX path (R291 to R294). -/
structure CalStat where
  /-- Blocks offered and counted since the last update or starvation. -/
  offered : Nat := 0
  counted : Nat := 0
  s1 : List Int := []
  s2 : List Int := []
  c : List Int := []
  /-- When the last update was made, or ENG_EN set, in thirds of 2^-32 ns. -/
  since : Int := 0
  /-- The same for the starvation timer. -/
  starve : Int := 0
  deriving DecidableEq, Repr

/-- A measurement of R297: bursts that have run. -/
structure RecipSt where
  /-- M_t of paths 4q to 4q+3 by burst q, and M_r of all paths, each with 16 bins (entry 16n + b). -/
  mt : Tab (Int × Int) := []
  mr : Tab (Int × Int) := []
  /-- When the present CAL_RECIP window opened, none outside one. -/
  win : Option Int := none
  /-- A burst has run in it. -/
  used : Bool := false
  deriving DecidableEq, Repr

/-- Calibration beyond its registers (R282 to R305). -/
structure CalSt where
  stats : Tab CalStat := []
  /-- Statistics are blanked on a tile until then (R289). -/
  blank : Tab Int := []
  recip : RecipSt := {}
  /-- RECIP_RUNs that have not ended, and whether each applies its table. -/
  recipOps : List (PendOp × Bool) := []
  /-- CAL_RESETs that have not ended: tiles still to apply. -/
  resets : List DpdOp := []
  /-- MON_CALs: converters still to end. -/
  mons : List DpdOp := []
  /-- Deferral of the armed bank reported (R305), as a mask of tiles. -/
  deferred : Nat := 0
  /-- DAC tracking on, by tile (R304). -/
  dacOn : Nat := 0
  /-- A clean capture for the DAC fit waits; paths starved of one; when each path was last fitted. -/
  dacClean : List Nat := []
  dacStarved : Nat := 0
  dacLast : Tab (Option Int) := []
  dacAsked : List Nat := []
  /-- Host factors of RECIP_HOST, entry 16n + b, in the form of the table; unlisted: one. -/
  host : Tab (BitVec 32) := []
  deriving DecidableEq, Repr


/-- A burst of the Rambler that waits or runs (R344, R345). -/
structure RmbTx where
  /-- TYPE, ACK_REQ, PRI and the addressee (R341). -/
  type : Nat
  ackReq : Bool := false
  pri : Bool := false
  dst : Nat
  /-- Start time of AT: NS and SEC[31:0]. -/
  at_ : Option (Nat × Nat) := none
  n : Nat
  /-- An ACK or TIME_RESP of the hardware, which has no descriptor. -/
  hw : Bool := false
  /-- Queued by the runtime firmware, and the command it serves. -/
  fw : Bool := false
  op : Option PendOp := none
  /-- Descriptor address, and address of the payload of a DATA frame. -/
  desc : Nat := 0
  pay : Nat := 0
  /-- TIME_RESP: SEQ of the request and t2; ACK: the SEQ acknowledged. -/
  ref : Nat := 0
  t2 : Nat := 0
  seq : Nat := 0
  /-- Copies already sent, and consecutive denials (R355, R359). -/
  tries : Nat := 0
  denials : Nat := 0
  /-- The frame has completed as ACKED: its running copy completes nothing more (R355). -/
  acked : Bool := false
  deriving DecidableEq, Repr

/-- A frame sent with ACK_REQ that awaits its acknowledgement (R355); `timing`: its timer runs. -/
structure RmbAck where
  tx : RmbTx
  timing : Bool
  deriving DecidableEq, Repr

/-- The packet the receiver is on (R349, R350): its strength at the lands in dB, branch, levels of both branches, its
timestamp in eighths of a ns, and once known its header. -/
structure RmbRx where
  level : Rat
  branch : Bool
  lev0 : Int
  lev1 : Int
  ts : Int := 0
  hdr : BitVec 64 := 0
  deriving DecidableEq, Repr

/-- A time exchange outstanding (R356): SEQ of the request, t1 once sent, in eighths of a ns, and whether a step fell
since. -/
structure RmbExch where
  seq : Nat
  t1 : Option Int := none
  stepped : Bool := false
  deriving DecidableEq, Repr

/-- The Rambler beyond its registers (R334 to R361). -/
structure RmbSt where
  /-- The Rambler PLL is locked (R346, R410). -/
  locked : Bool := false
  /-- Words in force in the window (R336): RMB_PATH, RMB_TXCFG and the two frequency words. -/
  path : BitVec 32 := 0x00010000
  txcfg : BitVec 32 := 0x14050014
  txFtw : Nat := 0
  rxFtw : Nat := 0
  /-- When the open window opened, in thirds of 2^-32 ns. -/
  opened : Option Int := none
  /-- A burst has been sent in this window; the start instant of a burst without AT has gone by. -/
  sent : Bool := false
  gone : Bool := false
  txq : List RmbTx := []
  /-- The burst running, and when it began. -/
  burst : Option (RmbTx × Int) := none
  /-- The burst that is held for a lock (R346). -/
  hold : Option RmbTx := none
  acks : List RmbAck := []
  /-- Completions: code, SEQ, descriptor; those beyond sixteen wait. -/
  done : List (Nat × Nat × Nat) := []
  seq : Nat := 0
  rx : Option RmbRx := none
  /-- Ring slots in use, as a mask, the slot looked at first, and the completions of the ring: status and slot. -/
  slots : Nat := 0
  nextSlot : Nat := 0
  rxq : List (Nat × Nat) := []
  /-- Last SEQ of the most recent senders, newest first, at most 16: SRC and SEQ (R355). -/
  seen : List (Nat × Nat) := []
  exch : Option RmbExch := none
  /-- When COEX_GNT_OUT rose, and what is left below a microsecond (R364). -/
  gntAt : Option Int := none
  gntRem : Nat := 0
  /-- The interval of RMB_TT in frames (R361). -/
  interval : Nat := 0
  deriving DecidableEq, Repr

/-- The block without its memories and its queue of commands. -/
structure Dev where
  /-- The model's own: how many free values have been taken. -/
  free : Nat := 0
  /-- The model's own: the word the last register read answered. -/
  rdata : BitVec 32 := 0
  /-- The model's own: the bytes the last management-SPI transaction returned. -/
  rbytes : List Byte := []
  /-- Registers, by address; an unlisted register reads as its reset value. -/
  regs : Tab (BitVec 32) := []
  /-- Latched words of multi-word groups, by requester and address (R8, R10). -/
  latch : Tab (Option (BitVec 32)) := []
  /-- Staged words of writable groups, by requester and address (R12). -/
  staged : Tab (Option (BitVec 32)) := []
  /-- SYS_STATE.STATE (R405). -/
  mod : ModState := .boot
  time : TimeSt := {}
  ttbl : TtblSt := {}
  mbox : Tab MboxSt := []
  fw : FwSt := {}
  memi : MemSt := {}
  obs : ObsSt := {}
  power : PowerSt := {}
  fuse : FuseSt := {}
  lcs : LcsSt := {}
  fe : FeSt := {}
  therm : ThermSt := {}
  link : LinkSt := {}
  fhp : FhpSt := {}
  tiles : Tab TileSt := []
  beam : BeamSt := {}
  clu : Tab CluSt := []
  rf : RfSt := {}
  dpd : DpdSt := {}
  cal : CalSt := {}
  rmb : RmbSt := {}
  deriving DecidableEq, Repr

/-- The whole machine: the commands that wait, first in first out, the bytes of the memories, and the block. -/
structure State where
  pending : List Instr := []
  mem : List Host.Cell := []
  dev : Dev := {}
  deriving DecidableEq, Repr

/-- Why the machine stops with a fault. -/
inductive Fault where
  /-- A register access named an address outside the register space 0x4000_0000 to 0x402B_FFFF (R402): raised by the
  register commands; safe, since no register is there. -/
  | noSuchRegister (addr : Nat)
  deriving DecidableEq, Repr

/-- Why a command has no meaning. -/
inductive Refusal where
  /-- The command's meaning has not been written yet: raised by the dispatch; safe. -/
  | notModelled (mnemonic : String)
  deriving DecidableEq, Repr

/-- The machine right after a power-on or RESET_N reset, at the boot origin (R510, R511, R512): BOOT, every register at
its reset value, no command waiting, memory with nothing listed. -/
def State.reset : State := {}

end Sys2Proof.Machine
end

