-- ==== Sys2Proof/Machine/Ops.lean ====
section
/-! DEFINITION. The named operations over registers, memory and time that every meaning is built from. -/

namespace Sys2Proof.Machine

/-- The bytes of the memories. -/
abbrev Mem := List Host.Cell

/-- Bytes to be stored, each run with its first address, in order. -/
abbrev Writes := List (Nat × List Byte)

/-- The access rows of the block an address lies in (the base addresses of the register chapters). -/
def blockRows (a : Nat) : List RegRow :=
  if a < 0x40010000 then sysRows
  else if a < 0x40020000 then lcsRows
  else if a < 0x40030000 then mboxRows
  else if a < 0x40040000 then timeRows
  else if a < 0x40050000 then ttblRows
  else if a < 0x40060000 then linkRows
  else if a < 0x40070000 then fhpRows
  else if a < 0x40080000 then beamRows
  else if a < 0x40100000 then cluRows
  else if a < 0x40200000 then tileRows
  else if a < 0x40210000 then dpdRows
  else if a < 0x40220000 then calRows
  else if a < 0x40230000 then rmbRows
  else if a < 0x40240000 then auxdRows
  else if a < 0x40250000 then monRows
  else if a < 0x40260000 then thrmRows
  else if a < 0x40270000 then memiRows
  else if a < 0x40280000 then bistRows
  else if a < 0x40290000 then dmaRows
  else if a < 0x402A0000 then obsRows
  else if a < 0x402B0000 then pwrRows
  else coexRows

/-- The row of an address, none where no register of the maps lies. -/
def regRow (a : Nat) : Option RegRow := (blockRows a).find? (fun r => r.hits a)

/-- The shipped coefficient a tile's stage holds at reset (R224): option 0x01 in stage 1, 0x11 in stage 2. -/
def coefReset (a : Nat) : Option (BitVec 32) :=
  let o := (a - 0x40100000) % 0x40000
  let i := o % 0x200 / 4
  if a < 0x40100000 ∨ 0x40200000 ≤ a ∨ o < 0x400 ∨ 0xC00 ≤ o ∨ 96 ≤ i then none
  else if o / 0x200 % 2 = 0 then some ((Config.shippedCoef 0x01 i).setWidth 32)
  else some ((Config.shippedCoef 0x11 i).setWidth 32)

/-- The code bits of a trim page word by its offset in the page (R306), 0 where there is none. -/
def trimBits (o : Nat) : Nat :=
  if o % 4 ≠ 0 then 0 else if o < 0x400 then 30 else if o < 0x500 then 20 else if o < 0x520 then 10 else 0

/-- A word of the three trim banks at reset: the fuses' codes (R285). -/
def trimReset (a : Nat) : Option W32 :=
  if a < 0x40211000 ∨ 0x4021D000 ≤ a then none
  else
    let o := (a - 0x40211000) % 0x4000
    some (BitVec.ofNat 32 ((Config.trimFuse (o / 0x1000) (o % 0x1000)).toNat % 2 ^ trimBits (o % 0x1000)))

/-- What a register reads as at reset, by address (the Reset columns of the register maps). The words whose reset
value depends on their index or on what the spec does not print are given here: MON_WACTn's path (R384), the
coefficient stores (R224), the trim banks (R285), and the bias-code fuse limits (R370). -/
def regReset (a : Nat) : W32 :=
  match (coefReset a).orElse (fun _ => trimReset a) with
  | some v => v
  | none =>
    match regRow a with
    | none => 0
    | some r =>
      if A.MON_WACTn 0 ≤ a ∧ a < A.MON_WACTn 128 ∧ a % 8 = A.MON_WACTn 0 % 8 then
        BitVec.ofNat 32 (r.rst + (a - A.MON_WACTn 0) / 8 % 64 * 65536)
      else if A.AUXD_FLIMn 0 ≤ a ∧ a < A.AUXD_FLIMn 96 then BitVec.ofNat 32 (8190 * 65536)
      else if a = A.THRM_FUSE then 130
      else BitVec.ofNat 32 r.rst

/-- What the register at `a` holds. -/
def Dev.reg (d : Dev) (a : Nat) : W32 := Tab.get regReset a d.regs

/-- The block with the register at `a` holding `v`. -/
def Dev.setReg (d : Dev) (a : Nat) (v : W32) : Dev := { d with regs := Tab.set regReset a v d.regs }

/-- The block with the writable (RW) bits of a register taken from a word, its other bits kept (R5). -/
def Dev.storeRw (d : Dev) (a v : Nat) : Dev :=
  match regRow a with
  | none => d
  | some r =>
    let old := (d.reg a).toNat
    d.setReg a (BitVec.ofNat 32 (old - (old &&& r.rw) + (v &&& r.rw)))

/-- The number a field holds. -/
def Dev.getF (d : Dev) (f : Fld) : Nat := bitsN (d.reg f.addr).toNat f.lo f.w

/-- A word with the `w` bits from bit `lo` replaced by those of `v`. -/
def putBits (word lo w v : Nat) : Nat := word - bitsN word lo w * 2 ^ lo + v % 2 ^ w * 2 ^ lo

/-- The block with a field holding `v`, modulo its width. -/
def Dev.setF (d : Dev) (f : Fld) (v : Nat) : Dev :=
  d.setReg f.addr (BitVec.ofNat 32 (putBits (d.reg f.addr).toNat f.lo f.w v))

/-- Whether a field is other than zero. -/
def Dev.flag (d : Dev) (f : Fld) : Bool := d.getF f != 0

/-- The block with a one-bit field set or clear. -/
def Dev.setB (d : Dev) (f : Fld) (b : Bool) : Dev := d.setF f (b2n b)

/-- A saturating 32-bit counter, counted up by `n`. -/
def Dev.count (d : Dev) (a : Nat) (n : Nat := 1) : Dev :=
  d.setReg a (BitVec.ofNat 32 (min 0xFFFFFFFF ((d.reg a).toNat + n)))

/-- A saturating counter that is a field of its word, counted up by `n`. -/
def Dev.countF (d : Dev) (f : Fld) (n : Nat := 1) : Dev := d.setF f (min (2 ^ f.w - 1) (d.getF f + n))

/-- The 64-bit number of a register pair. -/
def Dev.pair (d : Dev) (lo hi : Nat) : Nat := (d.reg lo).toNat + (d.reg hi).toNat * 2 ^ 32

/-- A register pair holding a 64-bit number. -/
def Dev.setPair (d : Dev) (lo hi v : Nat) : Dev :=
  (d.setReg lo (BitVec.ofNat 32 v)).setReg hi (BitVec.ofNat 32 (v / 2 ^ 32))

/-- A saturating 64-bit counter in a register pair, counted up by `n`. -/
def Dev.count64 (d : Dev) (lo hi n : Nat) : Dev := d.setPair lo hi (min (2 ^ 64 - 1) (d.pair lo hi + n))

/-- The block after `f` if `c` holds. -/
def Dev.when (d : Dev) (c : Bool) (f : Dev → Dev) : Dev := if c then f d else d

/-- A fold over the numbers below `n`, in rising order. -/
def Dev.forN (d : Dev) (n : Nat) (f : Dev → Nat → Dev) : Dev := (List.range n).foldl f d

/-- A fold over a list. -/
def Dev.forL {α : Type} (d : Dev) (l : List α) (f : Dev → α → Dev) : Dev := l.foldl f d

/-! Free values. -/

/-- A free number. -/
def Dev.anyNat (d : Dev) : Nat × Dev := (Config.freeNat d.free, { d with free := d.free + 1 })

/-- A free 32-bit word. -/
def Dev.anyWord (d : Dev) : BitVec 32 × Dev := (Config.freeWord d.free, { d with free := d.free + 1 })

/-- A free truth value. -/
def Dev.anyBool (d : Dev) : Bool × Dev := (Config.freeBool d.free, { d with free := d.free + 1 })

/-- A quotient whose rounding the spec does not state: the whole number below, or the one above where the quotient is
not whole, as a free value has it. -/
def Dev.roundFree (d : Dev) (num : Int) (den : Nat) : Int × Dev :=
  if num % (den : Int) = 0 then (num / (den : Int), d)
  else (num / (den : Int) + (if Config.roundUp d.free then 1 else 0), { d with free := d.free + 1 })

/-- The parts of one write that are asked for, each carried out once; where there is more than one, their order, which
the spec does not state, is free. -/
def Dev.acts (d : Dev) (l : List (Bool × (Dev → Dev))) : Dev :=
  let fs := (l.filter (·.1)).map (·.2)
  if fs.length ≤ 1 then fs.foldl (fun d f => f d) d
  else
    let (k, d) := d.anyNat
    let (back, d) := d.anyBool
    let fs := fs.drop (k % fs.length) ++ fs.take (k % fs.length)
    (if back then fs.reverse else fs).foldl (fun d f => f d) d

/-! Time. -/

/-- A time in 2^-32 ns. -/
def TimeVal.toFrac (t : TimeVal) : Nat := (t.sec * 1000000000 + t.ns) * 2 ^ 32 + t.frac

/-- The time of a number of 2^-32 ns; SEC has 64 bits (R307). -/
def TimeVal.ofFrac (f : Nat) : TimeVal :=
  let n := f / 2 ^ 32
  { sec := n / 1000000000 % 2 ^ 64, ns := n % 1000000000, frac := f % 2 ^ 32 }

/-- A time in 2^-16 ns, as the link's timestamps have it (R121). -/
def TimeVal.to16 (t : TimeVal) : Nat := t.toFrac / 2 ^ 16

/-- The time base's NS. -/
def Dev.nowNs (d : Dev) : Nat := d.time.now.ns

/-- The time base's SEC[31:0]. -/
def Dev.nowSecLo (d : Dev) : Nat := d.time.now.sec % 2 ^ 32

/-! Memory. -/

/-- What an unlisted byte of memory reads as: zero (R469 for the Hamper). -/
def memDefault (_ : Nat) : Byte := 0

/-- The byte at an address. -/
def memGet (m : Mem) (a : Nat) : Byte := Tab.get memDefault a m

/-- The memory with one byte written. -/
def memPut (m : Mem) (a : Nat) (b : Byte) : Mem := Tab.set memDefault a b m

/-- `n` bytes from an address. -/
def memRead (m : Mem) (a n : Nat) : List Byte := (List.range n).map (fun i => memGet m (a + i))

/-- The memory with a run of bytes written. -/
def memWrite (m : Mem) (a : Nat) : List Byte → Mem
  | [] => m
  | b :: bs => memWrite (memPut m a b) (a + 1) bs

/-- The memory with runs of bytes written, in order. -/
def memWrites (m : Mem) (ws : Writes) : Mem := ws.foldl (fun m w => memWrite m w.1 w.2) m

/-- The canonical form of the memory: addresses strictly rising, no byte equal to what an unlisted one reads as. -/
abbrev Memory.wf (m : Mem) : Bool := Tab.wf memDefault m

/-- The memory with every byte of an address range zero. -/
def memZero (m : Mem) (lo hi : Nat) : Mem := m.filter (fun c => decide (c.1 < lo ∨ hi ≤ c.1))

/-- The number held by `n` bytes, least significant first. -/
def memNat (m : Mem) (a n : Nat) : Nat := leNat (memRead m a n)

/-- First address of the Hamper (R457) and the one past its last. -/
def hamperLo : Nat := 0x10000000
def hamperHi : Nat := 0x18000000

/-- Whether a run of bytes lies wholly inside the Hamper. -/
def inHamper (a n : Nat) : Bool := decide (hamperLo ≤ a ∧ a + n ≤ hamperHi)

/-- First address of cluster `c`'s local memory window (R476). -/
def cluWindow (c : Nat) : Nat := 0x20000000 + 0x80000 * c

/-- Whether a run of bytes lies wholly inside the tightly-coupled memories (R402). -/
def inTcm (a n : Nat) : Bool := decide (0x04000000 ≤ a ∧ a + n ≤ 0x04080000)

/-- Base address in force of region `r` of the Hamper (R457, R458). -/
def Dev.regionBase (d : Dev) (r : Nat) : Nat := hamperLo + ((d.memi.sizes.take r).foldl (· + ·) 0) * 65536

/-- Size in force of region `r`; the free pool is what is left (R457). -/
def Dev.regionSize (d : Dev) (r : Nat) : Nat :=
  if r < 5 then d.memi.sizes.getD r 0 * 65536 else hamperHi - d.regionBase 5

/-! Sub-structures kept per index. -/

def Dev.lane (d : Dev) (n : Nat) : LaneSt := Tab.get (fun _ => {}) n d.link.lanes
def Dev.modLane (d : Dev) (n : Nat) (f : LaneSt → LaneSt) : Dev :=
  { d with link := { d.link with lanes := Tab.set (fun _ => {}) n (f (d.lane n)) d.link.lanes } }
def Dev.port (d : Dev) (x : Nat) : PortSt := Tab.get (fun _ => {}) x d.link.ports
def Dev.modPort (d : Dev) (x : Nat) (f : PortSt → PortSt) : Dev :=
  { d with link := { d.link with ports := Tab.set (fun _ => {}) x (f (d.port x)) d.link.ports } }
def PortSt.vc (p : PortSt) (v : Nat) : VcSt := Tab.get (fun _ => {}) v p.vcs
def PortSt.modVc (p : PortSt) (v : Nat) (f : VcSt → VcSt) : PortSt :=
  { p with vcs := Tab.set (fun _ => {}) v (f (p.vc v)) p.vcs }
def Dev.mbx (d : Dev) (m : Nat) : MboxSt := Tab.get (fun _ => {}) m d.mbox
def Dev.modMbx (d : Dev) (m : Nat) (f : MboxSt → MboxSt) : Dev :=
  { d with mbox := Tab.set (fun _ => {}) m (f (d.mbx m)) d.mbox }
def Dev.modFw (d : Dev) (f : FwSt → FwSt) : Dev := { d with fw := f d.fw }
def Dev.modTime (d : Dev) (f : TimeSt → TimeSt) : Dev := { d with time := f d.time }
def Dev.modMemi (d : Dev) (f : MemSt → MemSt) : Dev := { d with memi := f d.memi }
def Dev.modLcs (d : Dev) (f : LcsSt → LcsSt) : Dev := { d with lcs := f d.lcs }
def Dev.modFuse (d : Dev) (f : FuseSt → FuseSt) : Dev := { d with fuse := f d.fuse }
def Dev.modFhp (d : Dev) (f : FhpSt → FhpSt) : Dev := { d with fhp := f d.fhp }

/-! The module state. -/

/-- The code of a module state (R405). -/
def ModState.code : ModState → Nat
  | .off => 0
  | .boot => 1
  | .standby => 2
  | .ready => 3
  | .active => 4
  | .safe => 5

/-- Whether a requester can reach a land, a register or a clock: the rails are up and RESET_N is high (R405, R511). -/
def Dev.alive (d : Dev) : Bool := d.mod != .off && d.power.resetN

/-- The life-cycle state the fuses give (R437, R438): a pair with its second fuse blown has been passed. -/
def FuseSt.state (f : FuseSt) : LcState :=
  if f.retB then .returned else if f.fieldB then .field else if f.openB then .ownerOpen else .maker

/-- The code of a life-cycle state (R437). -/
def LcState.code : LcState → Nat
  | .maker => 0
  | .ownerOpen => 1
  | .field => 2
  | .returned => 3

/-- The life-cycle state in force. -/
def Dev.lc (d : Dev) : LcState := d.fuse.state

/-- Whether the life-cycle state is MAKER or OWNER_OPEN, which grant the development rights (R439). -/
def Dev.lcOpen (d : Dev) : Bool := d.lc == .maker || d.lc == .ownerOpen

/-- An ignored write counted in SYS_CMD_ERR (R435). -/
def Dev.cmdErr (d : Dev) : Dev := d.count A.SYS_CMD_ERR

/-! Trace records (R494 to R496). -/

/-- A trace record by source and payload, stamped with the time base (R494). -/
def traceRec (src ns payload : Nat) : BitVec 128 :=
  BitVec.ofNat 128 (src % 64 * 2 ^ 122 + ns % 2 ^ 26 * 2 ^ 96 + payload % 2 ^ 96)

/-- Put a record into the trace queue, or count it lost (R496); SYNC is always enabled, the others by OBS_TRC_SRC
(R495). No record is made while the port is off. -/
def Dev.trace (d : Dev) (src payload : Nat) : Dev :=
  if d.obs.lanes = 0 then d
  else if src ≠ 0 ∧ ¬ (d.getF F.OBS_TRC_SRC_EN).testBit src then d
  else if d.obs.trace.length < 4096 then
    { d with obs := { d.obs with trace := d.obs.trace ++ [traceRec src d.nowNs payload] } }
  else
    let d := (d.count A.OBS_TRC_DROP).setB F.OBS_INT_STAT_TRC_DROP true
    { d with obs := { d.obs with lost := d.obs.lost + 1 } }

/-- BUSWATCH (R495): one record for each 32-bit word of a write that lies in the watched range, with the writer coded as
the error log's sources (R464); bytes of the word that the write leaves alone read zero in the record (DEDUCED). -/
def Dev.watch (d : Dev) (src a : Nat) (bs : List Byte) : Dev :=
  let n := (d.reg A.OBS_WATCH_LEN).toNat
  let base := (d.reg A.OBS_WATCH_BASE).toNat
  if n = 0 ∨ bs = [] then d
  else
    d.forN ((a % 4 + bs.length + 3) / 4) (fun d i =>
      let w := a / 4 * 4 + 4 * i
      if base ≤ w ∧ w < base + n then
        let v := leNat ((List.range 4).map (fun j => if a ≤ w + j then bs.getD (w + j - a) 0 else 0))
        d.trace 8 (w % 2 ^ 32 * 2 ^ 64 + v * 2 ^ 32 + src % 32 * 2 ^ 27)
      else d)

/-! How a meaning answers. -/

/-- Move the frames the firmware has made into the outbound ring while it has a free slot, each into its Hamper slot
at OUT_BASE + 0x1040 × i too (R418, R421). -/
def flushBox (m : Nat) : Nat → Dev → Writes × Dev
  | 0, d => ([], d)
  | fuel + 1, d =>
    let b := d.mbx m
    match b.outWait with
    | [] => ([], d)
    | f :: fs =>
      if b.outRing.length < 8 then
        let a := (d.reg (A.MBOX_m_OUT_BASE m)).toNat + 0x1040 * (b.outTail % 8)
        let d := d.modMbx m (fun b => { b with outRing := b.outRing ++ [f], outTail := (b.outTail + 1) % 8, outWait := fs })
        let d := if inHamper a f.length then d.watch 1 a f else d
        let (ws, d) := flushBox m fuel d
        ((if inHamper a f.length then [(a, f)] else []) ++ ws, d)
      else ([], d)

/-- Outbound frames moved on every mailbox with a ring. -/
def flushAll (d : Dev) : Writes × Dev :=
  let (w0, d) := flushBox 0 (d.mbx 0).outWait.length d
  let (w1, d) := flushBox 1 (d.mbx 1).outWait.length d
  let (w2, d) := flushBox 2 (d.mbx 2).outWait.length d
  (w0 ++ w1 ++ w2, d)

/-- The state with these bytes written and this block, its outbound frames moved to their rings. -/
def settle (s : State) (ws : Writes) (d : Dev) : State :=
  let (fs, d) := flushAll d
  { s with mem := memWrites (memWrites s.mem ws) fs, dev := d }

/-- A meaning that neither reads nor writes memory; no effect while the module is off or held in reset. -/
def run (s : State) (f : Dev → Dev) : Host.Outcome State Fault Refusal :=
  .next (if s.dev.alive then settle s [] (f s.dev) else s)

/-- A meaning that may read memory and answers the bytes to write. -/
def runW (s : State) (f : Mem → Dev → Writes × Dev) : Host.Outcome State Fault Refusal :=
  .next (if s.dev.alive then (let r := f s.mem s.dev; settle s r.1 r.2) else s)

end Sys2Proof.Machine
end

