-- ==== Sys2Proof/Machine/Operands.lean ====
section
/-! DEFINITION. The operand forms of command payloads and packet payloads: fields of bytes, masks and words. -/

namespace Sys2Proof.Machine

/-- Byte `i` of a payload. -/
def byteAt (pl : List Byte) (i : Nat) : Nat := (pl.getD i 0).toNat

/-- The number in `n` bytes from byte `i`, least significant first (R414). -/
def leAt (pl : List Byte) (i n : Nat) : Nat := leNat ((pl.drop i).take n)

/-- The number in `n` bytes from byte `i`, most significant first (R41). -/
def beAt (pl : List Byte) (i n : Nat) : Nat := beNat ((pl.drop i).take n)

/-- The signed number in `n` bytes from byte `i`, least significant first. -/
def leAtS (pl : List Byte) (i n : Nat) : Int := sgn (8 * n) (leAt pl i n)

/-- A word built from (lowest bit, number) parts. -/
def wordOf (parts : List (Nat × Nat)) : W32 := BitVec.ofNat 32 ((parts.map (fun p => p.2 * 2 ^ p.1)).foldl (· + ·) 0)

/-- A 32-bit word as four bytes of a result (R414). -/
def word4 (v : W32) : List Byte := leBytes 4 v.toNat

/-- A number as four bytes of a result. -/
def le4 (v : Nat) : List Byte := leBytes 4 v

/-- The numbers of the bits set in a mask of `n` bits, in rising order. -/
def bitsOf (n mask : Nat) : List Nat := (List.range n).filter (fun i => mask.testBit i)

/-- How many bits are set in a mask of `n` bits. -/
def popc (n mask : Nat) : Nat := (bitsOf n mask).length

/-- The mask of a list of bit numbers. -/
def maskOf (l : List Nat) : Nat := l.foldl (fun m i => setBitN m i true) 0

/-- The 64-byte credit units of a packet with a payload of `n` bytes (R83, R92). -/
def pktUnits (n : Nat) : Nat := (16 + (n + 3) / 4 * 4 + 4 + 63) / 64

/-- Whether all of `n` bytes from byte `i` are zero. -/
def zeroAt (pl : List Byte) (i n : Nat) : Bool := leAt pl i n == 0

/-- The registers from `a`, one after the other, as result bytes. -/
def Dev.regsBytes (d : Dev) (a n : Nat) : List Byte :=
  (List.range n).flatMap (fun i => word4 (d.reg (a + 4 * i)))

end Sys2Proof.Machine
end

