-- ==== Sys2Proof/Machine/Crc.lean ====
section
/-! DEFINITION. The check codes of the link: CRC-4 of a block header, CRC-16/CCITT and CRC-32 (R43, R52, R85). -/

namespace Sys2Proof.Machine

/-- One bit into a CRC register of `w` bits, most significant bit first. -/
def crcBit (w gen : Nat) (reg : Nat) (b : Bool) : Nat :=
  let r := reg * 2 % 2 ^ w
  if (reg.testBit (w - 1)) != b then Nat.xor r gen else r

/-- The bits of a byte, most significant first (R41). -/
def byteBits (b : Byte) : List Bool := (List.range 8).map (fun i => b.toNat.testBit (7 - i))

/-- One byte into a CRC register. -/
def crcByte (w gen : Nat) (reg : Nat) (b : Byte) : Nat := (byteBits b).foldl (crcBit w gen) reg

/-- The header check (R43): generator x^4 + x + 1 over six bits, initial value 0b1111. -/
def hchk (type bsn : Nat) : Nat :=
  ([type.testBit 1, type.testBit 0, bsn.testBit 3, bsn.testBit 2, bsn.testBit 1, bsn.testBit 0]).foldl (crcBit 4 3) 15

/-- CRC-16/CCITT (R52): generator 0x1021, initial value 0xFFFF. -/
def crc16 (bs : List Byte) : Nat := bs.foldl (crcByte 16 0x1021) 0xFFFF

/-- CRC-32 (R85): generator 0x04C1_1DB7, initial value and final XOR 0xFFFF_FFFF, no reflection. -/
def crc32 (bs : List Byte) : Nat := Nat.xor (bs.foldl (crcByte 32 0x04C11DB7) 0xFFFFFFFF) 0xFFFFFFFF

end Sys2Proof.Machine
end

