-- ==== Sys2Proof/Machine/CmdTable.lean ====
section
/-! DEFINITION. The states in which each runtime command is legal, as the command tables of the spec give them (R128,
R168, R205, R242, R279, R304, R330, R361, R381, R398, R433, R455, R481, R498), with what R416 adds for SAFE. -/

namespace Sys2Proof.Machine

/-- The states in which the command with this opcode is legal, bit `c` for state code `c`; none for an opcode that no
table of the spec lists. -/
def cmdLegal : Nat → Option Nat
  | 0x0001 => some 0b111110 -- SYS_INFO: All but OFF
  | 0x0002 => some 0b111100 -- SYS_STATE_SET: STANDBY, READY, ACTIVE, SAFE
  | 0x0003 => some 0b100000 -- SAFE_CLEAR: SAFE
  | 0x0004 => some 0b111110 -- SYS_REBOOT: All but OFF
  | 0x0005 => some 0b101100 -- WDOG_CFG: STANDBY, READY, SAFE
  | 0x0010 => some 0b100100 -- FW_STAGE: STANDBY, SAFE, and BOOT under R430
  | 0x0011 => some 0b111100 -- FW_ACTIVATE: STANDBY, READY, ACTIVE, SAFE
  | 0x0012 => some 0b111110 -- FW_STAT: All but OFF
  | 0x0020 => some 0b000100 -- PIN_LOOPBACK: STANDBY, in MAKER and OWNER_OPEN
  | 0x1010 => some 0b001100 -- STREAM_CFG: STANDBY, READY
  | 0x1011 => some 0b011100 -- FH_TIMING: STANDBY, READY, ACTIVE
  | 0x1012 => some 0b000100 -- CASCADE_CFG: STANDBY
  | 0x1013 => some 0b011100 -- FH_CHECK: STANDBY, READY, ACTIVE
  | 0x2001 => some 0b001100 -- BAND_CFG: STANDBY, READY
  | 0x2002 => some 0b001100 -- CARRIER_CFG: STANDBY, READY
  | 0x2003 => some 0b011000 -- CARRIER_RETUNE: READY, ACTIVE
  | 0x2004 => some 0b001100 -- CARRIER_DEL: STANDBY, READY
  | 0x2010 => some 0b001100 -- FILTER_LOAD: STANDBY, READY
  | 0x2011 => some 0b001100 -- FILTER_SELECT: STANDBY, READY
  | 0x2020 => some 0b011100 -- PLL_RECAL: STANDBY, READY, ACTIVE
  | 0x2021 => some 0b011100 -- TILE_SLEEP: STANDBY, READY, ACTIVE
  | 0x2022 => some 0b011000 -- PATH_MASK: READY, ACTIVE
  | 0x2030 => some 0b111100 -- RF_STAT: STANDBY, READY, ACTIVE
  | 0x3001 => some 0b000100 -- WMEM_CFG: STANDBY
  | 0x3002 => some 0b001100 -- CLU_MAP: STANDBY, READY
  | 0x3010 => some 0b001100 -- WSET_CFG: STANDBY, READY
  | 0x3011 => some 0b001100 -- WSET_FREE: STANDBY, READY
  | 0x3012 => some 0b011000 -- WSET_COMMIT: READY, ACTIVE
  | 0x3013 => some 0b011000 -- WSET_WRITE: READY, ACTIVE
  | 0x3014 => some 0b111100 -- WSET_STAT: STANDBY, READY, ACTIVE
  | 0x3020 => some 0b001100 -- FALLBACK_SET: STANDBY, READY
  | 0x3021 => some 0b001100 -- BEAM_SET: STANDBY, READY
  | 0x3030 => some 0b000100 -- CTX_CFG: STANDBY
  | 0x3031 => some 0b011000 -- USER_CFG: READY, ACTIVE
  | 0x3032 => some 0b011000 -- USER_READ: READY, ACTIVE
  | 0x3040 => some 0b011000 -- GROUP_CFG: READY, ACTIVE
  | 0x3041 => some 0b011000 -- GROUP_CALC: READY, ACTIVE
  | 0x3050 => some 0b111100 -- BEAM_STAT: STANDBY, READY, ACTIVE
  | 0x3060 => some 0b001100 -- KERNEL_ADD: STANDBY, READY
  | 0x3061 => some 0b001100 -- CLU_ASSIGN: STANDBY, READY
  | 0x3062 => some 0b011000 -- CLU_WORK: READY, ACTIVE
  | 0x3063 => some 0b011000 -- CLU_POLL: READY, ACTIVE
  | 0x3064 => some 0b111100 -- CLU_STAT: STANDBY, READY, ACTIVE
  | 0x4001 => some 0b011100 -- DPD_MODE: STANDBY, READY, ACTIVE
  | 0x4002 => some 0b011100 -- DPD_NEIGHBOUR: STANDBY, READY, ACTIVE
  | 0x4003 => some 0b011100 -- DPD_TABLE_LOAD: STANDBY, READY, ACTIVE
  | 0x4004 => some 0b111100 -- DPD_TABLE_READ: STANDBY, READY, ACTIVE
  | 0x4005 => some 0b011100 -- DPD_RESET: STANDBY, READY, ACTIVE
  | 0x4006 => some 0b011000 -- DPD_CAPTURE: READY, ACTIVE
  | 0x4007 => some 0b111100 -- DPD_STAT: STANDBY, READY, ACTIVE
  | 0x4010 => some 0b011100 -- CAL_MODE: STANDBY, READY, ACTIVE
  | 0x4011 => some 0b111100 -- CAL_READ: STANDBY, READY, ACTIVE
  | 0x4012 => some 0b011000 -- CAL_RESET: READY, ACTIVE
  | 0x4013 => some 0b011000 -- RECIP_RUN: READY, ACTIVE
  | 0x4014 => some 0b011000 -- RECIP_READ: READY, ACTIVE
  | 0x4015 => some 0b011000 -- RECIP_HOST: READY, ACTIVE
  | 0x4016 => some 0b011100 -- MON_CAL: STANDBY, READY, ACTIVE
  | 0x4017 => some 0b111100 -- CAL_STAT: STANDBY, READY, ACTIVE
  | 0x5001 => some 0b001100 -- TIME_CFG: STANDBY, READY
  | 0x5002 => some 0b001100 -- TIME_SET: STANDBY, READY
  | 0x5003 => some 0b011000 -- TIME_SLEW: READY, ACTIVE
  | 0x5004 => some 0b111100 -- TIME_GET: STANDBY, READY, ACTIVE
  | 0x5005 => some 0b011100 -- PTP_CFG: STANDBY, READY, ACTIVE
  | 0x5010 => some 0b011100 -- TT_WRITE: STANDBY, READY, ACTIVE
  | 0x5011 => some 0b011100 -- TT_COMMIT: STANDBY, READY, ACTIVE
  | 0x5012 => some 0b111100 -- TT_READ: STANDBY, READY, ACTIVE
  | 0x5013 => some 0b011100 -- TT_SCRIPT: STANDBY, READY, ACTIVE
  | 0x6001 => some 0b011100 -- RMB_CFG: STANDBY, READY, ACTIVE
  | 0x6002 => some 0b011000 -- RMB_SEND: READY, ACTIVE
  | 0x6003 => some 0b011000 -- RMB_TT: READY, ACTIVE
  | 0x6004 => some 0b011100 -- COEX_CFG: STANDBY, READY, ACTIVE
  | 0x6005 => some 0b111100 -- RMB_STAT: STANDBY, READY, ACTIVE
  | 0x7001 => some 0b011100 -- AUXD_CFG: STANDBY, READY, ACTIVE
  | 0x7002 => some 0b011100 -- AUXD_PUSH: STANDBY, READY, ACTIVE
  | 0x7003 => some 0b011100 -- AUXD_HIZ: STANDBY, READY, ACTIVE
  | 0x7010 => some 0b011100 -- MON_SEQ: STANDBY, READY, ACTIVE
  | 0x7011 => some 0b011100 -- MON_TRIG: STANDBY, READY, ACTIVE
  | 0x7012 => some 0b011100 -- MON_INJECT: STANDBY, READY, ACTIVE
  | 0x7013 => some 0b111100 -- MON_READ: STANDBY, READY, ACTIVE
  | 0x7014 => some 0b011100 -- MON_WINDOW: STANDBY, READY, ACTIVE
  | 0x7015 => some 0b011100 -- MON_UNMUTE: STANDBY, READY, ACTIVE
  | 0x7020 => some 0b011100 -- FESPI_XFER: STANDBY, READY, ACTIVE
  | 0x7021 => some 0b011100 -- FEI2C_XFER: STANDBY, READY, ACTIVE
  | 0x7030 => some 0b111100 -- FE_STAT: STANDBY, READY, ACTIVE
  | 0x8001 => some 0b111100 -- THERM_CFG: STANDBY, READY, ACTIVE, SAFE
  | 0x8002 => some 0b101100 -- SHED_ORDER: STANDBY, READY, SAFE
  | 0x8003 => some 0b111100 -- SENS_CLEAR: STANDBY, READY, ACTIVE, SAFE
  | 0x8004 => some 0b111100 -- PWR_CFG: STANDBY, READY, ACTIVE, SAFE
  | 0x8005 => some 0b111100 -- THERM_STAT: STANDBY, READY, ACTIVE, SAFE
  | 0x9001 => some 0b000100 -- MEM_PARTITION: STANDBY
  | 0x9002 => some 0b111100 -- MEM_READ: STANDBY, READY, ACTIVE, SAFE
  | 0x9003 => some 0b111100 -- MEM_LOG: STANDBY, READY, ACTIVE, SAFE
  | 0x9004 => some 0b111100 -- PAGE_RETIRE: STANDBY, READY, ACTIVE, SAFE
  | 0x9010 => some 0b111100 -- BIST_CFG: STANDBY, READY, ACTIVE, SAFE
  | 0x9011 => some 0b111100 -- BIST_STAT: STANDBY, READY, ACTIVE, SAFE
  | 0x9012 => some 0b000100 -- FUSE_REPAIR: STANDBY, in MAKER and OWNER_OPEN
  | 0x9013 => some 0b011000 -- LOOPBACK: READY, ACTIVE
  | 0xA001 => some 0b111110 -- LC_STAT: All but OFF
  | 0xA002 => some 0b111100 -- LC_NONCE: STANDBY, READY, ACTIVE, SAFE
  | 0xA003 => some 0b100100 -- LC_AUTH: STANDBY, SAFE
  | 0xA004 => some 0b000100 -- OWNER_KEY_SET: STANDBY, in OWNER_OPEN
  | 0xA005 => some 0b111100 -- ATTEST: STANDBY, READY, ACTIVE, SAFE
  | 0xA006 => some 0b000100 -- SVN_COMMIT: STANDBY, in OWNER_OPEN and FIELD
  | 0xB001 => some 0b111100 -- OBS_READ: STANDBY, READY, ACTIVE, SAFE
  | 0xB002 => some 0b111100 -- OBS_FAULTS: STANDBY, READY, ACTIVE, SAFE
  | 0xB003 => some 0b111100 -- OBS_FAULT_CLEAR: STANDBY, READY, ACTIVE, SAFE
  | 0xB004 => some 0b111100 -- FAULTN_CFG: STANDBY, READY, ACTIVE, SAFE
  | 0xB005 => some 0b111100 -- TRACE_CFG: STANDBY, READY, ACTIVE, SAFE, where R492 lets the port run
  | _ => none

end Sys2Proof.Machine
end

