-- ==== Sys2Proof/Machine/Flags.lean ====
section
/-! DEFINITION. Status and event flags: trace records, outbound frames and notifications, fault bits, function bits
and SAFE. -/

namespace Sys2Proof.Machine

/-! Outbound frames (R414, R418). -/

/-- The frame of a command, a response or a notification (R414): header, status word of a response, and data. -/
def frameOf (opcode : Nat) (tag : Byte) (flags seq : Nat) (status data : List Byte) : List Byte :=
  leBytes 2 opcode ++ [tag] ++ leBytes 2 data.length ++ [BitVec.ofNat 8 flags] ++ leBytes 2 seq ++ status ++ data

/-- A frame made by the firmware waits for the outbound ring of its mailbox; MB3 has none (R411, R422). -/
def Dev.emit (d : Dev) (m : Nat) (f : List Byte) : Dev :=
  if m = 3 then d
  else (d.trace 3 (m * 2 ^ 94 + 2 ^ 93 + leNat (f.take 8))).modMbx m (fun b => { b with outWait := b.outWait ++ [f] })

/-- A notification (R414) on a mailbox, when the runtime firmware runs and the mailbox is served. -/
def Dev.notify (d : Dev) (m opcode : Nat) (tag : Nat) (data : List Byte) : Dev :=
  if d.fw.running ∧ d.flag (F.MBOX_m_CTRL_EN m) ∧ m ≠ 3 then
    let d' := d.emit m (frameOf opcode (BitVec.ofNat 8 tag) 2 (d.mbx m).notifySeq [] data)
    d'.modMbx m (fun b => { b with notifySeq := (b.notifySeq + 1) % 65536 })
  else d

/-- SYS_EVENT (R434) on MB0. -/
def Dev.sysEvent (d : Dev) (code id status pos data : Nat) : Dev :=
  d.notify 0 0x0080 0 (leBytes 1 code ++ leBytes 1 id ++ leBytes 1 status ++ leBytes 1 pos ++ le4 data)

/-- The status word of a response (R414). -/
def statusWord (status d2 d3 : Nat) : List Byte :=
  [BitVec.ofNat 8 status, 0, BitVec.ofNat 8 d2, BitVec.ofNat 8 d3]

/-- A final response (RESP and FINAL) that ends a PENDING operation (R415). -/
def Dev.finish (d : Dev) (p : PendOp) (status d2 : Nat) (data : List Byte) : Dev :=
  (d.emit p.mb (frameOf p.opcode (BitVec.ofNat 8 p.tag) 5 p.seq (statusWord status d2 0) data)).modFw
    (fun f => { f with pendingOps := f.pendingOps.erase p })

/-- The pending operations of a command, oldest first. -/
def Dev.pendingFor (d : Dev) (opcode : Nat) : List PendOp := d.fw.pendingOps.filter (fun p => p.opcode = opcode)

/-- End every pending operation that a predicate picks, with a final response (R415). -/
def Dev.finishWhere (d : Dev) (q : PendOp → Bool) (status d2 : Nat) (data : List Byte) : Dev :=
  d.forL (d.fw.pendingOps.filter q) (fun d p => d.finish p status d2 data)

/-- Forget a pending operation that a completing notification has ended (R415). -/
def Dev.dropPend (d : Dev) (p : PendOp) : Dev :=
  d.modFw (fun f => { f with pendingOps := f.pendingOps.erase p })

/-- End every PENDING operation that the module state no longer allows, with ABORTED (R408). -/
def Dev.abortIllegal (d : Dev) : Dev :=
  d.finishWhere (fun p => match cmdLegal p.opcode with
    | some m => !m.testBit d.mod.code
    | none => true) 0x0A 0 []

/-! Capture windows (R267). -/

def Dev.orx (d : Dev) (r : Nat) : OrxSt := Tab.get (fun _ => {}) r d.dpd.orx
def Dev.modOrx (d : Dev) (r : Nat) (f : OrxSt → OrxSt) : Dev :=
  { d with dpd := { d.dpd with orx := Tab.set (fun _ => {}) r (f (d.orx r)) d.dpd.orx } }

/-- A flag set on every open window of a path that meets a test. -/
def Dev.capMark (d : Dev) (q : Nat → Bool) (flag : Nat) : Dev :=
  d.forN 8 (fun d r => match (d.orx r).win with
    | none => d
    | some w => if q (8 * r + w.req.sel) then
        d.modOrx r (fun o => { o with win := some { w with flags := setBitN w.flags flag true } }) else d)

/-! Function bits (R410). -/

/-- A function bit set or cleared; a change sets the bit's change flag and raises FUNC, and the runtime firmware sends
SYS_EVENT FUNC (R410, R434). A STATE event held for LINKA leaves when LINKA is set (R519). -/
def Dev.func (d : Dev) (i : Nat) (v : Bool) : Dev :=
  let old := d.getF F.SYS_FUNC_READY_READY
  if old.testBit i = v then d
  else
    let d := d.setF F.SYS_FUNC_READY_READY (setBitN old i v)
    let d := d.setF F.SYS_FUNC_CHG_CHG (setBitN (d.getF F.SYS_FUNC_CHG_CHG) i true)
    let d := d.setB F.SYS_INT_STAT_FUNC true
    let d := d.sysEvent 2 0 0 0 (d.getF F.SYS_FUNC_READY_READY)
    if i = 2 ∧ v ∧ d.fw.stateEventHeld then
      (d.sysEvent 1 d.mod.code 0 0 0).modFw (fun f => { f with stateEventHeld := false })
    else d

/-- Whether a function bit is set. -/
def Dev.ready (d : Dev) (i : Nat) : Bool := (d.getF F.SYS_FUNC_READY_READY).testBit i

/-! Degraded bits (R489) and OBS_EVENT (R499). -/

/-- OBS_EVENT (R499) on MB0. -/
def Dev.obsEvent (d : Dev) (code bit cls : Nat) : Dev :=
  d.notify 0 0xB080 0 (leBytes 1 code ++ leBytes 1 bit ++ leBytes 1 cls ++ [0] ++ le4 d.nowNs ++ le4 d.nowSecLo)

/-- The payload of a FAULT record (R495). -/
def faultPayload (cls bit : Nat) (set : Bool) (st : Nat) : Nat :=
  cls * 2 ^ 94 + bit * 2 ^ 88 + b2n set * 2 ^ 87 + st * 2 ^ 84

/-- A degraded source has appeared: its bit is latched (R487, R489). -/
def Dev.degr (d : Dev) (i : Nat) : Dev :=
  let old := d.getF F.OBS_DEGR_STAT_DEGR
  if old.testBit i then d
  else
    let d := d.setF F.OBS_DEGR_STAT_DEGR (setBitN old i true)
    let d := d.setB F.OBS_INT_STAT_DEGR true
    (d.trace 6 (faultPayload 2 i true d.mod.code)).obsEvent 2 i 2

/-- The role of a port in force (R38, R70): 1 UPSTREAM, 2 DOWNSTREAM. -/
def Dev.role (d : Dev) (x : Nat) : Nat := Tab.get (fun _ => 0) x d.link.roles

/-- The enabled port of a role, by its lowest port. -/
def Dev.portOfRole (d : Dev) (r : Nat) : Option Nat :=
  (List.range 4).find? (fun x => d.role x == r && d.flag (F.LINK_Px_CTRL_EN x))

/-- The UPSTREAM port: none when no enabled port has that role. -/
def Dev.upstream (d : Dev) : Option Nat := d.portOfRole 1

/-- The DOWNSTREAM port. -/
def Dev.downstream (d : Dev) : Option Nat := d.portOfRole 2

/-- Stage code of a port in LINK_DOWN, UP and FAST_RETRAIN (R60, R82). -/
def stDown : Nat := 0
def stUp : Nat := 8
def stFrt : Nat := 9

/-- Whether the condition of a degraded source still holds (R489, R490). -/
def Dev.degrCond (d : Dev) : Nat → Bool
  | 0 => match d.upstream with
    | some x => d.getF (F.LINK_Px_STAT_STAGE x) == stDown
    | none => false
  | 1 => (List.range 4).any (fun x => d.flag (F.LINK_Px_STAT_DEGRADED x))
  | 2 => (List.range 4).any (fun t => d.getF (F.TILE_STAT_PLL_STATE t) == 5)
  | 3 => (List.range 7).any (fun z => let m := d.getF (F.THRM_Zz_STAT_STATE z); m == 3 || m == 2) ||
      d.getF F.PWR_LIMIT_STEP != 0
  | 4 => (List.range 124).any (fun s => d.flag (F.THRM_Ss_FAILED s))
  | 5 => (List.range 64).any (fun p => d.flag (F.CAL_Pp_STAT_STARVED p))
  | 6 => (List.range 16).any (fun c => d.getF (F.CLU_STAT_STATE c) == 4)
  | 7 => d.memi.log.any (fun e => e.cls == 2 || e.cls == 3)
  | 8 => (List.range 64).any (fun n => d.flag (F.DPD_Pn_STAT_UE_BYPASS n))
  | 9 => d.flag F.TIME_STATUS_HOLD_EXP
  | 10 => d.reg A.MON_MUTE_LO != 0 || d.reg A.MON_MUTE_HI != 0
  | 11 => d.flag F.AUXD_STAT_TXMUTE
  | _ => false

end Sys2Proof.Machine
end

