-- ==== Sys2Proof/Machine/Air.lean ====
section
/-! DEFINITION. Air time (R105, R216, R220, R313) and the capacity check of the runtime firmware (R126). -/

namespace Sys2Proof.Machine

/-! Air time, counted in thirds of 2^-32 ns, in which a sample at 122.88 MS/s is a whole number. -/

/-- One sample at 122.88 MS/s. -/
def airSample : Nat := 3125 * 2 ^ 25

/-- One nanosecond. -/
def airNs : Nat := 3 * 2 ^ 32

/-- The present time. -/
def Dev.nowAir (d : Dev) : Int := (d.time.now.toFrac * 3 : Nat)

/-- The time of an instant. -/
def TimeVal.air (t : TimeVal) : Int := (t.toFrac * 3 : Nat)

/-- The samples from the start of the frame to a symbol (R216), by numerology. -/
def symbolSample (mu : Nat) (p : AirPos) : Nat :=
  if mu = 0 then
    p.subframe * 122880 + p.symbol / 7 * 61440 + (if p.symbol % 7 = 0 then 0 else 8832 + (p.symbol % 7 - 1) * 8768)
  else
    p.subframe * 122880 + p.slot * 61440 + (if p.symbol = 0 then 0 else 4448 + (p.symbol - 1) * 4384)

/-- TIME_FRAME_OFS in force: above 9,999,999 it acts as 9,999,999 (R313, R332). -/
def Dev.frameOfs (d : Dev) : Nat := min 9999999 (d.getF F.TIME_FRAME_OFS_NS)

/-- The frame number now (R313). -/
def Dev.frameNow (d : Dev) : Int :=
  ((d.time.now.sec * 1000000000 + d.time.now.ns : Nat) - (d.frameOfs : Int)) / 10000000

/-- The start of a frame. -/
def Dev.frameStart (d : Dev) (f : Int) : Int := (f * 10000000 + d.frameOfs) * airNs

/-- The timing-advance offset of a carrier, in samples (R220). -/
def taoSamples : Nat → Nat
  | 1 => 1600
  | 2 => 2496
  | _ => 0

/-- The air time of a symbol of a carrier: the occurrence within 5.12 s of the present (R105); an uplink symbol begins
the timing advance earlier (R220). -/
def Dev.airTime (d : Dev) (k : Nat) (ul : Bool) (p : AirPos) : Int :=
  let off : Int := (symbolSample (d.getF (F.CARk_CFG_MU k)) p * airSample : Nat)
  let ta : Int := if ul then (taoSamples (d.getF (F.CARk_CFG_TAO k)) * airSample : Nat) else 0
  let f := d.frameNow
  let c := f + ((p.sfn : Int) - f) % 1024
  let s := d.frameStart c + off - ta
  if 5120000000 * (airNs : Int) < s - d.nowAir then s - 10240000000 * (airNs : Int) else s

/-- Half-subframe or slot, symbol in it and start of that symbol for a sample number within a subframe (R216). -/
def symbolIn (mu n : Nat) : Nat × Nat × Nat :=
  let h := n / 61440
  let m := n % 61440
  let long := if mu = 0 then 8832 else 4448
  let short := if mu = 0 then 8768 else 4384
  let i := if m < long then 0 else 1 + (m - long) / short
  let start := h * 61440 + (if i = 0 then 0 else long + (i - 1) * short)
  if mu = 0 then (0, 7 * h + i, start) else (h, i, start)

/-- The symbol of a carrier in progress now, and when it started (R216, R220, R313). -/
def Dev.posNow (d : Dev) (k : Nat) (ul : Bool) : AirPos × Int :=
  let mu := d.getF (F.CARk_CFG_MU k)
  let ta : Int := if ul then (taoSamples (d.getF (F.CARk_CFG_TAO k)) * airSample : Nat) else 0
  let t := d.nowAir + ta - d.frameOfs * (airNs : Int)
  let frame : Int := 10000000 * (airNs : Int)
  let f := t / frame
  let n := ((t % frame) / (airSample : Int)).toNat
  let (slot, sym, start) := symbolIn mu (n % 122880)
  ({ sfn := (f % 1024).toNat, subframe := n / 122880, slot := slot, symbol := sym },
   d.frameStart f + ((n / 122880 * 122880 + start) * airSample : Nat) - ta)

/-- Whether a position exists for a numerology (R99, R216). -/
def posOk (mu : Nat) (p : AirPos) : Bool :=
  decide (p.sfn < 1024 ∧ p.subframe < 10 ∧ p.slot ≤ mu ∧ p.symbol < 14)

/-- The symbol after a position, within the grid of its carrier. -/
def nextSymbol (mu : Nat) (p : AirPos) : AirPos :=
  if p.symbol + 1 < 14 then { p with symbol := p.symbol + 1 }
  else if p.slot < mu then { p with symbol := 0, slot := p.slot + 1 }
  else if p.subframe + 1 < 10 then { p with symbol := 0, slot := 0, subframe := p.subframe + 1 }
  else { sfn := (p.sfn + 1) % 1024, subframe := 0, slot := 0, symbol := 0 }

/-- Symbols per second of a numerology (R126). -/
def symRate (mu : Nat) : Nat := 14000 * 2 ^ mu

/-! Sizes (R100, R126). -/

/-- Mantissa bits of a block floating-point format. -/
def mantBits : Nat → Nat
  | 1 => 8
  | 2 => 9
  | 3 => 12
  | 4 => 14
  | _ => 16

/-- The formats in rising order of size (R98). -/
def compRank : Nat → Nat
  | 0 => 5
  | c => c

/-- Bits of one PRB in a format. -/
def prbBits (comp : Nat) : Nat := if comp = 0 then 384 else 4 + 24 * mantBits comp

/-- Data bytes of a section (R100). -/
def dataBytes (nprb comp : Nat) : Nat := (nprb * prbBits comp + 7) / 8

/-- Bytes of a packet with a payload of `n` bytes (R83), and its place on the byte stream. -/
def packetBytes (n : Nat) : Nat := 16 + (n + 3) / 4 * 4 + 4
def lineBytes (nprb comp : Nat) : Nat := (packetBytes (8 + dataBytes nprb comp) + 7) / 8 * 8

/-- Bytes a section takes in the jitter buffer (R109). -/
def storedBytes (nprb comp : Nat) : Nat := (8 + dataBytes nprb comp + 63) / 64 * 64

/-! Streams and the check. -/

/-- A mapped stream as the check sees it: downlink or uplink, carrier, format. -/
structure StrmView where
  ul : Bool
  carrier : Nat
  comp : Nat
  deriving DecidableEq, Repr

/-- A stream word, none when VALID is clear (R130). -/
def strmOf (w : Nat) : Option StrmView :=
  if w.testBit 31 then some { ul := w.testBit 30, carrier := bitsN w 27 3, comp := bitsN w 18 4 } else none

/-- The streams mapped by words listed by ID: the registers, with the words of a command in place. -/
def Dev.streams (d : Dev) (first : Nat) (ws : List Nat) : List StrmView :=
  (List.range 4096).filterMap (fun n =>
    strmOf (if first ≤ n ∧ n < first + ws.length then ws.getD (n - first) 0 else (d.reg (A.FHP_STRMn n)).toNat))

/-- Bits per second a set of streams needs in one direction (R126). -/
def Dev.needBps (d : Dev) (l : List StrmView) (ul : Bool) : Nat :=
  ((l.filter (fun s => s.ul == ul)).map (fun s =>
    lineBytes (d.getF (F.CARk_CFG_NPRB s.carrier)) s.comp * 8 * symRate (d.getF (F.CARk_CFG_MU s.carrier)))).foldl (· + ·) 0

/-- The budget of a width (R126). -/
def budgetBps (width : Nat) : Nat := 52311600000 * width - 2000000000

/-- Bytes of jitter buffer a set of streams needs for a DL_EARLY (R126). -/
def Dev.needJitter (d : Dev) (l : List StrmView) (early : Nat) : Nat :=
  ((l.filter (fun s => !s.ul)).map (fun s =>
    let r := symRate (d.getF (F.CARk_CFG_MU s.carrier))
    storedBytes (d.getF (F.CARk_CFG_NPRB s.carrier)) s.comp * ((early * r + 999999999) / 1000000000 + 1))).foldl (· + ·) 0

/-- The ports of each bond configuration (R36). -/
def bondGroups : Nat → List (List Nat)
  | 1 => [[0, 1], [2], [3]]
  | 2 => [[0], [1], [2, 3]]
  | 3 => [[0, 1], [2, 3]]
  | 4 => [[0, 1, 2, 3]]
  | _ => [[0], [1], [2], [3]]

/-- The ports joined with port `p` in a configuration, in rising order. -/
def groupIn (b p : Nat) : List Nat := ((bondGroups b).find? (fun g => g.contains p)).getD [p]

/-- The ports joined with a port in the bond in force. -/
def Dev.group (d : Dev) (p : Nat) : List Nat := groupIn d.link.bond p

/-- The port whose registers act and report for a port: the lowest of its bond. -/
def Dev.lead (d : Dev) (p : Nat) : Nat := (d.group p).headD p

/-- The lanes of a port or bond, in rising physical order. -/
def Dev.lanesOf (d : Dev) (p : Nat) : List Nat := (d.group p).flatMap (fun q => (List.range 4).map (4 * q + ·))

/-- The configured width. -/
def Dev.cfgWidth (d : Dev) (p : Nat) : Nat := 4 * (d.group p).length

/-- The stage of a port. -/
def Dev.stage (d : Dev) (x : Nat) : Nat := d.getF (F.LINK_Px_STAT_STAGE x)

/-- The width of the UPSTREAM port in a direction: as it came up, or as configured before it is up (R126). -/
def Dev.upWidth (d : Dev) (ul : Bool) : Nat :=
  match d.upstream with
  | some x =>
    let st := d.getF (F.LINK_Px_STAT_STAGE x)
    if st = stUp ∨ st = stFrt then d.getF (if ul then F.LINK_Px_STAT_TX_WIDTH x else F.LINK_Px_STAT_RX_WIDTH x)
    else 4 * (groupIn (d.getF F.LINK_BOND_BOND) x).length
  | none =>
    match (List.range 4).find? (fun x => d.getF (F.LINK_Px_CTRL_ROLE x) == 1) with
    | some x => 4 * (groupIn (d.getF F.LINK_BOND_BOND) x).length
    | none => 16

/-- Whether a set of streams fits the link in both directions. -/
def Dev.linkFits (d : Dev) (l : List StrmView) : Bool :=
  decide (d.needBps l false ≤ budgetBps (d.upWidth false) ∧ d.needBps l true ≤ budgetBps (d.upWidth true))

/-- Whether a set of streams fits the jitter buffer of a size. -/
def Dev.jitterFits (d : Dev) (l : List StrmView) (early size : Nat) : Bool := decide (d.needJitter l early ≤ size)

/-- The first test of the jitter check: DL_EARLY covers DL_LEAD and the shortest downlink symbol. -/
def Dev.earlyFits (d : Dev) (l : List StrmView) (lead early : Nat) : Bool :=
  (l.filter (fun s => !s.ul)).all (fun s =>
    decide (lead * symRate (d.getF (F.CARk_CFG_MU s.carrier)) + 1000000000 ≤ early * symRate (d.getF (F.CARk_CFG_MU s.carrier)) ∨
      -- the shortest symbol of the set is that of the highest rate
      (l.filter (fun s' => !s'.ul)).any (fun s' =>
        decide (symRate (d.getF (F.CARk_CFG_MU s.carrier)) < symRate (d.getF (F.CARk_CFG_MU s'.carrier))))))

/-- DL_LEAD and DL_EARLY as written, within their bounds (R106, R130). -/
def Dev.leadSet (d : Dev) : Nat := clampN 50000 1000000 (d.getF F.FHP_DL_LEAD_NS)
def Dev.earlySet (d : Dev) : Nat := max d.leadSet (d.getF F.FHP_DL_EARLY_NS)

/-- A word with its format lowered to at most `c` (R98). -/
def capComp (c w : Nat) : Nat :=
  if compRank c < compRank (bitsN w 18 4) then putBits w 18 4 c else w

/-- The formats a LIMIT response may name, largest first. -/
def compFalling : List Nat := [0, 4, 3, 2, 1]

/-- The check of stream words (R126, R127): none when they fit, else the PARAM and LEGAL of the LIMIT response: the
largest format for the set, or else how many of its entries fit. -/
def Dev.checkStreams (d : Dev) (first : Nat) (ws : List Nat) : Option (Nat × Nat) :=
  let fits := fun ws' =>
    let l := d.streams first ws'
    d.linkFits l && d.earlyFits l d.leadSet d.earlySet && d.jitterFits l d.earlySet (d.regionSize 2)
  if fits ws then none
  else match compFalling.find? (fun c => fits (ws.map (capComp c))) with
    | some c => some (1, c)
    | none => some (4, ((List.range (ws.length + 1)).filter (fun n => fits (ws.take n))).foldl max 0)

/-- LINK_TRAIN_STAT (R82): the stage and the attempts made at it, the highest over the lanes. -/
def Dev.trainStat (d : Dev) : W32 :=
  wordOf ((List.range 4).flatMap (fun x =>
    let st := d.stage x
    let tr := if st = 5 ∨ st = 7 then Tab.get (fun _ => 0) st (d.port x).tries
      else if st = 0 ∨ 8 ≤ st then 0
      else ((d.lanesOf x).map (fun n => if (d.lane n).stage = st then Tab.get (fun _ => 0) st (d.lane n).tries else 0)).foldl max 0
    [(8 * x + 4, st), (8 * x, min 15 tr)]))

end Sys2Proof.Machine
end

