-- ==== Sys2Proof/Machine/RmbCore.lean ====
section
/-! DEFINITION. The ends of the Rambler's bursts and the coexistence outputs (R345, R348, R359 to R364), which SAFE and
the mutes bring about too. -/

namespace Sys2Proof.Machine

def Dev.modRmb (d : Dev) (f : RmbSt → RmbSt) : Dev := { d with rmb := f d.rmb }

/-- RMB_EVENT (R362) on MB0 and on the mailboxes of the commands concerned, each with its TAG. -/
def Dev.rmbEvent (d : Dev) (code seq : Nat) (ofs : Int) (dest : List (Nat × Nat)) : Dev :=
  let body := [BitVec.ofNat 8 code, BitVec.ofNat 8 seq, 0, 0] ++ le4 (unsgn 32 (clampI (-2147483648) 2147483647 ofs))
  let d := if dest.any (fun m => m.1 == 0) then d else d.notify 0 0x6081 0 body
  d.forL dest (fun d m => d.notify m.1 0x6081 m.2 body)

/-- The frames of the queue that have a descriptor (R363). -/
def Dev.rmbQueued (d : Dev) : Nat := (d.rmb.txq.filter (fun t => !t.hw)).length + (match d.rmb.hold with
  | some t => b2n (!t.hw)
  | none => 0)

/-- A burst completes with a code of R348: the runtime firmware reports its own, the others enter the queue; a frame of
the hardware completes nothing. A time exchange whose request was not sent is forgotten. -/
def Dev.rmbComplete (d : Dev) (t : RmbTx) (code : Nat) : Dev :=
  if t.hw then d
  else
    let d := (d.setB F.RMB_INT_STAT_TX_DONE true).setB F.RMB_INT_STAT_TX_FAIL (d.flag F.RMB_INT_STAT_TX_FAIL || decide (1 < code))
    let d := match code with
      | 2 => d.count A.RMB_ACK_FAIL
      | 3 => d.count A.RMB_SYNTH_BUSY
      | 4 => d.count A.COEX_DENIED_CNT
      | _ => d
    let d := d.modRmb (fun r => { r with acks := r.acks.filter (fun a => a.tx.seq != t.seq) })
    let d := match d.rmb.exch with
      | some e => if t.type = 3 ∧ e.seq = t.seq ∧ e.t1.isNone then d.modRmb (fun r => { r with exch := none }) else d
      | none => d
    if t.fw then
      let ops := t.op.toList.filter (fun p => d.fw.pendingOps.contains p)
      (d.rmbEvent code t.seq 0 (ops.map (fun p => (p.mb, p.tag)))).forL ops (fun d p => d.dropPend p)
    else d.modRmb (fun r => { r with done := r.done ++ [(code, t.seq, t.desc)] })

/-- Frames whose command has been ended are withdrawn, but for the one on the air (R408, R420). -/
def Dev.rmbPrune (d : Dev) : Dev :=
  let live := fun (t : RmbTx) => match t.op with
    | some p => d.fw.pendingOps.contains p
    | none => true
  d.modRmb (fun r => { r with txq := r.txq.filter live, hold := r.hold.filter live, acks := r.acks.filter (fun a => live a.tx) })

/-- One microsecond, in thirds of 2^-32 ns. -/
def airUs : Nat := 1000 * airNs

/-- COEX_YIELD_US brought up to the present. -/
def Dev.yieldSettle (d : Dev) : Dev := match d.rmb.gntAt with
  | none => d
  | some t0 =>
    let n := (d.nowAir - t0).toNat + d.rmb.gntRem
    (d.count A.COEX_YIELD_US (n / airUs)).modRmb (fun r => { r with gntAt := some d.nowAir, gntRem := n % airUs })

/-- COEX_GNT_OUT falls, and rises. -/
def Dev.gntLow (d : Dev) : Dev := (d.yieldSettle.setB F.COEX_STAT_GNT_OUT false).modRmb (fun r => { r with gntAt := none })
def Dev.gntHigh (d : Dev) : Dev :=
  if d.flag F.COEX_STAT_GNT_OUT ∨ d.mod = .safe then d
  else (d.setB F.COEX_STAT_GNT_OUT true).modRmb (fun r => { r with gntAt := some d.nowAir })

/-- COEX_REQ_OUT and COEX_PRI_OUT low. -/
def Dev.reqLow (d : Dev) : Dev := (d.setB F.COEX_STAT_REQ_OUT false).setB F.COEX_STAT_PRI_OUT false

/-- Every COEX output low (R360). -/
def Dev.coexLow (d : Dev) : Dev := d.reqLow.gntLow

/-- A burst leaves the air: REQ_OUT falls, and a grant that waited for it is given (R359, R360). -/
def Dev.burstOver (d : Dev) : Dev :=
  let d := (d.modRmb (fun r => { r with burst := none })).reqLow
  if d.flag F.COEX_CTRL_YIELD_EN ∧ d.flag F.COEX_STAT_REQ_IN then d.gntHigh else d

/-- The running burst is cut (R345). -/
def Dev.rmbCut (d : Dev) : Dev := match d.rmb.burst with
  | none => d
  | some (t, _) => if t.acked then d.burstOver else d.burstOver.rmbComplete t 6

end Sys2Proof.Machine
end

