-- ==== Sys2Proof/Machine/Mail.lean ====
section
/-! DEFINITION. SAFE entry, the data-plane enables of the runtime firmware, and the handling of a mailbox command
(R405 to R418). -/

namespace Sys2Proof.Machine

/-- Every bias channel to high impedance, EN cleared and its queue flushed, with the cause recorded (R371). -/
def Dev.auxHiz (d : Dev) (cause : Nat) : Dev :=
  let d := d.forN 96 (fun d n =>
    ((d.setB (F.AUXD_CHn_CFG_EN n) false).setB (F.AUXD_CHn_STAT_DRIVEN n) false).setB (F.AUXD_CHn_STAT_HOLDING n) false)
  let d := { d with fe := { d.fe with aux := {} } }
  let d := (d.setF F.AUXD_STAT_HIZ_CAUSE cause).setB F.AUXD_INT_STAT_HIZ true
  d.notify 0 0x7080 0 ([4, BitVec.ofNat 8 cause, 0, 0] ++ le4 d.nowNs)

/-- The RUN bit of a chain (R225). -/
def runF (t : Nat) : Dir → Fld
  | .tx => F.TILE_CTRL_TX_RUN t
  | .rx => F.TILE_CTRL_RX_RUN t

/-- The STOPPED bit of a chain (R225). -/
def stoppedF (t : Nat) : Dir → Fld
  | .tx => F.TILE_STAT_TX_STOPPED t
  | .rx => F.TILE_STAT_RX_STOPPED t

/-- The runtime firmware clears the data-plane enables, as on entering STANDBY or SAFE (R409). -/
def Dev.clearEnables (d : Dev) : Dev :=
  let d := ((d.setB F.BEAM_CTRL_DL_EN false).setB F.BEAM_CTRL_UL_EN false).setB F.BEAM_CTRL_SRS_EN false
  let d := (d.setB F.FHP_CTRL_DL_EN false).setB F.FHP_CTRL_UL_EN false
  d.forN 4 (fun d t => (d.setB (runF t .tx) false).setB (runF t .rx) false)

/-- The runtime firmware enables the mailboxes, with their rings in its resident area (R459, R519); rings that a warm
reset has kept stay where they are (R421). -/
def Dev.openBoxes (d : Dev) : Dev :=
  d.forN 4 (fun d m =>
    if d.flag (F.MBOX_m_CTRL_EN m) ∧ (m = 3 ∨ d.reg (A.MBOX_m_IN_BASE m) ≠ 0) then d
    else
      let d := if m = 3 then d
        else (d.setReg (A.MBOX_m_IN_BASE m) (Config.ringBase m 0)).setReg (A.MBOX_m_OUT_BASE m) (Config.ringBase m 1)
      d.setB (F.MBOX_m_CTRL_EN m) true)

/-- SAFE is entered (R405, R407): carrier TX is muted by the state itself, the bias
DACs go to high impedance, TT_OUT lands to their SAFE levels with TX_ON low (R327), a Rambler burst is cut and the COEX
outputs go low (R345, R360); the
runtime firmware clears its enables (R409), ends what is no longer possible ABORTED (R408) and reports (R434). -/
def Dev.toSafe (d : Dev) : Dev :=
  if d.mod = .safe ∨ d.mod = .off then d
  else
    let d := { d with mod := .safe }
    let d := ((d.setB F.SYS_STATE_ACT_PEND false).setB F.SYS_INT_STAT_SAFE true).setB F.SYS_INT_STAT_STATE true
    let d := d.auxHiz 1
    let d := { d with ttbl := { d.ttbl with safeHold := 0xFFFFFFFF, pulses := d.ttbl.pulses.filter (fun t => t != 32 && t != 33) } }
    let d := d.setF F.TTBL_STAT_ONS (d.getF F.TTBL_STAT_ONS / 4 * 4)
    let d := d.rmbCut.coexLow
    if d.fw.running then
      let d := d.openBoxes.finishWhere (fun p => p.opcode == 2) 0x0A 0 []
      (d.clearEnables.abortIllegal.rmbPrune).sysEvent 3 5 0 0 (d.reg A.SYS_SAFE_CAUSE).toNat
    else d

/-- SAFE entered for a cause bit of SYS_SAFE_CAUSE, which is latched (R407). -/
def Dev.enterSafe (d : Dev) (cause : Nat) : Dev :=
  if d.mod = .off then d
  else (d.setReg A.SYS_SAFE_CAUSE (BitVec.ofNat 32 (setBitN (d.reg A.SYS_SAFE_CAUSE).toNat cause true))).toSafe

/-- A hard fault (R487, R488): its bit is latched, the first one recorded, and SAFE entered with cause FAULT. -/
def Dev.hardFault (d : Dev) (bit : Nat) : Dev :=
  let d := { d with obs := { d.obs with hardCond := setBitN d.obs.hardCond bit true } }
  let old := d.getF F.OBS_FAULT_STAT_HARD
  if old.testBit bit then d
  else
    let st := d.mod.code
    let d := d.setF F.OBS_FAULT_STAT_HARD (setBitN old bit true)
    let d := d.setB F.OBS_INT_STAT_HARD true
    let d := if d.flag F.OBS_FIRST_INFO_VALID then d
      else ((((d.setB F.OBS_FIRST_INFO_VALID true).setF F.OBS_FIRST_INFO_STATE st).setF F.OBS_FIRST_INFO_SRC bit).setReg
        A.OBS_FIRST_NS (BitVec.ofNat 32 d.nowNs)).setReg A.OBS_FIRST_SEC_LO (BitVec.ofNat 32 d.nowSecLo)
    let d := d.enterSafe 3
    (d.trace 6 (faultPayload 1 bit true d.mod.code)).obsEvent 1 bit 1

/-! Commands (R411 to R422). -/

/-- What a command answers (R415): OK with a result, PENDING with what the firmware notes of the operation, an answer
that comes once the hardware is done (R419), or an error that leaves the module as it was. -/
inductive Reply where
  | ok (data : List Byte)
  | pending (args : List Nat)
  | wait (args : List Nat)
  | err (status d2 d3 : Nat) (data : List Byte)
  deriving DecidableEq, Repr

/-- What running a command gives: its answer, the block, and bytes to store. -/
abbrev CmdOut := Reply × Dev × Writes

/-- The body of a command, run once its SEQ, LEN and state have been accepted. -/
abbrev Body := Mem → Dev → CmdOut

/-- OK with a result. -/
def okR (d : Dev) (data : List Byte := []) : CmdOut := (.ok data, d, [])

/-- An error status with no detail. -/
def errR (d : Dev) (status : Nat) : CmdOut := (.err status 0 0 [], d, [])

/-- BAD_PARAM, LIMIT with the payload of R127, and BUSY (R415). -/
def badParam (d : Dev) : CmdOut := errR d 0x03
def limitR (d : Dev) (param legal : Nat) : CmdOut :=
  (.err 0x04 0 0 (leBytes 2 param ++ [0, 0] ++ le4 legal), d, [])
def busyR (d : Dev) : CmdOut := errR d 0x05

/-- STATE_REJECT with the states in which the command is legal (R416). -/
def stateReject (d : Dev) (mask : Nat) : CmdOut := (.err 0x02 d.mod.code mask [], d, [])

/-- NOT_READY with the missing function bits (R414). -/
def notReady (d : Dev) (missing : Nat) : CmdOut :=
  (.err 0x06 (missing % 256) (missing / 256 % 256) (le4 missing), d, [])

/-- Whether a command may run in the present state: its table's states, or the boot loader's recovery service on MB1
(R416, R430). -/
def Dev.cmdAllowed (d : Dev) (mb opcode : Nat) : Bool :=
  if d.fw.recovery then mb == 1 && (opcode == 0x0001 || opcode == 0x0010 || opcode == 0x0012 || opcode == 0x0004)
  else match cmdLegal opcode with
    | some m => m.testBit d.mod.code
    | none => false

/-- A command run after its SEQ has been accepted: opcode and LEN first, then the state, then the body (R415). -/
def cmdCore (mb opcode : Nat) (lenOk : Nat → Bool) (pl : List Byte) (body : Body) : Body := fun m d =>
  match cmdLegal opcode with
  | none => badParam d
  | some mask =>
    if !lenOk pl.length then badParam d
    else if !d.cmdAllowed mb opcode then stateReject d mask
    else
      let (r, d', ws) := body m d
      match r with
      | .err _ _ _ _ => (r, d, [])
      | _ => (r, d', ws)

/-- The oldest inbound frame of a mailbox is taken; on MB0 and MB2 its M credits return (R92, R411). -/
def Dev.popIn (d : Dev) (m : Nat) : Dev :=
  match (d.mbx m).inRing with
  | [] => d
  | f :: fs =>
    let d := d.modMbx m (fun b => { b with inRing := fs, inHead := (b.inHead + 1) % 8 })
    if m = 0 ∨ m = 2 then
      match d.upstream with
      | some x => d.modPort x (fun p => p.modVc 3 (fun v => { v with freed := (v.freed + pktUnits f.length) % 65536 }))
      | none => d
    else d

/-- The immediate response to a command is sent and stored for a retry (R417, R418). -/
def Dev.respond (d : Dev) (mb : Nat) (tag : Byte) (seq opcode : Nat) (status d2 d3 : Nat) (data : List Byte) : Dev :=
  let f := frameOf opcode tag 1 seq (statusWord status d2 d3) data
  (d.emit mb f).modMbx mb (fun b => { b with lastResp := some (seq, f) })

/-- The answer of a command sent, and noted where it is not the last word. -/
def Dev.answer (d : Dev) (mb : Nat) (tag : Byte) (seq opcode : Nat) : Reply → Dev
  | .ok data => d.respond mb tag seq opcode 0x00 0 0 data
  | .err st d2 d3 data => d.respond mb tag seq opcode st d2 d3 data
  | .pending args =>
    (d.respond mb tag seq opcode 0x01 0 0 []).modFw (fun f => { f with pendingOps := f.pendingOps ++ [⟨mb, tag.toNat, seq, opcode, args⟩] })
  | .wait args => d.modMbx mb (fun b => { b with waiting := some ⟨mb, tag.toNat, seq, opcode, args⟩ })

/-- The answer of a command that waited for the hardware (R419). -/
def Dev.answerWaiting (d : Dev) (p : PendOp) (r : Reply) : Dev :=
  let d := (d.modMbx p.mb (fun b => { b with waiting := none })).answer p.mb (BitVec.ofNat 8 p.tag) p.seq p.opcode r
  -- a script of MB3 ends at a command that fails (R422)
  match p.mb, r, d.fw.scriptsRunning with
  | 3, .err st _ _ _, (n, pos) :: _ => (d.modFw (fun f => { f with scriptsRunning := [] })).sysEvent 7 n st (pos - 1) 0
  | _, _, _ => d

/-- The command of a mailbox that waits for the hardware, if it is of this opcode and meets the test. -/
def Dev.waitingFor (d : Dev) (opcode : Nat) (q : PendOp → Bool) : Option PendOp :=
  (([0, 1, 2, 3].filterMap (fun m => (d.mbx m).waiting)).filter (fun p => p.opcode == opcode && q p)).head?

/-- Whether the firmware runs a command of a mailbox now: the mailbox is served, its outbound ring has room, no
command waits for the hardware, and the command's frame is the oldest held or none is held (R413, R418). -/
def Dev.serves (d : Dev) (m : Nat) (f : List Byte) : Bool :=
  let b := d.mbx m
  d.flag (F.MBOX_m_CTRL_EN m) && (d.fw.running || d.fw.recovery) && b.waiting.isNone &&
    decide (b.outRing.length < 8) && (b.inRing.isEmpty || b.inRing.head? == some f)

/-- One command frame handled by the firmware (R415 to R418): SEQ first; then the command is run and answered. MB3 takes
no frames from outside: its scripts run their commands themselves (R411, R422). -/
def runOne (h : CmdHdr) (opcode : Nat) (lenOk : Nat → Bool) (pl : List Byte) (body : Body) : Mem → Dev → Writes × Dev :=
  fun m d =>
    let mb := h.mb.val
    let seq := h.seq.toNat
    let f := frameOf opcode h.tag 0 seq [] pl
    if mb = 3 ∨ !d.serves mb f then ([], d)
    else
      let b := d.mbx mb
      let d := d.popIn mb
      match b.lastResp with
        | some (s, r) =>
          if s = seq then ([], d.emit mb r)
          else runNext mb seq b.expSeq d m
        | none => runNext mb seq b.expSeq d m
where
  runNext (mb seq : Nat) (exp : Option Nat) (d : Dev) (m : Mem) : Writes × Dev :=
    if exp.isSome ∧ exp ≠ some seq then
      let e := exp.getD 0
      ([], d.emit mb (frameOf opcode h.tag 1 seq (statusWord 0x03 (e % 256) (e / 256 % 256)) []))
    else
      let (r, d', ws) := cmdCore mb opcode lenOk pl body m d
      let d' := d'.modMbx mb (fun b => { b with expSeq := some ((seq + 1) % 65536) })
      (ws, d'.answer mb h.tag seq opcode r)

/-- An inbound frame placed in its ring: in the block and in its Hamper slot at IN_BASE + 0x1040 × i (R421, R436). -/
def Dev.pushIn (d : Dev) (m : Nat) (f : List Byte) : Writes × Dev :=
  let b := d.mbx m
  let a := (d.reg (A.MBOX_m_IN_BASE m)).toNat + 0x1040 * ((b.inHead + b.inRing.length) % 8)
  let d := d.trace 3 (m * 2 ^ 94 + leNat (f.take 8))
  let d := d.modMbx m (fun b => { b with inRing := b.inRing ++ [f] })
  let d := d.setF F.MBOX_INT_STAT_IN_AVAIL (setBitN (d.getF F.MBOX_INT_STAT_IN_AVAIL) m true)
  if inHamper a f.length then
    let (src, d) := if m = 1 then d.anyNat else (4, d)
    ([(a, f)], d.watch src a f)
  else ([], d)

/-- Frames at the head of a ring whose OPCODE no table lists are answered BAD_PARAM under their SEQ (R415). -/
def Dev.answerUnknown (m : Nat) : Nat → Dev → Dev
  | 0, d => d
  | fuel + 1, d =>
    match (d.mbx m).inRing with
    | [] => d
    | f :: _ =>
      let op := leAt f 0 2
      if (cmdLegal op).isNone ∧ d.serves m f then
        let h : CmdHdr := ⟨⟨m % 4, Nat.mod_lt _ (by decide)⟩, BitVec.ofNat 8 (byteAt f 2), BitVec.ofNat 16 (leAt f 6 2)⟩
        Dev.answerUnknown m fuel (runOne h op (fun _ => true) (f.drop 8) (fun _ d => badParam d) [] d).2
      else d

/-- The mailbox that M packets of the UPSTREAM port serve: MB0 at position 0, MB2 below it (R114). -/
def Dev.linkBox (d : Dev) : Nat := if d.getF F.FHP_CTRL_POS = 0 then 0 else 2

/-- Accepted M packets move to the inbound ring of their mailbox while it is served and has a free slot, one frame a
packet; a malformed one is discarded, counted, and its credits return (R92, R411, R436). -/
def Dev.pumpM : Nat → Dev → Writes × Dev
  | 0, d => ([], d)
  | fuel + 1, d =>
    let m := d.linkBox
    match d.upstream with
    | none => ([], d)
    | some x =>
      match ((d.port x).vc 3).rxq with
      | [] => ([], d)
      | i :: r =>
        if !d.flag (F.MBOX_m_CTRL_EN m) ∨ 8 ≤ (d.mbx m).inRing.length then ([], d)
        else
          let f := i.pkt.payload
          let d := d.modPort x (fun p => p.modVc 3 (fun v => { v with rxq := r }))
          if f.length < 8 ∨ f.length ≠ 8 + leAt f 3 2 then
            let d := d.modPort x (fun p => p.modVc 3 (fun v => { v with freed := (v.freed + pktUnits f.length) % 65536 }))
            Dev.pumpM fuel (d.count (A.MBOX_m_FRAME_ERR m))
          else
            let (w0, d) := d.pushIn m f
            let (ws, d) := Dev.pumpM fuel d
            (w0 ++ ws, d)

/-- Frames that wait on the link fill the ring, and those of no table are answered. -/
def Dev.refill (d : Dev) : Writes × Dev :=
  let (ws, d) := Dev.pumpM 16 d
  (ws, Dev.answerUnknown d.linkBox 16 (Dev.answerUnknown 1 8 d))

/-- A command frame handled, and the next frames of the rings brought up. -/
def runCmd (h : CmdHdr) (opcode : Nat) (lenOk : Nat → Bool) (pl : List Byte) (body : Body) : Mem → Dev → Writes × Dev :=
  fun m d =>
    let (ws, d) := runOne h opcode lenOk pl body m d
    let (w1, d) := d.refill
    (ws ++ w1, d)

/-- The length tests of the command tables: a fixed length, and a range. -/
def lenIs (n : Nat) : Nat → Bool := fun l => l == n
def lenIn (lo hi : Nat) : Nat → Bool := fun l => decide (lo ≤ l ∧ l ≤ hi)

end Sys2Proof.Machine
end

