-- ==== Sys2Proof/Machine/Enables.lean ====
section
/-! DEFINITION. What several families share of the tiles, of throttling and of a change of the module state: chains
run and stopped, tile sleep, caps and sheds in force, and what firmware and hardware do on a transition. -/

namespace Sys2Proof.Machine

def Dev.tile (d : Dev) (t : Nat) : TileSt := Tab.get (fun _ => {}) t d.tiles
def Dev.modTile (d : Dev) (t : Nat) (f : TileSt → TileSt) : Dev :=
  { d with tiles := Tab.set (fun _ => {}) t (f (d.tile t)) d.tiles }

/-- The band group of a tile (R209). -/
def Dev.bandGroup (d : Dev) (t : Nat) : Nat := if d.flag F.TILE_GROUP_SPLIT ∧ 2 ≤ t then 1 else 0

/-- Whether a tile is neither asleep nor told to sleep. -/
def Dev.awake (d : Dev) (t : Nat) : Bool := !d.flag (F.TILE_CTRL_SLEEP t) && !d.flag (F.TILE_STAT_ASLEEP t)

/-- Whether a carrier is enabled. -/
def Dev.carOn (d : Dev) (k : Nat) : Bool := d.flag (F.CARk_CFG_EN k)

/-- The band group of a carrier: BG is ignored while SPLIT is clear (R209). -/
def Dev.carGroup (d : Dev) (k : Nat) : Nat := if d.flag F.TILE_GROUP_SPLIT then d.getF (F.CARk_CFG_BG k) else 0

/-- Whether a band group has an enabled carrier. -/
def Dev.groupUsed (d : Dev) (g : Nat) : Bool := (List.range 8).any (fun k => d.carOn k && d.carGroup k == g)

/-- RUN set: the chain starts from zeros, for symbols whose air time is at least 5 µs later (R225); ignored while SLEEP is
set (R239). -/
def Dev.chainStart (d : Dev) (t : Nat) (dir : Dir) : Dev :=
  if d.flag (F.TILE_CTRL_SLEEP t) then d
  else
    let from_ : Int := ((d.time.now.toFrac + 5000 * 2 ^ 32) * 3 : Nat)
    let d := (d.setB (runF t dir) true).setB (stoppedF t dir) false
    d.modTile t (fun x => match dir with | .tx => { x with txFrom := from_ } | .rx => { x with rxFrom := from_ })

/-- RUN cleared: the chain's output is zero from the end of the symbol in progress; STOPPED follows once the pipeline
has drained (R225). -/
def Dev.chainStop (d : Dev) (t : Nat) (dir : Dir) : Dev := d.setB (runF t dir) false

/-- The pipeline of a chain that is told to stop has drained (R225). -/
def Dev.chainDrained (d : Dev) (t : Nat) (dir : Dir) : Dev :=
  if d.flag (runF t dir) ∨ d.flag (stoppedF t dir) then d
  else (d.setB (stoppedF t dir) true).setB
    (match dir with | .tx => F.TILE_INT_STAT_TX_STOPPED t | .rx => F.TILE_INT_STAT_RX_STOPPED t) true

/-- The runtime firmware lets exactly the awake tiles of band groups with an enabled carrier run (R409). -/
def Dev.runTiles (d : Dev) : Dev :=
  d.forN 4 (fun d t =>
    let on := d.awake t && d.groupUsed (d.bandGroup t)
    [Dir.tx, Dir.rx].foldl (fun d dir =>
      if on then (if d.flag (runF t dir) then d else d.chainStart t dir)
      else if d.flag (runF t dir) then d.chainStop t dir else d) d)

/-- The runtime firmware does so in READY and ACTIVE (R409). -/
def Dev.refreshRun (d : Dev) : Dev :=
  if d.fw.running ∧ (d.mod = .ready ∨ d.mod = .active) then d.runTiles else d

/-- A tile goes to sleep (R239): SLEEP set, RUN cleared, its PLL to OFF; a cold power-up in progress stops (R518). -/
def Dev.tileSleep (d : Dev) (t : Nat) : Dev :=
  if d.flag (F.TILE_CTRL_SLEEP t) then d
  else
    let d := ((d.setB (F.TILE_CTRL_SLEEP t) true).setB (runF t .tx) false).setB (runF t .rx) false
    let d := (d.setF (F.TILE_STAT_PLL_STATE t) 0).setB (F.TILE_STAT_LOCK t) false
    d.modTile t (fun x => { x with cold := false, waking := false })

/-! Throttling: caps, sheds and generations (R390 to R393, R260). -/

/-- The tile of a path. -/
def tileOf (p : Nat) : Nat := p / 16

/-- The paths of a shed-order entry, none where the entry is skipped: two distinct paths of one tile, neither named
earlier in the table (R393). -/
def Dev.shedPair (d : Dev) (i : Nat) : Option (Nat × Nat) :=
  let a := d.getF (F.THRM_SHEDi_PATH_A i)
  let b := d.getF (F.THRM_SHEDi_PATH_B i)
  let earlier := (List.range i).any (fun j =>
    let a' := d.getF (F.THRM_SHEDi_PATH_A j)
    let b' := d.getF (F.THRM_SHEDi_PATH_B j)
    a' == a || a' == b || b' == a || b' == b)
  if a ≠ b ∧ tileOf a = tileOf b ∧ !earlier then some (a, b) else none

/-- The entries zone `z` may shed, in table order (R393). -/
def Dev.zonePairs (d : Dev) (z : Nat) : List (Nat × Nat) :=
  ((List.range 16).filterMap (fun i => d.shedPair i)).filter (fun p => decide (4 ≤ z) || tileOf p.1 == z)

/-- The deepest step of a zone (R390). -/
def Dev.deepest (d : Dev) (z : Nat) : Nat := if z < 4 then 12 + (d.zonePairs z).length else 28

/-- The step index of a zone. -/
def Dev.zoneK (d : Dev) (z : Nat) : Nat := d.getF (F.THRM_Zz_STAT_K z)

/-- The cap step in force of a tile's field of THRM_CAP. -/
def capF : Nat → Fld
  | 0 => F.THRM_CAP_TILE0
  | 1 => F.THRM_CAP_TILE1
  | 2 => F.THRM_CAP_TILE2
  | _ => F.THRM_CAP_TILE3

/-- The generation field of a tile (R260). -/
def capGenF : Nat → Fld
  | 0 => F.DPD_CAPGEN_TILE0
  | 1 => F.DPD_CAPGEN_TILE1
  | 2 => F.DPD_CAPGEN_TILE2
  | _ => F.DPD_CAPGEN_TILE3

/-- The cap step a tile should have: the largest cap part over its zone, zones 4 to 6 and the limiter (R392). -/
def Dev.capWanted (d : Dev) (t : Nat) : Nat :=
  ([t, 4, 5, 6].map (fun z => min 12 (d.zoneK z))).foldl max (min 12 (d.getF F.PWR_LIMIT_STEP))

/-- The paths shed by every zone together (R393). -/
def Dev.shedWanted (d : Dev) : List Nat :=
  (List.range 7).flatMap (fun z => ((d.zonePairs z).take (d.zoneK z - 12)).flatMap (fun p => [p.1, p.2]))

/-- Caps and sheds brought to what the zones and the limiter ask, each tile's generation advancing by one where its
cap or its shed mask changes (R260, R392, R393). -/
def Dev.applyThrottle (d : Dev) : Dev :=
  let shed := d.shedWanted
  d.forN 4 (fun d t =>
    let c := d.capWanted t
    let m := maskOf ((shed.filter (fun p => tileOf p == t)).map (fun p => p % 16))
    if d.getF (capF t) = c ∧ d.getF (F.TILE_SHED_TX_SHED t) = m then d
    else (((d.setF (capF t) c).setF (F.TILE_SHED_TX_SHED t) m).setF (capGenF t) (d.getF (capGenF t) + 1)).capMark
      (fun p => tileOf p == t && m.testBit (p % 16)) 4)

/-- Summary bits of the zones (THRM_STAT.WARN and THROT, R400). -/
def Dev.zoneBits (d : Dev) : Dev :=
  let st := fun z => d.getF (F.THRM_Zz_STAT_STATE z)
  (d.setF F.THRM_STAT_WARN (maskOf ((List.range 7).filter (fun z => decide (1 ≤ st z))))).setF F.THRM_STAT_THROT
    (maskOf ((List.range 7).filter (fun z => st z == 2 || st z == 3)))

/-- A zone in THROTTLE or GRACE, or a limiter step, sets the degraded bit THROTTLE (R489). -/
def Dev.throttleDegr (d : Dev) : Dev := if d.degrCond 3 then d.degr 3 else d

/-- A zone's T, in 0.125 °C. -/
def Dev.zoneT (d : Dev) (z : Nat) : Int := sgn 16 (d.getF (F.THRM_Zz_STAT_TEMP z))

/-- A threshold of a zone less a hysteresis, in 0.125 °C. -/
def Dev.zoneLevel (d : Dev) (f : Fld) (h : Nat) : Int := 8 * ((d.getF f : Int) - (h : Int))

/-- Whether cause THERM still holds: a zone with T at or above SHUT − HYS_S (R395, R407). -/
def Dev.thermHolds (d : Dev) : Bool :=
  (List.range 7).any (fun z =>
    decide (d.zoneLevel (F.THRM_Zz_CFG_SHUT z) (d.getF (F.THRM_Zz_HYS_HYS_S z)) ≤ d.zoneT z))

/-- On leaving SAFE a zone that shut down re-enters THROTTLE at its deepest step (R395). -/
def Dev.leaveShutdown (d : Dev) : Dev :=
  let hit := (List.range 7).any (fun z => d.getF (F.THRM_Zz_STAT_STATE z) == 4)
  if !hit then d
  else
    let d := d.forN 7 (fun d z =>
      if d.getF (F.THRM_Zz_STAT_STATE z) = 4 then
        (d.setF (F.THRM_Zz_STAT_STATE z) 3).setF (F.THRM_Zz_STAT_K z) (d.deepest z)
      else d)
    (d.applyThrottle.zoneBits).throttleDegr

/-! Transitions of the module state (R405 to R409). -/

/-- What the runtime firmware sets on entering READY from STANDBY (R409). -/
def Dev.setEnables (d : Dev) : Dev :=
  let strm := fun (dir : Bool) => (List.range 4096).any (fun n => d.flag (F.FHP_STRMn_VALID n) && d.flag (F.FHP_STRMn_DIR n) == dir)
  let d := d.runTiles
  let d := d.setB F.FHP_CTRL_DL_EN (strm false)
  let d := d.setB F.FHP_CTRL_UL_EN (strm true)
  d.setB F.BEAM_CTRL_SRS_EN ((List.range 512).any (fun n => d.flag (F.BEAM_UCn_CFG_EN n)))

/-- The module state becomes `m`, not SAFE: STATE is raised, and the runtime firmware ends what is no longer possible
(R408), drives the enables (R409) and reports (R434). -/
def Dev.toState (d : Dev) (m : ModState) : Dev :=
  let old := d.mod
  let d := if old = .safe then d.leaveShutdown else d
  let d := if old = .safe then
      { d with ttbl := { d.ttbl with safeHold := Nat.land d.ttbl.safeHold (d.getF F.TTBL_OUT_OE_OE) } }
    else d
  let d := { d with mod := m }
  let d := (d.setB F.SYS_STATE_ACT_PEND false).setB F.SYS_INT_STAT_STATE true
  if d.fw.running then
    let d := if m = ModState.active then d.finishWhere (fun p => p.opcode == 2) 0x00 0 []
      else d.finishWhere (fun p => p.opcode == 2) 0x0A 0 []
    let d := d.abortIllegal.rmbPrune
    let d := match m with
      | .standby => (d.clearEnables.setB F.SYS_BOOT_CONFIRM true).setF F.SYS_BOOT_ATTEMPTS 0
      | .ready => if old = ModState.active then (d.setB F.BEAM_CTRL_DL_EN false).setB F.BEAM_CTRL_UL_EN false else d.setEnables
      | _ => d
    if old = .boot ∧ !d.ready 2 then d.modFw (fun f => { f with stateEventHeld := true }) else d.sysEvent 1 m.code 0 0 0
  else d

/-- A firmware write of STATE (R406). -/
def Dev.stateWrite (d : Dev) (code : Nat) : Dev :=
  match code, d.mod with
  | _, .off => d
  | 5, _ => d.enterSafe 4
  | 2, .boot => if d.ready 0 ∧ d.ready 1 then d.toState .standby else d.cmdErr
  | 2, .ready => d.toState .standby
  | 2, .active => d.toState .standby
  | 2, .safe => if d.reg A.SYS_SAFE_CAUSE = 0 then d.toState .standby else d.cmdErr
  | 3, .standby => d.toState .ready
  | 3, .active => d.toState .ready
  | 4, .ready => d.setB F.SYS_STATE_ACT_PEND true
  | _, _ => d.cmdErr

/-- FALLBACK of SYS_EVENT, when the boot loader has taken the other slot (R428, R434). -/
def Dev.fallbackEvent (d : Dev) : Dev :=
  if d.flag F.SYS_BOOT_FALLBACK then d.sysEvent 6 (d.getF F.SYS_BOOT_SLOT_RUN) (d.getF F.SYS_BOOT_CAUSE) 0 0 else d

/-- The runtime firmware's way out of BOOT, once THRM and HAMPER are set (R519): STANDBY, CONFIRM, the mailboxes, and
SYS_EVENT STATE. -/
def Dev.fwStandby (d : Dev) : Dev :=
  if d.fw.running ∧ d.mod = .boot ∧ d.ready 0 ∧ d.ready 1 then (d.openBoxes.stateWrite 2).fallbackEvent else d

/-- The states from which a write of each state code is accepted (R406), as a mask. -/
def fromStates : Nat → Nat
  | 2 => 0b111010
  | 3 => 0b010100
  | 4 => 0b001000
  | 5 => 0b111110
  | _ => 0

end Sys2Proof.Machine
end

