-- ==== Sys2Proof/Machine/Reset.lean ====
section
/-! DEFINITION. What a reset does: the life-cycle pairs checked, and the warm and complete resets (R438, R452, R512). -/

namespace Sys2Proof.Machine

/-- The boot ROM completes every move whose first fuse alone is blown (R438): the fuses afterwards, whether it found
one, and whether it was a RETURN, whose effects erase the owner's secrets (R452). -/
def checkPairs (f : FuseSt) : FuseSt × Bool × Bool :=
  let o := f.openA && !f.openB
  let g := f.fieldA && !f.fieldB
  let r := f.retA && !f.retB
  let f := { f with openB := f.openB || o, fieldB := f.fieldB || g, retB := f.retB || r }
  let f := if r then
      { f with owner := f.owner.map (fun _ => { valid := true, revoked := true, hash := List.replicate 48 0xFF }), svnOwner := 32 }
    else f
  (f, o || g || r, r)

/-- What the firmware's memory holds after a reset; what is kept lies in the flash. The erasure of a RETURN clears the
profiles and both slots (R452). -/
def bootFw (f : FwSt) (erased : Bool) : FwSt :=
  if erased then {}
  else { slotA := f.slotA, slotB := f.slotB, slotPref := f.slotPref, retiredRec := f.retiredRec }

/-- The verified-kernel table cleared (R448). -/
def Dev.clearKernels (d : Dev) : Dev :=
  d.forN 32 (fun d e =>
    (d.forN 12 (fun d i => d.setReg (A.LCS_KE_DIGEST e i) 0)).setReg (A.LCS_KE_ID e) 0 |>.setReg (A.LCS_KE_INFO e) 0)

/-- A capture request that no firmware waits for. -/
def CapReq.nobody (q : CapReq) : CapReq := { q with who := 0, op := none }

/-- A frame of the Rambler that no firmware waits for. -/
def RmbTx.nobody (t : RmbTx) : RmbTx := { t with fw := false, op := none }

/-- What the runtime firmware keeps beside FwSt is gone after a warm reset; the hardware's own requests go on without
it. -/
def Dev.fwLost (d : Dev) : Dev :=
  { d with
    rf := { cars := d.rf.cars, nco := d.rf.nco }
    beam := { d.beam with commits := [], groups := [], jobs := [], calcLate := 0, staleLayer := 0 }
    dpd := { d.dpd with
      fw := [], ops := [], gens := [], slotDone := 0, nextRec := 0
      orx := d.dpd.orx.map (fun e => (e.1, { e.2 with
        queue := e.2.queue.map CapReq.nobody
        win := e.2.win.map (fun w => { w with req := w.req.nobody })
        drains := e.2.drains.map (fun c => { c with req := c.req.nobody })
        done := e.2.done.map (fun c => { c with req := c.req.nobody })
        held := e.2.held.map (fun c => { c with req := c.req.nobody }) })) }
    cal := { stats := d.cal.stats, blank := d.cal.blank, recip := d.cal.recip }
    rmb := { d.rmb with
      interval := 0
      txq := d.rmb.txq.map RmbTx.nobody
      hold := d.rmb.hold.map RmbTx.nobody
      burst := d.rmb.burst.map (fun b => (b.1.nobody, b.2))
      acks := d.rmb.acks.map (fun a => { a with tx := a.tx.nobody }) }
    fe := { d.fe with mon := d.fe.mon.map (fun e => (e.1, { e.2 with inj := e.2.inj.map (fun i => (i.1, false)) })) } }

/-- A warm reset (R512, R424, R426): processors and caches reset, registers, Hamper, rings and the time base kept;
CONFIRM and LOCK clear, an unconfirmed boot counts in ATTEMPTS (R428); the signature engine starts afresh (R448 to
R451); the module is in SAFE. The answer says whether the Hamper is to be zeroed (R452). -/
def Dev.warmReset (d : Dev) : Bool × Dev :=
  let (fz, moved, erased) := checkPairs d.fuse
  let d := (d.modFw (fun f => { f with running := false })).toSafe.fwLost
  let att := d.getF F.SYS_BOOT_ATTEMPTS
  let d := if d.flag F.SYS_BOOT_CONFIRM then d else d.setF F.SYS_BOOT_ATTEMPTS (min 3 (att + 1))
  let d := d.setB F.SYS_BOOT_CONFIRM false
  let d := (d.setB F.LCS_CTRL_LOCK false).setB F.LCS_VCTRL_BUSY false
  let d := d.clearKernels
  let fw := { bootFw d.fw erased with pendingOps := d.fw.pendingOps, rebootOther := d.fw.rebootOther, warm := true }
  (erased, { d with fw := fw, fuse := fz, lcs := { nonceGen := d.lcs.nonceGen + 1, trans := moved },
                    power := { d.power with wdogWarned := false } })

/-- A power-on or RESET_N reset (R512): every register at its reset value and nothing kept but the fuses, the flash
and the lands' own levels; the pairs are checked when the boot ROM runs. -/
def Dev.coldReset (d : Dev) (p : PowerSt) : Dev :=
  { free := d.free, fuse := d.fuse, fw := bootFw d.fw false, power := p,
    lcs := { nonceGen := d.lcs.nonceGen + 1 } }

/-- A meaning that may zero the Hamper. -/
def runZ (s : State) (f : Dev → Bool × Dev) : Host.Outcome State Fault Refusal :=
  .next (if s.dev.alive then
      let r := f s.dev
      settle { s with mem := if r.1 then memZero s.mem hamperLo hamperHi else s.mem } [] r.2
    else s)

end Sys2Proof.Machine
end

