-- ==== Sys2Proof/Machine/Live.lean ====
section
/-! DEFINITION. What a register reads as when its value is computed from the block's state: counts of queues, time,
fuses and views of structures (00_scope.md, R5: RO returns the current value). -/

namespace Sys2Proof.Machine

/-- Whether a key slot is usable (R441). -/
def KeySlot.usable (k : KeySlot) : Bool := k.valid && !k.revoked

/-- The mask of the usable slots. -/
def usableMask (l : List KeySlot) : Nat := maskOf ((List.range l.length).filter (fun i => (l.getD i {}).usable))

/-- LCS_STATE (R456): OWNER_OK reads zero in MAKER and RETURNED (R441). -/
def Dev.lcsState (d : Dev) : W32 :=
  let own := if d.lc = .maker ∨ d.lc = .returned then 0 else usableMask d.fuse.owner
  wordOf [(8, own), (5, usableMask d.fuse.vendor), (4, b2n d.lcs.unlock), (2, b2n d.lcs.trans), (0, d.lc.code)]

/-- Whether the trace port may run and the memories be read (R492). -/
def Dev.devAccess (d : Dev) : Bool := d.lcOpen || (d.lc == .returned && d.lcs.unlock)

/-- OBS_ACCESS (R492, R500). -/
def Dev.obsAccess (d : Dev) : W32 :=
  let mode := if d.devAccess then 0 else if d.lc = .field then 1 else 2
  wordOf [(2, b2n d.devAccess), (0, mode)]

/-- MBOX_m_STAT (R436): IN_FREE reads 0 while EN is clear. -/
def Dev.mboxStat (d : Dev) (m : Nat) : W32 :=
  let b := d.mbx m
  wordOf [(28, b.inRing.length), (24, if d.flag (F.MBOX_m_CTRL_EN m) then 8 - b.inRing.length else 0),
    (20, b.outRing.length), (16, 8 - b.outRing.length), (8, b.inHead), (0, b.outTail)]

/-- A list of views tried in turn. -/
def firstView (l : List (Option W32)) : Option W32 := l.findSome? id

/-- TILE_SHUT_US brought up to the present: path-microseconds powered down. -/
def Dev.shutCount (d : Dev) (t : Nat) : Dev :=
  let x := d.tile t
  let tot := (popc 16 x.down : Int) * max 0 (d.nowAir - x.downAt) + x.downRem
  let us := 1000 * (airNs : Int)
  let d := if tot / us ≤ 0 then d else d.count64 (A.TILE_SHUT_US_LO t) (A.TILE_SHUT_US_HI t) (tot / us).toNat
  d.modTile t (fun x => { x with downAt := d.nowAir, downRem := (tot % us).toNat })

/-- Views of the SYS, LCS, MBOX and OBS blocks. -/
def Dev.viewSys (d : Dev) (a : Nat) : Option W32 :=
  if a = A.SYS_ID then some (d.reg a + BitVec.ofNat 32 (b2n d.fuse.gradeCA))
  else if a = A.SYS_STATE then some (d.reg a - BitVec.ofNat 32 (d.getF F.SYS_STATE_STATE) + BitVec.ofNat 32 d.mod.code)
  else if a = A.LCS_STATE then some d.lcsState
  else if A.LCS_DEVID_i 0 ≤ a ∧ a < A.LCS_DEVID_i 4 ∧ a % 4 = 0 then some (d.fuse.devid.getD ((a - A.LCS_DEVID_i 0) / 4) 0)
  else if A.LCS_NONCE_i 0 ≤ a ∧ a < A.LCS_NONCE_i 4 ∧ a % 4 = 0 then
    some (Config.nonce d.lcs.nonceGen ((a - A.LCS_NONCE_i 0) / 4))
  else if a = A.LCS_SVN then some (wordOf [(8, d.fuse.svnOwner), (0, d.fuse.svnVendor)])
  else if a = A.OBS_ACCESS then some d.obsAccess
  else if a = A.OBS_TRC_SRC then some (d.reg a ||| 1)
  else if A.MBOX_m_STAT 0 ≤ a ∧ a ≤ A.MBOX_m_STAT 3 ∧ (a - A.MBOX_m_STAT 0) % 0x40 = 0 then
    some (d.mboxStat ((a - A.MBOX_m_STAT 0) / 0x40))
  else none

/-- MEMI_LOG_INFO and its words, of the head entry (R464). -/
def LogEntry.words (e : LogEntry) : List W32 :=
  [wordOf [(31, 1), (29, e.cls), (24, e.src), (0, e.synd)], BitVec.ofNat 32 e.word, BitVec.ofNat 32 e.ns, BitVec.ofNat 32 e.secLo]

/-- The four words of the error log's head; zero when it is empty (R464). -/
def Dev.logHead (d : Dev) : List W32 := match d.memi.log with
  | [] => [0, 0, 0, 0]
  | e :: _ => e.words

/-- Views of the MEMI block. -/
def Dev.viewMemi (d : Dev) (a : Nat) : Option W32 :=
  if a = A.MEMI_STAT then some (d.reg a + BitVec.ofNat 32 d.memi.log.length)
  else if A.MEMI_LOG_INFO ≤ a ∧ a ≤ A.MEMI_LOG_SEC_LO ∧ a % 4 = 0 then some (d.logHead.getD ((a - A.MEMI_LOG_INFO) / 4) 0)
  else none

/-- Views of the AUXD and MON blocks: queue counts, injected requests beyond the one running, triggered lists (R383,
R384). -/
def Dev.viewFe (d : Dev) (a : Nat) : Option W32 :=
  if A.FESPIk_TX_LO 0 ≤ a ∧ a ≤ A.FESPIk_TX_HI 3 ∧ (a - A.FESPIk_TX_LO 0) % 0x40 ≤ 4 then some 0
  else if A.AUXD_CHn_CFG 0 ≤ a ∧ a < A.AUXD_CHn_CFG 96 ∧ a % 16 = 8 then
    some (d.reg a + wordOf [(24, (Tab.get (fun _ => []) ((a - A.AUXD_CHn_CFG 0) / 16) d.fe.aux.queues).length)])
  else if a = A.MON_STAT then
    let m := fun c => Tab.get (fun _ => ({} : MonSt)) c d.fe.mon
    let pend := fun c => min 3 ((m c).inj.length - b2n ((m c).cur == some 2))
    some (wordOf [(14, pend 1), (12, pend 0), (11, b2n (m 1).trig.isSome), (10, b2n (m 0).trig.isSome)])
  else none

/-- The five words of an entry of the timestamp FIFO (R130). -/
def TsEntry.words (e : TsEntry) : List W32 :=
  [wordOf [(31, 1), (30, b2n e.replayed), (29, b2n e.egress), (27, e.port), (20, e.msgType), (0, e.seqId)],
   BitVec.ofNat 32 e.sec, BitVec.ofNat 32 (e.sec / 2 ^ 32), BitVec.ofNat 32 e.ns, wordOf [(29, e.frac)]]

/-- The words at the head of the timestamp FIFO; zero when it is empty. -/
def Dev.tsHead (d : Dev) : List W32 := match d.fhp.ts with
  | [] => [0, 0, 0, 0, 0]
  | e :: _ => e.words

/-- Views of the LINK and FHP blocks: training status and the timestamp FIFO's head (R82, R130). -/
def Dev.viewLink (d : Dev) (a : Nat) : Option W32 :=
  if a = A.LINK_TRAIN_STAT then some d.trainStat
  else if A.FHP_TS_INFO ≤ a ∧ a ≤ A.FHP_TS_FRAC ∧ a % 4 = 0 then some (d.tsHead.getD ((a - A.FHP_TS_INFO) / 4) 0)
  else none

/-- Views of the CLU block: how full the queues are (R206). -/
def Dev.viewClu (d : Dev) (a : Nat) : Option W32 :=
  if a < A.CLU_ID 0 ∨ A.CLU_ID 16 ≤ a then none
  else
    let c := (a - A.CLU_ID 0) / 0x1000
    let q := Tab.get (fun _ => ({} : CluSt)) c d.clu
    if a = A.CLU_WQ_STAT c then some (BitVec.ofNat 32 q.wq.length)
    else if a = A.CLU_CQ_STAT c then some (BitVec.ofNat 32 q.cq.length)
    else if a = A.CLU_WQ_HI c then some 0
    else none

/-- Views of the DPD block: the receivers' queues, and the paths that are committed (R281). -/
def Dev.viewDpd (d : Dev) (a : Nat) : Option W32 :=
  if a = A.DPD_PEND_LO then some (BitVec.ofNat 32 (maskOf ((List.range 32).filter (fun n => d.flag (F.DPD_Pn_STAT_PEND n)))))
  else if a = A.DPD_PEND_HI then some (BitVec.ofNat 32 (maskOf ((List.range 32).filter (fun n => d.flag (F.DPD_Pn_STAT_PEND (32 + n))))))
  else if A.DPD_ORXr_CTRL 0 ≤ a ∧ a < A.DPD_ORXr_CTRL 8 then
    let r := (a - A.DPD_ORXr_CTRL 0) / 0x20
    let o := d.orx r
    if a = A.DPD_ORXr_STAT r then
      some (wordOf [(31, b2n (o.win.isSome || !o.drains.isEmpty)), (28, d.getF (F.DPD_ORXr_STAT_SEL r)), (16, o.queue.length), (0, o.done.length)])
    else none
  else none

/-- What remains of the slew in 2^-16 ns, as TIME_SLEW reads (R312); a part of a unit is rounded as a free value has it. -/
def Dev.slewLeft (d : Dev) : Int :=
  d.time.slewRem / 65536 + (if d.time.slewRem % 65536 ≠ 0 ∧ Config.roundUp d.free then 1 else 0)

/-- The four words at the head of a TT_IN queue (R326, R333); zero when it is empty. -/
def ttInWords (l : List TtEdge) : List W32 := match l with
  | [] => [0, 0, 0, 0]
  | e :: _ => [wordOf [(31, 1), (30, b2n e.rising), (0, l.length)], BitVec.ofNat 32 e.ns, wordOf [(29, e.frac)], BitVec.ofNat 32 e.secLo]

/-- Views of the TIME and TTBL blocks: the counter, the rest of a slew, and the TT_IN queues (R332, R333). -/
def Dev.viewTime (d : Dev) (a : Nat) : Option W32 :=
  if a = A.TIME_NS then some (BitVec.ofNat 32 d.nowNs)
  else if a = A.TIME_FRAC then some (BitVec.ofNat 32 d.time.now.frac)
  else if a = A.TIME_SEC_LO then some (BitVec.ofNat 32 d.time.now.sec)
  else if a = A.TIME_SEC_HI then some (BitVec.ofNat 32 (d.time.now.sec / 2 ^ 32))
  else if a = A.TIME_SLEW_LO then some (BitVec.ofInt 32 d.slewLeft)
  else if a = A.TIME_SLEW_HI then some (BitVec.ofNat 32 (unsgn 48 d.slewLeft / 2 ^ 32))
  else if A.TTBL_INn_INFO 0 ≤ a ∧ a < A.TTBL_INn_INFO 8 ∧ a % 4 = 0 then
    let o := a - A.TTBL_INn_INFO 0
    some ((ttInWords (Tab.get (fun _ => []) (o / 16) d.ttbl.fifos)).getD (o % 16 / 4) 0)
  else none

/-- RMB_TXDONE_LO and its descriptor; zero when the queue is empty (R348, R363). -/
def Dev.txDoneWords (d : Dev) : List W32 := match d.rmb.done with
  | [] => [0, 0]
  | (code, seq, desc) :: _ => [wordOf [(31, 1), (27, code), (21, seq)], BitVec.ofNat 32 desc]

/-- RMB_RXQ; zero when the queue is empty (R354, R363). -/
def Dev.rxqWord (d : Dev) : W32 := match d.rmb.rxq with
  | [] => 0
  | (st, slot) :: _ => wordOf [(31, 1), (27, st), (0, slot)]

/-- Views of the RMB and COEX blocks: queues, slots, the exchange, and the time with GNT_OUT high (R363, R364). -/
def Dev.viewRmb (d : Dev) (a : Nat) : Option W32 :=
  if a = A.RMB_STATUS then
    some (wordOf [(29, d.getF F.RMB_STATUS_RX_STATE), (28, b2n d.rmb.opened.isSome), (27, d.getF F.RMB_STATUS_TXWIN),
      (26, b2n d.rmb.exch.isSome), (21, d.rmbQueued), (16, 16 - popc 16 d.rmb.slots)])
  else if a = A.RMB_TXDONE_LO then some (d.txDoneWords.getD 0 0)
  else if a = A.RMB_TXDONE_HI then some (d.txDoneWords.getD 1 0)
  else if a = A.RMB_RXQ then some d.rxqWord
  else if a = A.COEX_YIELD_US then some (d.yieldSettle.reg A.COEX_YIELD_US)
  else none

/-- Views of the tiles' blocks: the time paths have spent powered down (R237). -/
def Dev.viewTile (d : Dev) (a : Nat) : Option W32 :=
  if a < A.TILE_SHUT_US_LO 0 ∨ A.TILE_SHUT_US_HI 3 < a then none
  else
    let t := (a - A.TILE_SHUT_US_LO 0) / 0x40000
    if a = A.TILE_SHUT_US_LO t ∨ a = A.TILE_SHUT_US_HI t then some ((d.shutCount t).reg a) else none

/-! Latched words (R8 to R10). -/

/-- The number of a requester (R10). -/
def reqCode : Requester → Nat
  | .cp0 => 0
  | .cp1 => 1
  | .dma c => 2 + c.val
  | .mspi => 18

/-- A requester as the error log codes it (R464); the management SPI has no code there, so its number is free. -/
def Dev.reqSrc (d : Dev) : Requester → Nat × Dev
  | .cp0 => (1, d)
  | .cp1 => (2, d)
  | .dma _ => (3, d)
  | .mspi => d.anyNat

/-- The key under which a requester's copy of a word is kept. -/
def reqKey (r : Requester) (a : Nat) : Nat := reqCode r * 2 ^ 32 + a

/-- A word latched for a requester. -/
def Dev.setLatch (d : Dev) (r : Requester) (a : Nat) (v : W32) : Dev :=
  { d with latch := Tab.set (fun _ => none) (reqKey r a) (some v) d.latch }

/-- The requester's latched copy of a word, none before the first latch (R9). -/
def Dev.getLatch (d : Dev) (r : Requester) (a : Nat) : Option W32 := Tab.get (fun _ => none) (reqKey r a) d.latch

/-- Consecutive words latched from an address. -/
def Dev.latchWords (d : Dev) (r : Requester) (a : Nat) (ws : List W32) : Dev :=
  d.forL ws.zipIdx (fun d p => d.setLatch r (a + 4 * p.2) p.1)

/-- A word staged by a requester for a writable group (R12). -/
def Dev.setStaged (d : Dev) (r : Requester) (a : Nat) (v : W32) : Dev :=
  { d with staged := Tab.set (fun _ => none) (reqKey r a) (some v) d.staged }

/-- A staged word taken at a commit: the staged one, or else the value in force (R12). -/
def Dev.takeStaged (d : Dev) (r : Requester) (a : Nat) : W32 × Dev :=
  match Tab.get (fun _ => none) (reqKey r a) d.staged with
  | some v => (v, { d with staged := Tab.set (fun _ => none) (reqKey r a) none d.staged })
  | none => (d.reg a, d)

/-- What the register at an address reads as now, with no effect of reading it. -/
def Dev.live (d : Dev) (a : Nat) : W32 :=
  match firstView [d.viewSys a, d.viewMemi a, d.viewFe a, d.viewLink a, d.viewClu a, d.viewTile a, d.viewDpd a,
      d.viewTime a, d.viewRmb a] with
  | some v => v
  | none => d.reg a

/-- Registers from an address, as they read now, as result bytes. -/
def Dev.liveBytes (d : Dev) (a n : Nat) : List Byte := (List.range n).flatMap (fun i => word4 (d.live (a + 4 * i)))

/-- A counter read and cleared (RC, R5): its result bytes and the block with it zero. -/
def Dev.takeRc (d : Dev) (a : Nat) : List Byte × Dev := (word4 (d.reg a), d.setReg a 0)

/-- Several counters read and cleared in turn. -/
def Dev.takeRcs (d : Dev) (l : List Nat) : List Byte × Dev :=
  l.foldl (fun acc a => let (b, d) := acc.2.takeRc a; (acc.1 ++ b, d)) ([], d)

end Sys2Proof.Machine
end

