-- ==== Sys2Proof/Machine/Ecc.lean ====
section
/-! DEFINITION. The Hamper's check code as seen by its readers and writers, and the error log (R460 to R466). -/

namespace Sys2Proof.Machine

/-- The 24-bit word address of a Hamper byte (R460). -/
def wordOfAddr (a : Nat) : Nat := (a - hamperLo) / 8

/-- The class code of an error in the log (R464). -/
def errCode : ErrClass → Nat
  | .clean => 0
  | .ce => 1
  | .ue => 2
  | .addr => 3

/-- What the check code says of a stored word. -/
def Dev.ecc (d : Dev) (w : Nat) : ErrClass × Byte := Tab.get (fun _ => (.clean, 0)) w d.memi.ecc

/-- The block with a word's check state set. -/
def Dev.setEcc (d : Dev) (w : Nat) (e : ErrClass × Byte) : Dev :=
  d.modMemi (fun m => { m with ecc := Tab.set (fun _ => (.clean, 0)) w e m.ecc })

/-- Bit errors that have struck stored words (the environment's part of a command). -/
def Dev.upset (d : Dev) (ups : List Upset) : Dev :=
  d.forL (ups.filter (fun u => decide (u.word < 2 ^ 24))) (fun d u => d.setEcc u.word (u.cls, u.synd))

/-- MEM_EVENT (R482) on MB0. -/
def Dev.memEvent (d : Dev) (code id data data2 data3 : Nat) : Dev :=
  d.notify 0 0x9080 0 (leBytes 1 code ++ leBytes 1 id ++ [0, 0] ++ le4 data ++ le4 data2 ++ le4 data3)

/-- The remap entries in use, as page numbers (R466). -/
def Dev.retired (d : Dev) : List Nat :=
  (List.range 128).filterMap (fun i => if d.flag (F.MEMI_REMAPi_VALID i) then some (d.getF (F.MEMI_REMAPi_PAGE i)) else none)

/-- Free spare pages of a die. -/
def spareF (die : Nat) : Fld := if die = 0 then F.MEMI_STAT_SPARE0 else F.MEMI_STAT_SPARE1

/-- The die of a page of 4 KiB. -/
def pageDie (p : Nat) : Nat := p / 16384

/-- A write of MEMI_RETIRE (R466). -/
def Dev.retireStart (d : Dev) (page : Nat) : Dev :=
  if d.memi.retiring.isSome ∨ d.retired.contains page ∨ d.getF (spareF (pageDie page)) = 0 then d.count A.MEMI_CMD_ERR
  else (d.modMemi (fun m => { m with retiring := some page })).setB F.MEMI_STAT_RETIRING true

/-- The runtime firmware retires a page after an ADDR or a UE, or the third CE of a word; the page waits while a
retirement runs (R466). -/
def Dev.fwRetire (d : Dev) (page : Nat) : Dev :=
  if !d.fw.running ∨ d.retired.contains page ∨ d.memi.retiring = some page then d
  else if d.memi.retiring.isSome then
    if d.fw.retireWait.contains page then d else d.modFw (fun f => { f with retireWait := f.retireWait ++ [page] })
  else if d.getF (spareF (pageDie page)) = 0 then d.memEvent 4 (pageDie page) 0 0 0
  else d.retireStart page

/-- 24 h, in ns. -/
def dayNs : Nat := 86400 * 1000000000

/-- An error found in a word: counted, logged unless one of the 16 most recent entries says the same, and acted on by
the runtime firmware (R461 to R466). -/
def Dev.logErr (d : Dev) (cls : ErrClass) (src : Nat) (synd : Byte) (w : Nat) : Dev :=
  let d := match cls with
    | .clean => d
    | .ce => (d.count A.MEMI_CE_CNT).setB F.MEMI_INT_STAT_CE true
    | .ue => ((d.count A.MEMI_UE_CNT).setB F.MEMI_INT_STAT_UE true).degr 7
    | .addr => ((((d.count A.MEMI_UE_CNT).count A.MEMI_ADDR_CNT).setB F.MEMI_INT_STAT_UE true).setB
        F.MEMI_INT_STAT_ADDR true).degr 7
  let d :=
    if d.memi.recent.contains (w, errCode cls) then d
    else if 1024 ≤ d.memi.log.length then
      ((d.count A.MEMI_LOG_LOST).setB F.MEMI_INT_STAT_LOG_FULL true).memEvent 6 0 0 0 0
    else d.modMemi (fun m => { m with
      log := m.log ++ [⟨errCode cls, src, synd.toNat, w, d.nowNs, d.nowSecLo⟩]
      recent := ((w, errCode cls) :: m.recent).take 16 })
  match cls with
  | .clean => d
  | .ce =>
    let now := d.time.now.sec * 1000000000 + d.time.now.ns
    let d := d.modFw (fun f => { f with ceSeen := (w, now) :: f.ceSeen })
    if 3 ≤ (d.fw.ceSeen.filter (fun e => e.1 == w && decide (now ≤ e.2 + dayNs))).length then d.fwRetire (w / 512) else d
  | _ => (d.memEvent 2 0 w 0 0).fwRetire (w / 512)

/-- The words with an error in a run of Hamper bytes. -/
def Dev.badWords (d : Dev) (a n : Nat) : List (Nat × ErrClass × Byte) :=
  d.memi.ecc.filter (fun e => decide (a < hamperLo + 8 * e.1 + 8 ∧ hamperLo + 8 * e.1 < a + n))

/-- A requester's read of a run of bytes (R460 to R462), which wakes the Hamper unless it is the scrubber (R522): a CE is logged and its write-back falls due, a UE or ADDR is
logged. The answer says whether any word was uncorrectable. -/
def Dev.readEcc (d : Dev) (src a n : Nat) : Bool × Dev :=
  let bad := d.badWords a n
  let d := if src = 0 then d else d.modMemi (fun m => { m with hamperSleep := false })
  let d := d.forL bad (fun d e =>
    let d := d.logErr e.2.1 src e.2.2 e.1
    if e.2.1 = .ce then d.modMemi (fun m => { m with writeback := m.writeback ++ [e.1] }) else d)
  (bad.any (fun e => e.2.1 == .ue || e.2.1 == .addr), d)

/-- The bytes a reader gets: those of uncorrectable words read zero (R462). -/
def Dev.eccBytes (d : Dev) (m : Mem) (a n : Nat) : List Byte :=
  let bad := (d.badWords a n).filter (fun e => e.2.1 != .ce)
  (List.range n).map (fun i =>
    if bad.any (fun e => decide (hamperLo + 8 * e.1 ≤ a + i ∧ a + i < hamperLo + 8 * e.1 + 8)) then 0
    else memGet m (a + i))

/-- A requester's write of a run of bytes: a full word replaces an erroneous one; a write with byte enables cannot
merge into an uncorrectable word, which stays so and is logged with the writer as source (R462). -/
def Dev.wroteEcc (d : Dev) (src a : Nat) (bs : List Byte) : Dev :=
  let n := bs.length
  ((d.watch src a bs).modMemi (fun m => { m with hamperSleep := false })).forL (d.badWords a n) (fun d e =>
    let full := decide (a ≤ hamperLo + 8 * e.1 ∧ hamperLo + 8 * e.1 + 8 ≤ a + n)
    let d := d.modMemi (fun m => { m with writeback := m.writeback.filter (· != e.1) })
    if full ∨ e.2.1 = .ce then d.setEcc e.1 (.clean, 0)
    else d.logErr e.2.1 src e.2.2 e.1)

end Sys2Proof.Machine
end

