-- ==== Sys2Proof/Machine/Engine.lean ====
section
/-! DEFINITION. The signature engine: starting jobs and the checks of signed objects (R443 to R454). -/

namespace Sys2Proof.Machine

/-- A job put into the engine: LCS_VCTRL.START with its operands (R449). -/
def Dev.engineRun (d : Dev) (j : EngJob) : Dev :=
  let d := (((d.setF F.LCS_VCTRL_OP j.op).setReg A.LCS_VADDR (BitVec.ofNat 32 j.addr)).setReg A.LCS_VLEN
    (BitVec.ofNat 32 j.len)).setB F.LCS_VCTRL_BUSY true
  d.modLcs (fun l => { l with job := some j, outcome := none })

/-- The next job the firmware has queued, once the engine is free (R454). -/
def Dev.engineNext (d : Dev) : Dev :=
  if d.flag F.LCS_VCTRL_BUSY then d
  else match d.lcs.queue with
    | [] => d
    | j :: js => (d.modLcs (fun l => { l with queue := js })).engineRun j

/-- A job queued by the firmware. -/
def Dev.engineAdd (d : Dev) (j : EngJob) : Dev :=
  (d.modLcs (fun l => { l with queue := l.queue ++ [j] })).engineNext

/-- A write of LCS_VCTRL.START (R449): ignored and counted while BUSY. -/
def Dev.engineStart (d : Dev) : Dev :=
  if d.flag F.LCS_VCTRL_BUSY then d.cmdErr
  else d.engineRun ⟨d.getF F.LCS_VCTRL_OP, (d.reg A.LCS_VADDR).toNat, (d.reg A.LCS_VLEN).toNat, 0⟩

/-- Length of a signature block (R444). -/
def sigLen : Nat := 17072

/-- The result of the engine's checks (R445): RESULT, SIGNER, SLOT, ENTRY. -/
abbrev Verdict := Nat × Nat × Nat × Nat

/-- The slots of a signer kind. -/
def FuseSt.slots (f : FuseSt) (signer : Nat) : List KeySlot := if signer = 0 then f.vendor else f.owner

/-- Whether a signer's images and kernels are accepted in the present state (R439). -/
def Dev.signerOk (d : Dev) (signer : Nat) : Bool :=
  match d.lc with
  | .maker => signer == 0
  | .ownerOpen => signer == 0 || (signer == 1 && usableMask d.fuse.owner != 0)
  | .field => signer == 0 || signer == 1
  | .returned => signer == 0

/-- ASCII of a text. -/
def ascii (s : String) : List Byte := s.toList.map (fun c => BitVec.ofNat 8 c.toNat)

/-- Whether the fields of a signature block are right (R444, RESULT 1). -/
def blockForm (b : List Byte) (domain : String) : Bool :=
  leAt b 0 4 == 0x53474E31 && leAt b 4 2 == 1 && decide (byteAt b 6 ≤ 1) && decide (byteAt b 7 ≤ 3) && zeroAt b 0xC 4 &&
    (b.drop 0x10).take 8 == ascii domain && zeroAt b 0x18 8

/-- The checks of a signature block after its form, in order (R445): key, slot, signer, both signatures, rollback.
`body` is the signed object; the block covers it and its own bytes up to offset 0x1CF. -/
def Dev.blockCheck (d : Dev) (body b : List Byte) : Nat :=
  let signer := byteAt b 6
  let slot := byteAt b 7
  let key := (b.drop 0x20).take 432
  let k := (d.fuse.slots signer).getD slot {}
  let msg := sha384 (body ++ b.take 0x1D0)
  if k.hash ≠ sha384 key then 3
  else if !k.usable then 4
  else if !d.signerOk signer then 5
  else if !Config.rsaGood (key.take 384) msg ((b.drop 0x1D0).take 384) then 6
  else if !Config.slhGood (key.drop 384) msg ((b.drop 0x350).take 16224) then 7
  else if leAt b 8 4 < (if signer = 0 then d.fuse.svnVendor else d.fuse.svnOwner) then 8
  else 0

/-- Read the object of a job: its bytes, and whether a word was uncorrectable. -/
def Dev.jobBytes (d : Dev) (m : Mem) (a n : Nat) : List Byte × Bool × Dev :=
  let (ue, d') := d.readEcc 9 a n
  (d.eccBytes m a n, ue, d')

/-- OP 0: an image (R443, R445). An object outside the Hamper cannot be read and is refused RANGE. -/
def Dev.checkImage (d : Dev) (m : Mem) (a n : Nat) : Verdict × Dev :=
  if !inHamper a n then ((2, 0, 0, 0), d)
  else
    let (o, ue, d) := d.jobBytes m a n
    let body := leAt o 0xC 4
    let magic := leAt o 0 4
    let b := o.drop (64 + body)
    let form := (magic == 0x424C4452 || magic == 0x5254494D) && leAt o 4 2 == 1 && zeroAt o 6 2 && body % 64 == 0 &&
      decide (leAt o 0x10 4 < body) && zeroAt o 0x14 44 && n == 64 + body + sigLen && blockForm b "SKB-IMG1"
    let lim := if magic = 0x424C4452 then 0x80000 else 0x800000
    let r := if !form then 1 else if lim < n then 2 else d.blockCheck (o.take (64 + body)) b
    ((if r = 0 ∧ ue then 9 else r, byteAt b 6, byteAt b 7, 0), d)

/-- The entry a kernel takes (R448): the one that holds its KERNEL_ID, else the lowest free one. -/
def Dev.kernelEntry (d : Dev) (id : Nat) : Option Nat :=
  match (List.range 32).find? (fun e => d.flag (F.LCS_KE_INFO_VALID e) && (d.reg (A.LCS_KE_ID e)).toNat == id) with
  | some e => some e
  | none => (List.range 32).find? (fun e => !d.flag (F.LCS_KE_INFO_VALID e))

/-- A verified-kernel table entry written (R448). -/
def Dev.putKernel (d : Dev) (e : Nat) (digest : List Byte) (id signer : Nat) : Dev :=
  let d := d.forN 12 (fun d i => d.setReg (A.LCS_KE_DIGEST e i) (BitVec.ofNat 32 (leAt digest (4 * i) 4)))
  ((d.setReg (A.LCS_KE_ID e) (BitVec.ofNat 32 id)).setB (F.LCS_KE_INFO_VALID e) true).setF (F.LCS_KE_INFO_SIGNER e) signer

/-- OP 1: a kernel (R194, R445, R448). -/
def Dev.checkKernel (d : Dev) (m : Mem) (a n : Nat) : Verdict × Dev :=
  if !inHamper a n then ((2, 0, 0, 0), d)
  else
    let (o, ue, d) := d.jobBytes m a n
    let nb := leAt o 0x10 2
    let body := 32 + 32 * nb
    let b := o.drop body
    let form := leAt o 0 4 == 0x4B45524E && leAt o 4 2 == 1 && decide (leAt o 6 2 ≤ 2) && leAt o 8 4 != 0 &&
      decide (1 ≤ nb ∧ nb ≤ 2048) && decide (leAt o 0x12 2 < nb) && zeroAt o 0x18 8 && n == body + sigLen &&
      blockForm b "SKB-KRN1"
    let r := if !form then 1 else d.blockCheck (o.take body) b
    let r := if r = 0 ∧ ue then 9 else r
    match r, d.kernelEntry (leAt o 8 4) with
    | 0, none => ((10, byteAt b 6, byteAt b 7, 0), d)
    | 0, some e => ((0, byteAt b 6, byteAt b 7, e), d.putKernel e (sha384 (o.take body)) (leAt o 8 4) (byteAt b 6))
    | r, _ => ((r, byteAt b 6, byteAt b 7, 0), d)

/-- Whether an authorisation's OP is legal in the present state (R437, R442, R451). -/
def Dev.authLegal (d : Dev) (op : Nat) : Bool :=
  match op with
  | 1 => d.lc == .maker
  | 2 => d.lc == .ownerOpen
  | 3 => d.lc == .field
  | 4 => d.lc == .field
  | 5 => true
  | 6 => d.lc == .ownerOpen || d.lc == .field
  | 7 => d.lc == .returned
  | _ => false

/-- The kind of signer an authorisation needs first (R437, R442): 0 vendor, 1 owner. -/
def authSigner : Nat → Nat
  | 2 => 1
  | 3 => 1
  | 4 => 1
  | 6 => 1
  | _ => 0

/-- A key slot changed. -/
def modSlot (l : List KeySlot) (i : Nat) (f : KeySlot → KeySlot) : List KeySlot :=
  l.zipIdx.map (fun p => if p.2 = i then f p.1 else p.1)

/-- Whether revoking a slot would leave none of its kind usable (R441). -/
def lastKey (l : List KeySlot) (i : Nat) : Bool := usableMask (modSlot l i (fun k => { k with revoked := true })) == 0

/-- The operation of a verified authorisation carried out (R437, R438, R442, R451, R452). A RETURN blows the first
fuse of its pair; the rest follows at the warm reset. -/
def Dev.authApply (d : Dev) (op slot : Nat) (hash : List Byte) : Dev :=
  match op with
  | 1 => d.modFuse (fun f => { f with openA := true, openB := true })
  | 2 => d.modFuse (fun f => { f with fieldA := true, fieldB := true })
  | 3 => d.modFuse (fun f => { f with owner := modSlot f.owner slot (fun k => { k with hash := hash, valid := true }) })
  | 4 => d.modFuse (fun f => { f with owner := modSlot f.owner slot (fun k => { k with revoked := true }) })
  | 5 => d.modFuse (fun f => { f with vendor := modSlot f.vendor slot (fun k => { k with revoked := true }) })
  | 6 => (d.toSafe.modFuse (fun f => { f with retA := true })).modLcs (fun l => { l with returnDue := true })
  | 7 => d.modLcs (fun l => { l with unlock := true })
  | _ => d

/-- Whether an owner slot is empty: nothing has been written into it (R441). -/
def KeySlot.empty (k : KeySlot) : Bool := !k.valid && !k.revoked && k.hash == []

/-- OP 2: an authorisation (R445, R451). -/
def Dev.checkAuth (d : Dev) (m : Mem) (a n : Nat) : Verdict × Dev :=
  if !inHamper a n then ((2, 0, 0, 0), d)
  else
    let (o, ue, d) := d.jobBytes m a n
    let op := byteAt o 4
    let body := o.take 96
    let b1 := (o.drop 96).take sigLen
    let b2 := o.drop (96 + sigLen)
    let two := op == 6
    let slot := byteAt o 40
    let hash := (o.drop 48).take 48
    let form := leAt o 0 4 == 0x41555448 && decide (1 ≤ op ∧ op ≤ 7) && zeroAt o 5 3 && zeroAt o 41 7 &&
      (if 3 ≤ op ∧ op ≤ 5 then decide (slot < if op = 5 then 3 else 4) else slot == 0) && (op == 3 || zeroAt o 48 48) &&
      n == 96 + sigLen * (if two then 2 else 1) && blockForm b1 "SKB-AUT1" && (!two || blockForm b2 "SKB-AUT1")
    let wrongKind := byteAt b1 6 != authSigner op || (two && byteAt b2 6 != 0) || (op == 5 && byteAt b1 7 == slot)
    let r1 := if !form then 1 else d.blockCheck body b1
    let r1 := if r1 = 0 ∧ wrongKind then 5 else r1
    let last := if r1 = 0 ∧ two then b2 else b1
    let r := if r1 = 0 ∧ two then d.blockCheck body b2 else r1
    let devid := (List.range 4).flatMap (fun i => word4 (d.live (A.LCS_DEVID_i i)))
    let nonce := (List.range 4).flatMap (fun i => word4 (d.live (A.LCS_NONCE_i i)))
    let r := if r ≠ 0 then r
      else if ue then 9
      else if (o.drop 8).take 16 ≠ devid ∨ (o.drop 24).take 16 ≠ nonce then 11
      else if !d.authLegal op ∨ (op = 3 ∧ !(d.fuse.owner.getD slot {}).empty) then 12
      else if (op = 4 ∧ lastKey d.fuse.owner slot) ∨ (op = 5 ∧ lastKey d.fuse.vendor slot) then 13
      else 0
    ((r, byteAt last 6, byteAt last 7, 0), if r = 0 then d.authApply op slot hash else d)

/-- The 256-byte report, the host nonce aside (R453). -/
def Dev.reportBytes (d : Dev) (nonce : List Byte) : List Byte :=
  let regs := fun a n => (List.range n).flatMap (fun i => word4 (d.live (a + 4 * i)))
  let table := (List.range 32).flatMap (fun e => regs (A.LCS_KE_DIGEST e 0) 16)
  le4 0x41545354 ++ leBytes 2 1 ++ leBytes 1 d.lc.code ++ leBytes 1 (b2n d.lcs.trans) ++ regs (A.LCS_DEVID_i 0) 4 ++ nonce ++
    leBytes 8 d.time.now.sec ++ le4 d.time.now.ns ++ le4 0 ++ regs (A.LCS_MEAS_BL_i 0) 12 ++ regs (A.LCS_MEAS_RT_i 0) 12 ++
    regs A.LCS_RT_VER 1 ++ regs A.LCS_SVN 1 ++ le4 (d.lcsState.toNat / 32 % 128) ++ le4 (d.getF F.LCS_CTRL_LOCK) ++
    sha384 table ++ regs A.SYS_ID 1 ++ regs A.SYS_BOOT 1 ++ List.replicate 16 0

/-- OP 3: the report is built, signed by the device key and written (R453). The block's SVN is not stated and is a
free value. -/
def Dev.attest (d : Dev) (m : Mem) (a n : Nat) : Verdict × Writes × Dev :=
  if !inHamper a n ∨ n ≠ 256 + sigLen then ((2, 2, 0, 0), [], d)
  else
    let (o, ue, d) := d.jobBytes m (a + 24) 32
    if ue then ((9, 2, 0, 0), [], d)
    else
      let body := d.reportBytes o
      let (svn, d) := d.anyWord
      let head := le4 0x53474E31 ++ leBytes 2 1 ++ [2, 0] ++ word4 svn ++ le4 0 ++ ascii "SKB-ATT1" ++ List.replicate 8 0 ++
        (List.range 432).map Config.deviceKey
      let sig := (List.range (384 + 16224)).map (Config.deviceSign (body ++ head))
      ((0, 2, 0, 0), [(a, body ++ head ++ sig)], d.wroteEcc 9 a (body ++ head ++ sig))

end Sys2Proof.Machine
end

