-- ==== Sys2Proof/Machine/Sys.lean ====
section
/-! DEFINITION. The SYS and MBOX blocks and the system commands (13_control_firmware.md). -/

namespace Sys2Proof.Machine

/-! State and SAFE causes. -/

/-- STATE_WRITE (R406). -/
def execStateWrite (st : BitVec 3) (s : State) : Host.Outcome State Fault Refusal := run s (·.stateWrite st.toNat)

/-- A W1C write of SYS_SAFE_CAUSE, each bit on its own (R407). -/
def Dev.safeCauseClear (d : Dev) (v : Nat) : Dev :=
  let old := (d.reg A.SYS_SAFE_CAUSE).toNat
  let asked := (bitsOf 5 v).filter (fun i => old.testBit i)
  let refused := asked.filter (fun i =>
    (i == 0 && d.thermHolds) || (i == 2 && d.power.rails != 15) || (i == 3 && d.getF F.OBS_FAULT_STAT_HARD != 0))
  let cleared := asked.filter (fun i => !refused.contains i)
  let d := d.setReg A.SYS_SAFE_CAUSE (BitVec.ofNat 32 (cleared.foldl (fun w i => setBitN w i false) old))
  if refused.isEmpty then d else d.cmdErr

/-- SAFE_CAUSE_CLEAR (R407). -/
def execSafeCauseClear (v : BitVec 32) (s : State) : Host.Outcome State Fault Refusal := run s (·.safeCauseClear v.toNat)

/-- The bits a hardware block may set by itself once its own condition holds (R410); ports and tiles have steps of
their own. -/
def Dev.functionReady (d : Dev) (fn : Nat) : Dev :=
  let ok := match fn with
    | 0 => d.therm.sampled
    | 1 => d.power.booted
    | 6 => !d.obs.hardCond.testBit 2
    | 11 => (List.range 16).all (fun c => d.getF (F.CLU_STAT_STATE c) == 0)
    | 12 => true
    | 13 => (List.range 4).all (fun t => !d.awake t || d.ready (7 + t))
    | 14 => d.rmb.locked
    | 15 => true
    | 16 => true
    | 17 => true
    | _ => false
  if ok then (let d := d.func fn true; if fn ≤ 1 then d.fwStandby else d) else d

/-- FUNCTION_READY (R410, R517). -/
def execFunctionReady (fn : Fin 18) (s : State) : Host.Outcome State Fault Refusal := run s (·.functionReady fn.val)

/-! Watchdog. -/

/-- The watchdog's PERIOD as written: bounds and locks of R424 and R425. -/
def Dev.wdogPeriod (d : Dev) (p : Nat) : Dev :=
  let v := if p = 0 then (if d.lcOpen then 0 else 10000) else clampN 10 10000 p
  if d.flag F.SYS_WDOG_CFG_LOCK then d.cmdErr
  else if d.getF F.SYS_WDOG_CFG_PERIOD = v then d
  else { d.setF F.SYS_WDOG_CFG_PERIOD v with power := { d.power with wdogWarned := false } }

/-- A write of SYS_WDOG_KICK (R423); `tie`: the watchdog expired in the same cycle. -/
def Dev.wdogKick (d : Dev) (key : Nat) (tie : Bool) : Dev :=
  if key % 65536 = 0x6B1D then
    let d := { d with power := { d.power with wdogWarned := false } }
    if tie ∧ d.flag F.SYS_WDOG_CFG_PERIOD then d.count A.SYS_TIE else d
  else d.cmdErr

/-- WDOG_KICK (R423). -/
def execWdogKick (key : BitVec 32) (tie : Bool) (s : State) : Host.Outcome State Fault Refusal :=
  run s (·.wdogKick key.toNat tie)

/-- The watchdog expires (R424): a warning first, then SAFE with cause WDOG and a warm reset. -/
def Dev.wdogExpiry (d : Dev) (tie : Bool) : Bool × Dev :=
  if !d.flag F.SYS_WDOG_CFG_PERIOD then (false, d)
  else if tie then (false, { d.count A.SYS_TIE with power := { d.power with wdogWarned := false } })
  else if !d.power.wdogWarned then
    (false, ({ d with power := { d.power with wdogWarned := true } }.setB F.SYS_INT_STAT_WDOG_WARN true).sysEvent 4 0 0 0 0)
  else (((d.modFw (fun f => { f with running := false })).enterSafe 1).count A.SYS_WDOG_CNT).warmReset

/-- WDOG_EXPIRY (R424). -/
def execWdogExpiry (tie : Bool) (s : State) : Host.Outcome State Fault Refusal := runZ s (·.wdogExpiry tie)

/-- WARM_RESET (R512). -/
def execWarmReset (s : State) : Host.Outcome State Fault Refusal := runZ s (·.warmReset)

/-! Frames. -/

/-- FRAME_WRITE on the management SPI (R412): a frame of a wrong length is discarded and counted; so is one that
finds no free slot. -/
def Dev.frameWrite (d : Dev) (bytes : List Byte) : Writes × Dev :=
  let free := if d.flag (F.MBOX_m_CTRL_EN 1) then 8 - (d.mbx 1).inRing.length else 0
  let bad := decide (bytes.length < 8 ∨ bytes.length ≠ 8 + leAt bytes 3 2)
  if bad ∨ free = 0 then
    let d := d.count (A.MBOX_m_FRAME_ERR 1)
    ([], if free = 0 then d.count (A.MBOX_m_DROP 1) else d)
  else
    let (ws, d) := d.pushIn 1 bytes
    (ws, Dev.answerUnknown 1 8 d)

/-- FRAME_WRITE (R412). -/
def execFrameWrite (bytes : List Byte) (s : State) : Host.Outcome State Fault Refusal :=
  runW s (fun _ d => d.frameWrite bytes)

/-- FRAME_READ on the management SPI (R412): the oldest outbound frame, or eight 0xFF bytes. -/
def Dev.frameRead (d : Dev) : Dev :=
  match (d.mbx 1).outRing with
  | [] => { d with rbytes := List.replicate 8 0xFF }
  | f :: fs =>
    let d := d.modMbx 1 (fun b => { b with outRing := fs })
    let d := d.setF F.MBOX_INT_STAT_OUT_SPACE (setBitN (d.getF F.MBOX_INT_STAT_OUT_SPACE) 1 true)
    { d with rbytes := f }

/-- FRAME_READ (R412). -/
def execFrameRead (s : State) : Host.Outcome State Fault Refusal := run s (·.frameRead)

/-- STAT_READ (R412): MBOX_1_STAT, least significant byte first. -/
def execStatRead (s : State) : Host.Outcome State Fault Refusal :=
  run s (fun d => { d with rbytes := word4 (d.mboxStat 1) })

/-- MBOX_IN_POP (R436): the oldest inbound slot is freed. -/
def execMboxInPop (m : Fin 4) (s : State) : Host.Outcome State Fault Refusal :=
  runW s (fun _ d => (d.popIn m.val).refill)

/-- MBOX_OUT_PUSH (R436): the frame in Hamper slot OUT_TAIL is sent. -/
def Dev.outPush (m : Mem) (d : Dev) (b v : Nat) : Dev :=
  let n := v % 8192
  let x := d.mbx b
  if 8 ≤ x.outRing.length ∨ n < 8 ∨ 4108 < n then d.cmdErr
  else
    let f := memRead m ((d.reg (A.MBOX_m_OUT_BASE b)).toNat + 0x1040 * (x.outTail % 8)) n
    (d.trace 3 (b * 2 ^ 94 + 2 ^ 93 + leNat (f.take 8))).modMbx b
      (fun x => { x with outRing := x.outRing ++ [f], outTail := (x.outTail + 1) % 8 })

/-- MBOX_OUT_PUSH (R436). -/
def execMboxOutPush (m : Fin 4) (v : BitVec 32) (s : State) : Host.Outcome State Fault Refusal :=
  runW s (fun mem d => ([], d.outPush mem m.val v.toNat))

/-! System commands (R433). -/

/-- A body that touches the block alone. -/
def devBody (f : Dev → CmdOut) : Body := fun _ d => f d

/-- SYS_INFO. -/
def cmdSysInfo (_pl : List Byte) : Body := devBody fun d =>
  okR d (word4 (d.live A.SYS_ID) ++ word4 (d.live A.SYS_BOOT) ++ word4 (d.live A.LCS_RT_VER) ++ word4 (d.live A.SYS_FUNC_READY))

/-- Function bits the runtime firmware misses for READY (R408). -/
def Dev.missingForReady (d : Dev) : Nat :=
  let tiles := (List.range 2).foldl (fun m g =>
    let ts := (List.range 4).filter (fun t => d.bandGroup t == g)
    if d.groupUsed g ∧ !ts.any (fun t => d.ready (7 + t)) then m ||| maskOf (ts.map (7 + ·)) else m) 0
  tiles ||| (if d.ready 13 then 0 else 2 ^ 13)

/-- SYS_STATE_SET (R406, R408, R433). -/
def cmdSysStateSet (pl : List Byte) : Body := devBody fun d =>
  let t := byteAt pl 0
  if 5 < t then badParam d
  else if !(fromStates t).testBit d.mod.code ∨ (t = 2 ∧ d.mod = .safe ∧ d.reg A.SYS_SAFE_CAUSE ≠ 0) then
    stateReject d (fromStates t)
  else if t = 3 ∧ d.missingForReady ≠ 0 then notReady d d.missingForReady
  else if t = 4 ∧ !d.flag F.FHP_CTRL_DL_EN then notReady d 0
  else if t = 4 then
    if d.flag F.SYS_STATE_ACT_PEND then busyR d
    else (.pending [], ((d.setB F.BEAM_CTRL_DL_EN true).setB F.BEAM_CTRL_UL_EN true).stateWrite 4, [])
  else okR (d.stateWrite t)

/-- SAFE_CLEAR. -/
def cmdSafeClear (pl : List Byte) : Body := devBody fun d =>
  let d := d.safeCauseClear (byteAt pl 0)
  okR d (word4 (d.reg A.SYS_SAFE_CAUSE))

/-- SYS_REBOOT: the warm reset follows within 10 ms (WARM_RESET). -/
def cmdSysReboot (pl : List Byte) : Body := devBody fun d =>
  okR (d.modFw (fun f => { f with rebootDue := true, rebootOther := (byteAt pl 0).testBit 0 }))

/-- WDOG_CFG (R425, R433). -/
def cmdWdogCfg (pl : List Byte) : Body := devBody fun d =>
  let p := leAt pl 0 2
  let lock := (byteAt pl 2).testBit 0
  if (p ≠ 0 ∧ p < 10) ∨ 10000 < p ∨ (p = 0 ∧ !d.lcOpen) then badParam d
  else if d.flag F.SYS_WDOG_CFG_LOCK then
    if p = d.getF F.SYS_WDOG_CFG_PERIOD then okR d else badParam d
  else
    let d := d.wdogPeriod p
    okR (if lock then d.setB F.SYS_WDOG_CFG_LOCK true else d)

/-- FW_STAGE (R429, R433): the image is verified by the engine and then written to the idle slot. -/
def cmdFwStage (pl : List Byte) : Body := devBody fun d =>
  let o := leAt pl 0 4
  let n := leAt pl 4 4
  if o % 64 ≠ 0 ∨ n = 0 ∨ d.regionSize 4 < o + n then badParam d
  else if !(d.pendingFor 0x0010).isEmpty then busyR d
  else (.pending [o, n], d.engineAdd ⟨0, d.regionBase 4 + o, n, 0x0010⟩, [])

/-- A slot of the flash by number: 0 A, 1 B. -/
def FwSt.slot (f : FwSt) (i : Nat) : SlotSt := if i = 0 then f.slotA else f.slotB

/-- FW_ACTIVATE (R429). -/
def cmdFwActivate (pl : List Byte) : Body := devBody fun d =>
  let i := byteAt pl 0
  if 1 < i ∨ (d.fw.slot i).verified.isNone then badParam d
  else okR ((d.modFw (fun f => { f with slotPref := i == 1 })).setB F.SYS_BOOT_SLOT_PREF (i == 1))

/-- FW_STAT: for each slot its version and whether it holds a verified image, a word each. -/
def cmdFwStat (_pl : List Byte) : Body := devBody fun d =>
  let one := fun i => le4 ((d.fw.slot i).verified.getD 0) ++ le4 (b2n (d.fw.slot i).verified.isSome)
  okR d (one 0 ++ one 1)

/-- Lands of each PIN_LOOPBACK group (R524). -/
def loopLands : Nat → Nat
  | 0 => 24
  | 1 => 32
  | 2 => 28
  | 3 => 8
  | 4 => 5
  | 5 => 4
  | 6 => 96
  | 7 => 144
  | _ => 0

/-- Whether a group supports a mode with a partner (R524). -/
def loopOk (g mode partner : Nat) : Bool :=
  match mode with
  | 0 => g == 0 || g == 1 || g == 2 || g == 4 || g == 5
  | 1 => (g == 0 && partner == 3) || (g == 1 && partner == 3) || (g == 4 && partner == 4) || (g == 5 && partner == 5) ||
      (g == 6 && partner == 7)
  | 2 => g == 7
  | _ => false

/-- `n` free bytes. -/
def Dev.anyBytes (d : Dev) : Nat → List Byte × Dev
  | 0 => ([], d)
  | n + 1 =>
    let (v, d) := d.anyNat
    let (bs, d) := d.anyBytes n
    (BitVec.ofNat 8 v :: bs, d)

/-- PIN_LOOPBACK (R523, R524): what the lands read back depends on the board, so the results are free values; the bits
of unmasked lands read zero, and codes have 12 bits. -/
def cmdPinLoopback (pl : List Byte) : Body := devBody fun d =>
  let g := byteAt pl 0
  let mode := byteAt pl 1
  let mask := leAt pl 4 20
  if !d.lcOpen then stateReject d 0b000100
  else if !loopOk g mode (byteAt pl 2) ∨ mask / 2 ^ loopLands g ≠ 0 then badParam d
  else
    let (bs, d) := d.anyBytes 20
    let failed := leBytes 20 (Nat.land (leNat bs) mask)
    if mode = 2 ∨ g = 6 then
      let n := popc 160 mask
      let (cs, d) := d.anyBytes (2 * n)
      okR d (failed ++ (List.range n).flatMap (fun i => leBytes 2 (leAt cs (2 * i) 2 % 4096)))
    else okR d failed

/-- SYS_INFO (R433). -/
def execSysInfo (h : CmdHdr) (pl : List Byte) (s : State) : Host.Outcome State Fault Refusal :=
  runW s (runCmd h 0x0001 (lenIs 0) pl (cmdSysInfo pl))

/-- SYS_STATE_SET (R433). -/
def execSysStateSet (h : CmdHdr) (pl : List Byte) (s : State) : Host.Outcome State Fault Refusal :=
  runW s (runCmd h 0x0002 (lenIs 4) pl (cmdSysStateSet pl))

/-- SAFE_CLEAR (R433). -/
def execSafeClear (h : CmdHdr) (pl : List Byte) (s : State) : Host.Outcome State Fault Refusal :=
  runW s (runCmd h 0x0003 (lenIs 4) pl (cmdSafeClear pl))

/-- SYS_REBOOT (R433). -/
def execSysReboot (h : CmdHdr) (pl : List Byte) (s : State) : Host.Outcome State Fault Refusal :=
  runW s (runCmd h 0x0004 (lenIs 4) pl (cmdSysReboot pl))

/-- WDOG_CFG (R433). -/
def execWdogCfg (h : CmdHdr) (pl : List Byte) (s : State) : Host.Outcome State Fault Refusal :=
  runW s (runCmd h 0x0005 (lenIs 4) pl (cmdWdogCfg pl))

/-- FW_STAGE (R433). -/
def execFwStage (h : CmdHdr) (pl : List Byte) (s : State) : Host.Outcome State Fault Refusal :=
  runW s (runCmd h 0x0010 (lenIs 8) pl (cmdFwStage pl))

/-- FW_ACTIVATE (R433). -/
def execFwActivate (h : CmdHdr) (pl : List Byte) (s : State) : Host.Outcome State Fault Refusal :=
  runW s (runCmd h 0x0011 (lenIs 4) pl (cmdFwActivate pl))

/-- FW_STAT (R433). -/
def execFwStat (h : CmdHdr) (pl : List Byte) (s : State) : Host.Outcome State Fault Refusal :=
  runW s (runCmd h 0x0012 (lenIs 0) pl (cmdFwStat pl))

/-- PIN_LOOPBACK (R523). -/
def execPinLoopback (h : CmdHdr) (pl : List Byte) (s : State) : Host.Outcome State Fault Refusal :=
  runW s (runCmd h 0x0020 (lenIs 24) pl (cmdPinLoopback pl))

end Sys2Proof.Machine
end

