-- ==== Sys2Proof/Machine/LifeCycle.lean ====
section
/-! DEFINITION. The engine's jobs and the security commands (14_life_cycle.md). -/

namespace Sys2Proof.Machine

/-- The running job checked, if it has the given OP and has not been checked yet: its outcome is noted and what it
brings about is done (R445 to R453). -/
def Dev.checkJob (m : Mem) (d : Dev) (op : Nat) (ups : List Upset) : Writes × Dev :=
  match d.lcs.job, d.lcs.outcome with
  | some j, none =>
    if j.op ≠ op then ([], d)
    else
      let d := d.upset ups
      let (v, ws, d) : Verdict × Writes × Dev := match op with
        | 0 => let (v, d) := d.checkImage m j.addr j.len; (v, [], d)
        | 1 => let (v, d) := d.checkKernel m j.addr j.len; (v, [], d)
        | 2 => let (v, d) := d.checkAuth m j.addr j.len; (v, [], d)
        | _ => d.attest m j.addr j.len
      (ws, d.modLcs (fun l => { l with outcome := some v }))
  | _, _ => ([], d)

/-- VERIFY_IMAGE (R443 to R445). -/
def execVerifyImage (ups : List Upset) (s : State) : Host.Outcome State Fault Refusal := runW s (fun m d => Dev.checkJob m d 0 ups)

/-- VERIFY_KERNEL (R448). -/
def execVerifyKernel (ups : List Upset) (s : State) : Host.Outcome State Fault Refusal := runW s (fun m d => Dev.checkJob m d 1 ups)

/-- VERIFY_AUTHORISATION (R451). -/
def execVerifyAuthorisation (ups : List Upset) (s : State) : Host.Outcome State Fault Refusal :=
  runW s (fun m d => Dev.checkJob m d 2 ups)

/-- ATTESTATION_REPORT (R453). -/
def execAttestationReport (ups : List Upset) (s : State) : Host.Outcome State Fault Refusal :=
  runW s (fun m d => Dev.checkJob m d 3 ups)

/-- What the firmware does once a job it queued has ended (R433, R455, R205). -/
def Dev.jobFollowUp (m : Mem) (d : Dev) (j : EngJob) (res : Nat) : Dev :=
  match j.who with
  | 0x0010 =>
    match d.pendingFor 0x0010 with
    | [] => d
    | p :: _ =>
      if res = 0 then
        let ver := memNat m (j.addr + 8) 4
        let d := d.modFw (fun f => if d.flag F.SYS_BOOT_SLOT_RUN then { f with slotA := ⟨some ver⟩ } else { f with slotB := ⟨some ver⟩ })
        d.finish p 0x00 0 []
      else d.finish p 0x08 res []
  | 0xA003 =>
    match d.pendingFor 0xA003 with
    | [] => d
    | p :: _ => if res = 0 then d.finish p 0x00 0 [] else d.finish p 0x08 res []
  | 0xA005 =>
    match d.pendingFor 0xA005 with
    | [] => d
    | p :: _ =>
      if res = 0 then d.finish p 0x00 0 (le4 (j.addr - d.regionBase 4) ++ le4 (256 + sigLen)) else d.finish p 0x0B 0 []
  | 0x3060 =>
    match d.waitingFor 0x3060 (fun _ => true) with
    | none => d
    | some p =>
      if res = 0 then
        let id := memNat m (j.addr + 8) 4
        (d.modFw (fun f => { f with kernels := (id, j.addr, j.len) :: f.kernels.filter (fun k => k.1 != id) })).answerWaiting p (.ok [])
      else if res = 10 then d.answerWaiting p (.err 0x04 0 0 (leBytes 2 0x0107 ++ [0, 0] ++ le4 32))
      else d.answerWaiting p (.err 0x08 res 0 [])
  | _ => d

/-- The running job ends (R449): its result is reported, a new nonce follows an authorisation (R450), and the firmware
goes on. -/
def Dev.jobDone (m : Mem) (d : Dev) : Writes × Dev :=
  match d.lcs.job with
  | none => ([], d)
  | some j =>
    let (ws, d) := Dev.checkJob m d j.op []
    let (res, signer, slot, entry) := d.lcs.outcome.getD (0, 0, 0, 0)
    let d := d.setReg A.LCS_VSTAT (wordOf [(28, res), (26, signer), (24, slot), (0, entry)])
    let d := (d.setB F.LCS_VCTRL_BUSY false).setB F.LCS_INT_STAT_DONE true
    let d := if res = 0 then d else (d.setB F.LCS_INT_STAT_FAIL true).count A.LCS_AUTH_FAIL_CNT
    let d := d.modLcs (fun l => { l with job := none, outcome := none, nonceGen := if j.op = 2 then l.nonceGen + 1 else l.nonceGen })
    (ws, (Dev.jobFollowUp m d j res).engineNext)

/-- ENGINE_JOB_DONE (R449, R450). -/
def execEngineJobDone (s : State) : Host.Outcome State Fault Refusal := runW s (fun m d => Dev.jobDone m d)

/-! Security commands (R455). -/

/-- LC_STAT. -/
def cmdLcStat (_pl : List Byte) : Body := devBody fun d =>
  okR d (d.liveBytes A.LCS_STATE 1 ++ d.liveBytes (A.LCS_DEVID_i 0) 4 ++ d.liveBytes A.LCS_SVN 1 ++
    d.liveBytes (A.LCS_MEAS_BL_i 0) 12 ++ d.liveBytes (A.LCS_MEAS_RT_i 0) 12 ++ d.liveBytes A.LCS_RT_VER 1 ++
    (List.range 432).map Config.deviceKey)

/-- LC_NONCE. -/
def cmdLcNonce (_pl : List Byte) : Body := devBody fun d => okR d (d.liveBytes (A.LCS_NONCE_i 0) 4)

/-- LC_AUTH. -/
def cmdLcAuth (pl : List Byte) : Body := devBody fun d =>
  let o := leAt pl 0 4
  let n := leAt pl 4 4
  if o % 64 ≠ 0 ∨ n = 0 ∨ d.regionSize 4 < o + n then badParam d
  else (.pending [o, n], d.engineAdd ⟨2, d.regionBase 4 + o, n, 0xA003⟩, [])

/-- OWNER_KEY_SET (R441, R442). -/
def cmdOwnerKeySet (pl : List Byte) : Body := devBody fun d =>
  let i := byteAt pl 0
  if d.lc ≠ .ownerOpen then stateReject d 0b000100
  else if 3 < i ∨ !(d.fuse.owner.getD i {}).empty then badParam d
  else okR (d.modFuse (fun f => { f with owner := modSlot f.owner i (fun k => { k with hash := pl.drop 4, valid := true }) }))

/-- ATTEST (R453, R454): one at a time; the host nonce is placed and the job queued. -/
def cmdAttest (pl : List Byte) : Body := devBody fun d =>
  if !(d.pendingFor 0xA005).isEmpty then busyR d
  else
    let room := d.regionSize 4 - (256 + sigLen)
    let a := d.regionBase 4 + Config.attestOffset % (room / 64) * 64
    (.pending [], d.engineAdd ⟨3, a, 256 + sigLen, 0xA005⟩, [(a + 24, pl)])

/-- SVN_COMMIT (R446). -/
def cmdSvnCommit (_pl : List Byte) : Body := devBody fun d =>
  if !(d.lc == .ownerOpen || d.lc == .field) ∨ !d.flag F.SYS_BOOT_CONFIRM then stateReject d 0b000100
  else
    let v := min 32 d.fw.runSvn
    let d := d.modFuse (fun f => if d.fw.runOwner then { f with svnOwner := max f.svnOwner v }
      else { f with svnVendor := max f.svnVendor v })
    okR d (word4 (d.live A.LCS_SVN))

/-- LC_STAT (R455). -/
def execLcStat (h : CmdHdr) (pl : List Byte) (s : State) : Host.Outcome State Fault Refusal :=
  runW s (runCmd h 0xA001 (lenIs 0) pl (cmdLcStat pl))

/-- LC_NONCE (R455). -/
def execLcNonce (h : CmdHdr) (pl : List Byte) (s : State) : Host.Outcome State Fault Refusal :=
  runW s (runCmd h 0xA002 (lenIs 0) pl (cmdLcNonce pl))

/-- LC_AUTH (R455). -/
def execLcAuth (h : CmdHdr) (pl : List Byte) (s : State) : Host.Outcome State Fault Refusal :=
  runW s (runCmd h 0xA003 (lenIs 8) pl (cmdLcAuth pl))

/-- OWNER_KEY_SET (R442, R455). -/
def execOwnerKeySet (h : CmdHdr) (pl : List Byte) (s : State) : Host.Outcome State Fault Refusal :=
  runW s (runCmd h 0xA004 (lenIs 52) pl (cmdOwnerKeySet pl))

/-- ATTEST (R454, R455). -/
def execAttest (h : CmdHdr) (pl : List Byte) (s : State) : Host.Outcome State Fault Refusal :=
  runW s (runCmd h 0xA005 (lenIs 32) pl (cmdAttest pl))

/-- SVN_COMMIT (R446, R455). -/
def execSvnCommit (h : CmdHdr) (pl : List Byte) (s : State) : Host.Outcome State Fault Refusal :=
  runW s (runCmd h 0xA006 (lenIs 0) pl (cmdSvnCommit pl))

end Sys2Proof.Machine
end

