-- ==== Sys2Proof/Machine/Memory.lean ====
section
/-! DEFINITION. Regions, scrubbing, the error log, page retirement, self-test and loopback (15_memory_bist_dma.md). -/

namespace Sys2Proof.Machine

/-! Regions (R457, R458). -/

/-- Size limits of regions 0 to 4 in 64 KiB units (R457). -/
def regionLimits : List (Nat × Nat) := [(2, 511), (0, 1024), (16, 1024), (8, 1024), (64, 256)]

/-- Whether a set of five sizes may be committed (R458). -/
def sizesOk (l : List Nat) : Bool :=
  (l.zip regionLimits).all (fun p => decide (p.2.1 ≤ p.1 ∧ p.1 ≤ p.2.2)) && decide (l.foldl (· + ·) 0 ≤ 2048)

/-- Sizes applied: every base follows (R458). -/
def Dev.applySizes (d : Dev) (l : List Nat) : Dev :=
  let d := d.modMemi (fun m => { m with sizes := l })
  let d := d.forN 6 (fun d r => d.setReg (A.MEMI_PART_BASEr r) (BitVec.ofNat 32 (d.regionBase r)))
  ((d.setReg A.BEAM_WMEM_BASE (BitVec.ofNat 32 (d.regionBase 0))).setReg A.BEAM_WMEM_SIZE
    (BitVec.ofNat 32 (d.regionSize 0 / 4))).setReg A.BEAM_CTX_BASE (BitVec.ofNat 32 (d.regionBase 1))

/-- A write of MEMI_PART_CTRL.COMMIT (R458). -/
def Dev.partCommit (d : Dev) : Dev :=
  let l := (List.range 5).map (fun r => d.getF (F.MEMI_PART_SIZEr_UNITS r))
  if d.mod = .standby ∧ sizesOk l then d.applySizes l
  else (d.setB F.MEMI_INT_STAT_PART_ERR true).count A.MEMI_CMD_ERR

/-- PART_COMMIT (R458). -/
def execPartCommit (s : State) : Host.Outcome State Fault Refusal := run s (·.partCommit)

/-! Scrubbing, write-back and the log (R461 to R464). -/

/-- The write-back of a corrected word, unless a requester's write has won (R461). -/
def Dev.writeBack (d : Dev) (w : Nat) : Dev :=
  if d.memi.writeback.contains w then
    (d.modMemi (fun m => { m with writeback := m.writeback.filter (· != w) })).setEcc w (.clean, 0)
  else d

/-- HAMPER_WRITEBACK (R461). -/
def execHamperWriteback (word : Nat) (s : State) : Host.Outcome State Fault Refusal := run s (·.writeBack word)

/-- The scrubber reads the next word (R463); it pauses in deep sleep (R522). -/
def Dev.scrubRead (d : Dev) (ups : List Upset) : Dev :=
  let d := d.upset ups
  if !d.flag F.MEMI_CTRL_SCRUB_EN ∨ d.memi.hamperSleep then d
  else
    let w := d.memi.scrubPtr
    let (_, d) := d.readEcc 0 (hamperLo + 8 * w) 8
    let last := decide (w + 1 = 2 ^ 24)
    let d := d.modMemi (fun m => { m with scrubPtr := if last then 0 else w + 1 })
    if last then d.count A.MEMI_SCRUB_PASS else d

/-- SCRUB_READ (R463). -/
def execScrubRead (ups : List Upset) (s : State) : Host.Outcome State Fault Refusal := run s (·.scrubRead ups)

/-- The head of the error log removed (R464). -/
def Dev.logPop (d : Dev) : Dev := d.modMemi (fun m => { m with log := m.log.drop 1 })

/-- A read of MEMI_LOG_INFO (R464): the head is removed and its other words latched for the reader. -/
def Dev.logRead (d : Dev) (r : Requester) : Dev :=
  let ws := d.logHead
  { (d.logPop.latchWords r A.MEMI_LOG_ADDR (ws.drop 1)) with rdata := ws.getD 0 0 }

/-- LOG_READ (R464). -/
def execLogRead (r : Requester) (s : State) : Host.Outcome State Fault Refusal := run s (·.logRead r)

/-! Page retirement (R465, R466). -/

/-- RETIRE_START (R466). -/
def execRetireStart (page : BitVec 15) (s : State) : Host.Outcome State Fault Refusal := run s (·.retireStart page.toNat)

/-- A page entered in the remap table, a spare page of its die used (R466). -/
def Dev.remap (d : Dev) (page : Nat) : Dev :=
  match (List.range 128).find? (fun i => !d.flag (F.MEMI_REMAPi_VALID i)) with
  | none => d
  | some i =>
    let d := (d.setB (F.MEMI_REMAPi_VALID i) true).setF (F.MEMI_REMAPi_PAGE i) page
    d.setF (spareF (pageDie page)) (d.getF (spareF (pageDie page)) - 1)

/-- The pages that wait are retired, one after the other (R466). -/
def Dev.retireNext (d : Dev) : Dev :=
  (d.modFw (fun f => { f with retireWait := [] })).forL d.fw.retireWait (fun d p => d.fwRetire p)

/-- The migration of a page ends (R465, R466): the data and its check state keep their addresses; the firmware records
the page, ends the PAGE_RETIRE that asked for it, and goes on with the pages that wait. -/
def Dev.retireDone (d : Dev) : Dev :=
  match d.memi.retiring with
  | none => d
  | some page =>
    let d := (d.modMemi (fun m => { m with retiring := none })).setB F.MEMI_STAT_RETIRING false
    let d := (d.remap page).setB F.MEMI_INT_STAT_RETIRED true
    if d.fw.running then
      let d := d.modFw (fun f => { f with retiredRec := f.retiredRec ++ [page] })
      let d := d.memEvent 3 (pageDie page) page 0 0
      (d.finishWhere (fun p => p.opcode == 0x9004 && p.args == [page]) 0x00 0 []).retireNext
    else d

/-- RETIRE_DONE (R466). -/
def execRetireDone (s : State) : Host.Outcome State Fault Refusal := run s (·.retireDone)

/-! Self-test (R467 to R469). -/

/-- Spare rows used in a row block. -/
def Dev.rowsUsed (d : Dev) (b : Nat) : Nat := Tab.get (fun _ => 0) b d.memi.bist.softRows + Tab.get (fun _ => 0) b d.fuse.rows

/-- Soft repairs added to a row block (R467). -/
def Dev.softRepair (d : Dev) (b n : Nat) : Dev :=
  let d := d.modMemi (fun m => { m with bist := { m.bist with
    softRows := Tab.set (fun _ => 0) b (Tab.get (fun _ => 0) b m.bist.softRows + n) m.bist.softRows } })
  d.setF F.BIST_SPARE_ROWS_FREE (d.getF F.BIST_SPARE_ROWS_FREE - n)

/-- A slice test ends with a RESULT (R468); REPAIR_FAIL and NO_SPARE raise FAIL and are reported. -/
def Dev.bistEnd (d : Dev) (result : Nat) : Dev :=
  let s := d.getF F.BIST_STAT_SLICE
  let d := ((d.setB F.BIST_STAT_BUSY false).setF F.BIST_STAT_PHASE 0).setF F.BIST_STAT_RESULT result
  let d := d.setB F.BIST_INT_STAT_DONE true
  let d := d.modMemi (fun m => { m with bist := { m.bist with stopped := false } })
  if result = 2 ∨ result = 3 then (d.setB F.BIST_INT_STAT_FAIL true).memEvent 5 (s / 256) s 0 0 else d

/-- A write of BIST_CTRL.START (R467, R468). -/
def Dev.bistStart (d : Dev) : Dev :=
  if d.flag F.BIST_STAT_BUSY then d.count A.BIST_CMD_ERR
  else
    let s := d.getF F.BIST_SLICE_SLICE
    let d := d.setF F.BIST_STAT_SLICE s
    if (d.getF F.BIST_STAT_NO_SPARE).testBit (s / 256) then d.bistEnd 3
    else (d.setB F.BIST_STAT_BUSY true).setF F.BIST_STAT_PHASE 1

/-- BIST_START (R467). -/
def execBistStart (s : State) : Host.Outcome State Fault Refusal := run s (·.bistStart)

/-- A write of BIST_CTRL.STOP, by the phase of the test (R468). -/
def Dev.bistStop (d : Dev) : Dev :=
  if !d.flag F.BIST_STAT_BUSY then d
  else match d.getF F.BIST_STAT_PHASE with
    | 1 => d.bistEnd 4
    | 4 => d
    | _ => (d.setF F.BIST_STAT_PHASE 4).modMemi (fun m => { m with bist := { m.bist with stopped := true } })

/-- BIST_STOP (R468). -/
def execBistStop (s : State) : Host.Outcome State Fault Refusal := run s (·.bistStop)

/-- The test of a running slice moves to its next phase (R467). -/
def Dev.bistPhase (d : Dev) : Dev :=
  if d.flag F.BIST_STAT_BUSY ∧ d.getF F.BIST_STAT_PHASE < 4 then d.setF F.BIST_STAT_PHASE (d.getF F.BIST_STAT_PHASE + 1) else d

/-- A slice test ends, having found so many faulty rows (R467, R468). -/
def Dev.bistDone (d : Dev) (rows : Nat) : Dev :=
  if !d.flag F.BIST_STAT_BUSY then d
  else
    let s := d.getF F.BIST_STAT_SLICE
    let b := s / 4
    if d.memi.bist.stopped then d.bistEnd 4
    else if rows = 0 then d.bistEnd 0
    else if d.rowsUsed b + rows ≤ 8 then ((d.softRepair b rows).count A.BIST_REPAIR_CNT rows).bistEnd 1
    else (d.setF F.BIST_STAT_NO_SPARE (setBitN (d.getF F.BIST_STAT_NO_SPARE) (s / 256) true)).bistEnd 2

/-- BIST_DONE (R468). -/
def execBistDone (faultyRows : Nat) (s : State) : Host.Outcome State Fault Refusal := run s (·.bistDone faultyRows)

/-- The runtime firmware tests its next slice (R468). -/
def Dev.fwBistSlice (d : Dev) : Dev :=
  if d.flag F.BIST_STAT_BUSY then d
  else ((d.setF F.BIST_SLICE_SLICE d.fw.bistNext).bistStart).modFw (fun f => { f with bistNext := (f.bistNext + 1) % 512 })

/-- BIST_PACE (R468). -/
def execBistPace (s : State) : Host.Outcome State Fault Refusal :=
  run s (fun d => if d.fw.running ∧ d.fw.bistPace ≠ 0 then d.fwBistSlice else d)

/-- A write of BIST_FUSE.COMMIT (R469). -/
def Dev.fuseCommit (d : Dev) : Dev :=
  if d.lcOpen then
    let soft := d.memi.bist.softRows
    let d := d.modFuse (fun f => { f with rows := soft.foldl (fun t e =>
      Tab.set (fun _ => 0) e.1 (Tab.get (fun _ => 0) e.1 t + e.2) t) f.rows })
    d.modMemi (fun m => { m with bist := { m.bist with softRows := [] } })
  else d.count A.BIST_CMD_ERR

/-- BIST_FUSE_COMMIT (R469). -/
def execBistFuseCommit (s : State) : Host.Outcome State Fault Refusal := run s (·.fuseCommit)

/-! Converter loopback (R470). -/

/-- A write of BIST_LB_CTRL.START (R470): it needs CAL_RECIP to be idle. -/
def Dev.lbStart (d : Dev) : Dev :=
  if d.flag F.BIST_LB_CTRL_BUSY ∨ d.flag F.CAL_RECIP_CFG_BUSY then d.count A.BIST_CMD_ERR
  else d.setB F.BIST_LB_CTRL_BUSY true

/-- LB_START (R470). -/
def execLbStart (s : State) : Host.Outcome State Fault Refusal := run s (·.lbStart)

/-- Whether a tile can take part: awake and LOCKED. -/
def Dev.tileLocked (d : Dev) (t : Nat) : Bool := d.awake t && d.getF (F.TILE_STAT_PLL_STATE t) == 3

/-- A list of numbers in rising order. -/
def sortInts (l : List Int) : List Int := l.mergeSort (fun a b => decide (a ≤ b))

/-- The loopback bursts have run (R470): gains in 0.01 dB and SNRs in dB, path 0 first. The gain reported is the
difference from the median of the pairs tested; half a unit is rounded as a free value has it. -/
def Dev.lbDone (d : Dev) (meas : List (Int × Nat)) : Dev :=
  if !d.flag F.BIST_LB_CTRL_BUSY then d
  else
    let tested := (List.range 64).filter (fun p => d.tileLocked (tileOf p) && decide (p < meas.length))
    let gains := sortInts (tested.map (fun p => (meas.getD p (0, 0)).1))
    let n := gains.length
    let med2 := gains.getD ((n - 1) / 2) 0 + gains.getD (n / 2) 0
    let tol : Int := 100 * d.getF F.BIST_LB_CTRL_LB_TOL
    let d := (d.setReg A.BIST_LB_FAIL_LO 0).setReg A.BIST_LB_FAIL_HI 0
    let (fails, d) := (List.range 64).foldl (fun (acc : Nat × Dev) p =>
      let d := acc.2
      if !tested.contains p then (acc.1, d.setReg (A.BIST_LBp p) (wordOf [(30, 3)]))
      else
        let (g, snr) := meas.getD p (0, 0)
        let diff2 := 2 * g - med2
        let pass := decide (-(2 * tol) ≤ diff2 ∧ diff2 ≤ 2 * tol ∧ 30 ≤ snr)
        let (q, d) := d.roundFree diff2 2
        let d := d.setReg (A.BIST_LBp p) (wordOf [(30, if pass then 1 else 2), (16, min 255 snr), (0, unsgn 16 q)])
        (if pass then acc.1 else setBitN acc.1 p true, d)) (0, d)
    let d := d.setPair A.BIST_LB_FAIL_LO A.BIST_LB_FAIL_HI fails
    let d := (d.setB F.BIST_LB_CTRL_BUSY false).setB F.BIST_INT_STAT_LB_DONE true
    d.finishWhere (fun p => p.opcode == 0x9013) 0x00 0 (d.regsBytes A.BIST_LB_FAIL_LO 2 ++ d.regsBytes (A.BIST_LBp 0) 64)

/-- LOOPBACK_DONE (R470). -/
def execLoopbackDone (meas : List (Int × Nat)) (s : State) : Host.Outcome State Fault Refusal := run s (·.lbDone meas)

/-! Bulk data (R471 to R475). -/

/-- A discarded B packet (R471). -/
def Dev.bulkErr (d : Dev) (x : Nat) : Dev :=
  ((d.count A.MEMI_BULK_ERR).setB F.MEMI_INT_STAT_BULK_ERR true).modMemi (fun m =>
    { m with bulkDrops := Tab.set (fun _ => 0) x (Tab.get (fun _ => 0) x m.bulkDrops + 1) m.bulkDrops })

/-- Bytes applied from B packets of a port, counted for BULK_MARK (R474). -/
def Dev.bulkApplied (d : Dev) (x n : Nat) : Dev :=
  d.modMemi (fun m => { m with bulkBytes := Tab.set (fun _ => 0) x (Tab.get (fun _ => 0) x m.bulkBytes + n) m.bulkBytes })

/-- The lowest offset of the bulk window: bits [15:0] of the floor are ignored (R459, R483). -/
def Dev.bulkFloor (d : Dev) : Nat := d.getF F.MEMI_BULK_FLOOR_OFS / 65536 * 65536

/-- The number of the B channel (R84). -/
def vcB : Nat := 4

/-- The oldest accepted B packet of a port, if it is of a KIND (R472). -/
def Dev.bulkHead (d : Dev) (x : Nat) (kind : Nat) : Option Pkt :=
  match ((d.port x).vc vcB).rxq with
  | [] => none
  | i :: _ => if i.pkt.kind = kind then some i.pkt else none

/-- The oldest B packet of a port is consumed: its place and its credits return (R92). -/
def Dev.bulkTake (d : Dev) (x : Nat) : Dev :=
  d.modPort x (fun p => p.modVc vcB (fun v => match v.rxq with
    | [] => v
    | i :: r => { v with rxq := r, freed := (v.freed + pktUnits i.pkt.payload.length) % 65536 }))

/-- B packets of a reserved KIND at the head of a port's queue are discarded and counted (R471). -/
def Dev.bulkPurge (x : Nat) : Nat → Dev → Dev
  | 0, d => d
  | fuel + 1, d =>
    match ((d.port x).vc vcB).rxq with
    | [] => d
    | i :: _ => if i.pkt.kind = 1 ∨ i.pkt.kind = 2 ∨ i.pkt.kind = 3 then d else Dev.bulkPurge x fuel ((d.bulkTake x).bulkErr x)

/-- A BULK_WRITE at the head of a port's B queue (R473). -/
def Dev.bulkWrite (d : Dev) (x : Nat) : Writes × Dev :=
  match d.bulkHead x 1 with
  | none => ([], d)
  | some p =>
    let d := Dev.bulkPurge x 16 (d.bulkTake x)
    let o := leAt p.payload 0 4
    let data := p.payload.drop 8
    if data.isEmpty ∨ 16352 < data.length ∨ o % 8 ≠ 0 ∨ o < d.bulkFloor ∨ d.regionSize 4 < o + data.length then
      ([], d.bulkErr x)
    else
      let a := d.regionBase 4 + o
      ([(a, data)], (d.wroteEcc 4 a data).bulkApplied x data.length)

/-- BULK_WRITE (R473). -/
def execBulkWrite (x : Fin 4) (s : State) : Host.Outcome State Fault Refusal := runW s (fun _ d => d.bulkWrite x.val)

/-- A BULK_MARK at the head of a port's B queue (R474): BULK_DONE is sent. -/
def Dev.bulkMark (d : Dev) (x : Nat) : Dev :=
  match d.bulkHead x 3 with
  | none => d
  | some p =>
    let d := d.bulkTake x
    let n := Tab.get (fun _ => 0) x d.memi.bulkBytes
    let k := Tab.get (fun _ => 0) x d.memi.bulkDrops
    let d := d.memEvent 1 x (leAt p.payload 0 4) n k
    Dev.bulkPurge x 16 (d.modMemi (fun m =>
      { m with bulkBytes := Tab.set (fun _ => 0) x 0 m.bulkBytes, bulkDrops := Tab.set (fun _ => 0) x 0 m.bulkDrops }))

/-- BULK_MARK (R474). -/
def execBulkMark (x : Fin 4) (s : State) : Host.Outcome State Fault Refusal := run s (·.bulkMark x.val)

/-! Runtime commands (R481). -/

/-- The packets of a read, each with its offset within the read (R475). -/
def readPackets (tag : Nat) : Nat → Nat → List Byte → List (List Byte)
  | 0, _, _ => []
  | _, _, [] => []
  | fuel + 1, o, bs => (leBytes 2 tag ++ [0, 0] ++ le4 o ++ bs.take 16352) :: readPackets tag fuel (o + 16352) (bs.drop 16352)

/-- MEM_READ (R475, R481): the packets are queued on the B channel of the UPSTREAM port, and the final OK follows the
last of them. -/
def cmdMemRead (pl : List Byte) : Body := fun m d =>
  let area := byteAt pl 0
  let o := leAt pl 4 4
  let n := leAt pl 8 4
  let r := if area = 0 then 4 else if area = 1 then 3 else 5
  if 2 < area ∨ n = 0 ∨ 0x1000000 < n ∨ d.regionSize r < o + n then badParam d
  else if !(d.pendingFor 0x9002).isEmpty then busyR d
  else
    let a := d.regionBase r + o
    let (_, d') := d.readEcc 1 a n
    let pk := readPackets (leAt pl 2 2) (n / 16352 + 1) 0 (d.eccBytes m a n)
    match d.upstream with
    | none => (.pending [], d', [])
    | some x => (.pending [], d'.modPort x (fun p => p.modVc vcB (fun v => { v with
        txq := v.txq ++ pk.map (fun b => { vc := vcB, mod := d.getF F.FHP_CTRL_POS, kind := 4, payload := b }) })), [])

/-- MEM_LOG: entries removed and returned. -/
def cmdMemLog (pl : List Byte) : Body := devBody fun d =>
  let n := byteAt pl 0
  if n = 0 ∨ 64 < n then badParam d
  else
    let es := d.memi.log.take n
    okR (d.modMemi (fun m => { m with log := m.log.drop n })) (leBytes 1 es.length ++ [0, 0, 0] ++ es.flatMap (fun e => e.words.flatMap word4))

/-- PAGE_RETIRE. -/
def cmdPageRetire (pl : List Byte) : Body := devBody fun d =>
  let p := leAt pl 0 2
  if 32767 < p ∨ d.retired.contains p then badParam d
  else if d.getF (spareF (pageDie p)) = 0 then limitR d 0x0906 0
  else if d.memi.retiring.isSome then busyR d
  else (.pending [p], d.retireStart p, [])

/-- BIST_CFG. -/
def cmdBistCfg (pl : List Byte) : Body := devBody fun d =>
  let d := d.modFw (fun f => { f with bistPace := leAt pl 0 2 })
  okR (if (byteAt pl 2).testBit 0 then (d.modFw (fun f => { f with bistNext := 0 })).fwBistSlice else d)

/-- BIST_STAT: the BIST registers 0x000 to 0x038 and the MEMI counters 0x014 to 0x02C; the RC counters clear. -/
def cmdBistStat (_pl : List Byte) : Body := devBody fun d =>
  let out := d.liveBytes A.BIST_ID 15 ++ d.liveBytes A.MEMI_CE_CNT 7
  okR ((d.takeRcs [A.BIST_REPAIR_CNT, A.BIST_CMD_ERR, A.MEMI_CE_CNT, A.MEMI_UE_CNT, A.MEMI_ADDR_CNT, A.MEMI_LOG_LOST,
    A.MEMI_SCRUB_PASS, A.MEMI_BULK_ERR, A.MEMI_CMD_ERR]).2) out

/-- FUSE_REPAIR. -/
def cmdFuseRepair (_pl : List Byte) : Body := devBody fun d =>
  if !d.lcOpen then stateReject d 0b000100
  else okR d.fuseCommit (le4 ((d.memi.bist.softRows.map (·.2)).foldl (· + ·) 0))

/-- Whether the active Timetable bank has an entry for a target (R323). -/
def Dev.ttProgrammed (d : Dev) (target : Nat) : Bool :=
  (List.range 256).any (fun e => let w := (d.reg (A.TTBL_ACTV_W0 e)).toNat; w.testBit 31 && bitsN w 20 7 == target)

/-- LOOPBACK. -/
def cmdLoopback (pl : List Byte) : Body := devBody fun d =>
  let tol := byteAt pl 0
  if !d.ttProgrammed 45 then notReady d 0
  else if 31 < tol then badParam d
  else if d.flag F.BIST_LB_CTRL_BUSY ∨ d.flag F.CAL_RECIP_CFG_BUSY then busyR d
  else (.pending [], (d.setF F.BIST_LB_CTRL_LB_TOL tol).lbStart, [])

/-- MEM_READ (R481). -/
def execMemRead (h : CmdHdr) (pl : List Byte) (s : State) : Host.Outcome State Fault Refusal :=
  runW s (runCmd h 0x9002 (lenIs 12) pl (cmdMemRead pl))

/-- MEM_LOG (R481). -/
def execMemLog (h : CmdHdr) (pl : List Byte) (s : State) : Host.Outcome State Fault Refusal :=
  runW s (runCmd h 0x9003 (lenIs 4) pl (cmdMemLog pl))

/-- PAGE_RETIRE (R481). -/
def execPageRetire (h : CmdHdr) (pl : List Byte) (s : State) : Host.Outcome State Fault Refusal :=
  runW s (runCmd h 0x9004 (lenIs 4) pl (cmdPageRetire pl))

/-- BIST_CFG (R481). -/
def execBistCfg (h : CmdHdr) (pl : List Byte) (s : State) : Host.Outcome State Fault Refusal :=
  runW s (runCmd h 0x9010 (lenIs 4) pl (cmdBistCfg pl))

/-- BIST_STAT (R481). -/
def execBistStat (h : CmdHdr) (pl : List Byte) (s : State) : Host.Outcome State Fault Refusal :=
  runW s (runCmd h 0x9011 (lenIs 0) pl (cmdBistStat pl))

/-- FUSE_REPAIR (R481). -/
def execFuseRepair (h : CmdHdr) (pl : List Byte) (s : State) : Host.Outcome State Fault Refusal :=
  runW s (runCmd h 0x9012 (lenIs 0) pl (cmdFuseRepair pl))

/-- LOOPBACK (R481). -/
def execLoopback (h : CmdHdr) (pl : List Byte) (s : State) : Host.Outcome State Fault Refusal :=
  runW s (runCmd h 0x9013 (lenIs 4) pl (cmdLoopback pl))

end Sys2Proof.Machine
end

