-- ==== Sys2Proof/Machine/Obs.lean ====
section
/-! DEFINITION. Fault bits, the observation path and the trace port (16_errors_observation.md). -/

namespace Sys2Proof.Machine

/-- HARD_FAULT (R487, R488): the time base holds while the time-base clock is lost. -/
def execHardFault (bit : Fin 6) (s : State) : Host.Outcome State Fault Refusal :=
  run s (fun d => (if bit.val = 2 then d.modTime (fun t => { t with held := true }) else d).hardFault bit.val)

/-- The time-base PLL relocks (R488): the counter resumes from its held value. -/
def Dev.tbRelock (d : Dev) : Dev :=
  { d.modTime (fun t => { t with held := false }) with obs := { d.obs with hardCond := setBitN d.obs.hardCond 2 false } }

/-- TB_PLL_RELOCK (R488). -/
def execTbPllRelock (s : State) : Host.Outcome State Fault Refusal := run s (·.tbRelock)

/-- Whether a hard fault's condition still holds (R488, R490). The time-base clock's end is seen by TB_PLL_RELOCK; no
command tells of the end of the others, so it is a free value. -/
def Dev.hardCond (d : Dev) (i : Nat) : Bool × Dev :=
  if i = 2 then (d.obs.hardCond.testBit 2, d) else d.anyBool

/-- A latched bit of either class cleared and reported (R490, R495, R499). -/
def Dev.clearFaultBit (d : Dev) (cls i : Nat) : Dev :=
  let f := if cls = 1 then F.OBS_FAULT_STAT_HARD else F.OBS_DEGR_STAT_DEGR
  let d := d.setF f (setBitN (d.getF f) i false)
  let d := if cls = 1 ∧ d.getF F.OBS_FAULT_STAT_HARD = 0 then d.setB F.OBS_FIRST_INFO_VALID false else d
  (d.trace 6 (faultPayload cls i false d.mod.code)).obsEvent 3 i cls

/-- A W1C write of OBS_FAULT_STAT (class 1) or OBS_DEGR_STAT (class 2), each bit on its own (R490). -/
def Dev.faultClear (d : Dev) (cls v : Nat) : Dev :=
  let n := if cls = 1 then 6 else 12
  let old := if cls = 1 then d.getF F.OBS_FAULT_STAT_HARD else d.getF F.OBS_DEGR_STAT_DEGR
  let (stuck, d) := ((bitsOf n v).filter (fun i => old.testBit i)).foldl (fun (acc : Bool × Dev) i =>
    let (holds, d) := if cls = 1 then acc.2.hardCond i else (acc.2.degrCond i, acc.2)
    if holds then (true, d) else (acc.1, d.clearFaultBit cls i)) (false, d)
  if stuck then d.cmdErr else d

/-- FAULT_CLEAR (R490): a write of OBS_FAULT_STAT or OBS_DEGR_STAT; no other address is one of them. -/
def execFaultClear (addr v : BitVec 32) (s : State) : Host.Outcome State Fault Refusal :=
  run s (fun d =>
    if addr.toNat = A.OBS_FAULT_STAT then d.faultClear 1 v.toNat
    else if addr.toNat = A.OBS_DEGR_STAT then d.faultClear 2 v.toNat
    else d)

/-- The level of FAULT_N (R491): low until THRM is ready, in SAFE, and while an unmasked degraded bit is set. -/
def Dev.faultN (d : Dev) : Bool :=
  d.mod != .off && d.ready 0 && d.mod != .safe && (Nat.land (d.getF F.OBS_DEGR_STAT_DEGR) (d.getF F.OBS_FAULTN_MASK_MASK) == 0)

/-- The level of MSPI_IRQ_N (R412). -/
def Dev.mspiIrqN (d : Dev) : Bool := (d.mbx 1).outRing.isEmpty

/-! The trace port (R493 to R496). -/

/-- One bit through the scrambler x^58 + x^39 + 1 (R493): the bit sent and the state, newest bit lowest. -/
def scrambleBit (st : BitVec 58) (b : Bool) : Bool × BitVec 58 :=
  let o := (b != st.getLsbD 57) != st.getLsbD 38
  (o, (st <<< 1) ||| (if o then 1 else 0))

/-- The low `n` bits of a payload scrambled, most significant first. -/
def scramble : Nat → Nat → BitVec 58 → Nat × BitVec 58
  | 0, _, st => (0, st)
  | n + 1, v, st =>
    let (o, st) := scrambleBit st (v.testBit n)
    let (rest, st) := scramble n v st
    (b2n o * 2 ^ n + rest, st)

/-- A block of a trace lane (R493): header 0b01 data or 0b10 idle, then the scrambled payload. -/
def Dev.traceBlock (d : Dev) (lane : Nat) (data : Bool) (payload : Nat) : BitVec 66 × Dev :=
  let (p, st) := scramble 64 payload (Tab.get (fun _ => 0) lane d.obs.scr)
  (BitVec.ofNat 66 ((if data then 1 else 2) * 2 ^ 64 + p),
    { d with obs := { d.obs with scr := Tab.set (fun _ => 0) lane st d.obs.scr } })

/-- A record on a lane: two data blocks, high half first (R494). -/
def Dev.sendRecord (d : Dev) (lane : Nat) (r : BitVec 128) : Dev :=
  let (b0, d) := d.traceBlock lane true (r.toNat / 2 ^ 64)
  let (b1, d) := d.traceBlock lane true (r.toNat % 2 ^ 64)
  { d with obs := { d.obs with sent := d.obs.sent ++ [b0, b1] } }

/-- The lanes that OBS_TRC_CTRL asks for (R493, R500): other values act as 0, and so does a port that must stay idle. -/
def Dev.lanesAsked (d : Dev) : Nat :=
  let l := d.getF F.OBS_TRC_CTRL_LANES
  if d.devAccess ∧ (l = 1 ∨ l = 2 ∨ l = 4) then l else 0

/-- Every millisecond (R494, R496): the lanes asked for come into force, and a SYNC record leaves on every lane. -/
def Dev.traceSync (d : Dev) : Dev :=
  let d := { d with obs := { d.obs with lanes := d.lanesAsked, sent := [] } }
  let r := traceRec 0 d.nowNs (d.time.now.sec * 2 ^ 32 + d.nowNs)
  d.forN d.obs.lanes (fun d i => d.sendRecord i r)

/-- TRACE_SYNC (R494). -/
def execTraceSync (s : State) : Host.Outcome State Fault Refusal := run s (·.traceSync)

/-- One group of records leaves, or an idle block on every lane (R493 to R496): a LOST record first where records have
been lost, NULL records to fill the group. -/
def Dev.traceGroup (d : Dev) : Dev :=
  let n := d.obs.lanes
  let d := { d with obs := { d.obs with sent := [] } }
  if n = 0 then d
  else if d.obs.trace.isEmpty ∧ d.obs.lost = 0 then
    d.forN n (fun d i => let (b, d) := d.traceBlock i false 0; { d with obs := { d.obs with sent := d.obs.sent ++ [b] } })
  else
    let lost := d.obs.lost
    let first := if lost = 0 then [] else [traceRec 0x3E d.nowNs lost]
    let recs := first ++ d.obs.trace.take (n - first.length)
    let d := { d with obs := { d.obs with trace := d.obs.trace.drop (n - first.length), lost := 0 } }
    let d := d.forL recs.zipIdx (fun d p => d.sendRecord p.2 p.1)
    d.forN (n - recs.length) (fun d i => d.sendRecord (recs.length + i) (traceRec 0x3F 0 0))

/-! The observation path (R492). -/

/-- What the block does when no command waits: the trace port sends its next group of blocks, and a slice test moves on
by one phase (R467, R493 to R496). -/
def Dev.idleStep (d : Dev) : Dev := if d.alive then d.traceGroup.bistPhase else d

/-- Whether an address lies in the register space (R402). -/
def inRegs (a : Nat) : Bool := decide (0x40000000 ≤ a ∧ a < 0x402C0000)

/-- The identity registers (R492). -/
def isIdentity (a : Nat) : Bool :=
  a == A.SYS_ID || a == A.LCS_STATE || (decide (A.LCS_DEVID_i 0 ≤ a ∧ a < A.LCS_DEVID_i 4))

/-- Whether an address lies in the Hamper, a cluster memory or the tightly-coupled memories. -/
def inMemories (a n : Nat) : Bool := inHamper a n || inTcm a n || decide (cluWindow 0 ≤ a ∧ a + n ≤ cluWindow 16)

/-- One word read through the observation path (R7, R492); `viaCmd` tells OBS_READ from a REG_READ on the management
SPI. A refused word reads zero and counts in OBS_DENY. -/
def Dev.obsWord (m : Mem) (d : Dev) (viaCmd : Bool) (a : Nat) : W32 × Dev :=
  let allowed :=
    if inRegs a then d.devAccess || (d.lc == .field && viaCmd) || (d.lc == .returned && isIdentity a)
    else d.devAccess && viaCmd
  if !allowed then (0, d.count A.OBS_DENY)
  else if inRegs a then (d.live a, d)
  else if inHamper a 4 then
    let (_, d') := d.readEcc 1 a 4
    (BitVec.ofNat 32 (leNat (d.eccBytes m a 4)), d')
  else if inMemories a 4 then (BitVec.ofNat 32 (memNat m a 4), d)
  else (0, d)

/-- OBS_READ. -/
def cmdObsRead (pl : List Byte) : Body := fun m d =>
  let a := leAt pl 0 4
  let n := leAt pl 4 2
  if a % 4 ≠ 0 ∨ n = 0 ∨ 256 < n then badParam d
  else
    let (bs, d) := (List.range n).foldl (fun (acc : List Byte × Dev) i =>
      let (w, d) := Dev.obsWord m acc.2 true (a + 4 * i)
      (acc.1 ++ word4 w, d)) ([], d)
    okR d bs

/-- OBS_FAULTS. -/
def cmdObsFaults (_pl : List Byte) : Body := devBody fun d =>
  okR d (d.regsBytes A.OBS_FAULT_STAT 2 ++ d.regsBytes A.OBS_FIRST_INFO 3)

/-- OBS_FAULT_CLEAR. -/
def cmdObsFaultClear (pl : List Byte) : Body := devBody fun d =>
  let d := (d.faultClear 1 (leAt pl 0 4)).faultClear 2 (leAt pl 4 4)
  okR d (d.regsBytes A.OBS_FAULT_STAT 2)

/-- FAULTN_CFG: a mask bit that no source has is a wrong field. -/
def cmdFaultnCfg (pl : List Byte) : Body := devBody fun d =>
  let v := leAt pl 0 4
  if 4096 ≤ v then badParam d else okR (d.setF F.OBS_FAULTN_MASK_MASK v)

/-- TRACE_CFG. -/
def cmdTraceCfg (pl : List Byte) : Body := devBody fun d =>
  let l := byteAt pl 0
  let src := leAt pl 4 4
  let base := leAt pl 8 4
  if !d.devAccess then stateReject d 0b111100
  else if !(l == 0 || l == 1 || l == 2 || l == 4) ∨ 1024 ≤ src ∨ base % 4 ≠ 0 then badParam d
  else
    let d := (d.setF F.OBS_TRC_CTRL_LANES l).setF F.OBS_TRC_SRC_EN src
    okR ((d.setReg A.OBS_WATCH_BASE (BitVec.ofNat 32 base)).setReg A.OBS_WATCH_LEN (BitVec.ofNat 32 (leAt pl 12 4)))

/-- OBS_READ (R498). -/
def execObsRead (h : CmdHdr) (pl : List Byte) (s : State) : Host.Outcome State Fault Refusal :=
  runW s (runCmd h 0xB001 (lenIs 8) pl (cmdObsRead pl))

/-- OBS_FAULTS (R498). -/
def execObsFaults (h : CmdHdr) (pl : List Byte) (s : State) : Host.Outcome State Fault Refusal :=
  runW s (runCmd h 0xB002 (lenIs 0) pl (cmdObsFaults pl))

/-- OBS_FAULT_CLEAR (R498). -/
def execObsFaultClear (h : CmdHdr) (pl : List Byte) (s : State) : Host.Outcome State Fault Refusal :=
  runW s (runCmd h 0xB003 (lenIs 8) pl (cmdObsFaultClear pl))

/-- FAULTN_CFG (R498). -/
def execFaultnCfg (h : CmdHdr) (pl : List Byte) (s : State) : Host.Outcome State Fault Refusal :=
  runW s (runCmd h 0xB004 (lenIs 4) pl (cmdFaultnCfg pl))

/-- TRACE_CFG (R498). -/
def execTraceCfg (h : CmdHdr) (pl : List Byte) (s : State) : Host.Outcome State Fault Refusal :=
  runW s (runCmd h 0xB005 (lenIs 16) pl (cmdTraceCfg pl))

end Sys2Proof.Machine
end

