-- ==== Sys2Proof/Machine/Power.lean ====
section
/-! DEFINITION. Input power, rails, resets and the boot loader (17_module_power_bringup.md, R428, R430, R447). -/

namespace Sys2Proof.Machine

/-- A meaning of the power stage: it acts whatever the module's state, and may lose the memories' contents. -/
def runP (s : State) (f : Dev → Bool × Dev) : Host.Outcome State Fault Refusal :=
  let r := f s.dev
  .next (settle { s with mem := if r.1 then [] else s.mem } [] r.2)

/-- A power-down (R507): the module is OFF and keeps nothing but its fuses and the flash. -/
def Dev.powerDown (d : Dev) (vinLow vinHigh : Bool) : Dev :=
  { d.coldReset { vinLow := vinLow, vinHigh := vinHigh, rails := 0, resetN := d.power.resetN, booted := false, pwrGood := false } with
    mod := .off }

/-- Start-up from OFF, once VIN allows it (R506, R509): the rails come up, and PWR_GOOD follows. -/
def Dev.startUp (d : Dev) (p : PowerSt) : Dev :=
  let p' := { p with rails := 15, booted := false, pwrGood := false }
  if d.mod = .off ∧ !p.vinLow ∧ !p.vinHigh then d.coldReset p' else { d with power := { d.power with vinLow := p.vinLow, vinHigh := p.vinHigh } }

/-- VIN_UV_RISE (R506, R509). -/
def execVinUvRise (s : State) : Host.Outcome State Fault Refusal :=
  runP s (fun d => (false, d.startUp { d.power with vinLow := false }))

/-- VIN_OV_FALL (R506). -/
def execVinOvFall (s : State) : Host.Outcome State Fault Refusal :=
  runP s (fun d => (false, d.startUp { d.power with vinHigh := false }))

/-- VIN_UV_FALL (R506, R507). -/
def execVinUvFall (s : State) : Host.Outcome State Fault Refusal :=
  runP s (fun d => (true, d.powerDown true d.power.vinHigh))

/-- VIN_OV_RISE (R506, R507). -/
def execVinOvRise (s : State) : Host.Outcome State Fault Refusal :=
  runP s (fun d => (true, d.powerDown d.power.vinLow true))

/-- A rail leaves regulation (R371, R508, R510): SAFE with cause RAIL, and the bias DACs to high impedance. -/
def Dev.railFault (d : Dev) (rail : Nat) : Dev :=
  if d.mod = .off then d
  else
    let d := { d with power := { d.power with rails := setBitN d.power.rails rail false, pwrGood := false } }
    (d.enterSafe 2).auxHiz 2

/-- RAIL_FAULT (R508). -/
def execRailFault (rail : Fin 4) (s : State) : Host.Outcome State Fault Refusal :=
  runP s (fun d => (false, d.railFault rail.val))

/-- RAIL_RECOVERY (R510): with every rail back and RESET_N high, PWR_GOOD rises again without a boot. -/
def execRailRecovery (rail : Fin 4) (s : State) : Host.Outcome State Fault Refusal :=
  runP s (fun d =>
    if d.mod = .off then (false, d)
    else
      let r := setBitN d.power.rails rail.val true
      (false, { d with power := { d.power with rails := r, pwrGood := d.power.booted && d.power.resetN && r == 15 } }))

/-- RAIL_TIMEOUT (R508): a rail out of regulation for 10 ms powers the module down; it restarts vinLow R506. -/
def execRailTimeout (s : State) : Host.Outcome State Fault Refusal :=
  runP s (fun d => if d.mod = .off ∨ d.power.rails = 15 then (false, d) else (true, d.powerDown true d.power.vinHigh))

/-- A reset taken while RESET_N is low (R511, R512). -/
def Dev.resetTaken (d : Dev) : Dev :=
  if d.mod = .off then { d with power := { d.power with resetN := false } }
  else d.coldReset { d.power with resetN := false, booted := false, pwrGood := false, wdogWarned := false }

/-- RESET_N_FALL (R511): a pulse below 100 ns is ignored; between 100 ns and 1 µs it resets completely or not at all. -/
def execResetNFall (width : ResetPulse) (s : State) : Host.Outcome State Fault Refusal :=
  runP s (fun d => match width with
    | .glitch => (false, d)
    | .between taken => if taken then (true, d.resetTaken) else (false, d)
    | .full => (true, d.resetTaken))

/-- RESET_N_RISE (R511). -/
def execResetNRise (s : State) : Host.Outcome State Fault Refusal :=
  runP s (fun d => (false, { d with power := { d.power with resetN := true } }))

/-- The boot ROM at the boot origin (R438, R469, R515): the life-cycle pairs, the fuse repairs, the test of the Hamper
with its soft repairs, and every word zero. -/
def Dev.bootRom (d : Dev) (b : BootBist) : Dev :=
  let (fz, moved, erased) := checkPairs d.fuse
  let d := { d with fuse := fz, fw := bootFw d.fw erased, lcs := { d.lcs with trans := moved } }
  let used := (d.fuse.rows.map (·.2)).foldl (· + ·) 0
  let d := d.setF F.BIST_SPARE_ROWS_FREE (1024 - used)
  let d := d.forL b.faults (fun d f => d.softRepair f.1.val (min f.2 (8 - d.rowsUsed f.1.val)))
  d.forL (b.trims.filter (fun w => trimBits w.2 != 0)) (fun d w =>
    let d := [0x40211000, 0x40215000, 0x40219000].foldl (fun d a => d.setReg (a + 0x1000 * w.1.val + w.2) 0) d
    d.setB F.CAL_INT_STAT_BASE_ERR true)

/-- PWR_GOOD_RISE (R510): PWR_GOOD is high only with every rail in regulation and RESET_N high; the first rise after a
power-on or a RESET_N reset is the boot origin. -/
def execPwrGoodRise (bist : BootBist) (s : State) : Host.Outcome State Fault Refusal :=
  runP s (fun d =>
    if d.mod = .off ∨ d.power.rails ≠ 15 ∨ !d.power.resetN ∨ d.power.pwrGood then (false, d)
    else
      let first := !d.power.booted
      let d := { d with power := { d.power with pwrGood := true, booted := true } }
      if first then (true, d.bootRom bist) else (false, d))

/-- Whether the boot loader accepts a slot's image: its signer is accepted in the present state and its SVN is not below
the fuses' (R439, R446). -/
def Dev.imageOk (d : Dev) (i : SlotImage) : Bool :=
  d.signerOk (b2n i.owner) && decide ((if i.owner then d.fuse.svnOwner else d.fuse.svnVendor) ≤ i.svn)

/-- A digest written into twelve words (R447). -/
def Dev.putDigest (d : Dev) (a : Nat) (dig : List Byte) : Dev :=
  d.forN 12 (fun d i => d.setReg (a + 4 * i) (BitVec.ofNat 32 (leAt dig (4 * i) 4)))

/-- The boot loader starts the image of a slot (R428, R447). -/
def Dev.bootSlot (d : Dev) (slotB pref : Bool) (cause : Nat) (i : SlotImage) : Dev :=
  let d := (d.putDigest (A.LCS_MEAS_RT_i 0) i.digest).setReg A.LCS_RT_VER i.version
  let d := d.setB F.LCS_CTRL_LOCK true
  let d := (((d.setB F.SYS_BOOT_SLOT_RUN slotB).setB F.SYS_BOOT_SLOT_PREF pref).setB F.SYS_BOOT_FALLBACK (slotB != pref)).setF
    F.SYS_BOOT_CAUSE cause
  d.modFw (fun f => { f with loader := true, runOwner := i.owner, runSvn := i.svn, rebootOther := false })

/-- The boot loader selects and verifies a runtime slot (R428, R430, R447, R545). -/
def Dev.bootLoader (d : Dev) (img : BootImages) : Dev :=
  if d.fw.running ∨ d.fw.loader ∨ d.fw.recovery ∨ !d.power.booted then d
  else match img.loader with
    | none => d
    | some m =>
      let d := d.putDigest (A.LCS_MEAS_BL_i 0) m
      let ok := fun (i : Option SlotImage) => i.filter d.imageOk
      let ver := fun (i : Option SlotImage) => ({ verified := (ok i).map (·.version.toNat) } : SlotSt)
      let pref := img.pref.getD false
      let d := d.modFw (fun f => { f with slotA := ver img.slotA, slotB := ver img.slotB, slotPref := pref })
      let noConfirm := decide (3 ≤ d.getF F.SYS_BOOT_ATTEMPTS)
      let first := if noConfirm then !pref else if d.fw.rebootOther then !pref else pref
      let cause := if noConfirm then 2 else 0
      let slot := fun (b : Bool) => ok (if b then img.slotB else img.slotA)
      match slot first, slot (!first) with
      | some i, _ => d.bootSlot first pref cause i
      | none, some i => d.bootSlot (!first) pref 1 i
      | none, none => (d.modFw (fun f => { f with recovery := true })).setB (F.MBOX_m_CTRL_EN 1) true

/-- BOOT_LOADER_START (R428). -/
def execBootLoaderStart (img : BootImages) (s : State) : Host.Outcome State Fault Refusal := run s (·.bootLoader img)

end Sys2Proof.Machine
end

