-- ==== Sys2Proof/Machine/FrontEnd.lean ====
section
/-! DEFINITION. Front-end control: bias DACs, monitoring converters, window comparators, TXMUTE_N and the front-end
buses (11_front_end_control.md). -/

namespace Sys2Proof.Machine

def Dev.modAux (d : Dev) (f : AuxSt → AuxSt) : Dev := { d with fe := { d.fe with aux := f d.fe.aux } }
def Dev.modFe (d : Dev) (f : FeSt → FeSt) : Dev := { d with fe := f d.fe }

/-- FE_EVENT (R382) on MB0. -/
def Dev.feEvent (d : Dev) (code id value : Nat) : Dev :=
  d.notify 0 0x7080 0 (leBytes 1 code ++ leBytes 1 id ++ leBytes 2 value ++ le4 d.nowNs)

/-! Bias DACs. -/

/-- The code queue of a channel (R366). -/
def Dev.auxQ (d : Dev) (n : Nat) : List Nat := Tab.get (fun _ => []) n d.fe.aux.queues
def Dev.setAuxQ (d : Dev) (n : Nat) (q : List Nat) : Dev :=
  d.modAux (fun a => { a with queues := Tab.set (fun _ => []) n q a.queues })

/-- A push of an entry: GAIN in bit 12 and CODE below (R366). -/
def Dev.auxPush (d : Dev) (n e : Nat) : Dev :=
  if 16 ≤ (d.auxQ n).length then d.count A.AUXD_CMD_ERR else d.setAuxQ n (d.auxQ n ++ [e % 8192])

/-- AUXD_QUEUE_PUSH (R366). -/
def execAuxdQueuePush (ch : Fin 96) (entry : BitVec 13) (s : State) : Host.Outcome State Fault Refusal :=
  run s (·.auxPush ch.val entry.toNat)

/-- The effective limits of a channel: those of the fuses and of the register together (R370). -/
def Dev.auxLimits (d : Dev) (n : Nat) : Nat × Nat :=
  (max (d.getF (F.AUXD_FLIMn_MIN n)) (d.getF (F.AUXD_CHn_LIM_MIN n)), min (d.getF (F.AUXD_FLIMn_MAX n)) (d.getF (F.AUXD_CHn_LIM_MAX n)))

/-- The value of a code at a range, in 0.6104 mV (R365). -/
def auxValue (gain code : Nat) : Nat := code * (1 + gain)

/-- A code held within the effective limits at its range, and whether it had to be (R370). Where no code of the range
lies within them, the spec names none: a free value. -/
def Dev.auxClamp (d : Dev) (n gain code : Nat) : Nat × Bool × Dev :=
  let (lo, hi) := d.auxLimits n
  let v := auxValue gain code
  if lo ≤ v ∧ v ≤ hi then (code, false, d)
  else
    let cl := (lo + gain) / (1 + gain)
    let ch := min 4095 (hi / (1 + gain))
    if cl ≤ ch then (clampN cl ch code, true, d)
    else let (x, d) := d.anyNat; (x % 4096, true, d)

/-- A clamp is counted and reported (R370, R382). -/
def Dev.auxHit (d : Dev) (n value : Nat) : Dev :=
  ((d.count A.AUXD_LIM_HIT).setB F.AUXD_INT_STAT_LIM_HIT true).feEvent 3 n value

/-- The output of a channel takes a range and a code. -/
def Dev.auxDrive (d : Dev) (n gain code : Nat) : Dev :=
  ((d.setB (F.AUXD_CHn_STAT_DRIVEN n) true).setF (F.AUXD_CHn_STAT_GAIN n) gain).setF (F.AUXD_CHn_STAT_CODE n) code

/-- A channel pops its oldest entry at a tick (R366 to R370). -/
def Dev.auxPop (d : Dev) (n : Nat) : Dev :=
  match d.auxQ n with
  | [] => d
  | e :: q =>
    let d := d.setAuxQ n (if d.flag (F.AUXD_CHn_CFG_RECIRC n) then q ++ [e] else q)
    let gain := e / 4096
    let (code, hit, d) := d.auxClamp n gain (e % 4096)
    let d := if hit then d.auxHit n (auxValue gain code) else d
    let major := decide (e / 256 % 16 ≠ d.getF (F.AUXD_CHn_STAT_CODE n) / 256)
    let range := decide (gain ≠ d.getF (F.AUXD_CHn_STAT_GAIN n))
    if d.flag (F.AUXD_CHn_STAT_DRIVEN n) ∧ (major ∨ range) then
      (d.setB (F.AUXD_CHn_STAT_HOLDING n) true).modAux
        (fun a => { a with holds := Tab.set (fun _ => none) n (some (gain * 4096 + code)) a.holds })
    else d.auxDrive n gain code

/-- A value in force outside the limits is clamped at the tick (R370). -/
def Dev.auxReclamp (d : Dev) (n : Nat) : Dev :=
  if d.flag (F.AUXD_CHn_STAT_DRIVEN n) then
    let gain := d.getF (F.AUXD_CHn_STAT_GAIN n)
    let (code, hit, d) := d.auxClamp n gain (d.getF (F.AUXD_CHn_STAT_CODE n))
    if hit then (d.setF (F.AUXD_CHn_STAT_CODE n) code).auxHit n (auxValue gain code) else d
  else d

/-- One channel at a tick of the update clock (R367 to R370). -/
def Dev.auxTickCh (d : Dev) (n : Nat) : Dev :=
  if d.fe.aux.clearing.contains n then
    let d := (d.setB (F.AUXD_CHn_STAT_DRIVEN n) false).setB (F.AUXD_CHn_STAT_HOLDING n) false
    d.modAux (fun a => { a with clearing := a.clearing.erase n, holds := Tab.set (fun _ => none) n none a.holds })
  else
    let d := d.auxReclamp n
    if d.flag (F.AUXD_CHn_STAT_HOLDING n) then d
    else
      let due := d.fe.aux.marked.contains n || d.fe.aux.deferred.contains n
      let g0 := d.getF (F.AUXD_CHn_CFG_GROUP n) == 0
      let d := d.modAux (fun a => { a with marked := a.marked.filter (· != n), deferred := a.deferred.filter (· != n) })
      if d.flag (F.AUXD_CHn_CFG_EN n) ∧ (g0 ∨ due) then d.auxPop n else d

/-- AUXD_TICK (R367). -/
def execAuxdTick (s : State) : Host.Outcome State Fault Refusal := run s (fun d => d.forN 96 (fun d n => d.auxTickCh n))

/-- DEGLITCH_HOLD_END (R369): the output steps to the entry that was popped. -/
def Dev.auxHoldEnd (d : Dev) (n : Nat) : Dev :=
  match Tab.get (fun _ => none) n d.fe.aux.holds with
  | some e =>
    ((d.auxDrive n (e / 4096) (e % 4096)).setB (F.AUXD_CHn_STAT_HOLDING n) false).modAux
      (fun a => { a with holds := Tab.set (fun _ => none) n none a.holds })
  | none => d

/-- DEGLITCH_HOLD_END (R369). -/
def execDeglitchHoldEnd (ch : Fin 96) (s : State) : Host.Outcome State Fault Refusal := run s (·.auxHoldEnd ch.val)

/-- The event AUXD_STEPg (R367, R369): channels of group g + 1. -/
def Dev.auxStep (d : Dev) (g : Nat) : Dev :=
  d.forN 96 (fun d n =>
    if d.getF (F.AUXD_CHn_CFG_GROUP n) ≠ g + 1 ∨ !d.flag (F.AUXD_CHn_CFG_EN n) then d
    else if (d.auxQ n).isEmpty then ((d.count A.AUXD_UNDERRUN).setB F.AUXD_INT_STAT_UNDERRUN true).feEvent 7 n 0
    else if d.flag (F.AUXD_CHn_STAT_HOLDING n) then
      (d.count A.AUXD_DEFER).modAux (fun a => { a with deferred := n :: a.deferred.filter (· != n) })
    else d.modAux (fun a => { a with marked := n :: a.marked.filter (· != n) }))

/-- FORCE_HIZ (R371). -/
def execForceHiz (s : State) : Host.Outcome State Fault Refusal := run s (·.auxHiz 3)

/-- A write of AUXD_CHn_CFG (R368, R371): in SAFE a write that sets EN is ignored; clearing EN flushes the queue. -/
def Dev.auxCfgWrite (d : Dev) (n v : Nat) : Dev :=
  if v.testBit 31 ∧ d.mod = .safe then d.count A.AUXD_CMD_ERR
  else
    let was := d.flag (F.AUXD_CHn_CFG_EN n)
    let d := d.setReg (A.AUXD_CHn_CFG n) (BitVec.ofNat 32 (v / 2 ^ 27 * 2 ^ 27))
    if was ∧ !v.testBit 31 then
      (d.setAuxQ n []).modAux (fun a => { a with clearing := n :: a.clearing.filter (· != n), marked := a.marked.filter (· != n), deferred := a.deferred.filter (· != n) })
    else d

/-- Bounds as they would be stored: not outside the fuse bounds (R370). -/
def Dev.auxStored (d : Dev) (n lo hi : Nat) : Nat × Nat :=
  (clampN (d.getF (F.AUXD_FLIMn_MIN n)) (d.getF (F.AUXD_FLIMn_MAX n)) lo,
   clampN (d.getF (F.AUXD_FLIMn_MIN n)) (d.getF (F.AUXD_FLIMn_MAX n)) hi)

/-- Whether a bound may be widened in the life-cycle state (R370). -/
def Dev.auxWiden (d : Dev) (n lo hi : Nat) : Bool × Bool :=
  (!d.lcOpen && decide (lo < d.getF (F.AUXD_CHn_LIM_MIN n)), !d.lcOpen && decide (d.getF (F.AUXD_CHn_LIM_MAX n) < hi))

/-- A write of AUXD_CHn_LIM (R370). -/
def Dev.auxLimWrite (d : Dev) (n v : Nat) : Dev :=
  let (lo, hi) := d.auxStored n (bitsN v 0 13) (bitsN v 16 13)
  let (wl, wh) := d.auxWiden n lo hi
  if wl ∨ wh then d.count A.AUXD_CMD_ERR
  else (d.setF (F.AUXD_CHn_LIM_MIN n) lo).setF (F.AUXD_CHn_LIM_MAX n) hi

/-! Monitoring converters. -/

def Dev.monc (d : Dev) (c : Nat) : MonSt := Tab.get (fun _ => {}) c d.fe.mon
def Dev.modMon (d : Dev) (c : Nat) (f : MonSt → MonSt) : Dev :=
  { d with fe := { d.fe with mon := Tab.set (fun _ => {}) c (f (d.monc c)) d.fe.mon } }

/-- Whether a converter is calibrating (R303). -/
def Dev.monCal (d : Dev) (c : Nat) : Bool := (d.getF F.CAL_MON_BUSY).testBit c

/-- Whether the continuous list of a converter runs. -/
def Dev.monCont (d : Dev) (c : Nat) : Bool := (d.getF F.MON_CTRL_CONT_EN).testBit c

/-- The slot that follows, by priority (R374): the first of a triggered list is taken when its delay has run. -/
def Dev.monNext (d : Dev) (c : Nat) : Dev :=
  let m := d.monc c
  let cur := if d.monCal c then none else if !m.inj.isEmpty then some 2
    else match m.trig with
      | some (_ + 1) => some 1
      | _ => if d.monCont c then some 0 else none
  d.modMon c (fun m => { m with cur := cur })

/-- An injected request joins the queue and preempts a continuous slot at once; within a triggered list it waits for the
slot in progress (R374). -/
def Dev.monInject (d : Dev) (c input : Nat) (viaCmd : Bool) : Dev :=
  let m := d.monc c
  if 4 ≤ m.inj.length then d.count A.MON_CMD_ERR
  else
    let d := d.modMon c (fun m => { m with inj := m.inj ++ [(input % 256, viaCmd)] })
    if m.cur = some 1 ∨ d.monCal c then d else d.modMon c (fun m => { m with cur := some 2 })

/-- MON_INJECT_REQUEST (R374). -/
def execMonInjectRequest (cv : Fin 2) (input : Byte) (s : State) : Host.Outcome State Fault Refusal :=
  run s (·.monInject cv.val input.toNat false)

/-- The event MON_TRIGc (R374). -/
def Dev.monTrig (d : Dev) (c : Nat) : Dev :=
  if !(d.getF F.MON_CTRL_TRIG_EN).testBit c then d
  else if d.monCal c then (d.count A.MON_TRIG_LOST).setB F.MON_INT_STAT_TRIG_LOST true
  else if (d.monc c).trig.isSome then (d.count A.MON_TRIG_OVR).setB F.MON_INT_STAT_TRIG_OVR true
  else d.modMon c (fun m => { m with trig := some 0, slip := false })

/-- The lowest and the highest path a comparator's action covers (R377): none for no action. -/
def winPaths (action path : Nat) : List Nat :=
  match action with
  | 1 => [path]
  | 2 => (List.range 16).map (fun i => path / 16 * 16 + i)
  | 3 => List.range 64
  | _ => []

/-- The 64-bit mask of muted paths of MON_MUTE_LO and MON_MUTE_HI. -/
def Dev.muteMask (d : Dev) : Nat := d.pair A.MON_MUTE_LO A.MON_MUTE_HI

/-- A comparator goes out of band and takes its action (R376, R377). -/
def Dev.winTrip (d : Dev) (n code : Nat) : Dev :=
  let d := d.setB (F.MON_WACTn_OUT n) true
  let d := ((d.setB F.MON_INT_STAT_TRIP true).count A.MON_TRIP_CNT).feEvent 1 n code
  let action := d.getF (F.MON_WACTn_ACTION n)
  if action = 0 then d
  else
    let d := if action = 3 then d.setB F.MON_MUTE_ALL_ALL true
      else d.setPair A.MON_MUTE_LO A.MON_MUTE_HI (Nat.lor d.muteMask (maskOf (winPaths action (d.getF (F.MON_WACTn_PATH n)))))
    let d := d.capMark (fun p => (winPaths action (d.getF (F.MON_WACTn_PATH n))).contains p) 4
    let d := if d.flag F.MON_MUTE_ALL_ALL ∨ d.muteMask.testBit (bitsN d.rmb.path.toNat 0 6) then d.rmbCut else d
    (((d.setB F.MON_INT_STAT_MUTE true).count A.MON_MUTE_CNT).feEvent 2 n code).degr 10

/-- A result of input `n` is checked by its window comparator (R376). -/
def Dev.winCheck (d : Dev) (n code : Nat) : Dev :=
  if 144 ≤ n ∨ !d.flag (F.MON_WACTn_EN n) then d
  else if code < d.getF (F.MON_WINn_LOW n) ∨ d.getF (F.MON_WINn_HIGH n) < code then
    let k := Tab.get (fun _ => 0) n d.fe.outCnt + 1
    let need := max 1 (d.getF (F.MON_WACTn_CNT n))
    let d := d.modFe (fun f => { f with outCnt := Tab.set (fun _ => 0) n (min k 15) f.outCnt })
    if need ≤ k ∧ !d.flag (F.MON_WACTn_OUT n) then d.winTrip n code else d
  else
    (d.modFe (fun f => { f with outCnt := Tab.set (fun _ => 0) n 0 f.outCnt })).setB (F.MON_WACTn_OUT n) false

/-- A result group written (R375): the sampling instant lies 72 ns before, to 8 ns. -/
def Dev.monResult (d : Dev) (c n src code : Nat) (slip : Bool) : Dev :=
  if 160 ≤ n then d
  else
    let tag := d.getF (F.MON_RESn_LO_TAG n) + 1
    let w := wordOf [(24, tag % 256), (22, src), (21, b2n slip), (20, c), (0, code)]
    let ns := (d.nowNs + 1000000000 - 72) % 1000000000
    ((d.setReg (A.MON_RESn_LO n) w).setReg (A.MON_RESn_TS n) (BitVec.ofNat 32 (ns / 8 * 8))).winCheck n code

/-- The result group of an input, as response bytes. -/
def Dev.monGroup (d : Dev) (n : Nat) : List Byte := word4 (d.reg (A.MON_RESn_LO n)) ++ word4 (d.reg (A.MON_RESn_TS n))

/-- A calibration that waited for an injected conversion starts (R303). -/
def Dev.monCalBegin (d : Dev) (c : Nat) : Dev :=
  if (d.getF F.CAL_MON_PEND).testBit c ∧ (d.monc c).inj.isEmpty then
    (d.setF F.CAL_MON_PEND (setBitN (d.getF F.CAL_MON_PEND) c false)).setF F.CAL_MON_BUSY (setBitN (d.getF F.CAL_MON_BUSY) c true)
  else d

/-- The code stored for an input: a reserved input converts as code 0 (R372). -/
def monCode (n code : Nat) : Nat := if 151 ≤ n then 0 else code

/-- A conversion ends (R374, R375); `delay`: the delay of a trigger still runs. -/
def Dev.conversionDone (d : Dev) (c : Nat) (delay : Bool) (code : Nat) : Dev :=
  let m := d.monc c
  let first := m.trig == some 0 && !delay && m.inj.isEmpty
  let src := if first then some 1 else m.cur
  if d.monCal c then d
  else match src with
    | none => d
    | some 2 =>
      match m.inj with
      | [] => d
      | (n, viaCmd) :: rest =>
        let late := match m.trig with
          | some 0 => !delay
          | some _ => true
          | none => false
        let d := d.modMon c (fun m => { m with inj := rest, slip := m.slip || late })
        let d := (d.monResult c n 2 (monCode n code) false).setB F.MON_INT_STAT_INJ_DONE true
        let d := match (if viaCmd then d.waitingFor 0x7012 (fun p => p.args == [c, n]) else none) with
          | some p => d.answerWaiting p (.ok (d.monGroup n))
          | none => d
        (d.monCalBegin c).monNext c
    | some 1 =>
      let i := m.trig.getD 0
      let n := d.getF (F.MON_TLIST_INPUT c i)
      let last := decide (max 1 (d.getF (F.MON_TRGc_CFG_LEN c)) ≤ i + 1 ∨ 16 ≤ i + 1)
      let d := d.monResult c n 1 (monCode n code) m.slip
      (d.modMon c (fun m => { m with trig := if last then none else some (i + 1), slip := m.slip && !last })).monNext c
    | some _ =>
      let n := d.getF (F.MON_CLIST_INPUT c m.cont)
      let len := clampN 1 160 (d.getF (F.MON_SEQc_CFG_LEN c))
      let d := d.monResult c n 0 (monCode n code) false
      (d.modMon c (fun m => { m with cont := if len ≤ m.cont + 1 then 0 else m.cont + 1 })).monNext c

/-- CONVERSION_DONE (R375). -/
def execConversionDone (cv : Fin 2) (delay : Bool) (code : BitVec 12) (s : State) : Host.Outcome State Fault Refusal :=
  run s (·.conversionDone cv.val delay code.toNat)

/-- A write of MON_CTRL (R374): a continuous list starts at its first entry. -/
def Dev.monCtrlWrite (d : Dev) (v : Nat) : Dev :=
  let was := d.getF F.MON_CTRL_CONT_EN
  let d := d.setReg A.MON_CTRL (BitVec.ofNat 32 (v % 16))
  d.forN 2 (fun d c =>
    let on := v.testBit c
    let d := if on && !was.testBit c then d.modMon c (fun m => { m with cont := 0 }) else d
    let idle := (d.monc c).cur == none || (d.monc c).cur == some 0
    if idle then d.monNext c else d)

/-- Whether the list entries of a converter may be written (R374). -/
def Dev.monListOpen (d : Dev) (c : Nat) : Bool :=
  !(d.getF F.MON_CTRL_CONT_EN).testBit c && !(d.getF F.MON_CTRL_TRIG_EN).testBit c

/-- A write of MON_WACTn: OUT is kept while the comparator is on. -/
def Dev.winActWrite (d : Dev) (n v : Nat) : Dev :=
  let out := b2n (d.flag (F.MON_WACTn_OUT n) && v.testBit 31)
  let d := if v.testBit 31 then d else d.modFe (fun f => { f with outCnt := Tab.set (fun _ => 0) n 0 f.outCnt })
  d.setReg (A.MON_WACTn n) (wordOf [(31, bitsN v 31 1), (30, out), (24, bitsN v 24 6 % 64), (16, bitsN v 16 6)])

/-! Mutes. -/

/-- Whether a mute bit may be released: every comparator whose action covers the path has OUT clear (R377). -/
def Dev.muteFree (d : Dev) (covers : Nat → Nat → Bool) : Bool :=
  (List.range 144).all (fun n =>
    !(d.flag (F.MON_WACTn_EN n) && covers (d.getF (F.MON_WACTn_ACTION n)) (d.getF (F.MON_WACTn_PATH n)) && d.flag (F.MON_WACTn_OUT n)))

/-- Mute bits released: the paths carry signal again from their next symbol boundary (R377). -/
def Dev.muteRelease (d : Dev) (mask : Nat) (all : Bool) : Dev :=
  let asked := (bitsOf 64 mask).filter (fun p => d.muteMask.testBit p)
  let ok := asked.filter (fun p => d.muteFree (fun a q => (winPaths a q).contains p))
  let askAll := all && d.flag F.MON_MUTE_ALL_ALL
  let okAll := askAll && d.muteFree (fun a _ => a == 3)
  let bad := decide (ok.length ≠ asked.length) || (askAll && !okAll)
  let before := if d.flag F.MON_MUTE_ALL_ALL then List.range 64 else bitsOf 64 d.muteMask
  let d := d.setPair A.MON_MUTE_LO A.MON_MUTE_HI (ok.foldl (fun m p => setBitN m p false) d.muteMask)
  let d := if okAll then d.setB F.MON_MUTE_ALL_ALL false else d
  let freed := before.filter (fun p => !d.muteMask.testBit p && !d.flag F.MON_MUTE_ALL_ALL)
  let d := d.modFe (fun f => { f with resumeWait := Nat.lor f.resumeWait (maskOf freed) })
  if bad then d.count A.MON_CMD_ERR else d

/-- MUTE_RELEASE (R377): a write of MON_MUTE_LO, MON_MUTE_HI or MON_MUTE_ALL. -/
def execMuteRelease (addr v : BitVec 32) (s : State) : Host.Outcome State Fault Refusal :=
  run s (fun d =>
    if addr.toNat = A.MON_MUTE_LO then d.muteRelease v.toNat false
    else if addr.toNat = A.MON_MUTE_HI then d.muteRelease (v.toNat * 2 ^ 32) false
    else if addr.toNat = A.MON_MUTE_ALL then d.muteRelease 0 (v.toNat.testBit 0)
    else d)

/-- Whether a comparator mute, or the wait for a symbol boundary after one, forces a path's DAC input to zero. -/
def Dev.pathMuted (d : Dev) (p : Nat) : Bool :=
  d.flag F.MON_MUTE_ALL_ALL || d.muteMask.testBit p || d.fe.resumeWait.testBit p

/-! TXMUTE_N (R378). -/

/-- Whether TXMUTE_N forces every DAC input to zero. -/
def Dev.txMuted (d : Dev) : Bool := d.flag F.AUXD_STAT_TXMUTE || d.fe.muteRose.isSome

/-- TXMUTE_N falls. -/
def Dev.txmuteFall (d : Dev) : Dev :=
  if d.flag F.AUXD_STAT_TXMUTE then d
  else
    let d := ((d.setB F.AUXD_STAT_TXMUTE true).count A.AUXD_TXMUTE_CNT).setB F.AUXD_INT_STAT_TXMUTE true
    ((((d.modFe (fun f => { f with muteRose := none })).capMark (fun _ => true) 4).rmbCut).feEvent 5 0 0).degr 11

/-- TXMUTE_FALL (R378): a Rambler burst is cut (R345). -/
def execTxmuteFall (s : State) : Host.Outcome State Fault Refusal := run s (·.txmuteFall)

/-- TXMUTE_N rises: TX resumes at the first symbol boundary that comes at least 1 µs later. -/
def Dev.txmuteRise (d : Dev) : Dev :=
  if !d.flag F.AUXD_STAT_TXMUTE then d
  else ((d.setB F.AUXD_STAT_TXMUTE false).modFe (fun f => { f with muteRose := some d.time.now })).feEvent 6 0 0

/-- TXMUTE_RISE (R378). -/
def execTxmuteRise (s : State) : Host.Outcome State Fault Refusal := run s (·.txmuteRise)

/-! Front-end buses. -/

/-- A transfer of an SPI controller starts (R379). -/
def Dev.spiBegin (d : Dev) (k : Nat) (x : SpiXfer) : Dev :=
  (d.setB (F.FESPIk_STAT_BUSY k) true).modFe (fun f => { f with spi := Tab.set (fun _ => none) k (some x) f.spi })

/-- A write of FESPIk_CMD commits the staged transmit words and starts the transfer (R379, R12). -/
def Dev.spiStart (d : Dev) (r : Requester) (k v : Nat) : Dev :=
  if d.flag (F.FESPIk_STAT_BUSY k) ∨ !d.flag (F.FESPIk_CFG_EN k) then d.count A.AUXD_CMD_ERR
  else
    let (lo, d) := d.takeStaged r (A.FESPIk_TX_LO k)
    let (hi, d) := d.takeStaged r (A.FESPIk_TX_HI k)
    let d := (d.setReg (A.FESPIk_TX_LO k) lo).setReg (A.FESPIk_TX_HI k) hi
    d.spiBegin k { bits := bitsN v 0 6 + 1, cs := bitsN v 8 2, read := v.testBit 10, data := lo.toNat + hi.toNat * 2 ^ 32 }

/-- FESPI_START (R379). -/
def execFespiStart (r : Requester) (ctl : Fin 4) (cmd : BitVec 32) (s : State) : Host.Outcome State Fault Refusal :=
  run s (·.spiStart r ctl.val cmd.toNat)

/-- An SPI transfer ends (R379): with READ set the bits captured from MISO. -/
def Dev.spiDone (d : Dev) (k miso : Nat) : Dev :=
  match Tab.get (fun _ => none) k d.fe.spi with
  | none => d
  | some x =>
    let d := (d.setB (F.FESPIk_STAT_BUSY k) false).modFe (fun f => { f with spi := Tab.set (fun _ => none) k none f.spi })
    let d := if x.read then d.setPair (A.FESPIk_RX_LO k) (A.FESPIk_RX_HI k) (miso % 2 ^ x.bits) else d
    let d := d.setB F.AUXD_INT_STAT_SPI_DONE true
    match d.waitingFor 0x7020 (fun p => p.args == [k]) with
    | some p => d.answerWaiting p (.ok (d.regsBytes (A.FESPIk_RX_LO k) 2))
    | none => d

/-- FESPI_DONE (R379). -/
def execFespiDone (ctl : Fin 4) (miso : BitVec 64) (s : State) : Host.Outcome State Fault Refusal :=
  run s (·.spiDone ctl.val miso.toNat)

/-- Bytes 4i to 4i + 3 of the I²C data registers. -/
def Dev.i2cBytes (d : Dev) (n : Nat) : List Byte := (d.regsBytes (A.FEI2C_DATAi 0) 4).take n

/-- A write of GO starts the transfer that FEI2C_CMD describes (R380). -/
def Dev.i2cStart (d : Dev) : Dev :=
  if d.flag F.FEI2C_STAT_BUSY ∨ !d.flag F.FEI2C_CFG_EN then d.count A.AUXD_CMD_ERR
  else
    let n := d.getF F.FEI2C_CMD_COUNT_M1 + 1
    let x : I2cXfer := { read := d.flag F.FEI2C_CMD_READ, nostop := d.flag F.FEI2C_CMD_NOSTOP, addr := d.getF F.FEI2C_CMD_ADDR, count := n,
                         data := d.i2cBytes n }
    (d.setB F.FEI2C_STAT_BUSY true).modFe (fun f => { f with i2c := some x })

/-- FEI2C_START (R380). -/
def execFei2cStart (s : State) : Host.Outcome State Fault Refusal := run s (·.i2cStart)

/-- Bytes stored into the I²C data registers from the first on. -/
def Dev.i2cPut (d : Dev) (bs : List Byte) : Dev :=
  let all := bs ++ (d.i2cBytes 16).drop bs.length
  d.forN 4 (fun d i => d.setReg (A.FEI2C_DATAi i) (BitVec.ofNat 32 (leAt all (4 * i) 4)))

/-- An I²C transfer ends with its RESULT and the bytes transferred (R380). -/
def Dev.i2cDone (d : Dev) (result : Nat) (rx : List Byte) (done : Nat) : Dev :=
  match d.fe.i2c with
  | none => d
  | some x =>
    let n := min done x.count
    let got := if x.read then (rx.take n) else []
    let d := (d.setB F.FEI2C_STAT_BUSY false).modFe (fun f => { f with i2c := none })
    let d := ((d.setF F.FEI2C_STAT_RESULT result).setF F.FEI2C_STAT_DONE n).i2cPut got
    let d := d.setB F.AUXD_INT_STAT_I2C_DONE true
    match d.waitingFor 0x7021 (fun _ => true) with
    | some p => d.answerWaiting p (.ok (leBytes 1 result ++ got))
    | none => d

/-- FEI2C_DONE (R380). -/
def execFei2cDone (result : Fin 5) (rx : List Byte) (done : Nat) (s : State) : Host.Outcome State Fault Refusal :=
  run s (·.i2cDone result.val rx done)

/-- FEI2C_STRETCH_TIMEOUT (R380); `tie`: SCL was released in the same cycle (R13). How many bytes had gone is a free
value. -/
def execFei2cStretchTimeout (tie : Bool) (s : State) : Host.Outcome State Fault Refusal :=
  run s (fun d =>
    if d.fe.i2c.isNone then d
    else if tie then d.count A.AUXD_TIE
    else let (n, d) := d.anyNat; let (w, d) := d.anyNat; d.i2cDone 3 (leBytes 16 w) (n % 17))

/-! Front-end commands (R381). -/

/-- AUXD_CFG. -/
def cmdAuxdCfg (pl : List Byte) : Body := devBody fun d =>
  let n := byteAt pl 0
  let f := byteAt pl 1
  let g := byteAt pl 2
  let lo := leAt pl 4 2
  let hi := leAt pl 6 2
  if 96 ≤ n ∨ 4 < g ∨ 8191 < lo ∨ 8191 < hi then badParam d
  else
    let (slo, shi) := d.auxStored n lo hi
    let (wl, wh) := d.auxWiden n slo shi
    if wl then limitR d 0x0701 (d.getF (F.AUXD_CHn_LIM_MIN n))
    else if wh then limitR d 0x0702 (d.getF (F.AUXD_CHn_LIM_MAX n))
    else okR ((d.auxLimWrite n (hi * 65536 + lo)).auxCfgWrite n (f % 2 * 2 ^ 31 + f / 2 % 2 * 2 ^ 30 + g * 2 ^ 27))

/-- AUXD_PUSH. -/
def cmdAuxdPush (pl : List Byte) : Body := devBody fun d =>
  let n := byteAt pl 0
  let k := byteAt pl 1
  if 96 ≤ n ∨ k = 0 ∨ 16 < k ∨ pl.length ≠ 4 + 2 * k then badParam d
  else if 16 < (d.auxQ n).length + k then busyR d
  else okR (d.forN k (fun d i => d.auxPush n (leAt pl (4 + 2 * i) 2)))

/-- AUXD_HIZ: EN cleared on each channel of the mask. -/
def cmdAuxdHiz (pl : List Byte) : Body := devBody fun d =>
  okR (d.forL (bitsOf 96 (leAt pl 0 12)) (fun d n => d.auxCfgWrite n ((d.reg (A.AUXD_CHn_CFG n)).toNat % 2 ^ 31)))

/-- The sequences of a converter stopped, a list written, and the sequences started again (R381). -/
def Dev.monRestart (d : Dev) (c : Nat) (cont trig : Bool) (f : Dev → Dev) : Dev :=
  let v := d.getF F.MON_CTRL_CONT_EN + 4 * d.getF F.MON_CTRL_TRIG_EN
  let d := d.monCtrlWrite (setBitN (setBitN v c false) (c + 2) false)
  let d := d.modMon c (fun m => { m with trig := none, slip := false, cur := if m.cur = some 1 then none else m.cur })
  (f d).monCtrlWrite (setBitN (setBitN v c (cont || v.testBit c)) (c + 2) (trig || v.testBit (c + 2)))

/-- MON_SEQ. -/
def cmdMonSeq (pl : List Byte) : Body := devBody fun d =>
  let c := byteAt pl 0
  let n := byteAt pl 1
  let l := pl.drop 4
  if 1 < c ∨ n = 0 ∨ 160 < n ∨ l.length ≠ n ∨ l.any (fun b => decide (160 ≤ b.toNat)) then badParam d
  else okR (d.monRestart c true false (fun d =>
    (d.forL l.zipIdx (fun d p => d.setReg (A.MON_CLIST c p.2) (BitVec.ofNat 32 p.1.toNat))).setF (F.MON_SEQc_CFG_LEN c) n))

/-- MON_TRIG. -/
def cmdMonTrig (pl : List Byte) : Body := devBody fun d =>
  let c := byteAt pl 0
  let n := byteAt pl 1
  let l := pl.drop 4
  if 1 < c ∨ n = 0 ∨ 16 < n ∨ l.length ≠ n ∨ l.any (fun b => decide (160 ≤ b.toNat)) then badParam d
  else okR (d.monRestart c false true (fun d =>
    ((d.forL l.zipIdx (fun d p => d.setReg (A.MON_TLIST c p.2) (BitVec.ofNat 32 p.1.toNat))).setF (F.MON_TRGc_CFG_LEN c) n).setF
      (F.MON_TRGc_CFG_DELAY c) (leAt pl 2 2)))

/-- MON_INJECT: the answer waits for the conversion (R419). -/
def cmdMonInject (pl : List Byte) : Body := devBody fun d =>
  let c := byteAt pl 0
  let n := byteAt pl 1
  if 1 < c ∨ 160 ≤ n then badParam d
  else if 4 ≤ (d.monc c).inj.length then busyR d
  else (.wait [c, n], d.monInject c n true, [])

/-- MON_READ. -/
def cmdMonRead (pl : List Byte) : Body := devBody fun d =>
  let a := byteAt pl 0
  let n := byteAt pl 1
  if n = 0 ∨ 160 < a + n then badParam d else okR d ((List.range n).flatMap (fun i => d.monGroup (a + i)))

/-- MON_WINDOW. -/
def cmdMonWindow (pl : List Byte) : Body := devBody fun d =>
  let n := byteAt pl 0
  let act := byteAt pl 1
  let cnt := byteAt pl 2
  let path := byteAt pl 3
  let lo := leAt pl 4 2
  let hi := leAt pl 6 2
  if 144 ≤ n ∨ 3 < act ∨ 15 < cnt ∨ 63 < path ∨ 4095 < lo ∨ 4095 < hi then badParam d
  else okR ((d.setReg (A.MON_WINn n) (BitVec.ofNat 32 (hi * 65536 + lo))).winActWrite n
    (byteAt pl 8 % 2 * 2 ^ 31 + act * 2 ^ 28 + cnt * 2 ^ 24 + path * 2 ^ 16))

/-- MON_UNMUTE. -/
def cmdMonUnmute (pl : List Byte) : Body := devBody fun d =>
  let d := d.muteRelease (leAt pl 0 8) ((byteAt pl 8).testBit 0)
  okR d (leBytes 8 (if d.flag F.MON_MUTE_ALL_ALL then 2 ^ 64 - 1 else d.muteMask))

/-- FESPI_XFER: the answer waits for the transfer (R419). -/
def cmdFespiXfer (pl : List Byte) : Body := devBody fun d =>
  let k := byteAt pl 0
  let cs := byteAt pl 1
  let n := byteAt pl 2
  if 3 < k ∨ 3 < cs ∨ n = 0 ∨ 64 < n then badParam d
  else if d.flag (F.FESPIk_STAT_BUSY k) then busyR d
  else
    let d := d.setB (F.FESPIk_CFG_EN k) true
    (.wait [k], d.spiBegin k { bits := n, cs := cs, read := (byteAt pl 3).testBit 0, data := leAt pl 4 8 }, [])

/-- FEI2C_XFER: the answer waits for the transfer (R419). -/
def cmdFei2cXfer (pl : List Byte) : Body := devBody fun d =>
  let f := byteAt pl 0
  let a := byteAt pl 1
  let n := byteAt pl 2
  let rd := f.testBit 0
  if 127 < a ∨ n = 0 ∨ 16 < n ∨ pl.length ≠ (if rd then 4 else 4 + n) then badParam d
  else if d.flag F.FEI2C_STAT_BUSY then busyR d
  else
    let d := (d.setB F.FEI2C_CFG_EN true).i2cPut (pl.drop 4)
    let d := d.setReg A.FEI2C_CMD (wordOf [(30, b2n rd), (29, bitsN f 1 1), (16, a), (0, n - 1)])
    (.wait [], d.i2cStart, [])

/-- FE_STAT: the RC counters clear. -/
def cmdFeStat (_pl : List Byte) : Body := devBody fun d =>
  let a := [A.AUXD_TIE, A.AUXD_LIM_HIT, A.AUXD_UNDERRUN, A.AUXD_DEFER, A.AUXD_TXMUTE_CNT, A.AUXD_CMD_ERR]
  let m := [A.MON_TRIG_OVR, A.MON_TRIG_LOST, A.MON_TRIP_CNT, A.MON_MUTE_CNT, A.MON_CMD_ERR]
  let (b1, d1) := d.takeRcs a
  let (b2, d2) := d1.takeRcs m
  okR d2 (word4 (d.live A.AUXD_STAT) ++ b1 ++ word4 (d.live A.MON_STAT) ++ b2)

/-- AUXD_CFG (R381). -/
def execAuxdCfg (h : CmdHdr) (pl : List Byte) (s : State) : Host.Outcome State Fault Refusal :=
  runW s (runCmd h 0x7001 (lenIs 8) pl (cmdAuxdCfg pl))

/-- AUXD_PUSH (R381). -/
def execAuxdPush (h : CmdHdr) (pl : List Byte) (s : State) : Host.Outcome State Fault Refusal :=
  runW s (runCmd h 0x7002 (lenIn 6 36) pl (cmdAuxdPush pl))

/-- AUXD_HIZ (R381). -/
def execAuxdHiz (h : CmdHdr) (pl : List Byte) (s : State) : Host.Outcome State Fault Refusal :=
  runW s (runCmd h 0x7003 (lenIs 12) pl (cmdAuxdHiz pl))

/-- MON_SEQ (R381). -/
def execMonSeq (h : CmdHdr) (pl : List Byte) (s : State) : Host.Outcome State Fault Refusal :=
  runW s (runCmd h 0x7010 (lenIn 5 164) pl (cmdMonSeq pl))

/-- MON_TRIG (R381). -/
def execMonTrig (h : CmdHdr) (pl : List Byte) (s : State) : Host.Outcome State Fault Refusal :=
  runW s (runCmd h 0x7011 (lenIn 5 20) pl (cmdMonTrig pl))

/-- MON_INJECT (R381). -/
def execMonInject (h : CmdHdr) (pl : List Byte) (s : State) : Host.Outcome State Fault Refusal :=
  runW s (runCmd h 0x7012 (lenIs 4) pl (cmdMonInject pl))

/-- MON_READ (R381). -/
def execMonRead (h : CmdHdr) (pl : List Byte) (s : State) : Host.Outcome State Fault Refusal :=
  runW s (runCmd h 0x7013 (lenIs 4) pl (cmdMonRead pl))

/-- MON_WINDOW (R381). -/
def execMonWindow (h : CmdHdr) (pl : List Byte) (s : State) : Host.Outcome State Fault Refusal :=
  runW s (runCmd h 0x7014 (lenIs 12) pl (cmdMonWindow pl))

/-- MON_UNMUTE (R381). -/
def execMonUnmute (h : CmdHdr) (pl : List Byte) (s : State) : Host.Outcome State Fault Refusal :=
  runW s (runCmd h 0x7015 (lenIs 9) pl (cmdMonUnmute pl))

/-- FESPI_XFER (R381). -/
def execFespiXfer (h : CmdHdr) (pl : List Byte) (s : State) : Host.Outcome State Fault Refusal :=
  runW s (runCmd h 0x7020 (lenIs 12) pl (cmdFespiXfer pl))

/-- FEI2C_XFER (R381). -/
def execFei2cXfer (h : CmdHdr) (pl : List Byte) (s : State) : Host.Outcome State Fault Refusal :=
  runW s (runCmd h 0x7021 (lenIn 4 20) pl (cmdFei2cXfer pl))

/-- FE_STAT (R381). -/
def execFeStat (h : CmdHdr) (pl : List Byte) (s : State) : Host.Outcome State Fault Refusal :=
  runW s (runCmd h 0x7030 (lenIs 0) pl (cmdFeStat pl))

end Sys2Proof.Machine
end

