-- ==== Sys2Proof/Machine/Thermal.lean ====
section
/-! DEFINITION. Temperature sensors, zones, throttling, shutdown and the input power limiter (12_thermal.md). -/

namespace Sys2Proof.Machine

def Dev.sens (d : Dev) (n : Nat) : SensSt := Tab.get (fun _ => {}) n d.therm.sens
def Dev.modSens (d : Dev) (n : Nat) (f : SensSt → SensSt) : Dev :=
  { d with therm := { d.therm with sens := Tab.set (fun _ => {}) n (f (d.sens n)) d.therm.sens } }
def Dev.zone (d : Dev) (z : Nat) : ZoneSt := Tab.get (fun _ => {}) z d.therm.zone
def Dev.modZone (d : Dev) (z : Nat) (f : ZoneSt → ZoneSt) : Dev :=
  { d with therm := { d.therm with zone := Tab.set (fun _ => {}) z (f (d.zone z)) d.therm.zone } }

/-- The sensors of a zone (R385). -/
def zoneSensors (z : Nat) : List Nat :=
  if z < 4 then (List.range 24).map (24 * z + ·)
  else if z = 4 then (List.range 20).map (96 + ·)
  else if z = 5 then (List.range 4).map (116 + ·)
  else (List.range 4).map (120 + ·)

/-- THERM_EVENT (R399) on MB0. -/
def Dev.thermEvent (d : Dev) (code id k grace : Nat) (temp : Int) : Dev :=
  d.notify 0 0x8080 0 (leBytes 1 code ++ leBytes 1 id ++ leBytes 1 k ++ leBytes 1 (min 255 grace) ++ leBytes 2 (unsgn 16 temp) ++ [0, 0] ++
    le4 d.nowNs)

/-- Whether a sensor is valid: it has not failed (R386). -/
def Dev.sensOk (d : Dev) (n : Nat) : Bool := !d.flag (F.THRM_Ss_FAILED n)

/-- A list of numbers in rising order. -/
def insertI (v : Int) : List Int → List Int
  | [] => [v]
  | x :: xs => if v ≤ x then v :: x :: xs else x :: insertI v xs
def sortI (l : List Int) : List Int := l.foldr insertI []

/-- Twice the median of a list: of an even number of values, the sum of the middle two. -/
def median2 (l : List Int) : Int :=
  let s := sortI l
  s.getD ((s.length - 1) / 2) 0 + s.getD (s.length / 2) 0

/-- Whether a sample breaks the range test or the rate test (R386). -/
def Dev.sampleAlone (d : Dev) (n : Nat) (v : Int) : Bool :=
  decide (v < -440 ∨ 1200 < v) ||
  (match (d.sens n).prev with
   | some p => decide ((8 * d.getF F.THRM_PLAUS_RATE_C : Int) < (v - p).natAbs)
   | none => false)

/-- The sample of a sensor in a round of samples; a list that is too short repeats the sample before. -/
def Dev.sampleOf (d : Dev) (temps : List Int) (n : Nat) : Int := temps.getD n ((d.sens n).prev.getD 0)

/-- Whether a sample is implausible (R386). Another sensor counts with its present sample, or with the value it holds
where that sample breaks a test by itself. -/
def Dev.implausible (d : Dev) (temps : List Int) (z n : Nat) : Bool :=
  let v := d.sampleOf temps n
  let others := ((zoneSensors z).filter (fun o => o != n && d.sensOk o)).map (fun o =>
    let w := d.sampleOf temps o
    if d.sampleAlone o w then (d.sens o).held else w)
  d.sampleAlone n v ||
    (decide (2 ≤ others.length) && decide ((16 * d.getF F.THRM_PLAUS_AGREE_C : Int) < (2 * v - median2 others).natAbs))

/-- One sensor takes its sample (R386): whether it fails now. -/
def Dev.takeSample (d : Dev) (n : Nat) (v : Int) (bad : Bool) : Bool × Dev :=
  let ok := d.sensOk n
  let d := (d.setF (F.THRM_Ss_TEMP n) (unsgn 16 v)).setB (F.THRM_Ss_IMPL n) bad
  if bad then
    let k := (d.sens n).bad + 1
    let d := d.modSens n (fun s => { s with prev := some v, bad := min k 16, good := 0 })
    if ok ∧ max 1 (d.getF F.THRM_PLAUS_FAIL_CNT) ≤ k then
      (true, ((d.setB (F.THRM_Ss_FAILED n) true).setB F.THRM_INT_STAT_SENS_FAIL true).count A.THRM_SENS_FAIL_CNT)
    else (false, d)
  else (false, d.modSens n (fun s => { prev := some v, held := v, bad := 0, good := min 64 (s.good + 1) }))

/-- The zone's T (R387): none when it has no valid sensor. -/
def Dev.zoneNow (d : Dev) (z : Nat) : Option Int :=
  let ok := (zoneSensors z).filter d.sensOk
  match ok with
  | [] => none
  | n :: ns =>
    let hot := ns.foldl (fun m k => max m (d.sens k).held) (d.sens n).held
    some (if ok.length < (zoneSensors z).length then hot + 8 * d.getF (F.THRM_Zz_HYS_OFFSET z) else hot)

/-- A per-zone bit of a field set or cleared. -/
def Dev.zoneBit (d : Dev) (f : Fld) (z : Nat) (v : Bool) : Dev := d.setF f (setBitN (d.getF f) z v)

/-- A zone's state and step changed, its dwell counts restarted (R389). -/
def Dev.zoneGo (d : Dev) (z st k : Nat) : Dev :=
  ((d.setF (F.THRM_Zz_STAT_STATE z) st).setF (F.THRM_Zz_STAT_K z) k).modZone z
    (fun s => { grace := st == 2, nvGrace := s.nvGrace })

/-- A zone deepens to step k (R390, R391). -/
def Dev.zoneDeepen (d : Dev) (z k code : Nat) : Dev :=
  (((d.zoneGo z 3 k).setB F.THRM_INT_STAT_STEP true).count A.THRM_STEP_CNT).thermEvent code z k 0 (d.zoneT z)

/-- A zone reaches SHUTDOWN (R395): the SAFE state mutes every path. -/
def Dev.zoneShut (d : Dev) (z : Nat) : Dev :=
  let d := d.zoneGo z 4 (d.zoneK z)
  let d := ((d.setB F.THRM_STAT_SHUT true).setB F.THRM_INT_STAT_SHUT true).count A.THRM_SHUT_CNT
  let d := (d.thermEvent 8 z (d.zoneK z) 0 (d.zoneT z)).enterSafe 0
  d.forN 4 (fun d t => d.tileSleep t)

/-- The zone's T, SUBST and NOVALID after a round of samples (R387, R388). -/
def Dev.zoneUpdate (d : Dev) (z : Nat) : Dev :=
  match d.zoneNow z with
  | some t =>
    let d := d.setF (F.THRM_Zz_STAT_TEMP z) (unsgn 16 t)
    let d := d.zoneBit F.THRM_STAT_SUBST z ((zoneSensors z).any (fun n => !d.sensOk n))
    (d.zoneBit F.THRM_STAT_NOVALID z false).modZone z (fun s => { s with nvGrace := false })
  | none =>
    if (d.getF F.THRM_STAT_NOVALID).testBit z then d
    else
      let d := (d.zoneBit F.THRM_STAT_SUBST z false).zoneBit F.THRM_STAT_NOVALID z true
      let d := (d.setB F.THRM_INT_STAT_NOVALID true).modZone z (fun s => { s with nvGrace := true })
      d.thermEvent 7 z (d.zoneK z) 0 (d.zoneT z)

/-- A dwell count carried on or restarted. -/
def dwellNext (n : Nat) (holds : Bool) : Nat := if holds then min 31 (n + 1) else 0

/-- The dwell counts of a zone after a sample (R389, R391), while it has a valid sensor. -/
def Dev.zoneCount (d : Dev) (z : Nat) : Dev :=
  let t := d.zoneT z
  let subst := (d.getF F.THRM_STAT_SUBST).testBit z
  d.modZone z (fun s => { s with
    shutUp := dwellNext s.shutUp (decide (d.zoneLevel (F.THRM_Zz_CFG_SHUT z) 0 ≤ t))
    throtUp := dwellNext s.throtUp (decide (d.zoneLevel (F.THRM_Zz_CFG_THROT z) 0 ≤ t))
    throtDn := dwellNext s.throtDn (decide (t < d.zoneLevel (F.THRM_Zz_CFG_THROT z) (d.getF (F.THRM_Zz_HYS_HYS_T z))) && !subst)
    warnUp := dwellNext s.warnUp (decide (d.zoneLevel (F.THRM_Zz_CFG_WARN z) 0 ≤ t))
    warnDn := dwellNext s.warnDn (decide (t < d.zoneLevel (F.THRM_Zz_CFG_WARN z) (d.getF (F.THRM_Zz_HYS_HYS_W z)))) })

/-- The rows of R391 but the last, for a zone whose SHUT condition has not completed. -/
def Dev.zoneStep (d : Dev) (z : Nat) : Dev :=
  let s := d.zone z
  let dw := max 1 (d.getF (F.THRM_Zz_HYS_DWELL z))
  let st := d.getF (F.THRM_Zz_STAT_STATE z)
  let k := d.zoneK z
  let t := d.zoneT z
  if st ≤ 1 ∧ dw ≤ s.throtUp then
    if (d.getF F.THRM_CTRL_ASK).testBit z then
      ((d.zoneGo z 2 0).setB F.THRM_INT_STAT_ASK_REQ true).thermEvent 2 z 0 (d.getF (F.THRM_Zz_CFG_GRACE z)) t
    else d.zoneDeepen z 1 4
  else if st = 0 ∧ dw ≤ s.warnUp then ((d.zoneGo z 1 0).setB F.THRM_INT_STAT_WARN true).thermEvent 1 z 0 0 t
  else if st = 1 ∧ dw ≤ s.warnDn then d.zoneGo z 0 0
  else if st = 2 ∧ dw ≤ s.throtDn then d.zoneGo z 1 0
  else if st = 3 ∧ dw ≤ s.throtUp ∧ k < d.deepest z then d.zoneDeepen z (k + 1) 4
  else if st = 3 ∧ dw ≤ s.throtDn then
    ((d.zoneGo z (if k ≤ 1 then 1 else 3) (k - 1)).setB F.THRM_INT_STAT_RELAX true).thermEvent 5 z (k - 1) 0 t
  else d

/-- The 1 ms sample (R386 to R395): every sensor, then every zone, SHUT first. -/
def Dev.sensorSample (d : Dev) (temps : List Int) : Dev :=
  let before := d
  let d := d.forN 7 (fun d z =>
    let (lost, d) := (zoneSensors z).foldl (fun (acc : List Nat × Dev) n =>
      let (f, d) := acc.2.takeSample n (before.sampleOf temps n) (before.implausible temps z n)
      (if f then acc.1 ++ [n] else acc.1, d)) ([], d)
    let d := d.zoneUpdate z
    d.forL lost (fun d n => d.thermEvent 6 n (d.zoneK z) 0 (d.zoneT z)))
  let d := d.setB F.THRM_STAT_XO_SUBST (!d.sensOk 120)
  let d := if (List.range 124).any (fun n => !d.sensOk n) then d.degr 4 else d
  let live := (List.range 7).filter (fun z => !(d.getF F.THRM_STAT_NOVALID).testBit z && d.getF (F.THRM_Zz_STAT_STATE z) != 4)
  let d := d.forL live (fun d z => d.zoneCount z)
  let hot := live.filter (fun z => decide (max 1 (d.getF (F.THRM_Zz_HYS_DWELL z)) ≤ (d.zone z).shutUp))
  let d := d.forL hot (fun d z => d.zoneShut z)
  let d := d.forL (live.filter (fun z => !hot.contains z)) (fun d z => d.zoneStep z)
  let d := ((d.applyThrottle).zoneBits).throttleDegr
  { d with therm := { d.therm with sampled := true } }

/-- SENSOR_SAMPLE (R386): one sample of every sensor, in 0.125 °C. -/
def execSensorSample (temps : List Int) (s : State) : Host.Outcome State Fault Refusal := run s (·.sensorSample temps)

/-- A grace timer expires (R391); `tie`: the cooling completed in the same sample (R13). -/
def Dev.graceExpiry (d : Dev) (z : Nat) (tie : Bool) : Dev :=
  if tie then d.count A.THRM_TIE
  else if d.getF (F.THRM_Zz_STAT_STATE z) = 2 then
    let d := (d.setB F.THRM_INT_STAT_GRACE_EXP true).zoneDeepen z 1 3
    ((d.applyThrottle).zoneBits).throttleDegr
  else d

/-- GRACE_EXPIRY (R391). -/
def execGraceExpiry (z : Fin 7) (tie : Bool) (s : State) : Host.Outcome State Fault Refusal := run s (·.graceExpiry z.val tie)

/-- The grace timer of a zone with no valid sensor expires (R388). -/
def Dev.novalidExpiry (d : Dev) (z : Nat) (tie : Bool) : Dev :=
  if tie then d.count A.THRM_TIE
  else if (d.zone z).nvGrace then
    let d := d.modZone z (fun s => { s with nvGrace := false })
    if d.getF (F.THRM_Zz_STAT_STATE z) = 4 then d
    else (((d.zoneDeepen z (d.deepest z) 4).applyThrottle).zoneBits).throttleDegr
  else d

/-- NOVALID_GRACE_EXPIRY (R388). -/
def execNovalidGraceExpiry (z : Fin 7) (tie : Bool) (s : State) : Host.Outcome State Fault Refusal :=
  run s (·.novalidExpiry z.val tie)

/-- A write of a sensor's CLEAR bit (R387). -/
def Dev.sensorClear (d : Dev) (n : Nat) : Dev :=
  if d.sensOk n then d
  else if (d.sens n).good = 64 then
    d.setB (F.THRM_Ss_FAILED n) false
  else d.count A.THRM_CMD_ERR

/-- SENSOR_CLEAR (R387). -/
def execSensorClear (sn : Fin 124) (s : State) : Host.Outcome State Fault Refusal := run s (·.sensorClear sn.val)

/-- The 1 kHz power sample (R396): the readings, the energy, the peak and the limiter. -/
def Dev.powerSample (d : Dev) (vin iin mw : Nat) : Dev :=
  let d := ((d.setF F.PWR_VIN_MV10 (min vin 65535)).setF F.PWR_IIN_MA (min iin 65535)).setF F.PWR_PIN_MW (min mw 262143)
  let d := if d.getF F.PWR_PEAK_MW < min mw 262143 then d.setF F.PWR_PEAK_MW (min mw 262143) else d
  let uj := d.therm.energyUj + mw
  let d := d.count64 A.PWR_ENERGY_LO A.PWR_ENERGY_HI (uj / 1000)
  let p := max 1 (d.getF F.PWR_LIMIT_PLIM_W)
  let hi := dwellNext d.therm.pwrHi (decide (1000 * p ≤ mw))
  let lo := dwellNext d.therm.pwrLo (decide (100 * mw < 95 * (1000 * p)))
  let d := { d with therm := { d.therm with energyUj := uj % 1000, pwrHi := hi, pwrLo := lo } }
  let dw := max 1 (d.getF (F.THRM_Zz_HYS_DWELL Config.dwellZone.val))
  let k := d.getF F.PWR_LIMIT_STEP
  let go := fun (d : Dev) k => { d.setF F.PWR_LIMIT_STEP k with therm := { d.therm with pwrHi := 0, pwrLo := 0 } }
  if dw ≤ hi ∧ k < 12 then
    let d := ((go d (k + 1)).setB F.PWR_STAT_LIM true).count A.PWR_LIM_CNT
    ((d.thermEvent 9 0 (k + 1) 0 0).applyThrottle).throttleDegr
  else if dw ≤ lo ∧ 0 < k then (go d (k - 1)).applyThrottle
  else d

/-- POWER_SAMPLE (R396). -/
def execPowerSample (vin10mV iinMa pinMw : Nat) (s : State) : Host.Outcome State Fault Refusal :=
  run s (·.powerSample vin10mV iinMa pinMw)

/-! Writes of the thresholds and of the shed table. -/

/-- The ceiling of SHUT (R389). -/
def Dev.shutCeiling (d : Dev) : Nat := min 130 (d.getF F.THRM_FUSE_SHUT_MAX)

/-- Whether THROT, or SHUT, may take a value (R389). -/
def Dev.throtOk (d : Dev) (z v : Nat) : Bool := d.lcOpen || decide (v ≤ d.getF (F.THRM_Zz_CFG_THROT z))
def Dev.shutOk (d : Dev) (z v : Nat) : Bool :=
  decide (v ≤ d.shutCeiling) && (d.lcOpen || decide (v ≤ d.getF (F.THRM_Zz_CFG_SHUT z)))

/-- A write of THRM_Zz_CFG (R389). -/
def Dev.zoneCfgWrite (d : Dev) (z v : Nat) : Dev :=
  if d.throtOk z (bitsN v 16 8) ∧ d.shutOk z (bitsN v 24 8) then d.setReg (A.THRM_Zz_CFG z) (BitVec.ofNat 32 v)
  else d.count A.THRM_CMD_ERR

/-- Whether any path is shed. -/
def Dev.anyShed (d : Dev) : Bool := (List.range 4).any (fun t => d.flag (F.TILE_SHED_TX_SHED t))

/-- A write of THRM_SHEDi (R393): an entry that is skipped counts. -/
def Dev.shedWrite (d : Dev) (i v : Nat) : Dev :=
  if d.anyShed then d.count A.THRM_CMD_ERR
  else
    let d := (d.setF (F.THRM_SHEDi_PATH_A i) (bitsN v 0 6)).setF (F.THRM_SHEDi_PATH_B i) (bitsN v 8 6)
    if (d.shedPair i).isNone then d.count A.THRM_CMD_ERR else d

/-! Thermal and power commands (R398). -/

/-- THERM_CFG: GRACE_MS is held in 10 ms units. -/
def cmdThermCfg (pl : List Byte) : Body := devBody fun d =>
  let z := byteAt pl 0
  let mode := byteAt pl 1
  let throt := byteAt pl 3
  let shut := byteAt pl 4
  let ms := leAt pl 10 2
  if 6 < z ∨ 1 < mode ∨ 15 < byteAt pl 5 ∨ 15 < byteAt pl 6 ∨ 15 < byteAt pl 7 ∨ 31 < byteAt pl 8 ∨ 31 < byteAt pl 9 ∨ ms < 10 ∨ 1000 < ms then
    badParam d
  else if !d.throtOk z throt then limitR d 0x0801 (d.getF (F.THRM_Zz_CFG_THROT z))
  else if !d.shutOk z shut then
    limitR d 0x0802 (if d.lcOpen then d.shutCeiling else min d.shutCeiling (d.getF (F.THRM_Zz_CFG_SHUT z)))
  else
    let (g, d) := d.roundFree ms 10
    let d := d.zoneCfgWrite z (shut * 2 ^ 24 + throt * 2 ^ 16 + byteAt pl 2 * 2 ^ 8 + g.toNat)
    let d := d.setReg (A.THRM_Zz_HYS z) (wordOf [(22, byteAt pl 9), (17, byteAt pl 8), (8, byteAt pl 7), (4, byteAt pl 6), (0, byteAt pl 5)])
    okR (d.setF F.THRM_CTRL_ASK (setBitN (d.getF F.THRM_CTRL_ASK) z (mode == 1)))

/-- SHED_ORDER: a pair that the table would skip is a wrong field. -/
def cmdShedOrder (pl : List Byte) : Body := devBody fun d =>
  let d' := d.forN 16 (fun d i => (d.setF (F.THRM_SHEDi_PATH_A i) (byteAt pl (2 * i) % 64)).setF (F.THRM_SHEDi_PATH_B i) (byteAt pl (2 * i + 1) % 64))
  if d.anyShed then busyR d
  else if pl.any (fun b => decide (64 ≤ b.toNat)) ∨ (List.range 16).any (fun i => (d'.shedPair i).isNone) then badParam d
  else okR d'

/-- SENS_CLEAR. -/
def cmdSensClear (pl : List Byte) : Body := devBody fun d =>
  let d := d.forL (bitsOf 124 (leAt pl 0 16)) (fun d n => d.sensorClear n)
  okR d (leBytes 16 (maskOf ((List.range 124).filter (fun n => !d.sensOk n))))

/-- PWR_CFG. -/
def cmdPwrCfg (pl : List Byte) : Body := devBody fun d => okR (d.setF F.PWR_LIMIT_PLIM_W (byteAt pl 0))

/-- THERM_STAT: the RC counters clear. -/
def cmdThermStat (_pl : List Byte) : Body := devBody fun d =>
  let out := (List.range 7).flatMap (fun z => d.liveBytes (A.THRM_Zz_CFG z) 3) ++ d.liveBytes (A.THRM_Ss 0) 124 ++ d.liveBytes A.PWR_VIN 3
  okR (d.takeRcs [A.THRM_TIE, A.THRM_SENS_FAIL_CNT, A.THRM_STEP_CNT, A.THRM_SHUT_CNT, A.THRM_CMD_ERR, A.PWR_LIM_CNT]).2 out

/-- THERM_CFG (R398). -/
def execThermCfg (h : CmdHdr) (pl : List Byte) (s : State) : Host.Outcome State Fault Refusal :=
  runW s (runCmd h 0x8001 (lenIs 12) pl (cmdThermCfg pl))

/-- SHED_ORDER (R398). -/
def execShedOrder (h : CmdHdr) (pl : List Byte) (s : State) : Host.Outcome State Fault Refusal :=
  runW s (runCmd h 0x8002 (lenIs 32) pl (cmdShedOrder pl))

/-- SENS_CLEAR (R398). -/
def execSensClear (h : CmdHdr) (pl : List Byte) (s : State) : Host.Outcome State Fault Refusal :=
  runW s (runCmd h 0x8003 (lenIs 16) pl (cmdSensClear pl))

/-- PWR_CFG (R398). -/
def execPwrCfg (h : CmdHdr) (pl : List Byte) (s : State) : Host.Outcome State Fault Refusal :=
  runW s (runCmd h 0x8004 (lenIs 4) pl (cmdPwrCfg pl))

/-- THERM_STAT (R398). -/
def execThermStat (h : CmdHdr) (pl : List Byte) (s : State) : Host.Outcome State Fault Refusal :=
  runW s (runCmd h 0x8005 (lenIs 0) pl (cmdThermStat pl))

end Sys2Proof.Machine
end

