-- ==== Sys2Proof/Machine/LinkLane.lean ====
section
/-! DEFINITION. Lanes, line code, training and fast retrain (02_link_lanes.md). -/

namespace Sys2Proof.Machine

/-! Ports and bonds (R35 to R38, R70). -/

/-- MIN_WIDTH in force. -/
def Dev.minWidth (d : Dev) (x : Nat) : Nat := max 1 (Tab.get (fun _ => 1) x d.link.minWidth)

/-- Whether a port is up, counting a fast retrain (R119). -/
def Dev.portUp (d : Dev) (x : Nat) : Bool := d.stage x == stUp || d.stage x == stFrt

/-- An interrupt bit of a port: 0 UP, 1 DOWN, 2 DEGRADED, 3 FRT_START, 4 FRT_FAIL, 5 EQ_ROLLBACK (R82). -/
def linkInt (x b : Nat) : Fld := ⟨A.LINK_INT_STAT, 6 * x + b, 1⟩

/-- The reasons of R71. -/
def rDisabled : Nat := 1
def rNoSignal : Nat := 2
def rDeskew : Nat := 7
def rAgree : Nat := 9
def rWidth : Nat := 10
def rRole : Nat := 11
def rFrtFail : Nat := 12
def rRestart : Nat := 13
def rReconfig : Nat := 14

/-- The reason when the width falls below MIN_WIDTH at a lane stage (R71). -/
def stageReason : Nat → Nat
  | 1 => 3
  | 2 => 4
  | 3 => 5
  | 4 => 6
  | _ => 8

/-! Line code (R40 to R48). -/

/-- The bit pair of a level. -/
def levelPair : Level → Bool × Bool
  | .l0 => (false, false)
  | .l1 => (false, true)
  | .l2 => (true, true)
  | .l3 => (true, false)

/-- The level of a bit pair. -/
def levelOf : Bool → Bool → Level
  | false, false => .l0
  | false, true => .l1
  | true, true => .l2
  | true, false => .l3

/-- The stuff symbol after a run (R47): two levels away. -/
def levelStuff : Level → Level
  | .l0 => .l2
  | .l1 => .l3
  | .l2 => .l0
  | .l3 => .l1

/-- The symbols of a list of bits. -/
def toLevels : List Bool → List Level
  | a :: b :: r => levelOf a b :: toLevels r
  | _ => []

/-- The bits of received symbols, the first of each pair inverted where the polarity is (R62). -/
def ofLevels (inv : Bool) (l : List Level) : List Bool := l.flatMap (fun s => [(levelPair s).1 != inv, (levelPair s).2])

/-- Symbols as sent: a stuff symbol after every run of 31 (R47). -/
def stuffing : Option (Level × Nat) → List Level → List Level × Option (Level × Nat)
  | run, [] => ([], run)
  | run, s :: r =>
    let n := match run with
      | some (l, k) => if l = s then k + 1 else 1
      | none => 1
    if n = 31 then
      let (t, run) := stuffing (some ((levelStuff s), 1)) r
      (s :: (levelStuff s) :: t, run)
    else
      let (t, run) := stuffing (some (s, n)) r
      (s :: t, run)

/-- Symbols as received, the one after every run of 31 deleted, with how many were (R48). -/
def destuffing : Option (Level × Nat) → List Level → List Level × Option (Level × Nat) × Nat
  | run, [] => ([], run, 0)
  | run, s :: r =>
    match run with
    | some (_, 31) =>
      let (t, run, k) := destuffing (some (s, 1)) r
      (t, run, k + 1)
    | some (l, n) =>
      let (t, run, k) := destuffing (some (s, if l = s then n + 1 else 1)) r
      (s :: t, run, k)
    | none =>
      let (t, run, k) := destuffing (some (s, 1)) r
      (s :: t, run, k)

/-- Scrambler output from a register value (R45). -/
def scrOut : Nat → Nat → List Bool
  | 0, _ => []
  | n + 1, s =>
    let o := s.testBit 22 != s.testBit 17
    o :: scrOut n (s * 2 % 2 ^ 23 + b2n o)

/-- Bits XORed with the scrambler output of a seed. -/
def scrambled (seed : Nat) (bits : List Bool) : List Bool :=
  (bits.zip (scrOut bits.length seed)).map (fun p => p.1 != p.2)

/-- A number from bits, most significant first. -/
def bitsNat (l : List Bool) : Nat := l.foldl (fun a b => 2 * a + b2n b) 0

/-- The bits of a number, most significant first. -/
def natBits (n v : Nat) : List Bool := (List.range n).map (fun i => v.testBit (n - 1 - i))

/-- Bytes from bits. -/
def bitsBytes : Nat → List Bool → List Byte
  | 0, _ => []
  | n + 1, l => BitVec.ofNat 8 (bitsNat (l.take 8)) :: bitsBytes n (l.drop 8)

/-- The 16 header bits of a block (R42). -/
def headerBits (type bsn : Nat) : List Bool := natBits 16 (0b100010 * 2 ^ 10 + type * 2 ^ 8 + bsn % 16 * 2 ^ 4 + hchk type bsn)

/-- The symbols of a block before stuffing (R42, R44, R45): TRAIN payloads are not scrambled. -/
def blockLevels (type bsn seed : Nat) (payload : List Byte) : List Level :=
  let bits := (payload ++ List.replicate (64 - payload.length) 0).flatMap byteBits
  toLevels (headerBits type bsn ++ (if type = 2 then bits else scrambled seed bits))

/-- The scrambler seed in force of a port's logical lane (R46). -/
def Dev.seed (d : Dev) (x k : Nat) : Nat := Tab.get (fun _ => 0) (16 * x + k) d.link.seeds

/-! What the module sends. -/

/-- A block sent on a lane: its symbols after stuffing, kept among those last sent. -/
def Dev.sendBlock (d : Dev) (x n : Nat) (levels : List Level) : Dev :=
  let l := d.lane n
  let (out, run) := stuffing l.txRun levels
  let d := d.modLane n (fun l => { l with txRun := run, txMark := l.txSyms, txSyms := l.txSyms + out.length })
  d.modPort x (fun p => { p with txOut := p.txOut ++ [(n, out)] })

/-- The transmit working lanes of a port, in ascending logical order (R66, R68). -/
def Dev.txLanes (d : Dev) (x : Nat) : List Nat :=
  (List.range (d.getF (F.LINK_Px_STAT_TX_WIDTH x))).map (fun i => 4 * x + d.getF (F.LINK_Px_STAT_TX_FIRST x) + i)

/-- A CTRL message (R52): eight copies on every working transmit lane. -/
def Dev.sendCtrl (d : Dev) (x code mask : Nat) : Dev :=
  let body := [BitVec.ofNat 8 code, 0] ++ beBytes 2 mask ++ List.replicate 58 0
  let pl := body ++ beBytes 2 (crc16 body)
  d.forL (d.txLanes x) (fun d n => d.forN 8 (fun d _ => d.sendBlock x n (blockLevels 3 (d.port x).txBsn (d.seed x (n - 4 * x)) pl)))

/-- The payload of the TRAIN blocks a lane sends (R59). -/
def Dev.trainPayload (d : Dev) (n : Nat) : List Byte :=
  let x := d.lead (n / 4)
  let k := n - 4 * x
  let st := d.stage x
  let ready := st == 7 || (st == stFrt && (d.port x).frtReady)
  let head := [0x1B, 0xE4, BitVec.ofNat 8 (n / 4 * 16 + n % 16), BitVec.ofNat 8 ((d.cfgWidth x - 1) * 16 + k),
    BitVec.ofNat 8 (b2n (st == stFrt) * 32 + b2n ready * 16 + (if st = stFrt then 9 else st)), BitVec.ofNat 8 (d.role x)] ++
    beBytes 2 (d.getF (F.LINK_Px_MASK_RX_MASK x)) ++ List.replicate 6 0
  head ++ beBytes 2 (crc16 head) ++ bitsBytes 48 (scrOut 384 (d.seed x k))

/-! Leaving and entering UP. -/

/-- Units of an ingress queue freed (R92). -/
def Dev.freeRx (d : Dev) (x v units : Nat) : Dev :=
  d.modPort x (fun p => p.modVc v (fun c => { c with freed := (c.freed + units) % 65536 }))

/-- Forwarded packets leave a queue: the ingress credits they still owe return on the other port (R115). -/
def Dev.payBack (d : Dev) (x : Nat) (l : List Pkt) : Dev :=
  match (if d.role x = 2 then d.upstream else d.downstream) with
  | none => d
  | some y => d.forL (l.filter (·.owe)) (fun d p => d.freeRx y p.vc (pktUnits p.payload.length))

/-- Packets queued for a port and packets held for replay are discarded and counted (R73). -/
def Dev.discardPort (d : Dev) (x : Nat) : Dev :=
  let p := d.port x
  let queued := (List.range 5).flatMap (fun v => (p.vc v).txq)
  let n := p.replay.length + queued.length
  let d := d.payBack x queued
  let d := d.modPort x (fun p => (List.range 5).foldl (fun p v => p.modVc v (fun c => { c with txq := [] }))
    { p with replay := [], replayTodo := [], timerReplays := 0, txPart := [], txNext := 0 })
  d.count64 (A.LINK_Px_DISCARD_LO x) (A.LINK_Px_DISCARD_HI x) n

/-- A port leaves UP or FAST_RETRAIN (R73, R410). -/
def Dev.leaveUp (d : Dev) (x : Nat) : Dev :=
  if d.portUp x then
    let d := d.forL (d.lanesOf x) (fun d n => (d.setB (F.LINK_Ln_STAT_IN_SET n) false).modLane n (fun l => { l with down := false, deskew := [] }))
    (d.discardPort x).func (2 + x) false
  else d

/-- A port enters LINK_DOWN (R71, R77, R489). -/
def Dev.portDown (d : Dev) (x reason : Nat) : Dev :=
  let d := d.leaveUp x
  let d := ((d.setF (F.LINK_Px_STAT_STAGE x) stDown).setF (F.LINK_Px_STAT_REASON x) reason).count (A.LINK_Px_DOWN_CNT x)
  let d := d.setB (linkInt x 1) true
  let d := d.forL (d.lanesOf x) (fun d n => d.modLane n (fun l => { l with stage := 0, reinit := false, trainRun := 0 }))
  if d.role x = 1 then d.degr 0 else d

/-- A lane's receiver reset (R61). -/
def Dev.laneReset (d : Dev) (n : Nat) : Dev :=
  let d := ((d.setB (F.LINK_Ln_STAT_CDR_LOCK n) false).setB (F.LINK_Ln_STAT_POL_INV n) false).setB (F.LINK_Ln_STAT_BLOCK_LOCK n) false
  d.modLane n (fun l => { l with rxRun := none, hdrs := [], trainRun := 0, ident := none, deskew := [] })

/-- A full training starts on a port or bond of the bond in force (R60, R70). -/
def Dev.trainPort (d : Dev) (x : Nat) : Dev :=
  let d := d.leaveUp x
  let d := d.setB (F.LINK_Px_CTRL_RETRAIN x) false
  let g := d.group x
  let link := { d.link with
    roles := g.foldl (fun t q => Tab.set (fun _ => 0) q (if q = x then d.getF (F.LINK_Px_CTRL_ROLE x) else 0) t) d.link.roles
    minWidth := Tab.set (fun _ => 1) x (d.getF (F.LINK_Px_CTRL_MIN_WIDTH x)) d.link.minWidth
    seeds := (List.range 16).foldl (fun t k => Tab.set (fun _ => 0) (16 * x + k) (d.getF (F.LINK_SEEDk_SEED k)) t) d.link.seeds }
  let d := { d with link := link }
  let d := d.setReg (A.LINK_Px_STAT x) (wordOf [(4, d.getF (F.LINK_Px_STAT_REASON x)), (0, 1)])
  let d := d.setReg (A.LINK_Px_MASK x) 0
  let d := d.forL (d.lanesOf x) (fun d n => (d.laneReset n).modLane n (fun l =>
    { l with stage := 1, tries := [(1, 1)], excluded := false, reinit := false, down := false, txRun := none, txSyms := 0, txMark := 0 }))
  d.modPort x (fun p => { p with tries := [], agreeRun := 0, agreeMask := 0, mapSet := false, frtReplying := false, frtReady := false, events := [] })

/-- A full training starts through port `p` (R70): under LINK_BOND as written, and through the enabled lowest port of
that configuration; where the bond changes, every port it joins or splits is taken down first and trains anew. -/
def Dev.beginTraining (d : Dev) (p : Nat) : Dev :=
  let b := d.getF F.LINK_BOND_BOND
  let x := (groupIn b p).headD p
  if !d.flag (F.LINK_Px_CTRL_EN x) then d
  else if b = d.link.bond then d.trainPort x
  else
    let moved := (List.range 4).filter (fun q => groupIn b q != d.group q)
    let leads := moved.filter (fun q => d.lead q == q)
    let d := d.forL leads (fun d q =>
      if d.portUp q then d.portDown q rReconfig
      else if d.stage q = 0 then d else d.setF (F.LINK_Px_STAT_STAGE q) stDown)
    let d := d.forL moved (fun d q => d.setF (F.LINK_Px_STAT_STAGE q) stDown)
    let d := { d with link := { d.link with bond := b } }
    let again := moved.filter (fun q => d.lead q == q && q != x && d.flag (F.LINK_Px_CTRL_EN q))
    d.forL (x :: again) (fun d q => d.trainPort q)

/-- LINK_EVENT (R129), once a code per training. -/
def Dev.linkEvent (d : Dev) (code x info width v1 v2 : Nat) : Dev :=
  if (d.port x).events.contains code then d
  else (d.modPort x (fun p => { p with events := code :: p.events })).notify 0 0x1080 0
    ([BitVec.ofNat 8 code, BitVec.ofNat 8 x, BitVec.ofNat 8 info, BitVec.ofNat 8 width] ++ le4 v1 ++ le4 v2)

/-- The runtime firmware reports a width too narrow for the streams (R126, R129). -/
def Dev.rateShort (d : Dev) (x : Nat) : Dev :=
  if d.role x ≠ 1 ∨ !d.fw.running then d
  else
    let l := d.streams 0 []
    [false, true].foldl (fun d ul =>
      let w := d.getF (if ul then F.LINK_Px_STAT_TX_WIDTH x else F.LINK_Px_STAT_RX_WIDTH x)
      if d.needBps l ul ≤ budgetBps w then d
      else
        let (b, d) := d.roundFree (budgetBps w) 1000000
        let (n, d) := d.roundFree (d.needBps l ul) 1000000
        d.linkEvent 1 x (b2n ul) w b.toNat n.toNat) d

/-- The packet layer as a full training leaves it (R92, R93, R96): queued packets wait. -/
def PortSt.fresh (p : PortSt) : PortSt :=
  (List.range 5).foldl (fun p v => p.modVc v (fun c => { c with used := 0, limit := none, short := false, freed := 0, lim := 0 }))
    { p with txSeq := 0, rxExp := 0, replay := [], replayTodo := [], timerReplays := 0, starts := 0, ackValid := false, ackDue := false,
             nakDue := false, nakSent := false, scanning := false, txPart := [], txNext := 0, rxStream := [], rxBsn := none }

/-- A port comes up (R66, R68, R69). -/
def Dev.comeUp (d : Dev) (x partner : Nat) : Dev :=
  let txw := popc 16 partner
  let first := ((bitsOf 16 partner).headD 0)
  let d := (d.setF (F.LINK_Px_STAT_TX_WIDTH x) txw).setF (F.LINK_Px_STAT_TX_FIRST x) first
  let d := (d.setF (F.LINK_Px_MASK_TX_MASK x) partner).setF (F.LINK_Px_STAT_STAGE x) stUp
  let d := d.forL (d.lanesOf x) (fun d n =>
    let inn := (d.getF (F.LINK_Px_MASK_RX_MASK x)).testBit (d.getF (F.LINK_Ln_STAT_LOGICAL n)) && !(d.lane n).excluded
    (d.setB (F.LINK_Ln_STAT_IN_SET n) inn).modLane n (fun l => { l with stage := 0 }))
  let d := d.modPort x (fun p => p.fresh)
  let d := (d.setReg (A.FHP_Px_TX_SEQ x) 0).setReg (A.FHP_Px_RX_SEQ x) 0
  let d := (d.setReg (A.FHP_Px_ACK_SEQ x) 0).setB (linkInt x 0) true
  let narrow := decide (txw < d.cfgWidth x ∨ d.getF (F.LINK_Px_STAT_RX_WIDTH x) < d.cfgWidth x)
  let d := d.setB (F.LINK_Px_STAT_DEGRADED x) narrow
  let d := if narrow then (d.setB (linkInt x 2) true).degr 1 else d
  (d.func (2 + x) true).rateShort x

/-! Stages of a training (R60 to R68). -/

/-- The lanes of a port that have not been excluded. -/
def Dev.remaining (d : Dev) (x : Nat) : List Nat := (d.lanesOf x).filter (fun n => !(d.lane n).excluded)

/-- The longest run of contiguous logical lanes in a mask: its first lane and its length, the lower of two equal runs
(R68). -/
def longestRun (w mask : Nat) : Nat × Nat :=
  let len := fun i => ((List.range (w - i)).takeWhile (fun j => mask.testBit (i + j))).length
  (List.range w).foldl (fun best i => if best.2 < len i then (i, len i) else best) (0, 0)

/-- The port's stage follows its lanes (R60): the lowest stage of a remaining lane. On entering AGREE the working set
is chosen, and a run below MIN_WIDTH fails the training (R68, R71). -/
def Dev.stageSync (d : Dev) (x : Nat) : Dev :=
  let st := d.stage x
  if st = 0 ∨ 8 ≤ st then d
  else
    let s := ((d.remaining x).map (fun n => (d.lane n).stage)).foldl min 7
    let d := d.setF (F.LINK_Px_STAT_STAGE x) s
    let first := fun (d : Dev) => d.modPort x (fun p =>
      { p with tries := if Tab.get (fun _ => 0) s p.tries = 0 then Tab.set (fun _ => 0) s 1 p.tries else p.tries })
    if s = 5 ∧ st ≠ 5 then first d
    else if s = 7 ∧ st ≠ 7 then
      let d := first d
      let mask := maskOf ((d.remaining x).map (fun n => d.getF (F.LINK_Ln_STAT_LOGICAL n)))
      let (f, w) := longestRun (d.cfgWidth x) mask
      if w < d.minWidth x then d.portDown x rWidth
      else
        let own := maskOf ((List.range w).map (f + ·))
        let d := ((d.setF (F.LINK_Px_MASK_RX_MASK x) own).setF (F.LINK_Px_STAT_RX_FIRST x) f).setF (F.LINK_Px_STAT_RX_WIDTH x) w
        d.modPort x (fun p => { p with agreeRun := 0, agreeMask := 0 })
    else d

/-- A lane reaches a stage, for the first time or again (R61). -/
def Dev.laneTo (d : Dev) (n s : Nat) : Dev :=
  d.modLane n (fun l => { l with stage := s, trainRun := if s = 4 then 0 else l.trainRun, ident := if s = 4 then none else l.ident,
                                 tries := if Tab.get (fun _ => 0) s l.tries = 0 then Tab.set (fun _ => 0) s 1 l.tries else l.tries })

/-- A lane fails a stage (R61): a retry after re-initialisation, or exclusion, which fails the training when too few
lanes remain (R71). -/
def Dev.laneFail (d : Dev) (x n s : Nat) : Dev :=
  let k := Tab.get (fun _ => 0) s (d.lane n).tries
  if k < 4 then
    (d.laneReset n).modLane n (fun l => { l with stage := 1, reinit := true, tries := Tab.set (fun _ => 0) s (k + 1) l.tries })
  else
    let d := (d.setF (F.LINK_Ln_STAT_FAIL_STAGE n) s).modLane n (fun l => { l with excluded := true, stage := 0 })
    if (d.remaining x).length < d.minWidth x then
      let none_ := (d.lanesOf x).all (fun n => !d.flag (F.LINK_Ln_STAT_SIGNAL n))
      d.portDown x (if s = 1 ∧ none_ then rNoSignal else stageReason s)
    else d.stageSync x

/-- The logical position a map gives the lane at place `i` of a port of width `w` (R64): 0 straight, 1 each port
reversed, 2 the whole reversed. -/
def mapPos (m w i : Nat) : Nat := if m = 0 then i else if m = 1 then i / 4 * 4 + (3 - i % 4) else w - 1 - i

/-- Whether a lane's consistent TRAIN blocks fit a map. -/
def Dev.fits (d : Dev) (x m n : Nat) : Bool :=
  match (d.lane n).ident with
  | some i => decide (8 ≤ (d.lane n).trainRun) && i.widthM1 + 1 == d.cfgWidth x && i.logical == mapPos m (d.cfgWidth x) (n - 4 * x)
  | none => false

/-- The map chosen for a port (R64): the one that the most lanes fit, the earliest of those that tie; settled once
DESKEW has passed. -/
def Dev.chosenMap (d : Dev) (x : Nat) : Nat :=
  if (d.port x).mapSet then (if d.flag (F.LINK_Px_STAT_BOND_REV x) then 2 else if d.flag (F.LINK_Px_STAT_PORT_REV x) then 1 else 0)
  else
    let n := fun m => ((d.lanesOf x).filter (d.fits x m)).length
    let m := if n 0 < n 1 then 1 else 0
    if n m < n 2 then 2 else m

/-- A lane passes IDENTITY if it fits the chosen map; a lane that passed under another map fails the stage (R64). -/
def Dev.identityPass (d : Dev) (x n : Nat) : Dev :=
  let m := d.chosenMap x
  if d.fits x m n then
    let d := (d.setB (F.LINK_Px_STAT_PORT_REV x) (m == 1)).setB (F.LINK_Px_STAT_BOND_REV x) (m == 2)
    let d := (d.setF (F.LINK_Ln_STAT_LOGICAL n) (((d.lane n).ident.map (·.logical)).getD 0)).laneTo n 5
    let wrong := (d.remaining x).filter (fun q => (d.lane q).stage == 5 && !d.fits x m q && !(d.port x).mapSet)
    (d.forL wrong (fun d q => d.laneFail x q 4)).stageSync x
  else d

/-- Coefficients within their bounds (R55): three-bit stage codes, and taps from −127. -/
def clampTaps (w : BitVec 32) : BitVec 32 :=
  wordOf ((List.range 4).map (fun i => (8 * i, let b := bitsN w.toNat (8 * i) 8; if b = 128 then 129 else b)))
def clampCoef (c : EqCoef) : EqCoef :=
  { ctle := c.ctle &&& 0x777, dfe0 := clampTaps c.dfe0, dfe1 := clampTaps c.dfe1, dfe2 := clampTaps c.dfe2 }

/-- The coefficients in a lane's registers. -/
def Dev.putCoef (d : Dev) (n : Nat) (c : EqCoef) : Dev :=
  let c := clampCoef c
  (((d.setReg (A.LINK_Ln_CTLE n) c.ctle).setReg (A.LINK_Ln_DFE0 n) c.dfe0).setReg (A.LINK_Ln_DFE1 n) c.dfe1).setReg (A.LINK_Ln_DFE2 n) c.dfe2
def Dev.coef (d : Dev) (n : Nat) : EqCoef :=
  { ctle := d.reg (A.LINK_Ln_CTLE n), dfe0 := d.reg (A.LINK_Ln_DFE0 n), dfe1 := d.reg (A.LINK_Ln_DFE1 n), dfe2 := d.reg (A.LINK_Ln_DFE2 n) }

/-- What a lane measures, in its registers. -/
def Dev.putEye (d : Dev) (n : Nat) (eye density : Byte) : Dev :=
  (d.setF (F.LINK_Ln_EYE_EYE_MARGIN n) eye.toNat).setF (F.LINK_Ln_EYE_DENSITY n) density.toNat

/-- A fast retrain fails (R77). -/
def Dev.frtFail (d : Dev) (x reason : Nat) : Dev :=
  let d := ((d.count (A.LINK_Px_FRT_FAIL_CNT x)).setB (linkInt x 4) true).portDown x reason
  d.beginTraining x

/-- A lane meets the criterion of its stage (R60, R62), or relocks in a fast retrain (R75, R77). -/
def Dev.lanePass (d : Dev) (n : Nat) (m : LaneMeas) : Dev :=
  let x := d.lead (n / 4)
  let l := d.lane n
  let d' := d.putEye n m.eye m.density
  if d.stage x = stFrt then
    if !l.down then d
    else if m.inverted != d.flag (F.LINK_Ln_STAT_POL_INV n) then d.frtFail x rFrtFail
    else
      let d := (((d'.putCoef n l.snap).setB (F.LINK_Ln_STAT_LOS n) false).setB (F.LINK_Ln_STAT_SIGNAL n) true).setB (F.LINK_Ln_STAT_CDR_LOCK n) true
      (d.setB (F.LINK_Ln_STAT_BLOCK_LOCK n) true).modLane n (fun l => { l with down := false, hdrs := [] })
  else if d.stage x = 0 ∨ 8 ≤ d.stage x ∨ l.reinit ∨ l.excluded then d
  else match l.stage with
    | 1 =>
      let d := ((d'.setB (F.LINK_Ln_STAT_SIGNAL n) true).setB (F.LINK_Ln_STAT_CDR_LOCK n) true).setB (F.LINK_Ln_STAT_LOS n) false
      (d.laneTo n 2).stageSync x
    | 2 =>
      let mode := d.getF (F.LINK_Ln_CTRL_POL_MODE n)
      if (mode = 1 ∧ m.inverted) ∨ (mode = 2 ∧ !m.inverted) then d
      else ((d'.setB (F.LINK_Ln_STAT_POL_INV n) m.inverted).laneTo n 3).stageSync x
    | 3 => ((d'.setB (F.LINK_Ln_STAT_BLOCK_LOCK n) true).laneTo n 4).stageSync x
    | 4 => d'.identityPass x n
    | 6 =>
      if m.eye.toNat < d.getF F.LINK_EQ_CFG_EYE_TARGET then d
      else
        let d := (d'.putCoef n m.coef).setF (F.LINK_Ln_EYE_SNAP_EYE n) m.eye.toNat
        ((d.modLane n (fun l => { l with snap := clampCoef m.coef, msFrozen := false, msErrs := 0, msRoll := false })).laneTo n 7).stageSync x
    | _ => d

/-- LANE_STAGE_PASS (R60). -/
def execLaneStagePass (n : Fin 16) (m : LaneMeas) (s : State) : Host.Outcome State Fault Refusal := run s (·.lanePass n.val m)

/-- The fast retrain succeeds (R76): DATA resumes, and the packet layer replays from its oldest held packet. -/
def Dev.frtDone (d : Dev) (x : Nat) : Dev :=
  let d := (d.setF (F.LINK_Px_STAT_STAGE x) stUp).count (A.LINK_Px_FRT_CNT x)
  let d := d.sendCtrl x 2 0
  d.modPort x (fun p => { p with frtReplying := false, frtReady := false, agreeRun := 0, rxBsn := none, replayTodo := p.replay.map (·.seq) })

/-- The exchange of R66 completes (R66, R76): the partner's mask must leave a width of at least MIN_WIDTH. -/
def Dev.agreed (d : Dev) (x mask : Nat) : Dev :=
  if d.stage x = stFrt then (if mask = d.getF (F.LINK_Px_MASK_TX_MASK x) then d.frtDone x else d)
  else if popc 16 mask < d.minWidth x then d
  else d.comeUp x mask

/-- PORT_STAGE_PASS (R60, R75): DESKEW, AGREE, or the deskew of a fast retrain. -/
def Dev.portPass (d : Dev) (x : Nat) : Dev :=
  let st := d.stage x
  if st = 5 then
    let d := d.forL (d.remaining x) (fun d n => if (d.lane n).stage = 5 then d.laneTo n 6 else d)
    (d.modPort x (fun p => { p with mapSet := true })).stageSync x
  else if st = 7 then (if 0 < (d.port x).agreeRun then d.agreed x (d.port x).agreeMask else d)
  else if st = stFrt then
    if (d.lanesOf x).any (fun n => (d.lane n).down) then d
    else if (d.port x).frtReady ∧ 0 < (d.port x).agreeRun then d.agreed x (d.port x).agreeMask
    else d.modPort x (fun p => { p with frtReady := true, agreeRun := 0 })
  else d

/-- PORT_STAGE_PASS (R60). -/
def execPortStagePass (x : Fin 4) (s : State) : Host.Outcome State Fault Refusal := run s (·.portPass x.val)

/-- A stage timer expires (R61, R67), of a lane or of the port. -/
def Dev.stageTimeout (d : Dev) (x : Nat) (lane : Option Nat) (tie : Bool) : Dev :=
  if tie then d.count A.LINK_TIE
  else match lane with
    | some n =>
      let l := d.lane n
      let x := d.lead (n / 4)
      let busy := l.stage == 1 || l.stage == 2 || l.stage == 3 || l.stage == 4 || l.stage == 6
      if busy ∧ !l.reinit ∧ !l.excluded ∧ 1 ≤ d.stage x ∧ d.stage x ≤ 7 then (d.laneFail x n l.stage).stageSync x else d
    | none =>
      let st := d.stage x
      if st = 5 ∨ st = 7 then
        let k := Tab.get (fun _ => 0) st (d.port x).tries
        if 4 ≤ k then d.portDown x (if st = 5 then rDeskew else rAgree)
        else
          let d := d.modPort x (fun p => { p with tries := Tab.set (fun _ => 0) st (k + 1) p.tries, agreeRun := 0 })
          let d := d.forL (d.remaining x) (fun d n => (d.laneReset n).modLane n (fun l => { l with stage := 1, reinit := true }))
          d.stageSync x
      else d

/-- STAGE_TIMEOUT (R61). -/
def execStageTimeout (x : Fin 4) (lane : Option (Fin 16)) (tie : Bool) (s : State) : Host.Outcome State Fault Refusal :=
  run s (·.stageTimeout x.val (lane.map (·.val)) tie)

/-- LANE_REINIT_DONE (R61). -/
def execLaneReinitDone (n : Fin 16) (s : State) : Host.Outcome State Fault Refusal :=
  run s (fun d => d.modLane n.val (fun l => { l with reinit := false }))

/-! Enable, disable, retrain and retry (R72, R73). -/

/-- Whether a port is the lowest of its bond in the configuration as written: only its LINK_Px_CTRL acts (R70, R82). -/
def Dev.leads (d : Dev) (x : Nat) : Bool := (groupIn (d.getF F.LINK_BOND_BOND) x).headD x == x

/-- EN set: a training starts, where the port's LINK_Px_CTRL acts. -/
def Dev.portEnable (d : Dev) (x : Nat) : Dev :=
  if d.flag (F.LINK_Px_CTRL_EN x) then d
  else
    let d := d.setB (F.LINK_Px_CTRL_EN x) true
    if d.leads x then d.beginTraining x else d

/-- PORT_ENABLE (R73). -/
def execPortEnable (x : Fin 4) (s : State) : Host.Outcome State Fault Refusal := run s (·.portEnable x.val)

/-- EN cleared (R71, R73, R82): LINK_DOWN with REASON DISABLED; only the lowest port of a bond acts. -/
def Dev.portDisable (d : Dev) (x : Nat) : Dev :=
  if !d.flag (F.LINK_Px_CTRL_EN x) then d
  else
    let d := if d.lead x = x then
        (if d.stage x = stDown then d.setF (F.LINK_Px_STAT_REASON x) rDisabled else d.portDown x rDisabled)
      else d
    d.setB (F.LINK_Px_CTRL_EN x) false

/-- PORT_DISABLE (R71). -/
def execPortDisable (x : Fin 4) (s : State) : Host.Outcome State Fault Refusal := run s (·.portDisable x.val)

/-- RETRAIN written (R72): it is cleared when the training starts. -/
def Dev.portRetrain (d : Dev) (x : Nat) : Dev :=
  if d.leads x then (d.setB (F.LINK_Px_CTRL_RETRAIN x) true).beginTraining x else d

/-- PORT_RETRAIN (R72). -/
def execPortRetrain (x : Fin 4) (s : State) : Host.Outcome State Fault Refusal := run s (·.portRetrain x.val)

/-- LINK_RETRY_EXPIRY (R72). -/
def execLinkRetryExpiry (x : Fin 4) (s : State) : Host.Outcome State Fault Refusal :=
  run s (fun d => if d.stage x.val = stDown then d.beginTraining x.val else d)

/-- A lane goes from no signal to signal (R72). -/
def Dev.signalDetect (d : Dev) (n : Nat) : Dev :=
  if d.flag (F.LINK_Ln_STAT_SIGNAL n) then d
  else
    let x := d.lead (n / 4)
    let d := d.setB (F.LINK_Ln_STAT_SIGNAL n) true
    if d.stage x = stDown then d.beginTraining x else d

/-- LANE_SIGNAL_DETECT (R72). -/
def execLaneSignalDetect (n : Fin 16) (s : State) : Host.Outcome State Fault Refusal := run s (·.signalDetect n.val)

/-! Loss of a lane and fast retrain (R74 to R79, R546). -/

/-- FAST_RETRAIN begins. -/
def Dev.frtStart (d : Dev) (x : Nat) (replying : Bool) : Dev :=
  ((d.setF (F.LINK_Px_STAT_STAGE x) stFrt).setB (linkInt x 3) true).modPort x
    (fun p => { p with frtReplying := replying, frtReady := false, agreeRun := 0, agreeMask := 0 })

/-- A working lane is marked down (R74, R75, R77, R78). -/
def Dev.markDown (d : Dev) (n : Nat) : Dev :=
  let x := d.lead (n / 4)
  if !d.flag (F.LINK_Ln_STAT_IN_SET n) ∨ !d.portUp x then d
  else
    let d := (d.setB (F.LINK_Ln_STAT_CDR_LOCK n) false).modLane n (fun l => { l with down := true, trainRun := 0, ident := none, deskew := [], rxRun := none })
    if d.stage x = stFrt then d.modPort x (fun p => { p with frtReady := false, agreeRun := 0 })
    else if d.flag (F.LINK_Px_CTRL_FRT_EN x) then
      (d.sendCtrl x 1 (maskOf [d.getF (F.LINK_Ln_STAT_LOGICAL n)])).frtStart x false
    else d.frtFail x rFrtFail

/-- LANE_LOSS_OF_SIGNAL (R74): a lane outside the working set is not watched. -/
def execLaneLossOfSignal (n : Fin 16) (s : State) : Host.Outcome State Fault Refusal :=
  run s (fun d =>
    if d.flag (F.LINK_Ln_STAT_IN_SET n.val) then
      (((d.setB (F.LINK_Ln_STAT_LOS n.val) true).setB (F.LINK_Ln_STAT_SIGNAL n.val) false)).markDown n.val
    else d.setB (F.LINK_Ln_STAT_SIGNAL n.val) false)

/-- FRT_REQ received (R546): an UP port that has marked no lane down enters FAST_RETRAIN. -/
def Dev.frtReq (d : Dev) (x : Nat) : Dev := if d.stage x = stUp then d.frtStart x true else d

/-- FRT_REQ (R546): the mask names the partner's lanes. -/
def execFrtReq (x : Fin 4) (_laneMask : BitVec 16) (s : State) : Host.Outcome State Fault Refusal := run s (·.frtReq x.val)

/-- FRT_DONE (R76): the partner has resumed DATA; this endpoint resumes on its own exchange, without waiting for it. -/
def execFrtDone (_x : Fin 4) (_laneMask : BitVec 16) (s : State) : Host.Outcome State Fault Refusal := run s (fun d => d)

/-- PORT_ABORT received (R77): a fast retrain fails. -/
def Dev.portAbort (d : Dev) (x : Nat) : Dev := if d.stage x = stFrt then d.frtFail x rFrtFail else d

/-- PORT_ABORT (R77). -/
def execPortAbort (x : Fin 4) (_laneMask : BitVec 16) (s : State) : Host.Outcome State Fault Refusal := run s (·.portAbort x.val)

/-- FRT_DEADLINE (R76, R77). -/
def execFrtDeadline (x : Fin 4) (tie : Bool) (s : State) : Host.Outcome State Fault Refusal :=
  run s (fun d => if d.stage x.val ≠ stFrt then (if tie then d.count A.LINK_TIE else d)
    else if tie then d.count A.LINK_TIE else d.frtFail x.val rFrtFail)

/-! Blocks received. -/

/-- The exchange of R66 advances by one TRAIN block with READY and the partner's mask; 16 in succession complete it. -/
def Dev.agreeBlock (d : Dev) (x : Nat) (ready : Bool) (mask : Nat) : Dev :=
  let p := d.port x
  let k := if !ready then 0 else if 0 < p.agreeRun ∧ p.agreeMask = mask then p.agreeRun + 1 else 1
  let d := d.modPort x (fun p => { p with agreeRun := k, agreeMask := mask })
  if 16 ≤ k then d.agreed x mask else d

/-- A TRAIN block (R59, R60, R64, R66, R72, R75 to R79). -/
def Dev.trainBlock (d : Dev) (n : Nat) (pl : List Byte) : Dev :=
  let x := d.lead (n / 4)
  if pl.length ≠ 64 ∨ crc16 (pl.take 14) ≠ beAt pl 14 2 then
    (d.modLane n (fun l => { l with trainRun := 0 })).modPort x (fun p => { p with agreeRun := 0 })
  else
    let b4 := byteAt pl 4
    let st := b4 % 16
    let frt := b4.testBit 5
    let ready := b4.testBit 4
    let abort := b4.testBit 6
    let role := byteAt pl 5 % 4
    let mask := beAt pl 6 2
    let id : TrainId := { port := byteAt pl 2 / 16 % 4, phys := byteAt pl 2 % 16, logical := byteAt pl 3 % 16, widthM1 := byteAt pl 3 / 16 }
    let own := d.stage x
    let start := decide (1 ≤ st ∧ st ≤ 7)
    if own = stDown then (if start then d.beginTraining x else d)
    else if own = stUp ∨ own = stFrt then
      if !d.flag (F.LINK_Ln_STAT_IN_SET n) then d
      else if !frt ∧ start then
        if own = stFrt then d.frtFail x rRestart else (d.portDown x rRestart).beginTraining x
      else if own = stFrt ∧ frt then
        if abort then d.frtFail x rFrtFail
        else if id.logical ≠ d.getF (F.LINK_Ln_STAT_LOGICAL n) then d.frtFail x rFrtFail
        else if (d.port x).frtReady then d.agreeBlock x ready mask else d
      else d
    else if (d.lane n).excluded then d
    else
      let l := d.lane n
      let d := if l.stage = 4 ∧ !l.reinit then
          let k := if l.ident = some id then min 8 (l.trainRun + 1) else 1
          let d := d.modLane n (fun l => { l with trainRun := k, ident := some id })
          if 8 ≤ k then d.identityPass x n else d
        else d
      if own ≠ 7 then d
      else if role + d.role x ≠ 3 ∨ role = 0 ∨ role = 3 then d.portDown x rRole
      else if abort then d.portDown x rAgree
      else d.agreeBlock x ready mask

/-- TRAIN_BLOCK_RECEIVE (R66). -/
def execTrainBlockReceive (n : Fin 16) (payload : List Byte) (s : State) : Host.Outcome State Fault Refusal :=
  run s (·.trainBlock n.val payload)

/-- The physical lane that carries a logical lane of the receive working set. -/
def Dev.rxLane (d : Dev) (x k : Nat) : Option Nat :=
  (d.lanesOf x).find? (fun n => d.flag (F.LINK_Ln_STAT_IN_SET n) && d.getF (F.LINK_Ln_STAT_LOGICAL n) == k)

/-- The receive working lanes, in ascending logical order. -/
def Dev.rxLanes (d : Dev) (x : Nat) : List Nat :=
  (List.range (d.getF (F.LINK_Px_STAT_RX_WIDTH x))).filterMap (fun i => d.rxLane x (d.getF (F.LINK_Px_STAT_RX_FIRST x) + i))

/-- A lane's waiting blocks without its block of a stripe, where it is the first. -/
def dropStripe (b : Nat) : List (Nat × List Byte) → List (Nat × List Byte)
  | h :: r => if h.1 = b then r else h :: r
  | [] => []

/-- Stripes that every working lane has delivered join the byte stream (R49, R65); a stripe that lacks a block is
spoiled, and the receiver scans for a header after it (R51, R86). -/
def Dev.deskew (d : Dev) (x : Nat) : Nat → Dev
  | 0 => d
  | fuel + 1 =>
    let ls := d.rxLanes x
    let heads := ls.map (fun n => (d.lane n).deskew.head?)
    if ls.isEmpty ∨ heads.any (·.isNone) then d
    else
      let hs := heads.filterMap id
      let b := (d.port x).rxBsn.getD ((hs.headD (0, [])).1)
      let whole := hs.all (fun h => h.1 == b)
      let d := d.forL ls (fun d n => d.modLane n (fun l => { l with deskew := dropStripe b l.deskew }))
      let d := d.modPort x (fun p => { p with
        rxBsn := some ((b + 1) % 16)
        rxStream := (if whole then p.rxStream ++ hs.flatMap (·.2) else p.rxStream)
        scanning := p.scanning || !whole })
      d.deskew x fuel

/-- A header received on a running lane is noted; 8 invalid of any 64 consecutive lose block lock (R63). -/
def Dev.noteHeader (d : Dev) (n : Nat) (ok : Bool) : Dev :=
  let x := d.lead (n / 4)
  let h := (ok :: (d.lane n).hdrs).take 64
  let d := d.modLane n (fun l => { l with hdrs := h })
  if d.portUp x ∧ d.flag (F.LINK_Ln_STAT_IN_SET n) ∧ !(d.lane n).down ∧ 8 ≤ (h.filter (fun b => !b)).length then
    ((d.setB (F.LINK_Ln_STAT_BLOCK_LOCK n) false).modLane n (fun l => { l with hdrs := [] })).markDown n
  else d

/-- A CTRL message is acted on (R52). -/
def Dev.ctrlMsg (d : Dev) (x : Nat) (pl : List Byte) : Dev :=
  if crc16 (pl.take 62) ≠ beAt pl 62 2 then d
  else match byteAt pl 0 with
    | 1 => d.frtReq x
    | 3 => d.portAbort x
    | _ => d

/-- A block received (R43, R48, R51): the symbols on the lane, stuff symbols included. -/
def Dev.blockReceive (d : Dev) (n : Nat) (symbols : List Level) : Dev :=
  let x := d.lead (n / 4)
  let (syms, rr, del) := destuffing (d.lane n).rxRun symbols
  let d := (d.modLane n (fun l => { l with rxRun := rr })).count (A.LINK_Ln_STUFF_CNT n) del
  let bits := ofLevels (d.flag (F.LINK_Ln_STAT_POL_INV n)) syms
  let h := bitsNat (bits.take 16)
  let type := bitsN h 8 2
  let bsn := bitsN h 4 4
  if syms.length ≠ 264 ∨ h / 1024 ≠ 0b100010 ∨ h % 16 ≠ hchk type bsn then
    ((d.count (A.LINK_Ln_HDR_ERR n)).modLane n (fun l => { l with msErrs := l.msErrs + 1 })).noteHeader n false
  else
    let d := d.noteHeader n true
    let k := d.getF (F.LINK_Ln_STAT_LOGICAL n)
    let body := bits.drop 16
    let clear := bitsBytes 64 (scrambled (d.seed x k) body)
    match type with
    | 0 =>
      if d.stage x = stUp ∧ d.flag (F.LINK_Ln_STAT_IN_SET n) ∧ !(d.lane n).down then
        (d.modLane n (fun l => { l with deskew := l.deskew ++ [(bsn, clear)] })).deskew x 16
      else d
    | 1 => d
    | 2 => d.trainBlock n (bitsBytes 64 body)
    | _ => if d.flag (F.LINK_Ln_STAT_IN_SET n) then d.ctrlMsg x clear else d

/-- BLOCK_RECEIVE (R51). -/
def execBlockReceive (n : Fin 16) (symbols : List Level) (s : State) : Host.Outcome State Fault Refusal :=
  run s (·.blockReceive n.val symbols)

/-! Equalisation of a running lane (R56 to R58). -/

/-- Whether a condition that freezes adaptation holds (R56). -/
def Dev.mustFreeze (d : Dev) (n : Nat) (m : EqMeas) : Bool :=
  decide (m.density.toNat < d.getF F.LINK_EQ_CFG_DENSITY_FLOOR ∨ m.eye.toNat < d.getF F.LINK_EQ_CFG_EYE_FLOOR) ||
    d.flag (F.LINK_Ln_CTRL_EQ_HOLD n)

/-- The lane's measurements; the coefficients move only while the lane is not frozen (R56). -/
def Dev.eqNote (d : Dev) (n : Nat) (m : EqMeas) : Dev :=
  let d := d.putEye n m.eye m.density
  if d.flag (F.LINK_Ln_STAT_EQ_FROZEN n) then d else d.putCoef n m.coef

/-- EQ_FREEZE (R56). -/
def execEqFreeze (n : Fin 16) (m : EqMeas) (s : State) : Host.Outcome State Fault Refusal :=
  run s (fun d =>
    if d.mustFreeze n.val m then
      ((d.eqNote n.val m).setB (F.LINK_Ln_STAT_EQ_FROZEN n.val) true).modLane n.val (fun l => { l with msFrozen := true })
    else d)

/-- EQ_RESUME (R56). -/
def execEqResume (n : Fin 16) (m : EqMeas) (s : State) : Host.Outcome State Fault Refusal :=
  run s (fun d => if d.mustFreeze n.val m then d else (d.putEye n.val m.eye m.density).setB (F.LINK_Ln_STAT_EQ_FROZEN n.val) false)

/-- The 1 ms snapshot (R57). -/
def Dev.eqSnapshot (d : Dev) (n : Nat) (m : EqMeas) : Dev :=
  let d := d.eqNote n m
  let l := d.lane n
  let low := decide (256 * m.eye.toNat < d.getF (F.LINK_Ln_EYE_SNAP_EYE n) * d.getF F.LINK_EQ_CFG_DIVERGE)
  let good := !l.msFrozen && l.msErrs == 0 && !l.msRoll && decide (d.getF F.LINK_EQ_CFG_EYE_TARGET ≤ m.eye.toNat) && !low
  let d := if good then (d.setF (F.LINK_Ln_EYE_SNAP_EYE n) m.eye.toNat).modLane n (fun l => { l with snap := d.coef n }) else d
  d.modLane n (fun l => { l with msFrozen := d.flag (F.LINK_Ln_STAT_EQ_FROZEN n), msErrs := 0, msRoll := false })

/-- EQ_SNAPSHOT (R57). -/
def execEqSnapshot (n : Fin 16) (m : EqMeas) (s : State) : Host.Outcome State Fault Refusal := run s (·.eqSnapshot n.val m)

/-- Divergence (R58): every coefficient from the last good snapshot. -/
def Dev.eqRollback (d : Dev) (n : Nat) (m : EqMeas) : Dev :=
  let l := d.lane n
  let low := decide (256 * m.eye.toNat < d.getF (F.LINK_Ln_EYE_SNAP_EYE n) * d.getF F.LINK_EQ_CFG_DIVERGE)
  if d.flag (F.LINK_Ln_STAT_EQ_FROZEN n) ∨ (!low ∧ l.msErrs < 4) then d
  else
    let d := ((d.putEye n m.eye m.density).putCoef n l.snap).count (A.LINK_Ln_ROLLBACK_CNT n)
    (d.setB (linkInt (d.lead (n / 4)) 5) true).modLane n (fun l => { l with msRoll := true, msErrs := 0 })

/-- EQ_ROLLBACK (R58). -/
def execEqRollback (n : Fin 16) (m : EqMeas) (s : State) : Host.Outcome State Fault Refusal := run s (·.eqRollback n.val m)

/-! Register behaviours (R36, R46). -/

/-- A write of LINK_BOND: a reserved code leaves the field (R36). -/
def Dev.bondWrite (d : Dev) (v : Nat) : Dev := if 4 < v % 8 then d else d.setF F.LINK_BOND_BOND (v % 8)

/-- A write of a seed: zero is ignored (R46). -/
def Dev.seedWrite (d : Dev) (k v : Nat) : Dev := if v % 2 ^ 23 = 0 then d else d.setF (F.LINK_SEEDk_SEED k) v

/-- A write of LINK_Px_CTRL: EN and RETRAIN act. -/
def Dev.portCtrlWrite (d : Dev) (x v : Nat) : Dev :=
  let d := ((d.setF (F.LINK_Px_CTRL_FRT_EN x) (bitsN v 8 1)).setF (F.LINK_Px_CTRL_MIN_WIDTH x) (bitsN v 3 5)).setF (F.LINK_Px_CTRL_ROLE x) (bitsN v 1 2)
  let was := d.flag (F.LINK_Px_CTRL_EN x)
  let d := if v.testBit 0 then d.portEnable x else d.portDisable x
  if v.testBit 9 ∧ was then d.portRetrain x else if v.testBit 9 ∧ !v.testBit 0 then d.setB (F.LINK_Px_CTRL_RETRAIN x) true else d

/-- A write of LINK_Ln_CTRL: EQ_HOLD freezes at once (R56). -/
def Dev.laneCtrlWrite (d : Dev) (n v : Nat) : Dev :=
  let d := d.setReg (A.LINK_Ln_CTRL n) (wordOf [(14, bitsN v 14 1), (0, v % 8192)])
  if v.testBit 14 then (d.setB (F.LINK_Ln_STAT_EQ_FROZEN n) true).modLane n (fun l => { l with msFrozen := true }) else d

end Sys2Proof.Machine
end

