-- ==== Sys2Proof/Machine/LinkPacket.lean ====
section
/-! DEFINITION. Packets, virtual channels, credits and replay, cascade routing and timing messages
(03_link_messages.md, R83 to R97, R113 to R124). -/

namespace Sys2Proof.Machine

/-! Packets as bytes (R83 to R85). -/

/-- The 16 header bytes of a packet (R84). -/
def pktHeader (p : Pkt) (seq : Nat) : List Byte :=
  let h := [0xC3, BitVec.ofNat 8 (p.vc % 8 * 32 + p.mod % 4 * 8 + b2n p.bcast * 4 + b2n p.psum * 2)] ++
    beBytes 2 (p.stream % 4096 * 16 + p.kind % 16) ++ beBytes 3 seq ++ [BitVec.ofNat 8 (p.hops % 4)] ++
    beBytes 2 p.payload.length ++ [0, 0, 0, 0]
  h ++ beBytes 2 (crc16 h)

/-- A packet as sent: header, payload, padding and CRC-32. -/
def pktBytes (p : Pkt) (seq : Nat) : List Byte :=
  let b := pktHeader p seq ++ p.payload ++ List.replicate ((p.payload.length + 3) / 4 * 4 - p.payload.length) 0
  b ++ beBytes 4 (crc32 b)

/-- The VC codes of R84. -/
def vcU : Nat := 0
def vcC : Nat := 1
def vcT : Nat := 2
def vcM : Nat := 3
def vcCtl : Nat := 7

/-- Whether a header is one: START and HCRC (R84, R86). -/
def headerGood (b : List Byte) : Bool := b.headD 0 == 0xC3 && crc16 (b.take 14) == beAt b 14 2

/-- Whether a packet that follows a good header is whole and good (R86): its VC, LEN and CRC-32. -/
def packetGood (b : List Byte) : Bool :=
  let n := beAt b 8 2
  let vc := byteAt b 1 / 32
  decide (n ≤ 16360) && (decide (vc ≤ 4) || vc == 7) && b.length == packetBytes n &&
    crc32 (b.take (packetBytes n - 4)) == beAt b (packetBytes n - 4) 4

/-- The fields of a packet's bytes, with its SEQ. -/
def parsePkt (b : List Byte) : Pkt × Nat :=
  let b1 := byteAt b 1
  ({ vc := b1 / 32, mod := b1 / 8 % 4, bcast := b1.testBit 2, psum := b1.testBit 1, stream := beAt b 2 2 / 16,
     kind := beAt b 2 2 % 16, hops := byteAt b 7 % 4, payload := (b.drop 16).take (beAt b 8 2) }, beAt b 4 3)

/-- What the receiver finds next on the byte stream (R86): nothing whole yet, a discard, or a packet; with what is
left. -/
inductive Found where
  | wait (rest : List Byte)
  | bad (rest : List Byte)
  | packet (bytes rest : List Byte)
  deriving DecidableEq, Repr

/-- The next packet of a byte stream, from an 8-byte boundary; `scan`: the receiver scans for a header (R86). -/
def findPacket (scan : Bool) : Nat → List Byte → Found
  | 0, s => .wait s
  | fuel + 1, s =>
    if s.length < 8 then .wait s
    else if !scan ∧ (s.take 8).all (· == 0) then findPacket scan fuel (s.drop 8)
    else if s.length < 16 then .wait s
    else if !headerGood s then (if scan then findPacket scan fuel (s.drop 8) else .bad (s.drop 8))
    else
      let n := beAt s 8 2
      if 16360 < n then .bad (s.drop 16)
      else if s.length < packetBytes n then .wait s
      else if packetGood (s.take (packetBytes n)) then .packet (s.take (packetBytes n)) (s.drop ((packetBytes n + 7) / 8 * 8))
      else .bad (s.drop 16)

/-! Timestamps (R121, R123). -/

/-- Whether a T payload holds an event message (R120). -/
def isEvent (pl : List Byte) : Bool := !pl.isEmpty && decide (byteAt pl 0 % 16 ≤ 3)

/-- A timestamp of the present, in eighths of a nanosecond: within 0.5 ns of the time base. -/
def Dev.stampNow (d : Dev) : Nat × Dev :=
  let (e, d) := d.anyNat
  (d.time.now.toFrac / 2 ^ 29 + 4 - e % 9, d)

/-- A timestamp in 2^-16 ns. -/
def Dev.stamp16 (d : Dev) : Nat × Dev := let (t, d) := d.stampNow; (t * 8192, d)

/-- A message with a residence time added to its correctionField, in 2^-16 ns (R123). -/
def addCorrection (pl : List Byte) (res : Int) : List Byte :=
  pl.take 8 ++ beBytes 8 (unsgn 64 ((beAt pl 8 8 : Int) + res)) ++ pl.drop 16

/-! Sending bytes (R49, R50, R83). -/

/-- The byte stream cut into payloads, each sent as a DATA block on the lane whose turn it is. -/
def Dev.cutBlocks (x : Nat) : Nat → Dev → Dev
  | 0, d => d
  | fuel + 1, d =>
    let p := d.port x
    if p.txPart.length < 64 then d
    else
      let ls := d.txLanes x
      let n := ls.getD p.txNext 0
      let late := (ls.map (fun q => (d.lane q).txMark)).foldl max 0
      let d := if p.txNext = 0 then d.modPort x (fun p => { p with txPrev := late }) else d
      let prev := (d.port x).txPrev
      let d := if (d.lane n).txSyms < prev then d.sendBlock x n (blockLevels 1 p.txBsn (d.seed x (n - 4 * x)) []) else d
      let d := d.sendBlock x n (blockLevels 0 p.txBsn (d.seed x (n - 4 * x)) (p.txPart.take 64))
      let last := decide (ls.length ≤ p.txNext + 1)
      Dev.cutBlocks x fuel (d.modPort x (fun p => { p with
        txPart := p.txPart.drop 64
        txNext := (if last then 0 else p.txNext + 1)
        txBsn := (if last then (p.txBsn + 1) % 16 else p.txBsn) }))

/-- Bytes appended to a port's byte stream, from an 8-byte boundary; `aligned`: from the first byte of a stripe. -/
def Dev.sendBytes (d : Dev) (x : Nat) (aligned : Bool) (bs : List Byte) : Dev :=
  let p := d.port x
  let w := 64 * (d.txLanes x).length
  let pos := p.txNext * 64 + p.txPart.length
  let gap := if aligned ∧ 0 < w then (w - pos % w) % w else 0
  let all := p.txPart ++ List.replicate gap 0 ++ bs ++ List.replicate ((8 - bs.length % 8) % 8) 0
  let d := d.modPort x (fun p => { p with txPart := all, txOut := [], txLast := bs })
  if w = 0 then d else Dev.cutBlocks x (all.length / 64 + 1) d

/-- The payload of a LINK record (R495): port, direction, and header bytes 0 to 9. -/
def linkRecord (x : Nat) (egress : Bool) (b : List Byte) : Nat := x * 2 ^ 94 + b2n egress * 2 ^ 93 + beNat (b.take 10)

/-- A packet sent on a port: a T packet with an event message begins a stripe, and a forwarded one carries the
correction for this transmission (R120, R123). -/
def Dev.sendPkt (d : Dev) (x : Nat) (p : Pkt) (seq : Nat) : Dev :=
  let ev := p.vc == vcT && isEvent p.payload
  let d := d.trace 4 (linkRecord x true (pktHeader p seq))
  match p.stamp with
  | some t =>
    let (e, d) := d.stamp16
    d.sendBytes x ev (pktBytes { p with payload := addCorrection p.payload ((e : Int) - (t : Int)) } seq)
  | none => d.sendBytes x ev (pktBytes p seq)

/-! Queues. -/

/-- The bytes of the packets in a port's transmit queues, which hold what is forwarded (R115). -/
def PortSt.queued (p : PortSt) : Nat :=
  (((List.range 5).flatMap (fun v => (p.vc v).txq)).map (fun k => packetBytes k.payload.length)).foldl (· + ·) 0

/-- Discards of packets for a port (R82). -/
def Dev.discards (d : Dev) (x n : Nat) : Dev := d.count64 (A.LINK_Px_DISCARD_LO x) (A.LINK_Px_DISCARD_HI x) n

/-- A packet queued on its channel; discarded where the partner's queue is too short (R88). -/
def Dev.enqueue (d : Dev) (x : Nat) (p : Pkt) : Dev :=
  if ((d.port x).vc p.vc).short then (d.discards x 1).payBack x [p]
  else d.modPort x (fun q => q.modVc p.vc (fun v => { v with txq := v.txq ++ [p] }))

/-! Acceptance and routing (R92, R93, R114 to R119). -/

/-- A bit of FHP_INT_STAT raised. -/
def Dev.fhpInt (d : Dev) (b : Nat) : Dev := d.setB ⟨A.FHP_INT_STAT, b, 1⟩ true

/-- A packet accepted for this module waits in its channel's ingress queue; M frames and B packets of a reserved kind
are looked at at once. -/
def Dev.deliver (d : Dev) (x : Nat) (p : Pkt) : Writes × Dev :=
  let d := d.modPort x (fun q => q.modVc p.vc (fun v => { v with rxq := v.rxq ++ [{ pkt := p, at_ := d.time.now }] }))
  if p.vc = vcM then d.refill
  else if p.vc = vcB then ([], Dev.bulkPurge x 16 d)
  else ([], d)

/-- The ingress credits of a packet return (R92). -/
def Dev.freePkt (d : Dev) (x : Nat) (p : Pkt) : Dev := d.freeRx x p.vc (pktUnits p.payload.length)

/-- A packet queued on the port it is forwarded to (R115, R116): HOPS counts, and an event message keeps its ingress
time; `owe`: its ingress credits return when it leaves. -/
def Dev.forward (d : Dev) (y : Nat) (p : Pkt) (owe : Bool) : Dev :=
  let p := { p with hops := (p.hops + 1) % 4, owe := owe }
  if p.vc = vcT ∧ isEvent p.payload then
    let (t, d) := d.stamp16
    d.enqueue y { p with stamp := some t }
  else d.enqueue y p

/-- A packet that cannot be forwarded downward (R119). -/
def Dev.fwdDrop (d : Dev) : Dev :=
  let d := (d.count A.FHP_FWD_DROP).fhpInt 12
  match d.downstream with
  | some y => d.discards y 1
  | none => d

/-- A packet that goes on downward (R115, R119): its ingress credits return at once while the forwarding queue has
room, else when it leaves; `copy`: a local copy returns them. -/
def Dev.forwardDown (d : Dev) (x : Nat) (p : Pkt) (copy : Bool) : Dev :=
  match d.downstream.filter (fun y => d.portUp y) with
  | some y =>
    let owe := !copy && decide (262144 < (d.port y).queued + packetBytes p.payload.length)
    (if copy || owe then d else d.freePkt x p).forward y p owe
  | none => (if copy then d else d.freePkt x p).fwdDrop

/-- A packet discarded for its MOD and BCAST (R114). -/
def Dev.misroute (d : Dev) (x : Nat) (p : Pkt) : Dev :=
  ((d.freePkt x p).count A.FHP_MISROUTE).fhpInt 13

/-- An accepted packet goes where its port, MOD and BCAST say (R114, R116). -/
def Dev.route (d : Dev) (x : Nat) (p : Pkt) : Writes × Dev :=
  let pos := d.getF F.FHP_CTRL_POS
  let last := d.flag F.FHP_CTRL_LAST
  if d.role x = 1 then
    if p.bcast then
      if p.mod ≤ pos then
        let (ws, d) := d.deliver x p
        (ws, if last then d else d.forwardDown x p true)
      else ([], d.misroute x p)
    else if p.mod = pos then d.deliver x p
    else if pos < p.mod ∧ !last then ([], d.forwardDown x p false)
    else ([], d.misroute x p)
  else if d.role x = 2 then
    if p.vc = vcU ∧ p.psum then d.deliver x p
    else match d.upstream with
      | some y =>
        if p.vc = vcU ∧ !d.portUp y then ([], (d.freePkt x p).discards y 1)
        else ([], d.forward y p true)
      | none => ([], d.misroute x p)
  else ([], d.misroute x p)

/-- The minimum queue of a channel, in 64-byte units (R88), and the module's own (R87). -/
def minUnits : Nat → Nat
  | 0 => 256
  | 1 => 64
  | 2 => 64
  | 3 => 128
  | _ => 256
def ownUnits : Nat → Nat
  | 0 => 2048
  | 1 => 512
  | 2 => 64
  | 3 => 256
  | _ => 1024

/-- The place of a channel's limit in the payload of a link control packet (R90). -/
def limAt (v : Nat) : Nat := 4 + 2 * v

/-- Whether the module sends on a channel of a port: control-plane sections only downward (R87). -/
def Dev.sendsOn (d : Dev) (x v : Nat) : Bool := d.role x == 2 || v != vcC

/-- A replay of every held packet starts (R94). -/
def Dev.startReplay (d : Dev) (x : Nat) : Dev :=
  if (d.port x).replay.isEmpty then d
  else (d.count (A.FHP_Px_REPLAY_CNT x)).modPort x (fun p => { p with replayTodo := p.replay.map (·.seq) })

/-- A limit received (R88, R92). -/
def Dev.takeLimit (d : Dev) (x v lim : Nat) : Dev :=
  let c := (d.port x).vc v
  let d := d.modPort x (fun p => p.modVc v (fun c => { c with limit := some lim }))
  if c.limit.isSome ∨ minUnits v ≤ lim ∨ !d.sendsOn x v then d
  else
    let d := (d.discards x c.txq.length).payBack x c.txq
    let d := d.modPort x (fun p => p.modVc v (fun c => { c with short := true, txq := [] }))
    let d := d.fhpInt 16
    if d.fw.running then d.linkEvent 2 x v (d.getF (F.LINK_Px_STAT_TX_WIDTH x)) lim (minUnits v) else d

/-- A link control packet is acted on (R90, R92, R94): acknowledgement, limits, NAK. -/
def Dev.linkControl (d : Dev) (x : Nat) (pl : List Byte) : Dev :=
  let ack := beAt pl 0 3
  let b3 := byteAt pl 3
  let p := d.port x
  let covers := fun (h : Held) => b3.testBit 0 && decide ((ack + 2 ^ 24 - h.seq) % 2 ^ 24 < 2 ^ 23)
  let kept := p.replay.filter (fun h => !covers h)
  let moved := decide (kept.length < p.replay.length)
  let d := if b3.testBit 0 then d.setF (F.FHP_Px_ACK_SEQ_SEQ x) ack else d
  let d := d.modPort x (fun p => { p with
    replay := kept
    replayTodo := p.replayTodo.filter (fun s => kept.any (fun h => h.seq == s))
    timerReplays := (if moved then 0 else p.timerReplays) })
  let d := d.forN 5 (fun d v => d.takeLimit x v (beAt pl (limAt v) 2))
  if b3.testBit 1 then (d.count (A.FHP_Px_NAK_CNT x)).startReplay x else d

/-- A discard of R86: counted, a NAK due, and the receiver scans for a header. -/
def Dev.badPacket (d : Dev) (x : Nat) : Dev :=
  (d.count (A.FHP_Px_CRC_ERR x)).modPort x (fun p => { p with nakDue := p.nakDue || !p.nakSent, scanning := true })

/-- A packet that passes both CRCs (R90, R93). -/
def Dev.packetIn (d : Dev) (x : Nat) (b : List Byte) : Writes × Dev :=
  let (p, seq) := parsePkt b
  let d := (d.modPort x (fun q => { q with scanning := false })).trace 4 (linkRecord x false b)
  if p.vc = vcCtl then ([], d.linkControl x p.payload)
  else
    let q := d.port x
    let k := (seq + 2 ^ 24 - q.rxExp) % 2 ^ 24
    if k = 0 then
      let e := (q.rxExp + 1) % 2 ^ 24
      let d := d.modPort x (fun q => { q with rxExp := e, ackValid := true, ackDue := true, nakSent := false, nakDue := false })
      let d := d.setF (F.FHP_Px_RX_SEQ_SEQ x) e
      d.route x p
    else if k < 2 ^ 23 then ([], d.modPort x (fun q => { q with nakDue := q.nakDue || !q.nakSent }))
    else ([], (d.count (A.FHP_Px_DUP_CNT x)).modPort x (fun q => { q with ackDue := true }))

/-- Bytes of one packet judged and taken (R86). -/
def Dev.packetBytesIn (d : Dev) (x : Nat) (b : List Byte) : Writes × Dev :=
  if headerGood b ∧ packetGood b then d.packetIn x b else ([], d.badPacket x)

/-- PACKET_RECEIVE: the packet given, or else the next on the port's byte stream. -/
def Dev.packetReceive (d : Dev) (x : Nat) (bytes : List Byte) : Writes × Dev :=
  if d.stage x ≠ stUp then ([], d)
  else if !bytes.isEmpty then d.packetBytesIn x bytes
  else
    let s := (d.port x).rxStream
    let keep := fun (d : Dev) (r : List Byte) => d.modPort x (fun p => { p with rxStream := r })
    match findPacket (d.port x).scanning (s.length / 8 + 1) s with
    | .wait r => ([], keep d r)
    | .bad r => ([], (keep d r).badPacket x)
    | .packet b r => (keep d r).packetIn x b

/-- PACKET_RECEIVE (R86). -/
def execPacketReceive (x : Fin 4) (bytes : List Byte) (s : State) : Host.Outcome State Fault Refusal :=
  runW s (fun _ d => d.packetReceive x.val bytes)

/-- LINK_CONTROL_RECEIVE (R90): one that fails a check is discarded as R86 has it. -/
def Dev.linkControlReceive (d : Dev) (x : Nat) (b : List Byte) : Dev :=
  if d.stage x ≠ stUp then d
  else if !(headerGood b && packetGood b) then d.badPacket x
  else if (parsePkt b).1.vc = vcCtl then (d.packetIn x b).2
  else d

/-- LINK_CONTROL_RECEIVE (R90). -/
def execLinkControlReceive (x : Fin 4) (bytes : List Byte) (s : State) : Host.Outcome State Fault Refusal :=
  run s (·.linkControlReceive x.val bytes)

/-- Bytes the jitter buffer holds (R109). -/
def Dev.jitterUsed (d : Dev) : Nat := (d.fhp.secs.map (fun s => storedBytes s.nprb s.comp)).foldl (· + ·) 0

/-- The limit to grant on a channel (R87, R92, R109, R147, R413): U only while the jitter buffer has room for a whole
queue, M only while the mailbox is served, B only while no weight write is held. -/
def Dev.grant (d : Dev) (x v : Nat) : Nat :=
  let c := (d.port x).vc v
  let open_ :=
    if v = vcU then d.role x != 1 || decide (d.jitterUsed + 64 * ownUnits vcU ≤ d.regionSize 2)
    else if v = vcM then d.role x != 1 || d.flag (F.MBOX_m_CTRL_EN d.linkBox)
    else if v = vcB then !d.beam.held.testBit x
    else true
  if open_ then (c.freed + ownUnits v) % 65536 else c.lim

/-- LINK_CONTROL_SEND (R90, R91). -/
def Dev.linkControlSend (d : Dev) (x : Nat) : Dev :=
  if d.stage x ≠ stUp then d
  else
    let d := d.modPort x (fun p => (List.range 5).foldl (fun p v => p.modVc v (fun c => { c with lim := d.grant x v })) p)
    let p := d.port x
    let pl := beBytes 3 ((p.rxExp + 2 ^ 24 - 1) % 2 ^ 24) ++ [BitVec.ofNat 8 (2 * b2n p.nakDue + b2n p.ackValid)] ++
      (List.range 5).flatMap (fun v => beBytes 2 (p.vc v).lim) ++ [0, 0]
    (d.sendPkt x { vc := vcCtl, payload := pl } 0).modPort x (fun p => { p with
      ackDue := false, nakSent := p.nakSent || p.nakDue, nakDue := false })

/-- LINK_CONTROL_SEND (R91). -/
def execLinkControlSend (x : Fin 4) (s : State) : Host.Outcome State Fault Refusal := run s (·.linkControlSend x.val)

/-- REPLAY_TIMEOUT (R94, R95). -/
def Dev.replayTimeout (d : Dev) (x : Nat) (tie : Bool) : Dev :=
  if d.stage x ≠ stUp ∨ (d.port x).replay.isEmpty then d
  else if tie then d.count A.FHP_TIE
  else
    let d := d.startReplay x
    let n := (d.port x).timerReplays + 1
    let d := d.modPort x (fun p => { p with timerReplays := n })
    if n = max 1 (d.getF F.FHP_REPLAY_STALL_LIMIT) then
      let d := (d.fhpInt x).count (A.FHP_Px_STALL_CNT x)
      if d.fw.running then (d.portDisable x).portEnable x else d
    else d

/-- REPLAY_TIMEOUT (R94). -/
def execReplayTimeout (x : Fin 4) (tie : Bool) (s : State) : Host.Outcome State Fault Refusal := run s (·.replayTimeout x.val tie)

/-! Starting packets (R89, R92, R94). -/

/-- The packet that waits first on a channel: queued, or on the UPSTREAM port a frame of the mailbox that the M
channel serves. -/
def Dev.waiting (d : Dev) (x v : Nat) : Option Pkt :=
  match ((d.port x).vc v).txq with
  | p :: _ => some p
  | [] =>
    if v = vcM ∧ d.role x = 1 then
      (d.mbx d.linkBox).outRing.head?.map (fun f => { vc := vcM, mod := d.getF F.FHP_CTRL_POS, payload := f })
    else none

/-- Whether a packet has the credits and the replay room it needs (R92, R94, R96). -/
def Dev.maySend (d : Dev) (x : Nat) (p : Pkt) : Bool :=
  let c := (d.port x).vc p.vc
  let held := ((d.port x).replay.map (fun h => packetBytes h.pkt.payload.length)).foldl (· + ·) 0
  !c.short && decide (held + packetBytes p.payload.length ≤ 262144) &&
    (match c.limit with
     | some l => decide ((l + 2 ^ 17 - (c.used + pktUnits p.payload.length)) % 65536 < 32768)
     | none => false)

/-- The first of some channels with a packet that may be sent. -/
def Dev.choose (d : Dev) (x : Nat) (vs : List Nat) : Option Pkt :=
  vs.findSome? (fun v => (d.waiting x v).bind (fun p => if d.maySend x p then some p else none))

/-- A packet taken from its queue or its mailbox. -/
def Dev.takeWaiting (d : Dev) (x v : Nat) : Dev :=
  match ((d.port x).vc v).txq with
  | p :: r => (d.modPort x (fun q => q.modVc v (fun c => { c with txq := r }))).payBack x [p]
  | [] =>
    let m := d.linkBox
    let d := d.modMbx m (fun b => { b with outRing := b.outRing.drop 1 })
    d.setF F.MBOX_INT_STAT_OUT_SPACE (setBitN (d.getF F.MBOX_INT_STAT_OUT_SPACE) m true)

/-- MEM_READ ends once its last packet has left (R475). -/
def Dev.bulkSent (d : Dev) (x : Nat) (p : Pkt) : Dev :=
  if d.role x ≠ 1 ∨ p.vc ≠ vcB ∨ p.kind ≠ 4 ∨ ((d.port x).vc vcB).txq.any (fun q => q.kind == 4 && q.mod == p.mod) then d
  else d.finishWhere (fun o => o.opcode == 0x9002) 0x00 0 []

/-- A new sequenced packet sent. -/
def Dev.sendNew (d : Dev) (x : Nat) (p : Pkt) : Dev :=
  let d := d.takeWaiting x p.vc
  let seq := (d.port x).txSeq
  let p := { p with owe := false }
  let d := d.modPort x (fun q => (q.modVc p.vc (fun c => { c with used := (c.used + pktUnits p.payload.length) % 65536 })))
  let d := d.modPort x (fun q => { q with
    txSeq := (seq + 1) % 2 ^ 24, starts := (q.starts + 1) % 64, replay := q.replay ++ [{ seq := seq, pkt := p, sent := 1 }] })
  let d := d.setF (F.FHP_Px_TX_SEQ_SEQ x) ((seq + 1) % 2 ^ 24)
  (d.sendPkt x p seq).bulkSent x p

/-- PACKET_START (R89): a replay first, else the waiting packet of the highest priority with credits. -/
def Dev.packetStart (d : Dev) (x : Nat) : Dev :=
  if d.stage x ≠ stUp then d
  else match (d.port x).replayTodo with
    | s :: r =>
      match (d.port x).replay.find? (fun h => h.seq == s) with
      | some h =>
        let d := d.modPort x (fun p => { p with
          replayTodo := r, starts := (p.starts + 1) % 64,
          replay := p.replay.map (fun k => if k.seq = s then { k with sent := k.sent + 1 } else k) })
        d.sendPkt x h.pkt s
      | none => d.modPort x (fun p => { p with replayTodo := r })
    | [] =>
      let usual := [vcT, vcC, vcU, vcM, vcB]
      let order := if (d.port x).starts = 63 then [vcM, vcB] ++ usual else usual
      match d.choose x order with
      | some p => d.sendNew x p
      | none => d

/-- PACKET_START (R89): the mailbox frames of a channel whose partner is too short are discarded (R88). -/
def execPacketStart (x : Fin 4) (s : State) : Host.Outcome State Fault Refusal :=
  run s (fun d =>
    let n := (d.mbx d.linkBox).outRing.length
    let d := if ((d.port x.val).vc vcM).short ∧ d.role x.val = 1 then
        (d.discards x.val n).modMbx d.linkBox (fun b => { b with outRing := [] })
      else d
    d.packetStart x.val)

/-! Timing messages (R120 to R124, R130). -/

/-- An entry for the timestamp FIFO (R121, R130): lost when it is full. -/
def Dev.pushTs (d : Dev) (e : TsEntry) : Dev :=
  if 64 ≤ d.fhp.ts.length then d.fhpInt 14
  else (d.modFhp (fun f => { f with ts := f.ts ++ [e] })).fhpInt 15

/-- TIMING_MESSAGE (R121, R124): an event message is stamped; one that arrived leaves the T queue. -/
def Dev.timingMessage (d : Dev) (x : Nat) (egress replayed : Bool) (msg : List Byte) : Dev :=
  let d := match ((d.port x).vc vcT).rxq with
    | i :: r =>
      if !egress ∧ i.pkt.payload = msg then
        (d.modPort x (fun p => p.modVc vcT (fun v => { v with rxq := r }))).freeRx x vcT (pktUnits msg.length)
      else d
    | [] => d
  if !isEvent msg then d
  else
    let (t, d) := d.stampNow
    let n := t / 8
    d.pushTs { replayed := replayed && egress, egress := egress, port := x, msgType := byteAt msg 0 % 16, seqId := beAt msg 30 2,
               sec := n / 1000000000 % 2 ^ 64, ns := n % 1000000000, frac := t % 8 }

/-- TIMING_MESSAGE (R121). -/
def execTimingMessage (x : Fin 4) (egress replayed : Bool) (msg : List Byte) (s : State) : Host.Outcome State Fault Refusal :=
  run s (·.timingMessage x.val egress replayed msg)

/-- A read of FHP_TS_INFO (R8, R130): the head's words are latched and it is removed. -/
def Dev.tsFifoRead (d : Dev) (r : Requester) : Dev :=
  let ws := d.tsHead
  let d := d.latchWords r A.FHP_TS_INFO ws
  { d with rdata := ws.headD 0, fhp := { d.fhp with ts := d.fhp.ts.drop 1 } }

/-- TS_FIFO_READ (R130). -/
def execTsFifoRead (r : Requester) (s : State) : Host.Outcome State Fault Refusal := run s (·.tsFifoRead r)

end Sys2Proof.Machine
end

