-- ==== Sys2Proof/Machine/Section.lean ====
section
/-! DEFINITION. Streams, user-plane and control-plane sections, deadlines, uplink emission and partial sums, and the
link-class commands (03_link_messages.md, R98 to R119, R126 to R130). -/

namespace Sys2Proof.Machine

/-! Section data (R99 to R101). -/

/-- The section header's position and PRBs: position, CONTRIB, first PRB, PRBs, format (R99). -/
structure SecHead where
  pos : AirPos
  contrib : Nat
  start : Nat
  nprb : Nat
  comp : Nat
  deriving DecidableEq, Repr

/-- A position from word 0 of a section or message (R99, R102). -/
def posOf (w : Nat) : AirPos := { sfn := bitsN w 22 10, subframe := bitsN w 18 4, slot := bitsN w 17 1, symbol := bitsN w 13 4 }

/-- Word 0 of a section from a position (R99). -/
def posWord (p : AirPos) : Nat := p.sfn * 2 ^ 22 + p.subframe * 2 ^ 18 + p.slot * 2 ^ 17 + p.symbol * 2 ^ 13

/-- The header of a section. -/
def secHead (pl : List Byte) : SecHead :=
  let w0 := beAt pl 0 4
  let w1 := beAt pl 4 4
  { pos := posOf w0, contrib := w0 % 16, start := bitsN w1 23 9, nprb := bitsN w1 14 9, comp := bitsN w1 10 4 }

/-- One PRB's values from its bits: 24 values. -/
def prbValues (comp : Nat) (bits : List Bool) : List Int :=
  let m := mantBits comp
  let e := if comp = 0 then 0 else bitsNat (bits.take 4)
  let b := if comp = 0 then bits else bits.drop 4
  (List.range 24).map (fun i => sgn m (bitsNat ((b.drop (m * i)).take m)) * 2 ^ e)

/-- The values of a section's data, in PRB order (R100, R101). -/
def secValues (nprb comp : Nat) (data : List Byte) : List Int :=
  let bits := data.flatMap byteBits
  (List.range nprb).flatMap (fun i => prbValues comp ((bits.drop (prbBits comp * i)).take (prbBits comp)))

/-- Whether a number fits `m` bits of two's complement. -/
def fitsBits (m : Nat) (v : Int) : Bool := decide (-(2 ^ (m - 1) : Int) ≤ v ∧ v < 2 ^ (m - 1))

/-- A value shifted right with convergent rounding (R101). -/
def shiftConv (v : Int) (e : Nat) : Int := convRound v (2 ^ e)

/-- The exponent of a PRB (R101): the smallest with which all its values fit; none where no four-bit exponent does. -/
def prbExp (m : Nat) (vals : List Int) : Option Nat :=
  (List.range 16).find? (fun e => vals.all (fun v => fitsBits m (shiftConv v e)))

/-- The bits of values in a field of `m` bits each. -/
def mantField (m : Nat) (vals : List Int) : List Bool := vals.flatMap (fun v => natBits m (unsgn m v))

/-- Values that the format cannot hold are free (R101, R117 state no result for them). -/
def Dev.holdIn (d : Dev) (m : Nat) (vals : List Int) : List Int × Dev :=
  vals.foldl (fun acc v =>
    if fitsBits m v then (acc.1 ++ [v], acc.2)
    else let (x, d) := acc.2.anyNat; (acc.1 ++ [sgn m x], d)) ([], d)

/-- One PRB encoded. -/
def Dev.prbEncode (d : Dev) (comp : Nat) (vals : List Int) : List Bool × Dev :=
  if comp = 0 then
    let (v, d) := d.holdIn 16 vals
    (mantField 16 v, d)
  else
    let m := mantBits comp
    let e := (prbExp m vals).getD 15
    let (v, d) := d.holdIn m (vals.map (fun v => shiftConv v e))
    (natBits 4 e ++ mantField m v, d)

/-- A section's values encoded in a format, padded to a whole byte (R100, R101). -/
def Dev.secEncode (d : Dev) (nprb comp : Nat) (vals : List Int) : List Byte × Dev :=
  let (bits, d) := (List.range nprb).foldl (fun acc i =>
    let (b, d) := acc.2.prbEncode comp ((vals.drop (24 * i)).take 24)
    (acc.1 ++ b, d)) (([] : List Bool), d)
  let n := dataBytes nprb comp
  (bitsBytes n (bits ++ List.replicate (8 * n - bits.length) false), d)

/-! Counters of the packet engine. -/

/-- Orphans, format errors (R98, R100, R130). -/
def Dev.orphan (d : Dev) (n : Nat := 1) : Dev := if n = 0 then d else (d.count A.FHP_ORPHAN n).fhpInt 6
def Dev.compErr (d : Dev) (n : Nat := 1) : Dev := if n = 0 then d else (d.count A.FHP_COMP_ERR n).fhpInt 8

/-- The window of R106: whether a section accepted at an instant is taken; late and early ones are counted. `tie`: it
arrived in the cycle of the deadline. -/
def Dev.window (d : Dev) (at_ air : Int) (tie : Bool) : Bool × Dev :=
  if tie then (true, d.count A.FHP_TIE)
  else if air - at_ < d.fhp.lead * (airNs : Int) then (false, (d.count64 A.FHP_LATE_LO A.FHP_LATE_HI 1).fhpInt 4)
  else if d.fhp.early * (airNs : Int) < air - at_ then (false, (d.count A.FHP_EARLY).fhpInt 5)
  else (true, d)

/-- Replacements (R103). -/
def Dev.overlap (d : Dev) (n : Nat) : Dev := if n = 0 then d else (d.count A.FHP_OVERLAP n).fhpInt 7

/-- Whether two ranges of PRBs meet. -/
def prbsMeet (s1 n1 s2 n2 : Nat) : Bool := decide (s1 < s2 + n2 ∧ s2 < s1 + n1)

/-- The oldest accepted packet of a channel leaves its queue; `give`: its credits return. -/
def Dev.takeRx (d : Dev) (x v : Nat) (give : Bool := true) : Dev :=
  match ((d.port x).vc v).rxq with
  | [] => d
  | i :: r =>
    let d := d.modPort x (fun p => p.modVc v (fun c => { c with rxq := r }))
    if give then d.freePkt x i.pkt else d

/-! Streams. -/

/-- A stream's carrier, layer and format when it is mapped for a direction and its carrier is enabled (R98). -/
def Dev.strm (d : Dev) (n : Nat) (ul : Bool) : Option (Nat × Nat × Nat) :=
  let k := d.getF (F.FHP_STRMn_CARRIER n)
  if d.flag (F.FHP_STRMn_VALID n) ∧ d.flag (F.FHP_STRMn_DIR n) = ul ∧ d.flag (F.CARk_CFG_EN k) then
    some (k, d.getF (F.FHP_STRMn_LAYER n), d.getF (F.FHP_STRMn_COMP n))
  else none

/-- Whether a section's header and data length are as R99 and R100 have them for a carrier. -/
def Dev.secFits (d : Dev) (k : Nat) (h : SecHead) (len : Nat) : Bool :=
  posOk (d.getF (F.CARk_CFG_MU k)) h.pos && decide (1 ≤ h.nprb ∧ h.nprb ≤ 273) &&
    decide (h.start + h.nprb ≤ d.getF (F.CARk_CFG_NPRB k)) && len == 8 + dataBytes h.nprb h.comp

/-! Uplink emission (R111, R112, R116 to R119). -/

/-- An uplink section leaves for the UPSTREAM port, encoded (R111, R117): a partial sum below position 0. -/
def Dev.emitUl (d : Dev) (s : UlSec) : Dev :=
  let pos := d.getF F.FHP_CTRL_POS
  let comp := if pos = 0 then s.comp else d.getF F.FHP_PSUM_COMP
  match d.upstream with
  | none => d
  | some x =>
    if !d.portUp x then d.discards x 1
    else
      let (data, d) := d.secEncode s.nprb comp s.vals
      let w0 := posWord s.pos + s.contrib % 16
      let w1 := s.start * 2 ^ 23 + s.nprb * 2 ^ 14 + comp * 2 ^ 10
      d.enqueue x { vc := vcU, mod := pos, psum := decide (pos ≠ 0), stream := s.stream, payload := beBytes 4 w0 ++ beBytes 4 w1 ++ data }

/-- Whether a partial sum matches a section (R117). -/
def UlSec.matches_ (a b : UlSec) : Bool := a.stream == b.stream && a.pos == b.pos && a.start == b.start && a.nprb == b.nprb

/-- A section has left: what comes for it later is late (R118). -/
def Dev.ulGone (d : Dev) (s : UlSec) : Dev := d.modFhp (fun f => { f with ulLeft := f.ulLeft ++ [{ s with vals := [] }] })

/-- Two sections added at 24 bits with saturation, their CONTRIB fields joined (R117). -/
def UlSec.plus (a b : UlSec) : UlSec :=
  { a with vals := (a.vals.zip b.vals).map (fun p => clampI (-(2 ^ 23)) (2 ^ 23 - 1) (p.1 + p.2)), contrib := a.contrib ||| b.contrib }

/-- Whether the module waits for partial sums (R117, R119). -/
def Dev.waitsPsum (d : Dev) : Bool := !d.flag F.FHP_CTRL_LAST && (match d.downstream with | some y => d.portUp y | none => false)

/-- A section of the module is ready (R111, R117). -/
def Dev.ulReady (d : Dev) (s : UlSec) : Dev :=
  if !d.waitsPsum then d.emitUl s
  else match d.fhp.psums.find? (fun p => p.matches_ s) with
    | some p => ((d.modFhp (fun f => { f with psums := f.psums.erase p })).emitUl (s.plus p)).ulGone s
    | none => d.modFhp (fun f => { f with ulWait := f.ulWait ++ [s] })

/-- UPLINK_SECTION_PRODUCED (R111): nothing leaves while UL_EN is clear or the stream is not an uplink one. -/
def Dev.ulProduced (d : Dev) (s : UlSection) : Dev :=
  match d.strm s.stream.val true with
  | none => d
  | some (_, _, comp) =>
    if !d.flag F.FHP_CTRL_UL_EN then d
    else d.ulReady { stream := s.stream.val, pos := s.pos, start := s.start, nprb := s.nprb, comp := comp,
                     contrib := 2 ^ d.getF F.FHP_CTRL_POS, vals := s.vals }

/-- UPLINK_SECTION_PRODUCED (R111). -/
def execUplinkSectionProduced (sec : UlSection) (s : State) : Host.Outcome State Fault Refusal := run s (·.ulProduced sec)

/-- A partial sum from the DOWNSTREAM port (R117, R118). -/
def Dev.psumIn (d : Dev) (p : Pkt) : Dev :=
  let h := secHead p.payload
  match d.strm p.stream true with
  | none => d.orphan
  | some (k, _, comp) =>
    if 4 < h.comp ∨ !d.secFits k h p.payload.length then d.compErr
    else
      let s : UlSec := { stream := p.stream, pos := h.pos, start := h.start, nprb := h.nprb, comp := comp, contrib := h.contrib,
                         vals := secValues h.nprb h.comp (p.payload.drop 8) }
      match d.fhp.ulWait.find? (fun w => w.matches_ s) with
      | some w => ((d.modFhp (fun f => { f with ulWait := f.ulWait.erase w })).emitUl (w.plus s)).ulGone w
      | none =>
        if d.fhp.ulLeft.any (fun w => w.matches_ s) then (d.count A.FHP_PSUM_LATE).fhpInt 11
        else d.modFhp (fun f => { f with psums := f.psums ++ [s] })

/-- The wait of section `i` is over (R118, R119). -/
def Dev.psumExpiry (d : Dev) (i : Nat) (tie : Bool) : Dev :=
  match d.fhp.ulWait[i]? with
  | none => d
  | some s =>
    if tie then d.count A.FHP_TIE
    else
      let d := d.modFhp (fun f => { f with ulWait := f.ulWait.eraseIdx i })
      let d := if d.waitsPsum then (d.count A.FHP_PSUM_MISS).fhpInt 10 else d
      (d.emitUl s).ulGone s

/-- PSUM_WAIT_EXPIRY (R118). -/
def execPsumWaitExpiry (i : Nat) (tie : Bool) (s : State) : Host.Outcome State Fault Refusal := run s (·.psumExpiry i tie)

/-- UL_DROP_EXPIRY (R112): the oldest U packet of the module's own that cannot leave. -/
def Dev.ulDrop (d : Dev) (x : Nat) : Dev :=
  let q := ((d.port x).vc vcU).txq
  match q.find? (fun p => p.mod == d.getF F.FHP_CTRL_POS) with
  | none => d
  | some p =>
    if d.role x ≠ 1 ∨ d.maySend x p then d
    else ((d.modPort x (fun r => r.modVc vcU (fun v => { v with txq := v.txq.erase p }))).count A.FHP_UL_DROP_CNT).fhpInt 9

/-- UL_DROP_EXPIRY (R112). -/
def execUlDropExpiry (x : Fin 4) (s : State) : Host.Outcome State Fault Refusal := run s (·.ulDrop x.val)

/-! Sections received. -/

/-- A downlink section (R98, R99, R101, R103, R106): its packet's credits return once the data is in the jitter
buffer or has been discarded. -/
def Dev.dlSection (d : Dev) (i : Ingress) (tie : Bool) : Dev :=
  let p := i.pkt
  let h := secHead p.payload
  match d.strm p.stream false with
  | none => d.orphan
  | some (k, layer, comp) =>
    if !d.flag F.FHP_CTRL_DL_EN then d.orphan
    else if 4 < h.comp ∨ compRank comp < compRank h.comp ∨ !d.secFits k h p.payload.length then d.compErr
    else
      let (ok, d) := d.window i.at_.air (d.airTime k false h.pos) tie
      if !ok then d
      else
        let data := p.payload.drop 8
        let d := d.compErr ((secValues h.nprb h.comp data).filter (fun v => !fitsBits 16 v)).length
        let hits := d.fhp.secs.filter (fun s => s.stream == p.stream && s.pos == h.pos && prbsMeet s.start s.nprb h.start h.nprb)
        (d.overlap hits.length).modFhp (fun f => { f with secs := f.secs ++
          [{ stream := p.stream, carrier := k, layer := layer, pos := h.pos, start := h.start, nprb := h.nprb, comp := h.comp, data := data }] })

/-- USER_PLANE_SECTION: the oldest U packet of a port (R99). -/
def Dev.userSection (d : Dev) (x : Nat) (tie : Bool) : Dev :=
  match ((d.port x).vc vcU).rxq with
  | [] => d
  | i :: _ =>
    let d := d.takeRx x vcU
    if d.role x = 2 then d.psumIn i.pkt else d.dlSection i tie

/-- USER_PLANE_SECTION (R99). -/
def execUserPlaneSection (x : Fin 4) (tie : Bool) (s : State) : Host.Outcome State Fault Refusal := run s (·.userSection x.val tie)

/-- Context-ports of a descriptor of KIND SRS (R155, R160). -/
def Dev.srsPorts (d : Dev) (u : Nat) : Nat := if d.flag (F.BEAM_UCn_CFG_PORTS2 u) then 2 else 1

/-- The symbols a descriptor covers. -/
def Desc.symbols (e : Desc) : List AirPos := (List.range e.numSym).map (fun i => { e.pos with symbol := e.pos.symbol + i })

/-- Context-ports sounded in the symbol that starts at an air time (R160). -/
def Dev.srsLoad (d : Dev) (air : Int) : Nat :=
  ((d.fhp.descs.filter (fun e => e.kind == 1 && e.symbols.any (fun p => d.airTime e.carrier true p == air))).map
    (fun e => d.srsPorts e.wsel)).foldl (· + ·) 0

/-- A BEAM interrupt bit. -/
def Dev.beamInt (d : Dev) (b : Nat) : Dev := d.setB ⟨A.BEAM_INT_STAT, b, 1⟩ true

/-- Invalid selections (R135 to R137, R157). -/
def Dev.wselErr (d : Dev) (n : Nat := 1) : Dev := if n = 0 then d else (d.count A.BEAM_WSEL_ERR n).beamInt 8

/-- The contexts in the store: above 512 acts as 512. -/
def Dev.nUser (d : Dev) : Nat := min 512 (d.getF F.BEAM_CTX_CFG_N_USER)

/-- One descriptor of an accepted message (R102, R103, R157, R160). -/
def Dev.takeDesc (d : Dev) (e : Desc) (nprb : Nat) : Dev :=
  if 2 ≤ e.kind ∨ e.nprb = 0 ∨ 273 < e.nprb ∨ nprb < e.start + e.nprb ∨ (e.kind = 1 ∧ !e.ul) then d.orphan
  else if e.kind = 1 ∧ (d.nUser ≤ e.wsel ∨ !d.flag (F.BEAM_UCn_CFG_EN e.wsel)) then d.wselErr
  else if e.kind = 1 ∧ e.symbols.any (fun p => decide (64 < d.srsLoad (d.airTime e.carrier true p) + d.srsPorts e.wsel)) then
    (d.count A.BEAM_SRS_OVER).beamInt 7
  else
    let hits := d.fhp.descs.filter (fun o => o.carrier == e.carrier && o.ul == e.ul && prbsMeet o.start o.nprb e.start e.nprb &&
      o.symbols.any (fun p => e.symbols.contains p))
    (d.overlap hits.length).modFhp (fun f => { f with descs := f.descs ++ [e] })

/-- A control-plane message (R98, R102, R106): one that R102 does not allow is ignored and counted with the orphans. -/
def Dev.controlMsg (d : Dev) (i : Ingress) (tie : Bool) : Dev :=
  let pl := i.pkt.payload
  let w := beAt pl 0 4
  let ul := w.testBit 8
  let k := bitsN w 5 3
  let ns := bitsN w 9 4
  let n := w % 32 + 1
  let pos := posOf w
  if !d.flag (if ul then F.FHP_CTRL_UL_EN else F.FHP_CTRL_DL_EN) then d.orphan
  else if pl.length ≠ 4 + 16 * n ∨ ns = 0 ∨ 14 < pos.symbol + ns ∨ !posOk (d.getF (F.CARk_CFG_MU k)) pos ∨ !d.flag (F.CARk_CFG_EN k) then d.orphan
  else
    let (ok, d) := d.window i.at_.air (d.airTime k ul pos) tie
    if !ok then d
    else d.forN n (fun d j =>
      let q := (pl.drop (4 + 16 * j)).take 16
      let dw := beAt q 0 4
      d.takeDesc { carrier := k, ul := ul, pos := pos, numSym := ns, start := bitsN dw 23 9, nprb := bitsN dw 14 9,
                   comp := bitsN dw 10 4, wsrc := bitsN dw 8 2, kind := bitsN dw 6 2, layers := beAt q 4 4,
                   wsel := beAt q 8 2, sectionId := beAt q 12 2 } (d.getF (F.CARk_CFG_NPRB k)))

/-- CONTROL_PLANE_SECTION: the oldest C packet of a port (R102). -/
def Dev.controlSection (d : Dev) (x : Nat) (tie : Bool) : Dev :=
  match ((d.port x).vc vcC).rxq with
  | [] => d
  | i :: _ => (d.takeRx x vcC).controlMsg i tie

/-- CONTROL_PLANE_SECTION (R102). -/
def execControlPlaneSection (x : Fin 4) (tie : Bool) (s : State) : Host.Outcome State Fault Refusal :=
  run s (·.controlSection x.val tie)

/-! Deadlines (R107). -/

/-- The descriptor in force on a PRB of a symbol: the last accepted (R103). -/
def Dev.descOn (d : Dev) (k : Nat) (ul : Bool) (pos : AirPos) (prb : Nat) : Option Desc :=
  (d.fhp.descs.filter (fun e => e.carrier == k && e.ul == ul && e.kind == 0 && e.symbols.contains pos &&
    decide (e.start ≤ prb ∧ prb < e.start + e.nprb))).getLast?

/-- The downlink data of a layer on a PRB of a symbol: the last accepted (R103). -/
def Dev.secOn (d : Dev) (k layer : Nat) (pos : AirPos) (prb : Nat) : Option USec :=
  (d.fhp.secs.filter (fun s => s.carrier == k && s.layer == layer && s.pos == pos &&
    decide (s.start ≤ prb ∧ prb < s.start + s.nprb))).getLast?

/-- PRBs and layers of a symbol that a descriptor carries and no data fills. -/
def Dev.zeroPrbs (d : Dev) (k : Nat) (pos : AirPos) : Nat :=
  ((List.range (d.getF (F.CARk_CFG_NPRB k))).map (fun p =>
    match d.descOn k false pos p with
    | some e => ((bitsOf 32 e.layers).filter (fun l => (d.secOn k l pos p).isNone)).length
    | none => 0)).foldl (· + ·) 0

/-- Whether a descriptor claims a PRB of a section. -/
def Dev.claimed (d : Dev) (s : USec) (prb : Nat) : Bool :=
  match d.descOn s.carrier false s.pos prb with
  | some e => e.layers.testBit s.layer
  | none => false

/-- SECTION_DEADLINE (R80, R107): zeros are counted, unclaimed data is released, and the symbol is complete where
descriptors carry it and nothing of it is missing. -/
def Dev.sectionDeadline (d : Dev) (k : Nat) (pos : AirPos) : Dev :=
  let z := d.zeroPrbs k pos
  let here := fun (s : USec) => s.carrier == k && s.pos == pos
  let loose := d.fhp.secs.filter (fun s => here s && (List.range s.nprb).any (fun i => !d.claimed s (s.start + i)))
  let bare := d.fhp.secs.filter (fun s => here s && (List.range s.nprb).all (fun i => !d.claimed s (s.start + i)))
  let any := d.fhp.descs.any (fun e => e.carrier == k && !e.ul && e.kind == 0 && e.symbols.contains pos)
  let d := if z = 0 then d else d.count64 A.FHP_ZERO_PRB_LO A.FHP_ZERO_PRB_HI z
  let d := d.orphan loose.length
  d.modFhp (fun f => { f with
    secs := f.secs.filter (fun s => !bare.contains s)
    complete := (if any ∧ z = 0 then f.complete ++ [(k, pos)] else f.complete) })

/-- SECTION_DEADLINE (R107). -/
def execSectionDeadline (k : Fin 8) (pos : AirPos) (s : State) : Host.Outcome State Fault Refusal := run s (·.sectionDeadline k.val pos)

/-- A symbol's data and its finished descriptors leave once it has been applied (R107, R109). -/
def Dev.symbolDone (d : Dev) (k : Nat) (ul : Bool) (pos : AirPos) : Dev :=
  d.modFhp (fun f => { f with
    secs := (if ul then f.secs else f.secs.filter (fun s => !(s.carrier == k && s.pos == pos)))
    complete := (if ul then f.complete else f.complete.filter (fun c => !(c.1 == k && c.2 == pos))) })

/-- At a frame boundary DL_LEAD and DL_EARLY take effect (R110), and what remains of uplink sections of frames past is
forgotten. -/
def Dev.fhpFrame (d : Dev) : Dev :=
  let f := d.frameNow % 1024
  let near := fun (s : UlSec) => decide ((f - (s.pos.sfn : Int)) % 1024 ≤ 1 ∨ 512 ≤ (f - (s.pos.sfn : Int)) % 1024)
  d.modFhp (fun h => { h with
    lead := d.leadSet
    early := d.earlySet
    ulLeft := h.ulLeft.filter near
    psums := h.psums.filter near })

/-! Register behaviours (R130). -/

/-- A write of a stream entry: ignored while DL_EN or UL_EN is set. -/
def Dev.strmWrite (d : Dev) (n v : Nat) : Dev :=
  if d.flag F.FHP_CTRL_DL_EN ∨ d.flag F.FHP_CTRL_UL_EN then d
  else d.setReg (A.FHP_STRMn n) (BitVec.ofNat 32 (v / 2 ^ 18 * 2 ^ 18))

/-! Commands of the link class (R126 to R128). -/

/-- LIMIT with the payload of R127. -/
def limitOf (d : Dev) (p : Nat × Nat) : CmdOut := limitR d p.1 p.2

/-- Whether a STREAM_CFG payload is well formed. -/
def streamCfgOk (pl : List Byte) : Bool :=
  let n := leAt pl 2 2
  decide (1 ≤ n ∧ n ≤ 512 ∧ pl.length = 4 + 4 * n ∧ leAt pl 0 2 + n ≤ 4096) &&
    (List.range n).all (fun i => decide (bitsN (leAt pl (4 + 4 * i) 4) 18 4 ≤ 4))

/-- The stream words of a payload. -/
def streamWords (pl : List Byte) : List Nat := (List.range (leAt pl 2 2)).map (fun i => leAt pl (4 + 4 * i) 4)

/-- The firmware drives the packet-engine enables from the mapped streams, as in READY (R409). -/
def Dev.strmEnables (d : Dev) : Dev :=
  let strm := fun (dir : Bool) => (List.range 4096).any (fun n => d.flag (F.FHP_STRMn_VALID n) && d.flag (F.FHP_STRMn_DIR n) == dir)
  (d.setB F.FHP_CTRL_DL_EN (strm false)).setB F.FHP_CTRL_UL_EN (strm true)

/-- STREAM_CFG: in READY the firmware clears the enables around the writes (R409). -/
def cmdStreamCfg (pl : List Byte) : Body := devBody fun d =>
  if !streamCfgOk pl then badParam d
  else
    let ws := streamWords pl
    match d.checkStreams (leAt pl 0 2) ws with
    | some l => limitOf d l
    | none =>
      let d := (d.setB F.FHP_CTRL_DL_EN false).setB F.FHP_CTRL_UL_EN false
      let d := d.forL ws.zipIdx (fun d w => d.strmWrite (leAt pl 0 2 + w.2) w.1)
      okR (if d.mod = .ready then d.strmEnables else d)

/-- The largest number of `n` bits that meets a falling test. -/
def largest (n : Nat) (ok : Nat → Bool) : Nat :=
  (List.range n).foldl (fun e i => let c := e + 2 ^ (n - 1 - i); if ok c then c else e) 0

/-- FH_TIMING: the values are written, and act at the next frame boundary (R110, R126, R127). -/
def cmdFhTiming (pl : List Byte) : Body := devBody fun d =>
  let lead := leAt pl 0 4
  let early := leAt pl 4 4
  let drop := leAt pl 8 2
  let l := d.streams 0 []
  if lead < 50000 ∨ 1000000 < lead ∨ early < lead ∨ 2 ^ 21 ≤ early ∨ drop < 50 ∨ 1000 < drop then badParam d
  else if !d.earlyFits l lead early then limitR d 3 (largest 20 (fun v => d.earlyFits l v early))
  else if !d.jitterFits l early (d.regionSize 2) then limitR d 2 (largest 21 (fun v => d.jitterFits l v (d.regionSize 2)))
  else okR (((d.setF F.FHP_DL_LEAD_NS lead).setF F.FHP_DL_EARLY_NS early).setF F.FHP_UL_DROP_US drop)

/-- CASCADE_CFG (R128). -/
def cmdCascadeCfg (pl : List Byte) : Body := devBody fun d =>
  let pos := byteAt pl 0
  let last := byteAt pl 1
  let comp := byteAt pl 2
  let wait := byteAt pl 3
  if 3 < pos ∨ 1 < last ∨ 4 < comp ∨ wait < 1 ∨ 50 < wait then badParam d
  else okR ((((d.setF F.FHP_CTRL_POS pos).setF F.FHP_CTRL_LAST last).setF F.FHP_PSUM_COMP comp).setF F.FHP_PSUM_WAIT_US wait)

/-- FH_CHECK (R128): the check, and nothing changed. -/
def cmdFhCheck (pl : List Byte) : Body := devBody fun d =>
  if !streamCfgOk pl then badParam d
  else match d.checkStreams (leAt pl 0 2) (streamWords pl) with
    | some l => limitOf d l
    | none => okR d

/-- STREAM_CFG (R128). -/
def execStreamCfg (h : CmdHdr) (pl : List Byte) (s : State) : Host.Outcome State Fault Refusal :=
  runW s (runCmd h 0x1010 (lenIn 8 2052) pl (cmdStreamCfg pl))

/-- FH_TIMING (R128). -/
def execFhTiming (h : CmdHdr) (pl : List Byte) (s : State) : Host.Outcome State Fault Refusal :=
  runW s (runCmd h 0x1011 (lenIs 12) pl (cmdFhTiming pl))

/-- CASCADE_CFG (R128). -/
def execCascadeCfg (h : CmdHdr) (pl : List Byte) (s : State) : Host.Outcome State Fault Refusal :=
  runW s (runCmd h 0x1012 (lenIs 4) pl (cmdCascadeCfg pl))

/-- FH_CHECK (R128). -/
def execFhCheck (h : CmdHdr) (pl : List Byte) (s : State) : Host.Outcome State Fault Refusal :=
  runW s (runCmd h 0x1013 (lenIn 8 2052) pl (cmdFhCheck pl))

end Sys2Proof.Machine
end

