-- ==== Sys2Proof/Machine/Beam.lean ====
section
/-! DEFINITION. Weight sets and their copies, fallback, user contexts, weight jobs and the beam-class commands
(04_beamforming.md). -/

namespace Sys2Proof.Machine

def Dev.modBeam (d : Dev) (f : BeamSt → BeamSt) : Dev := { d with beam := f d.beam }

/-! Weight sets (R134, R138 to R142). -/

/-- A set as the data plane reads it. -/
structure WSet where
  n : Nat
  carrier : Nat
  ul : Bool
  g : Nat
  layers : Nat
  computed : Bool
  scale : Nat
  deriving DecidableEq, Repr

/-- The sets' fields. -/
def Dev.wset (d : Dev) (n : Nat) : WSet :=
  { n := n, carrier := d.getF (F.BEAM_WSn_CFG_CARRIER n), ul := d.flag (F.BEAM_WSn_CFG_DIR n),
    g := 2 ^ min 4 (d.getF (F.BEAM_WSn_CFG_GSIZE n)), layers := d.getF (F.BEAM_WSn_CFG_LAYERS_M1 n) + 1,
    computed := d.flag (F.BEAM_WSn_CFG_SRC n), scale := d.getF (F.BEAM_WSn_CFG_SCALE n) }

/-- Whether a set is in use. -/
def Dev.wsUsed (d : Dev) (n : Nat) : Bool := decide (n < 64) && d.flag (F.BEAM_WSn_CFG_USED n)

/-- The sets in use, by number. -/
def Dev.wsets (d : Dev) : List WSet := ((List.range 64).filter d.wsUsed).map d.wset

/-- PRB groups of a carrier for a group size (R134). -/
def ngroups (nprb g : Nat) : Nat := (nprb + g - 1) / g

/-- PRBs of a carrier. -/
def Dev.prbs (d : Dev) (k : Nat) : Nat := d.getF (F.CARk_CFG_NPRB k)

/-- Entries of one copy of a set (R142). -/
def Dev.wsEntries (d : Dev) (w : WSet) : Nat := ngroups (d.prbs w.carrier) w.g * w.layers * 64

/-- NBEAM as it acts (R170). -/
def Dev.nbeam (d : Dev) : Nat := min 4096 (d.getF F.BEAM_NBEAM_NBEAM)

/-- First entry above the fixed beams (R138). -/
def Dev.copyFloor (d : Dev) : Nat := 32768 + 64 * d.nbeam

/-- The states of a shadow copy (R144). -/
def wsFree : Nat := 0
def wsOpen : Nat := 1
def wsHeld : Nat := 2
def wsCommitted : Nat := 3
def wsLocked : Nat := 4

/-- The state of a set's shadow. -/
def Dev.wsState (d : Dev) (n : Nat) : Nat := d.getF (F.BEAM_WSn_STAT_STATE n)
def Dev.setWsState (d : Dev) (n s : Nat) : Dev := d.setF (F.BEAM_WSn_STAT_STATE n) s

/-- First entry of a copy, and of the active and the shadow copy. -/
def Dev.wsBase (d : Dev) (n copy : Nat) : Nat :=
  d.getF (if copy = 0 then F.BEAM_WSn_BASE0_ENTRY n else F.BEAM_WSn_BASE1_ENTRY n) / 64 * 64
def Dev.wsActive (d : Dev) (n : Nat) : Nat := d.wsBase n (d.getF (F.BEAM_WSn_STAT_ACT n))
def Dev.wsShadow (d : Dev) (n : Nat) : Nat := d.wsBase n (1 - d.getF (F.BEAM_WSn_STAT_ACT n))

/-- Byte address of an entry of the weight memory. -/
def Dev.entryAddr (d : Dev) (e : Nat) : Nat := d.regionBase 0 + 4 * e

/-- Index of an entry of the fallback matrix (R139). -/
def fallbackEntry (k : Nat) (ul : Bool) (l : Nat) : Nat := (2 * k + b2n ul) * 2048 + l * 64

/-- Index of the first entry of a fixed beam (R139). -/
def beamEntry (b : Nat) : Nat := 32768 + b * 64

/-- The carrier's computed set for a direction (R143). -/
def Dev.computedSet (d : Dev) (k : Nat) (ul : Bool) : Option Nat :=
  (d.wsets.find? (fun w => w.computed && w.carrier == k && w.ul == ul)).map (·.n)

/-- Whether beam application or combining is enabled. -/
def Dev.beamOn (d : Dev) : Bool := d.flag F.BEAM_CTRL_DL_EN || d.flag F.BEAM_CTRL_UL_EN

/-- An ignored set command or write (R142, R145). -/
def Dev.beamCmdErr (d : Dev) : Dev := (d.count A.BEAM_CMD_ERR).beamInt 5

/-- BEAM_EVENT (R169). -/
def Dev.beamEvent (d : Dev) (mb tag code id stale : Nat) (t : AirPos) : Dev :=
  d.notify mb 0x3080 tag ([BitVec.ofNat 8 code, BitVec.ofNat 8 id, BitVec.ofNat 8 stale, 0] ++ leBytes 2 t.sfn ++
    [BitVec.ofNat 8 t.subframe, BitVec.ofNat 8 t.slot])

/-! Copies (R144 to R146). -/

/-- The target of a set. -/
def Dev.wsTarget (d : Dev) (n : Nat) : AirPos :=
  { sfn := d.getF (F.BEAM_WSn_TARGET_SFN n), subframe := d.getF (F.BEAM_WSn_TARGET_SUBFRAME n),
    slot := d.getF (F.BEAM_WSn_TARGET_SLOT n), symbol := 0 }
def Dev.setTarget (d : Dev) (n : Nat) (t : AirPos) : Dev :=
  ((d.setF (F.BEAM_WSn_TARGET_SFN n) t.sfn).setF (F.BEAM_WSn_TARGET_SUBFRAME n) t.subframe).setF (F.BEAM_WSn_TARGET_SLOT n) t.slot

/-- 50 µs and 32 µs of air time. -/
def cutoffLead : Int := 50000 * (airNs : Int)

/-- The slot boundary of a set's carrier and direction at a slot, and its cutoff (R144). -/
def Dev.slotAir (d : Dev) (n : Nat) (t : AirPos) : Int :=
  d.airTime (d.wset n).carrier (d.wset n).ul { t with symbol := 0 }
def Dev.cutoff (d : Dev) (n : Nat) (t : AirPos) : Int := d.slotAir n t - cutoffLead

/-- The slot after a position. -/
def nextSlot (mu : Nat) (p : AirPos) : AirPos := nextSymbol mu { p with symbol := 13 }

/-- The first slot boundary of a set's carrier whose cutoff has not passed (R145). -/
def Dev.nextTarget (d : Dev) (n : Nat) : AirPos :=
  let mu := d.getF (F.CARk_CFG_MU (d.wset n).carrier)
  let start : AirPos := { sfn := (d.frameNow % 1024).toNat, subframe := 0, slot := 0, symbol := 0 }
  let slots := (List.range 24).foldl (fun acc _ => acc ++ [nextSlot mu (acc.getLastD start)]) [start]
  (slots.find? (fun p => decide (d.nowAir ≤ d.cutoff n p))).getD start

/-- COMMIT written to a set (R144 to R146). -/
def Dev.wsCommit (d : Dev) (n grp : Nat) (tie : Bool) : Dev :=
  let d := d.setF (F.BEAM_WSn_CMD_GRP n) grp
  if d.wsState n ≠ wsOpen then d.beamCmdErr
  else
    let next := d.flag (F.BEAM_WSn_TARGET_NEXT n)
    let t := if next then d.nextTarget n else d.wsTarget n
    let d := if next then d.setTarget n t else d
    if !tie ∧ d.cutoff n t < d.nowAir then (d.count A.BEAM_LATE_COMMIT).beamInt 1
    else
      let d := if tie then d.count A.BEAM_TIE else d
      let d := d.setF (F.BEAM_WSn_STAT_GRP_SHD n) grp
      (d.setB (F.BEAM_WSn_CMD_COMMIT n) true).setWsState n wsCommitted

/-- BEAM_WS_COMMIT (R145). -/
def execBeamWsCommit (w : Fin 64) (grp : Byte) (tie : Bool) (s : State) : Host.Outcome State Fault Refusal :=
  run s (·.wsCommit w.val grp.toNat tie)

/-- ABORT written to a set (R144, R145). -/
def Dev.wsAbort (d : Dev) (n : Nat) : Dev :=
  if d.wsState n ≠ wsCommitted then d.beamCmdErr
  else (d.setB (F.BEAM_WSn_CMD_COMMIT n) false).setWsState n wsOpen

/-- BEAM_WS_ABORT (R145). -/
def execBeamWsAbort (w : Fin 64) (s : State) : Host.Outcome State Fault Refusal := run s (·.wsAbort w.val)

/-- USED set or cleared (R144). -/
def Dev.wsUse (d : Dev) (n : Nat) (used : Bool) : Dev :=
  if used = d.flag (F.BEAM_WSn_CFG_USED n) then d
  else
    let d := (d.setB (F.BEAM_WSn_CFG_USED n) used).setB (F.BEAM_WSn_STAT_PRIMED n) false
    let d := (d.setB (F.BEAM_WSn_CMD_COMMIT n) false).setReg (A.BEAM_WSn_WCNT n) 0
    d.setWsState n (if used then wsOpen else wsFree)

/-- A write of BEAM_WSn_CFG (R142): ignored and counted while DL_EN or UL_EN is set. -/
def Dev.wsCfgWrite (d : Dev) (n v : Nat) : Dev :=
  if d.beamOn then d.beamCmdErr
  else
    let used := b2n (d.flag (F.BEAM_WSn_CFG_USED n))
    (d.setReg (A.BEAM_WSn_CFG n) (BitVec.ofNat 32 (used * 2 ^ 31 + bitsN v 15 16 * 2 ^ 15))).wsUse n (v.testBit 31)

/-- BEAM_WS_USED (R144): a write of USED that leaves the attributes. -/
def execBeamWsUsed (w : Fin 64) (used : Bool) (s : State) : Host.Outcome State Fault Refusal :=
  run s (fun d => if d.beamOn then d.beamCmdErr else d.wsUse w.val used)

/-- A write of a copy's base (R140, R142). -/
def Dev.wsBaseWrite (d : Dev) (a v : Nat) : Dev :=
  if d.beamOn then d.beamCmdErr else d.setReg a (BitVec.ofNat 32 (v % 2 ^ 23 / 64 * 64))

/-- The commits the firmware has not sent: it writes COMMIT once WCNT has reached BCOUNT and the shadow is OPEN, and
reports MISSED where the cutoff has passed (R149, R542). -/
def Dev.pumpCommits (d : Dev) : Dev :=
  d.forL (d.beam.commits.filter (fun c => !c.sent)) (fun d c =>
    let miss := fun (d : Dev) =>
      let d := d.modBeam (fun b => { b with commits := b.commits.erase c })
      let d := match c.op with | some p => d.dropPend p | none => d
      d.beamEvent c.mb c.tag 2 c.set 0 c.target
    let full := decide (c.bcount ≤ (d.reg (A.BEAM_WSn_WCNT c.set)).toNat)
    if d.wsState c.set = wsOpen ∧ full then
      let d := (d.setTarget c.set c.target).setB (F.BEAM_WSn_TARGET_NEXT c.set) false
      let d := d.wsCommit c.set c.grp false
      if d.wsState c.set = wsCommitted then
        d.modBeam (fun b => { b with commits := b.commits.map (fun x => if x = c then { x with sent := true } else x) })
      else miss d
    else if d.cutoff c.set c.target < d.nowAir then miss d
    else d)

/-- A shadow becomes OPEN: WCNT is cleared (R144). -/
def Dev.wsReopen (d : Dev) (n : Nat) : Dev := ((d.setReg (A.BEAM_WSn_WCNT n) 0).setWsState n wsOpen).pumpCommits

/-- The copies of a set exchange (R144, R169). -/
def Dev.wsSwap (d : Dev) (n : Nat) : Dev :=
  let d := (d.setF (F.BEAM_WSn_STAT_ACT n) (1 - d.getF (F.BEAM_WSn_STAT_ACT n))).setB (F.BEAM_WSn_STAT_PRIMED n) true
  let d := (d.setF (F.BEAM_WSn_STAT_GRP_ACT n) (d.getF (F.BEAM_WSn_STAT_GRP_SHD n))).setB (F.BEAM_WSn_CMD_COMMIT n) false
  let d := (d.count A.BEAM_SWAP_CNT).beamInt 0
  let mine := d.beam.commits.filter (fun c => c.set == n && c.sent)
  let d := d.forL mine (fun d c =>
    let d := d.modBeam (fun b => { b with commits := b.commits.erase c })
    let d := match c.op with | some p => d.dropPend p | none => d
    d.beamEvent c.mb c.tag 1 n 0 c.target)
  if (d.wset n).ul then d.setWsState n wsHeld else d.wsReopen n

/-- At a slot boundary of a carrier the LOCKED sets that it targets exchange (R144, R149), and groups on fallback are
read from their sets again (R150). -/
def Dev.beamSlot (d : Dev) (k : Nat) : Dev :=
  let d := d.modBeam (fun b => { b with fallen := b.fallen.filter (fun f => f.carrier != k) })
  d.forN 64 (fun d n =>
    if d.wsUsed n ∧ d.wsState n = wsLocked ∧ (d.wset n).carrier = k ∧ d.slotAir n (d.wsTarget n) ≤ d.nowAir then d.wsSwap n else d)

/-- WSET_HOLD_EXPIRY (R144). -/
def execWsetHoldExpiry (w : Fin 64) (s : State) : Host.Outcome State Fault Refusal :=
  run s (fun d => if d.wsState w.val = wsHeld then d.wsReopen w.val else d)

/-- The cutoff of a set's target (R144, R149, R164): a committed shadow locks, a commit not sent is missed, and a job
still running for the set is late. -/
def Dev.wsCutoff (d : Dev) (n : Nat) : Dev :=
  let d := if d.wsState n = wsCommitted then d.setWsState n wsLocked else d
  let d := d.forL (d.beam.commits.filter (fun c => c.set == n && !c.sent)) (fun d c =>
    let d := d.modBeam (fun b => { b with commits := b.commits.erase c })
    let d := match c.op with | some p => d.dropPend p | none => d
    d.beamEvent c.mb c.tag 2 c.set 0 c.target)
  d.forL (d.beam.jobs.filter (fun j => j.sets.contains n)) (fun d j =>
    let d := d.modBeam (fun b => { b with jobs := b.jobs.erase j, calcLate := b.calcLate + 1 })
    (d.dropPend j.op).beamEvent j.op.mb j.op.tag 4 j.grp j.stale.length j.target)

/-- WSET_CUTOFF (R144). -/
def execWsetCutoff (w : Fin 64) (s : State) : Host.Outcome State Fault Refusal := run s (·.wsCutoff w.val)

/-! Writes into the weight memory (R147, R148). -/

/-- Bytes applied to a shadow (R147). -/
def Dev.wcount (d : Dev) (n bytes : Nat) : Dev :=
  d.setReg (A.BEAM_WSn_WCNT n) (BitVec.ofNat 32 ((d.reg (A.BEAM_WSn_WCNT n)).toNat + bytes))

/-- A write dropped (R148). -/
def Dev.protViol (d : Dev) : Dev := (d.count A.BEAM_PROT_VIOL).beamInt 4

/-- The set whose copy `copy` holds an entry, among the sets in use. -/
def Dev.copyAt (d : Dev) (e : Nat) : Option (Nat × Nat) :=
  (d.wsets.flatMap (fun w => [(w.n, 0), (w.n, 1)])).find? (fun p =>
    let b := d.wsBase p.1 p.2
    decide (b ≤ e ∧ e < b + d.wsEntries (d.wset p.1)))

/-- Whether a byte of the Hamper may be written by address (R148). -/
def Dev.mayWrite (d : Dev) (a : Nat) : Bool :=
  let base := d.regionBase 0
  if a < base ∨ base + d.regionSize 0 ≤ a then true
  else
    let e := (a - base) / 4
    if e < d.copyFloor then !d.beamOn
    else match d.copyAt e with
      | some (n, c) => c != d.getF (F.BEAM_WSn_STAT_ACT n) && d.wsState n == wsOpen
      | none => true

/-- A write by address into the Hamper (R147, R148): what may not be written is dropped, and bytes into an OPEN shadow
are counted. The answer says whether anything was dropped. -/
def Dev.hamperWrite (d : Dev) (src a : Nat) (bs : List Byte) : Writes × Bool × Dev :=
  let ok := bs.zipIdx.filter (fun p => d.mayWrite (a + p.2))
  let lost := decide (ok.length < bs.length)
  let d := if lost then d.protViol else d
  let e := fun (i : Nat) => (a + i - d.regionBase 0) / 4
  let inW := fun (i : Nat) => decide (d.regionBase 0 ≤ a + i ∧ a + i < d.regionBase 0 + d.regionSize 0)
  let d := d.forL ok (fun d p => if inW p.2 then (match d.copyAt (e p.2) with | some (n, _) => d.wcount n 1 | none => d) else d)
  if !lost then ([(a, bs)], false, (d.wroteEcc src a bs).pumpCommits)
  else (ok.map (fun p => (a + p.2, [p.1])), true, (ok.foldl (fun d p => d.wroteEcc src (a + p.2) [p.1]) d).pumpCommits)

/-- Entries written into a set's shadow (R147). -/
def Dev.shadowWrite (d : Dev) (src n off : Nat) (bs : List Byte) : Writes × Dev :=
  let a := d.entryAddr (d.wsShadow n + off)
  ([(a, bs)], ((d.wroteEcc src a bs).wcount n bs.length).pumpCommits)

/-- Whether a port's oldest B packet is a held weight write. -/
def Dev.bHeld (d : Dev) (x : Nat) : Bool := d.beam.held.testBit x

/-- A WEIGHT_WRITE at the head of a port's B queue (R147, R148, R473): applied while the shadow is OPEN, held
otherwise. -/
def Dev.weightWrite (d : Dev) (x : Nat) : Writes × Dev :=
  match d.bulkHead x 2 with
  | none => ([], d)
  | some p =>
    let n := byteAt p.payload 0
    let off := leAt p.payload 2 3
    let data := p.payload.drop 8
    let take := fun (d : Dev) => Dev.bulkPurge x 16 ((d.modBeam (fun b => { b with held := setBitN b.held x false })).bulkTake x)
    if 64 ≤ n ∨ data.isEmpty ∨ 16352 < data.length ∨ data.length % 4 ≠ 0 then ([], (take d).bulkErr x)
    else if d.wsUsed n ∧ d.flag (F.BEAM_WSn_CFG_SRC n) then ([], (take d).protViol)
    else if d.wsState n ≠ wsOpen then ([], d.modBeam (fun b => { b with held := setBitN b.held x true }))
    else if d.wsEntries (d.wset n) < off + data.length / 4 then ([], (take d).bulkErr x)
    else
      let (ws, d) := (take d).shadowWrite 4 n off data
      (ws, d.bulkApplied x data.length)

/-- WEIGHT_WRITE (R473). -/
def execWeightWrite (x : Fin 4) (s : State) : Host.Outcome State Fault Refusal := runW s (fun _ d => d.weightWrite x.val)

/-- WEIGHT_WRITE_RELEASE (R147). -/
def execWeightWriteRelease (x : Fin 4) (s : State) : Host.Outcome State Fault Refusal :=
  runW s (fun _ d => if d.bHeld x.val then d.weightWrite x.val else ([], d))

/-! Application (R131 to R137, R150, R151). -/

/-- A weight entry from its word (R133). -/
def entryOf (w : Nat) : Int × Int := (sgn 16 (w / 65536), sgn 16 w)

/-- Complex products and sums of integers. -/
def cmul (a b : Int × Int) : Int × Int := (a.1 * b.1 - a.2 * b.2, a.1 * b.2 + a.2 * b.1)
def cadd (a b : Int × Int) : Int × Int := (a.1 + b.1, a.2 + b.2)

/-- An accumulator narrowed by SCALE (R133): rounded convergently and saturated; and whether it was. -/
def narrow16 (scale : Nat) (acc : Int) : Int × Bool :=
  let q := convRound acc (2 ^ (18 - scale))
  (clampI (-32768) 32767 q, !fitsBits 16 q)

/-- The product of R131 or R132 on one resource element: entries and values in pairs, and SCALE. -/
def beamSum (l : List ((Int × Int) × (Int × Int))) : Int × Int := l.foldl (fun acc p => cadd acc (cmul p.1 p.2)) (0, 0)

/-- Saturated output values of one output. -/
def satCount (scale : Nat) (acc : Int × Int) : Nat := b2n (narrow16 scale acc.1).2 + b2n (narrow16 scale acc.2).2

/-- The set that a descriptor of WSRC 0b00 or 0b10 selects, if the selection is valid (R135). -/
def Dev.resolveSet (d : Dev) (e : Desc) : Option Nat :=
  let good := fun (n : Nat) => d.wsUsed n && (d.wset n).carrier == e.carrier && (d.wset n).ul == e.ul && d.flag (F.BEAM_WSn_STAT_PRIMED n)
  if e.wsrc = 0 then (if good e.wsel then some e.wsel else none)
  else match d.computedSet e.carrier e.ul with
    | some n => if good n ∧ e.wsel < 256 ∧ d.getF (F.BEAM_WSn_STAT_GRP_ACT n) = e.wsel then some n else none
    | none => none

/-- The set fixed for a slot: that of the first descriptor accepted (R136). -/
def Dev.slotSet (d : Dev) (e : Desc) : Option Nat :=
  (d.fhp.descs.filter (fun o => o.carrier == e.carrier && o.ul == e.ul && o.kind == 0 && (o.wsrc == 0 || o.wsrc == 2) &&
    { o.pos with symbol := 0 } == { e.pos with symbol := 0 })).findSome? d.resolveSet

/-- A descriptor judged (R135 to R137): whether its PRBs are muted, with what is counted. -/
def Dev.judge (d : Dev) (e : Desc) : Bool × Dev :=
  match e.wsrc with
  | 3 => (true, d)
  | 1 => if d.nbeam < e.wsel + popc 32 e.layers then (true, d.wselErr) else (false, d)
  | _ =>
    match d.resolveSet e with
    | none => if e.wsrc = 2 then (true, (d.count A.BEAM_GROUP_MISS).beamInt 9) else (true, d.wselErr)
    | some n =>
      if d.slotSet e ≠ some n then (true, d.wselErr)
      else (false, d.wselErr ((bitsOf 32 e.layers).filter (fun l => decide ((d.wset n).layers ≤ l))).length)

/-- The descriptors of a symbol that have not been judged yet are judged. -/
def Dev.judgeAll (d : Dev) (k : Nat) (ul : Bool) (pos : AirPos) : Dev :=
  d.forL (d.fhp.descs.filter (fun e => e.carrier == k && e.ul == ul && e.kind == 0 && e.judged.isNone && e.symbols.contains pos))
    (fun d e =>
      let (m, d) := d.judge e
      d.modFhp (fun f => { f with descs := f.descs.map (fun x => if x = e then { x with judged := some m } else x) }))

/-- Whether a run of weight entries is correctable, its reads logged (R150). -/
def Dev.readEntries (d : Dev) (e n : Nat) : Bool × Dev := d.readEcc 5 (d.entryAddr e) (4 * n)

/-- A matrix that cannot be used: the fallback takes its place for the rest of the slot, or nothing does (R150, R151). -/
def Dev.fall (d : Dev) (f : Fallen) (layers : List Nat) : Dev :=
  let (bad, d) := layers.foldl (fun acc l =>
    let (b, d) := acc.2.readEntries (fallbackEntry f.carrier f.ul l) 64
    (acc.1 || b, d)) (false, d)
  let d := (d.count A.BEAM_UE_GRP).beamInt 2
  let d := if bad then (d.count A.BEAM_FB_FAIL).beamInt 3 else d
  d.modBeam (fun b => { b with fallen := b.fallen ++ [{ f with dark := bad }] })

/-- The matrix kept for the rest of a slot in place of a set's or a beam's, if any. -/
def Dev.fallenAt (d : Dev) (beam : Bool) (k : Nat) (ul : Bool) (id grp : Nat) : Option Fallen :=
  d.beam.fallen.find? (fun f => f.beam == beam && f.carrier == k && f.ul == ul && f.id == id && f.grp == grp)

/-- The layers of a descriptor below a set's layer count. -/
def Dev.setLayers (d : Dev) (e : Desc) (n : Nat) : List Nat := (bitsOf 32 e.layers).filter (fun l => decide (l < (d.wset n).layers))

/-- The matrices a descriptor needs on a PRB are read (R150): each layer's place in the weight memory and its SCALE,
none where the PRB is muted for the rest of the slot. -/
def Dev.matrixOn (d : Dev) (e : Desc) (prb : Nat) : Option (List (Nat × Nat) × Nat) × Dev :=
  let fscale := bitsN (d.reg (if e.ul then A.BEAM_FSCALE_UL else A.BEAM_FSCALE_DL)).toNat (3 * e.carrier) 3
  if e.wsrc = 1 then
    let cols := (bitsOf 32 e.layers).zipIdx.map (fun p => (p.1, e.wsel + p.2))
    let d := d.forL cols (fun d c =>
      if (d.fallenAt true e.carrier e.ul c.2 c.1).isSome then d
      else
        let (bad, d) := d.readEntries (beamEntry c.2) 64
        if bad then d.fall { beam := true, carrier := e.carrier, ul := e.ul, id := c.2, grp := c.1, dark := false } [c.1] else d)
    if cols.any (fun c => (d.fallenAt true e.carrier e.ul c.2 c.1).any (·.dark)) then (none, d)
    else (some (cols.map (fun c =>
      (c.1, if (d.fallenAt true e.carrier e.ul c.2 c.1).isSome then fallbackEntry e.carrier e.ul c.1 else beamEntry c.2)), fscale), d)
  else match d.resolveSet e with
    | none => (none, d)
    | some n =>
      let w := d.wset n
      let g := prb / w.g
      let ls := d.setLayers e n
      let at_ := fun (l : Nat) => d.wsActive n + (g * w.layers + l) * 64
      let d := if (d.fallenAt false e.carrier e.ul n g).isSome then d
        else
          let (bad, d) := ls.foldl (fun acc l => let (b, d) := acc.2.readEntries (at_ l) 64; (acc.1 || b, d)) (false, d)
          if bad then d.fall { beam := false, carrier := e.carrier, ul := e.ul, id := n, grp := g, dark := false } ls else d
      match d.fallenAt false e.carrier e.ul n g with
      | some f => (if f.dark then none else some (ls.map (fun l => (l, fallbackEntry e.carrier e.ul l)), fscale), d)
      | none => (some (ls.map (fun l => (l, at_ l)), w.scale), d)

/-- The values of one PRB of a section, saturated to 16 bits (R101). -/
def USec.prb (s : USec) (prb : Nat) : List Int :=
  let b := (s.data.flatMap byteBits).drop (prbBits s.comp * (prb - s.start))
  (prbValues s.comp (b.take (prbBits s.comp))).map (clampI (-32768) 32767)

/-- The downlink output of one antenna on one resource element, before narrowing (R131). -/
def Dev.antennaSum (m : Mem) (d : Dev) (k : Nat) (pos : AirPos) (prb re a : Nat) (cols : List (Nat × Nat)) : Int × Int :=
  beamSum (cols.map (fun c =>
    let v := match d.secOn k c.1 pos prb with
      | some s => let x := s.prb prb; (x.getD (2 * re) 0, x.getD (2 * re + 1) 0)
      | none => (0, 0)
    (entryOf (memNat m (d.entryAddr (c.2 + a)) 4), v)))

/-- Saturated values counted (R133). -/
def Dev.beamSat (d : Dev) (n : Nat) : Dev := if n = 0 then d else (d.count64 A.BEAM_SAT_LO A.BEAM_SAT_HI n).beamInt 10

/-- The beam clusters apply a downlink symbol (R131, R133, R150). -/
def Dev.applyDl (m : Mem) (d : Dev) (k : Nat) (pos : AirPos) : Dev :=
  if !d.flag F.BEAM_CTRL_DL_EN then d
  else
    (d.judgeAll k false pos).forN (d.prbs k) (fun d prb =>
      match d.descOn k false pos prb with
      | none => d
      | some e =>
        if e.judged ≠ some false then d
        else
          let (mat, d) := d.matrixOn e prb
          match mat with
          | none => d
          | some (cols, scale) =>
            d.beamSat (((List.range 12).flatMap (fun re => (List.range 64).map (fun a =>
              satCount scale (d.antennaSum m k pos prb re a cols)))).foldl (· + ·) 0))

/-- The beam clusters combine an uplink symbol (R132, R150): the values are the environment's, with how many saturated. -/
def Dev.applyUl (d : Dev) (k : Nat) (pos : AirPos) (sats : Nat) : Dev :=
  if !d.flag F.BEAM_CTRL_UL_EN then d
  else
    ((d.judgeAll k true pos).forN (d.prbs k) (fun d prb =>
      match d.descOn k true pos prb with
      | none => d
      | some e => if e.judged ≠ some false then d else (d.matrixOn e prb).2)).beamSat sats

/-- The descriptors of a carrier's slots that have ended are done with, at a symbol of a later slot. -/
def Dev.dropDescs (d : Dev) (k : Nat) (ul : Bool) (pos : AirPos) : Dev :=
  d.modFhp (fun f => { f with descs := f.descs.filter (fun e =>
    !(e.carrier == k && e.ul == ul && e.kind == 0 && { e.pos with symbol := 0 } != { pos with symbol := 0 } &&
      decide (d.airTime k ul { e.pos with symbol := 13 } ≤ d.nowAir))) })

/-! User contexts and sounding (R153 to R160). -/

/-- Ports of the store, PRBs of a subband, subbands of the store (R154, R170). -/
def Dev.ctxPorts (d : Dev) : Nat := d.getF F.BEAM_CTX_CFG_PORTS + 1
def Dev.ctxSb (d : Dev) : Nat := 4 * 2 ^ d.getF F.BEAM_CTX_CFG_SB
def Dev.ctxNsb (d : Dev) : Nat := d.getF F.BEAM_CTX_CFG_NSB

/-- Subbands of a carrier (R153). -/
def subbands (nprb sb : Nat) : Nat := max 1 (nprb / sb)

/-- First subband of a carrier in the numbering of a context (R153). -/
def Dev.subFirst (d : Dev) (k : Nat) : Nat :=
  (((List.range k).filter d.carOn).map (fun j => subbands (d.prbs j) d.ctxSb)).foldl (· + ·) 0

/-- Byte address of an estimate (R154). -/
def Dev.estAddr (d : Dev) (u p s a : Nat) : Nat := d.regionBase 1 + 4 * (((u * d.ctxPorts + p) * d.ctxNsb + s) * 64 + a)

/-- PRBs of a subband that an occasion covers. -/
def coverPrbs (nprb sb k start n : Nat) : Nat :=
  let lo := sb * k
  let hi := if k + 1 = subbands nprb sb then nprb else sb * (k + 1)
  ((List.range (hi - lo)).filter (fun i => decide (start ≤ lo + i ∧ lo + i < start + n))).length

/-- The exponent field of a port. -/
def expF (u : Nat) : Nat → Fld
  | 0 => F.BEAM_UCn_EXP_EXP0 u
  | _ => F.BEAM_UCn_EXP_EXP1 u
def noiseF (u : Nat) : Nat → Fld
  | 0 => F.BEAM_UCn_NOISE_NOISE0 u
  | _ => F.BEAM_UCn_NOISE_NOISE1 u

/-- A power of two with a whole exponent. -/
def pow2 (e : Int) : Rat := if 0 ≤ e then (2 : Rat) ^ e.toNat else 1 / (2 : Rat) ^ (-e).toNat

/-- The stored estimate of an antenna (R154). -/
def Dev.estOld (m : Mem) (d : Dev) (u p s a : Nat) : Rat × Rat :=
  let (i, q) := entryOf (memNat m (d.estAddr u p s a) 4)
  let f := pow2 (sgn 8 (d.getF (expF u p)) - 15)
  ((i : Rat) * f, (q : Rat) * f)

/-- The exponent for a largest component (R159): that which brings it into [2^14, 2^15); none for zero. -/
def expFor (mx : Rat) : Option Int :=
  if mx ≤ 0 then none
  else ((List.range 256).map (fun i => (i : Int) - 128)).find? (fun e => decide (mx * pow2 (15 - e) < 2 ^ 15 ∧ 2 ^ 14 ≤ mx * pow2 (15 - e)))

/-- A component as stored: its rounding is free, within 16 bits. -/
def Dev.storeComp (d : Dev) (v : Rat) : Int × Dev :=
  let (z, d) := d.roundFree v.num v.den
  (clampI (-32768) 32767 z, d)

/-- One port of a context after an occasion on a carrier (R158, R159). -/
def Dev.srsPort (m : Mem) (d : Dev) (est : SrsEstimate) (e : Desc) (p : Nat) : Writes × Dev :=
  let u := est.ctx.val
  let k := e.carrier
  let alpha := d.getF (F.BEAM_UCn_CFG_ALPHA_K u)
  let first := d.subFirst k
  let valid := d.flag (F.BEAM_UCn_STAT_VALID u)
  let news := fun (s a : Nat) =>
    let old := d.estOld m u p s a
    match est.ests.find? (fun x => x.port == p && first + x.sub == s && decide (x.sub < subbands (d.prbs k) d.ctxSb) &&
        decide (d.ctxSb / 2 ≤ coverPrbs (d.prbs k) d.ctxSb x.sub e.start e.nprb)) with
    | none => old
    | some x => match x.ant.getD a none with
      | none => old
      | some h => if valid then (old.1 + (h.1 - old.1) / 2 ^ alpha, old.2 + (h.2 - old.2) / 2 ^ alpha) else h
  let all := (List.range d.ctxNsb).map (fun s => (List.range 64).map (fun a => news s a))
  let mx := (all.flatMap id).foldl (fun acc v => max acc (max |v.1| |v.2|)) 0
  let (ex, d) := match expFor mx with
    | some x => (x, d)
    | none => let (v, d) := d.anyNat; (sgn 8 v, d)
  let (bytes, d) := (all.flatMap id).foldl (fun acc v =>
    let (i, d) := acc.2.storeComp (v.1 * pow2 (15 - ex))
    let (q, d) := d.storeComp (v.2 * pow2 (15 - ex))
    (acc.1 ++ le4 (unsgn 16 i * 65536 + unsgn 16 q), d)) (([] : List Byte), d)
  let nz := est.noise.getD p 0 * pow2 (38 - 2 * ex)
  let (n, d) := d.roundFree nz.num nz.den
  let (n, d) := if 0 ≤ n ∧ n < 65536 then (n.toNat, d) else d.anyNat
  let a := d.estAddr u p 0 0
  ([(a, bytes)], ((d.setF (expF u p) (unsgn 8 ex)).setF (noiseF u p) n).wroteEcc 4 a bytes)

/-- SRS_DONE: the oldest accepted occasion of the context ends (R159). -/
def Dev.srsDone (m : Mem) (d : Dev) (est : SrsEstimate) : Writes × Dev :=
  let u := est.ctx.val
  match d.fhp.descs.find? (fun e => e.kind == 1 && e.wsel == u) with
  | none => ([], d)
  | some e =>
    let d := d.modFhp (fun f => { f with descs := f.descs.erase e })
    if !d.flag F.BEAM_CTRL_SRS_EN then ([], d)
    else
      let (ws, d) := (List.range (min d.ctxPorts (d.srsPorts u))).foldl (fun acc p =>
        let (w, d) := acc.2.srsPort m est e p
        (acc.1 ++ w, d)) (([] : Writes), d)
      let d := ((d.setB (F.BEAM_UCn_STAT_VALID u) true).setF (F.BEAM_UCn_STAT_AGE u) 0).setF (F.BEAM_UCn_STAT_UPDATES u)
        (d.getF (F.BEAM_UCn_STAT_UPDATES u) + 1)
      (ws, d.beamInt 6)

/-- SRS_DONE (R159). -/
def execSrsDone (est : SrsEstimate) (s : State) : Host.Outcome State Fault Refusal := runW s (fun m d => d.srsDone m est)

/-- CONTEXT_AGE_TICK (R159). -/
def execContextAgeTick (s : State) : Host.Outcome State Fault Refusal :=
  run s (fun d => d.forN 512 (fun d u =>
    if d.flag (F.BEAM_UCn_STAT_VALID u) then d.setF (F.BEAM_UCn_STAT_AGE u) (min 255 (d.getF (F.BEAM_UCn_STAT_AGE u) + 1)) else d))

/-- A write of BEAM_UCn_CFG (R155). -/
def Dev.ucCfgWrite (d : Dev) (u v : Nat) : Dev :=
  (d.setReg (A.BEAM_UCn_CFG u) (BitVec.ofNat 32 (v / 256 * 256))).setB (F.BEAM_UCn_STAT_VALID u) false

/-- USER_CONTEXT_CFG_WRITE (R155). -/
def execUserContextCfgWrite (u : Fin 512) (v : BitVec 32) (s : State) : Host.Outcome State Fault Refusal :=
  run s (·.ucCfgWrite u.val v.toNat)

/-! Weight jobs (R161 to R164). -/

/-- The subbands of a carrier that the PRB groups of a job need: all of them. -/
def Dev.jobSubs (d : Dev) (ks : List Nat) : List Nat :=
  ks.flatMap (fun k => (List.range (subbands (d.prbs k) d.ctxSb)).map (d.subFirst k + ·))

/-- Whether a layer is stale (R162). -/
def Dev.staleLayer (d : Dev) (maxAge : Nat) (ks : List Nat) (l : Nat × Nat) : Bool :=
  !d.flag (F.BEAM_UCn_STAT_VALID l.1) || decide (maxAge < d.getF (F.BEAM_UCn_STAT_AGE l.1)) ||
    (d.jobSubs ks).any (fun s => (d.badWords (d.estAddr l.1 l.2 s 0) 256).any (fun w => w.2.1 == .ue || w.2.1 == .addr))

/-- Antennas whose TX path is shed or whose tile sleeps (R162). -/
def Dev.darkAntennas (d : Dev) : List Nat :=
  (List.range 64).filter (fun a => (d.getF (F.TILE_SHED_TX_SHED (a / 16))).testBit (a % 16) || !d.awake (a / 16))

/-- WEIGHT_JOB_START: job `i` starts with the estimates as they stand (R162, R163). -/
def Dev.weightJobStart (d : Dev) (i : Nat) : Dev :=
  match d.beam.jobs[i]? with
  | none => d
  | some j =>
    if j.running then d
    else match Tab.get (fun _ => none) j.grp d.beam.groups with
      | none => d
      | some g =>
        let stale := (g.layers.zipIdx.filter (fun l => d.staleLayer g.maxAge j.carriers l.1)).map (·.2)
        let j' := { j with running := true, layers := g.layers, stale := stale, dark := d.darkAntennas }
        let d := j.carriers.foldl (fun d k => (g.layers.foldl (fun d l =>
          (d.readEcc 1 (d.estAddr l.1 l.2 (d.subFirst k) 0) (256 * subbands (d.prbs k) d.ctxSb)).2) d)) d
        d.modBeam (fun b => { b with jobs := b.jobs.set i j', staleLayer := b.staleLayer + stale.length })

/-- WEIGHT_JOB_START (R163). -/
def execWeightJobStart (i : Nat) (s : State) : Host.Outcome State Fault Refusal := run s (·.weightJobStart i)

/-- The entries a job writes into one copy (R161, R162): zero for stale layers and dark antennas; the others are what
the kernel's arithmetic makes of R161, which the spec gives in real numbers only: free. -/
def Dev.jobEntries (d : Dev) (j : WJob) (w : WSet) : List Byte × Dev :=
  (List.range (ngroups (d.prbs w.carrier) w.g)).foldl (fun acc _ =>
    (List.range w.layers).foldl (fun acc l =>
      (List.range 64).foldl (fun acc a =>
        if j.layers.length ≤ l ∨ j.stale.contains l ∨ j.dark.contains a then (acc.1 ++ le4 0, acc.2)
        else let (v, d) := acc.2.anyWord; (acc.1 ++ word4 v, d)) acc) acc) (([] : List Byte), d)

/-- WEIGHT_JOB_DONE: the shadows have been written and tagged; the firmware reports and commits (R163, R169). A shadow
that is not OPEN takes nothing (R148). -/
def Dev.weightJobDone (d : Dev) (i : Nat) : Writes × Dev :=
  match d.beam.jobs[i]? with
  | none => ([], d)
  | some j =>
    if !j.running then ([], d)
    else
      let d := d.modBeam (fun b => { b with jobs := b.jobs.eraseIdx i })
      let (ws, d) := j.sets.foldl (fun acc n =>
        let d := acc.2
        if d.wsState n = wsOpen then
          let (bs, d) := d.jobEntries j (d.wset n)
          let (w, d) := d.shadowWrite 16 n 0 bs
          (acc.1 ++ w, d)
        else (acc.1, d.protViol)) (([] : Writes), d)
      let d := (d.dropPend j.op).beamEvent j.op.mb j.op.tag 3 j.grp j.stale.length j.target
      let d := d.modBeam (fun b => { b with commits := b.commits ++ j.sets.map (fun n =>
        { set := n, mb := j.op.mb, tag := j.op.tag, target := j.target, grp := j.grp }) })
      (ws, d.pumpCommits)

/-- WEIGHT_JOB_DONE (R163). -/
def execWeightJobDone (i : Nat) (s : State) : Host.Outcome State Fault Refusal := runW s (fun _ d => d.weightJobDone i)

/-! The capacity check (R167). -/

/-- Entries the weight memory must hold. -/
def Dev.wmemNeed (d : Dev) (sets : List WSet) (nbeam : Nat) : Nat :=
  32768 + 64 * nbeam + (sets.map (fun w => 2 * d.wsEntries w)).foldl (· + ·) 0

/-- Whether sets and fixed beams fit the weight memory. -/
def Dev.wmemFits (d : Dev) (sets : List WSet) (nbeam : Nat) : Bool := decide (d.wmemNeed sets nbeam ≤ d.regionSize 0 / 4)

/-- Whether a band group's directions carry different frequencies (R210): FDD. -/
def Dev.fddGroup (d : Dev) (g : Nat) : Bool :=
  let t := 2 * g
  let tx := d.pair (A.TILE_TX_FTW_LO t) (A.TILE_TX_FTW_HI t)
  let rx := d.pair (A.TILE_RX_FTW_LO t) (A.TILE_RX_FTW_HI t)
  (2 * tx) % 2 ^ 48 != rx

/-- Whether the module runs FDD: some band group with an enabled carrier does. -/
def Dev.fdd (d : Dev) : Bool := [0, 1].any (fun g => d.groupUsed g && d.fddGroup g)

/-- Real MAC per second of one direction. -/
def Dev.applyLoad (d : Dev) (sets : List WSet) (ul : Bool) : Nat :=
  (((List.range 8).filter d.carOn).map (fun k =>
    let l := ((sets.filter (fun w => w.carrier == k && w.ul == ul)).map (·.layers)).foldl max 0
    d.prbs k * 12 * symRate (d.getF (F.CARk_CFG_MU k)) * 64 * l * 4)).foldl (· + ·) 0

/-- Clusters assigned to owner kernels (R204). -/
def Dev.ownerClusters (d : Dev) : Nat := d.fw.ownerClu

/-- Whether the apply load fits a number of apply clusters. -/
def Dev.loadFits (d : Dev) (sets : List WSet) (apply : Nat) : Bool :=
  let dl := d.applyLoad sets false
  let ul := d.applyLoad sets true
  decide ((if d.fdd then dl + ul else max dl ul) * 10 ≤ 8 * apply * 1536000000000)

/-- Weight clusters under a mask, and apply clusters: those that host software has not set aside. -/
def Dev.calcClusters (d : Dev) (mask : Nat) : Nat := popc 16 (mask &&& (65535 - d.ownerClusters % 65536))
def Dev.applyClusters (d : Dev) (mask : Nat) : Nat := 16 - popc 16 (d.ownerClusters % 65536) - d.calcClusters mask

/-- The largest count of weight clusters that leaves the apply load within its limit. -/
def Dev.calcLegal (d : Dev) (sets : List WSet) : Nat :=
  let own := popc 16 (d.ownerClusters % 65536)
  ((List.range (17 - own)).filter (fun w => d.loadFits sets (16 - own - w))).foldl max 0

/-- Six times cost(L). -/
def cost6 (l : Nat) : Nat := 4 * (768 * l + 768 * l * l + l * l * l) + 7200 * l

/-- PRB groups of a job on its carriers. -/
def Dev.jobGroups (d : Dev) (ks : List Nat) (dl ul : Bool) : Nat :=
  (ks.map (fun k =>
    let n := fun (u : Bool) => match d.computedSet k u with
      | some s => ngroups (d.prbs k) (d.wset s).g
      | none => 0
    max (if dl then n false else 0) (if ul then n true else 0))).foldl (· + ·) 0

/-- Whether weight jobs with one target fit the window: pairs of PRB groups and layers. -/
def Dev.jobsFit (d : Dev) (l : List (Nat × Nat)) : Bool :=
  decide (((l.map (fun p => p.1 * cost6 p.2)).foldl (· + ·) 0) * 10 ≤
    36 * d.calcClusters (d.getF F.BEAM_CLU_MAP_CALC) * 1536000 * clampN 50 1000 (d.getF F.BEAM_CALC_WIN_US))

/-- The layers of a group. -/
def Dev.groupL (d : Dev) (g : Nat) : Nat := match Tab.get (fun _ => none) g d.beam.groups with
  | some x => x.layers.length
  | none => 0

/-- The jobs with a target, as pairs of PRB groups and layers. -/
def Dev.jobsAt (d : Dev) (t : AirPos) : List (Nat × Nat) :=
  (d.beam.jobs.filter (fun j => j.target == t)).map (fun j => (d.jobGroups j.carriers j.dl j.ul, d.groupL j.grp))

/-- Whether the store of user contexts fits (R153, R154, R167). -/
def Dev.storeFits (d : Dev) (users ports sb nsb size : Nat) : Bool :=
  decide ((((List.range 8).filter d.carOn).map (fun k => subbands (d.prbs k) sb)).foldl (· + ·) 0 ≤ nsb ∧ users * ports * nsb * 256 ≤ size)

/-- The check of sets, for a command that configures those numbered `own` (R167). -/
def Dev.setsCheck (d : Dev) (sets : List WSet) (own : List Nat) : Option (Nat × Nat) :=
  let withG := fun g => sets.map (fun w => if own.contains w.n then { w with g := g } else w)
  let withL := fun l => sets.map (fun w => if own.contains w.n then { w with layers := l } else w)
  if !d.wmemFits sets d.nbeam then
    match [1, 2, 4, 8, 16].find? (fun g => d.wmemFits (withG g) d.nbeam) with
    | some g => some (0x0101, g)
    | none =>
      let l := ((List.range 33).filter (fun l => decide (1 ≤ l) && d.wmemFits (withL l) d.nbeam)).foldl max 0
      if l = 0 then some (0x0101, 0) else some (0x0102, l)
  else if !d.loadFits sets (d.applyClusters (d.getF F.BEAM_CLU_MAP_CALC)) then some (0x0105, d.calcLegal sets)
  else none

/-- The check that a change of carriers runs on the sets and the store as they stand (R167). -/
def Dev.beamCheck (d : Dev) : Option (Nat × Nat) :=
  match d.setsCheck d.wsets (d.wsets.map (·.n)) with
  | some l => some l
  | none =>
    if d.storeFits d.nUser d.ctxPorts d.ctxSb d.ctxNsb (d.regionSize 1) then none
    else some (0x0104, if d.storeFits 0 d.ctxPorts d.ctxSb d.ctxNsb (d.regionSize 1) then
      min 512 (d.regionSize 1 / (d.ctxPorts * d.ctxNsb * 256)) else 0)

/-! Placing copies (R140). -/

/-- Where the copies of sets lie, in order above the fixed beams: set, first entry of each copy. -/
def Dev.placed (d : Dev) (floor : Nat) : List Nat → List (Nat × Nat × Nat)
  | [] => []
  | n :: r =>
    let k := d.wsEntries (d.wset n)
    (n, floor, floor + k) :: Dev.placed d (floor + 2 * k) r

/-- The firmware packs the copies in the order of configuration; what a copy held goes with it. -/
def Dev.pack (m : Mem) (d : Dev) : Writes × Dev :=
  (d.placed d.copyFloor d.beam.order).foldl (fun acc p =>
    let d := acc.2
    let k := 4 * d.wsEntries (d.wset p.1)
    let move := fun (from_ to_ : Nat) => if from_ = to_ then ([] : Writes) else [(d.entryAddr to_, memRead m (d.entryAddr from_) k)]
    let ws := move (d.wsBase p.1 0) p.2.1 ++ move (d.wsBase p.1 1) p.2.2
    (acc.1 ++ ws, (d.setF (F.BEAM_WSn_BASE0_ENTRY p.1) p.2.1).setF (F.BEAM_WSn_BASE1_ENTRY p.1) p.2.2)) (([] : Writes), d)

/-- A set freed (R168). -/
def Dev.wsFreeSet (d : Dev) (n : Nat) : Dev := (d.modBeam (fun b => { b with order := b.order.erase n })).wsUse n false

/-- Every set of a carrier freed (R168). -/
def Dev.freeCarrierSets (d : Dev) (k : Nat) : Dev :=
  d.forL (d.wsets.filter (fun w => w.carrier == k)) (fun d w => d.wsFreeSet w.n)

/-! Commands of the beam class (R168). -/

/-- WMEM_CFG. -/
def cmdWmemCfg (pl : List Byte) : Body := fun m d =>
  let n := leAt pl 0 2
  if 4096 < n then badParam d
  else if !d.wmemFits d.wsets n then
    limitR d 0x0103 ((d.regionSize 0 / 4 - d.wmemNeed d.wsets 0) / 64)
  else
    let (ws, d) := (d.setF F.BEAM_NBEAM_NBEAM n).pack m
    (.ok [], d, ws)

/-- CLU_MAP. -/
def cmdCluMap (pl : List Byte) : Body := devBody fun d =>
  let mask := leAt pl 0 2
  if !d.loadFits d.wsets (d.applyClusters mask) then limitR d 0x0105 (d.calcLegal d.wsets)
  else okR (d.setF F.BEAM_CLU_MAP_CALC mask)

/-- The code of a group size. -/
def gCode (g : Nat) : Nat := if g = 1 then 0 else if g = 2 then 1 else if g = 4 then 2 else if g = 8 then 3 else 4

/-- WSET_CFG: one set, or several checked together and configured all or none. -/
def cmdWsetCfg (pl : List Byte) : Body := fun m d =>
  let n := max 1 (byteAt pl 7)
  let set := byteAt pl 0
  let k := byteAt pl 1
  let g := byteAt pl 3
  let l := byteAt pl 4
  let own := (List.range n).map (set + ·)
  let news : List WSet := (List.range n).map (fun i =>
    { n := set + i, carrier := k + i, ul := byteAt pl 2 == 1, g := g, layers := l, computed := byteAt pl 5 == 1, scale := byteAt pl 6 })
  let sets := d.wsets.filter (fun w => !own.contains w.n) ++ news
  let twice := byteAt pl 5 = 1 ∧ (d.wsets.filter (fun w => !own.contains w.n)).any (fun w =>
    w.computed && w.ul == (byteAt pl 2 == 1) && news.any (fun v => v.carrier == w.carrier))
  if 8 < byteAt pl 7 ∨ 64 < set + n ∨ 8 < k + n ∨ 1 < byteAt pl 2 ∨ !([1, 2, 4, 8, 16].contains g) ∨ l = 0 ∨ 32 < l ∨
      1 < byteAt pl 5 ∨ 7 < byteAt pl 6 ∨ twice then badParam d
  else match d.setsCheck sets own with
    | some p => limitOf d p
    | none =>
      let d := news.foldl (fun d w =>
        let d := d.wsFreeSet w.n
        let d := d.wsCfgWrite w.n (2 ^ 31 + b2n w.computed * 2 ^ 30 + b2n w.ul * 2 ^ 29 + w.carrier * 2 ^ 26 + gCode w.g * 2 ^ 23 +
          (w.layers - 1) * 2 ^ 18 + w.scale * 2 ^ 15)
        d.modBeam (fun b => { b with order := b.order ++ [w.n] })) d
      let (ws, d) := d.pack m
      (.ok [], d, ws)

/-- WSET_FREE. -/
def cmdWsetFree (pl : List Byte) : Body := devBody fun d =>
  if !d.wsUsed (byteAt pl 0) then badParam d else okR (d.wsFreeSet (byteAt pl 0))

/-- A slot named in a payload: SFN in two bytes, SUBFRAME, SLOT. -/
def slotAt (pl : List Byte) (i : Nat) : AirPos := { sfn := leAt pl i 2, subframe := byteAt pl (i + 2), slot := byteAt pl (i + 3), symbol := 0 }

/-- WSET_COMMIT (R542): the target is resolved at acceptance. -/
def cmdWsetCommit (h : CmdHdr) (pl : List Byte) : Body := devBody fun d =>
  let n := byteAt pl 0
  let next := (byteAt pl 1).testBit 0
  if !d.wsUsed n ∨ (!next ∧ !posOk (d.getF (F.CARk_CFG_MU (d.wset n).carrier)) (slotAt pl 2)) then badParam d
  else if d.wsState n = wsCommitted ∨ d.wsState n = wsLocked ∨ d.beam.commits.any (fun c => c.set == n) then busyR d
  else
    let t := if next then d.nextTarget n else slotAt pl 2
    let op : PendOp := ⟨h.mb.val, h.tag.toNat, h.seq.toNat, 0x3012, [n]⟩
    (.pending [n], d.modBeam (fun b => { b with commits := b.commits ++
      [{ set := n, mb := h.mb.val, tag := h.tag.toNat, target := t, bcount := leAt pl 8 4, grp := d.getF (F.BEAM_WSn_CMD_GRP n), op := some op }] }), [])

/-- WSET_WRITE: a COMPUTED set takes none of it (R148). -/
def cmdWsetWrite (pl : List Byte) : Body := devBody fun d =>
  let n := byteAt pl 0
  let off := leAt pl 2 3
  let data := pl.drop 8
  if !d.wsUsed n ∨ data.length % 4 ≠ 0 ∨ d.wsEntries (d.wset n) < off + data.length / 4 then badParam d
  else if d.flag (F.BEAM_WSn_CFG_SRC n) then okR d.protViol
  else if d.wsState n ≠ wsOpen then busyR d
  else
    let (ws, d) := d.shadowWrite 1 n off data
    (.ok [], d, ws)

/-- WSET_STAT: the set's seven registers. -/
def cmdWsetStat (pl : List Byte) : Body := devBody fun d =>
  if 64 ≤ byteAt pl 0 then badParam d else okR d (d.regsBytes (A.BEAM_WSn_CFG (byteAt pl 0)) 7)

/-- Entries written by the firmware outside the copies. -/
def Dev.fwEntries (d : Dev) (e : Nat) (data : List Byte) : CmdOut :=
  let (ws, _, d) := d.hamperWrite 1 (d.entryAddr e) data
  (.ok [], d, ws)

/-- FALLBACK_SET. -/
def cmdFallbackSet (pl : List Byte) : Body := devBody fun d =>
  let k := byteAt pl 0
  let l := byteAt pl 2
  let n := byteAt pl 3
  if 7 < k ∨ 1 < byteAt pl 1 ∨ n = 0 ∨ 15 < n ∨ 32 < l + n ∨ pl.length ≠ 4 + 256 * n then badParam d
  else d.fwEntries (fallbackEntry k (byteAt pl 1 == 1) l) (pl.drop 4)

/-- BEAM_SET. -/
def cmdBeamSet (pl : List Byte) : Body := devBody fun d =>
  let b := leAt pl 0 2
  let n := leAt pl 2 2
  if n = 0 ∨ 15 < n ∨ d.nbeam < b + n ∨ pl.length ≠ 8 + 256 * n then badParam d
  else d.fwEntries (beamEntry b) (pl.drop 8)

/-- CTX_CFG. -/
def cmdCtxCfg (pl : List Byte) : Body := devBody fun d =>
  let users := leAt pl 0 2
  let ports := byteAt pl 2
  let sb := byteAt pl 3
  let nsb := leAt pl 4 2
  if users = 0 ∨ 512 < users ∨ ports = 0 ∨ 2 < ports ∨ (sb ≠ 4 ∧ sb ≠ 8 ∧ sb ≠ 16) ∨ nsb = 0 ∨ 1023 < nsb then badParam d
  else if !d.storeFits users ports sb nsb (d.regionSize 1) then
    limitR d 0x0104 (if d.storeFits 0 ports sb nsb (d.regionSize 1) then min 512 (d.regionSize 1 / (ports * nsb * 256)) else 0)
  else okR (d.setReg A.BEAM_CTX_CFG (wordOf [(22, ports - 1), (20, if sb = 4 then 0 else if sb = 8 then 1 else 2), (10, nsb), (0, users)]))

/-- Whether a context's CFG word is one the firmware accepts (R156). -/
def ucOk (v : Nat) : Bool :=
  let comb := bitsN v 28 2
  let size := if comb = 0 then 2 else if comb = 1 then 4 else 8
  let mx := if comb = 0 then 8 else if comb = 1 then 12 else 6
  let cs0 := bitsN v 21 4
  let cs1 := bitsN v 17 4
  decide (comb < 3 ∧ bitsN v 25 3 < size ∧ cs0 < mx ∧ bitsN v 12 5 ≤ 29) &&
    (!v.testBit 30 || cs1 == (cs0 + mx / 2) % mx)

/-- USER_CFG. -/
def cmdUserCfg (pl : List Byte) : Body := devBody fun d =>
  let u := leAt pl 0 2
  let v := leAt pl 4 4
  if d.nUser ≤ u ∨ !ucOk v ∨ (v.testBit 30 ∧ d.ctxPorts < 2) then badParam d else okR (d.ucCfgWrite u v)

/-- USER_READ. -/
def cmdUserRead (pl : List Byte) : Body := fun m d =>
  let u := leAt pl 0 2
  let p := byteAt pl 2
  let s := leAt pl 4 2
  let n := leAt pl 6 2
  if d.nUser ≤ u ∨ d.ctxPorts ≤ p ∨ n = 0 ∨ 15 < n ∨ d.ctxNsb < s + n then badParam d
  else
    let a := d.estAddr u p s 0
    let (_, d') := d.readEcc 1 a (256 * n)
    okR d' (d.regsBytes (A.BEAM_UCn_CFG u) 4 ++ d.eccBytes m a (256 * n))

/-- The layers of a GROUP_CFG payload. -/
def groupLayers (pl : List Byte) : List (Nat × Nat) :=
  (List.range (byteAt pl 1)).map (fun i => let w := leAt pl (4 + 2 * i) 2; (w % 1024, w / 32768))

/-- GROUP_CFG: the jobs that wait for the group are checked with its new layers. -/
def cmdGroupCfg (pl : List Byte) : Body := devBody fun d =>
  let g := byteAt pl 0
  let l := byteAt pl 1
  let ls := groupLayers pl
  if l = 0 ∨ 32 < l ∨ pl.length ≠ 4 + 2 * l ∨ ls.any (fun x => decide (d.nUser ≤ x.1 ∨ d.ctxPorts ≤ x.2)) then badParam d
  else
    let put := fun (ls : List (Nat × Nat)) => d.modBeam (fun b => { b with
      groups := Tab.set (fun _ => none) g (some { reg := byteAt pl 2, maxAge := byteAt pl 3, layers := ls }) b.groups })
    let targets := (d.beam.jobs.filter (fun j => j.grp == g && !j.running)).map (·.target)
    let ok := fun (n : Nat) => let d' := put (ls.take n); targets.all (fun t => d'.jobsFit (d'.jobsAt t))
    if ok l then okR (put ls) else limitR d 0x0102 (((List.range l).filter ok).foldl max 0)

/-- GROUP_CALC (R163): the job waits for its start. -/
def cmdGroupCalc (h : CmdHdr) (pl : List Byte) : Body := devBody fun d =>
  let g := byteAt pl 0
  let ks := bitsOf 8 (byteAt pl 1)
  let dl := (byteAt pl 2).testBit 0
  let ul := (byteAt pl 2).testBit 1
  let t := slotAt pl 4
  let dirs := (if dl then [false] else []) ++ (if ul then [true] else [])
  let sets := ks.flatMap (fun k => dirs.map (fun u => d.computedSet k u))
  let ns := sets.filterMap id
  if (Tab.get (fun _ => none) g d.beam.groups).isNone ∨ ks.isEmpty ∨ dirs.isEmpty ∨ sets.any (·.isNone) ∨
      ks.any (fun k => !posOk (d.getF (F.CARk_CFG_MU k)) t) then badParam d
  else
    let ok := fun (l : Nat) => d.jobsFit (d.jobsAt t ++ [(d.jobGroups ks dl ul, l)])
    if !ok (d.groupL g) then limitR d 0x0102 (((List.range 33).filter ok).foldl max 0)
    else if ns.any (fun n => d.wsState n == wsCommitted || d.wsState n == wsLocked || d.beam.commits.any (fun c => c.set == n) ||
        d.beam.jobs.any (fun j => j.sets.contains n)) then busyR d
    else
      let op : PendOp := ⟨h.mb.val, h.tag.toNat, h.seq.toNat, 0x3041, [g]⟩
      (.pending [g], d.modBeam (fun b => { b with jobs := b.jobs ++
        [{ op := op, grp := g, carriers := ks, dl := dl, ul := ul, target := t, sets := ns }] }), [])

/-- BEAM_STAT: the counters, read and cleared, and the firmware's counts. -/
def cmdBeamStat (_pl : List Byte) : Body := devBody fun d =>
  let (bs, d) := d.takeRcs ([A.BEAM_TIE] ++ (List.range 9).map (A.BEAM_SWAP_CNT + 4 * ·) ++ [A.BEAM_SAT_LO, A.BEAM_SAT_HI])
  okR d (bs ++ le4 d.beam.calcLate ++ le4 d.beam.staleLayer)

/-- WMEM_CFG (R168). -/
def execWmemCfg (h : CmdHdr) (pl : List Byte) (s : State) : Host.Outcome State Fault Refusal :=
  runW s (runCmd h 0x3001 (lenIs 4) pl (cmdWmemCfg pl))

/-- CLU_MAP (R168). -/
def execCluMap (h : CmdHdr) (pl : List Byte) (s : State) : Host.Outcome State Fault Refusal :=
  runW s (runCmd h 0x3002 (lenIs 4) pl (cmdCluMap pl))

/-- WSET_CFG (R168). -/
def execWsetCfg (h : CmdHdr) (pl : List Byte) (s : State) : Host.Outcome State Fault Refusal :=
  runW s (runCmd h 0x3010 (lenIs 8) pl (cmdWsetCfg pl))

/-- WSET_FREE (R168). -/
def execWsetFree (h : CmdHdr) (pl : List Byte) (s : State) : Host.Outcome State Fault Refusal :=
  runW s (runCmd h 0x3011 (lenIs 4) pl (cmdWsetFree pl))

/-- WSET_COMMIT (R542): after the answer, COMMIT is written where BCOUNT has already arrived. -/
def execWsetCommit (h : CmdHdr) (pl : List Byte) (s : State) : Host.Outcome State Fault Refusal :=
  runW s (fun m d => let (ws, d) := runCmd h 0x3012 (lenIs 12) pl (cmdWsetCommit h pl) m d; (ws, d.pumpCommits))

/-- WSET_WRITE (R168). -/
def execWsetWrite (h : CmdHdr) (pl : List Byte) (s : State) : Host.Outcome State Fault Refusal :=
  runW s (runCmd h 0x3013 (lenIn 12 4096) pl (cmdWsetWrite pl))

/-- WSET_STAT (R168). -/
def execWsetStat (h : CmdHdr) (pl : List Byte) (s : State) : Host.Outcome State Fault Refusal :=
  runW s (runCmd h 0x3014 (lenIs 4) pl (cmdWsetStat pl))

/-- FALLBACK_SET (R168). -/
def execFallbackSet (h : CmdHdr) (pl : List Byte) (s : State) : Host.Outcome State Fault Refusal :=
  runW s (runCmd h 0x3020 (lenIn 260 3844) pl (cmdFallbackSet pl))

/-- BEAM_SET (R168). -/
def execBeamSet (h : CmdHdr) (pl : List Byte) (s : State) : Host.Outcome State Fault Refusal :=
  runW s (runCmd h 0x3021 (lenIn 264 3848) pl (cmdBeamSet pl))

/-- CTX_CFG (R168). -/
def execCtxCfg (h : CmdHdr) (pl : List Byte) (s : State) : Host.Outcome State Fault Refusal :=
  runW s (runCmd h 0x3030 (lenIs 8) pl (cmdCtxCfg pl))

/-- USER_CFG (R168). -/
def execUserCfg (h : CmdHdr) (pl : List Byte) (s : State) : Host.Outcome State Fault Refusal :=
  runW s (runCmd h 0x3031 (lenIs 8) pl (cmdUserCfg pl))

/-- USER_READ (R168). -/
def execUserRead (h : CmdHdr) (pl : List Byte) (s : State) : Host.Outcome State Fault Refusal :=
  runW s (runCmd h 0x3032 (lenIs 8) pl (cmdUserRead pl))

/-- GROUP_CFG (R168). -/
def execGroupCfg (h : CmdHdr) (pl : List Byte) (s : State) : Host.Outcome State Fault Refusal :=
  runW s (runCmd h 0x3040 (lenIn 6 68) pl (cmdGroupCfg pl))

/-- GROUP_CALC (R168). -/
def execGroupCalc (h : CmdHdr) (pl : List Byte) (s : State) : Host.Outcome State Fault Refusal :=
  runW s (runCmd h 0x3041 (lenIs 8) pl (cmdGroupCalc h pl))

/-- BEAM_STAT (R168). -/
def execBeamStat (h : CmdHdr) (pl : List Byte) (s : State) : Host.Outcome State Fault Refusal :=
  runW s (runCmd h 0x3050 (lenIs 0) pl (cmdBeamStat pl))

end Sys2Proof.Machine
end

