-- ==== Sys2Proof/Machine/ClusterIsa.lean ====
section
/-! DEFINITION. The bundles of a beam cluster (05_beam_clusters.md, R171 to R191, R203): which are legal, which wait,
and what each operation does. -/

namespace Sys2Proof.Machine

/-! The cluster's parts. -/

def Dev.clus (d : Dev) (c : Nat) : CluSt := Tab.get (fun _ => {}) c d.clu
def Dev.modClu (d : Dev) (c : Nat) (f : CluSt → CluSt) : Dev := { d with clu := Tab.set (fun _ => {}) c (f (d.clus c)) d.clu }

def CluSt.vreg (p : CluSt) (r i : Nat) : W32 := Tab.get (fun _ => 0) (64 * r + i) p.v
def CluSt.nreg (p : CluSt) (r i : Nat) : W32 := Tab.get (fun _ => 0) (16 * r + i) p.n
def CluSt.coef (p : CluSt) (b e i : Nat) : W32 := Tab.get (fun _ => 0) ((32 * b + e) * 64 + i) p.cf
def CluSt.obuf (p : CluSt) (b i : Nat) : W32 := Tab.get (fun _ => 0) (256 * b + i) p.ob
def CluSt.accu (p : CluSt) (k u : Nat) : Int × Int := Tab.get (fun _ => (0, 0)) (256 * k + u) p.acc
/-- A scalar register; S0 reads zero. -/
def CluSt.sreg (p : CluSt) (r : Nat) : W32 := if r = 0 then 0 else Tab.get (fun _ => 0) r p.s
def CluSt.agen (p : CluSt) (g : Nat) : AgSt := Tab.get (fun _ => {}) g p.ag

/-- Runs of elements put into a table from a key on. -/
def putRun {β : Type} [DecidableEq β] (dflt : β) (k : Nat) (xs : List β) (t : Tab β) : Tab β :=
  xs.zipIdx.foldl (fun t x => Tab.set (fun _ => dflt) (k + x.2) x.1 t) t

/-- A vector register written from an element on. -/
def CluSt.putV (p : CluSt) (r i : Nat) (xs : List W32) : CluSt := { p with v := putRun 0 (64 * r + i) xs p.v }
/-- A write to S0 is ignored. -/
def CluSt.putS (p : CluSt) (r : Nat) (x : W32) : CluSt :=
  if r = 0 then p else { p with s := Tab.set (fun _ => 0) r x p.s }
def CluSt.putAg (p : CluSt) (g : Nat) (f : AgSt → AgSt) : CluSt := { p with ag := Tab.set (fun _ => {}) g (f (p.agen g)) p.ag }
def CluSt.obLine (p : CluSt) (b : Nat) : Nat := if b = 0 then p.obLine0 else p.obLine1
def CluSt.setObLine (p : CluSt) (b x : Nat) : CluSt := if b = 0 then { p with obLine0 := x } else { p with obLine1 := x }
/-- The bank load under way, and the last status, of a bank. -/
def CluSt.load (p : CluSt) (b : Nat) : Option (Nat × Nat) := if b = 0 then p.load0 else p.load1
def CluSt.setLoad (p : CluSt) (b : Nat) (x : Option (Nat × Nat)) : CluSt := if b = 0 then { p with load0 := x } else { p with load1 := x }
def CluSt.stat (p : CluSt) (b : Nat) : Nat := if b = 0 then p.stat0 else p.stat1
def CluSt.setStat (p : CluSt) (b x : Nat) : CluSt := if b = 0 then { p with stat0 := x } else { p with stat1 := x }

/-- Whether Hamper transfers of the cluster are under way (R198). -/
def CluSt.busy (p : CluSt) : Bool := p.load0.isSome || p.load1.isSome || !p.copies.isEmpty

/-- A complex element and its word (R171). -/
def elemOf (w : W32) : Int × Int := entryOf w.toNat
def elemWord (i q : Int) : W32 := BitVec.ofNat 32 (unsgn 16 i * 65536 + unsgn 16 q)
def conjIf (c : Bool) (x : Int × Int) : Int × Int := if c then (x.1, -x.2) else x

/-! Cluster status. -/

/-- The states of a cluster (R196). -/
def cluEmpty : Nat := 0
def cluLoading : Nat := 1
def cluIdle : Nat := 2
def cluRun : Nat := 3
def cluFaulted : Nat := 4
def Dev.cluState (d : Dev) (c : Nat) : Nat := d.getF (F.CLU_STAT_STATE c)
def Dev.setCluState (d : Dev) (c s : Nat) : Dev := d.setF (F.CLU_STAT_STATE c) s
def Dev.cluPc (d : Dev) (c : Nat) : Nat := d.getF (F.CLU_STAT_PC c)

/-- A bit of CLU_INT_STAT raised. -/
def Dev.cluInt (d : Dev) (c bit : Nat) : Dev := d.setF ⟨A.CLU_INT_STAT c, bit, 1⟩ 1

/-- The cluster waits, for a cause, or no longer (R185, R206). -/
def Dev.cluWait (d : Dev) (c cause : Nat) : Dev :=
  (d.setB (F.CLU_STAT_WAITING c) (cause != 0)).setF (F.CLU_STAT_WAIT_CAUSE c) cause

/-- Clamped components counted (R180 to R182). -/
def Dev.cluSat (d : Dev) (c n : Nat) : Dev :=
  if n = 0 then d
  else
    let d := d.count64 (A.CLU_SAT_LO c) (A.CLU_SAT_HI c) n
    if d.flag (F.CLU_CTRL_BEAM_ACCT c) then d.beamSat n else d

/-- A RUN that ends with no transfer under way enters IDLE or FAULT (R198, R203). -/
def Dev.cluEnd (d : Dev) (c : Nat) : Dev :=
  let p := d.clus c
  if p.busy then d
  else if p.ending = 1 then (((d.modClu c (fun p => { p with ending := 0 })).setCluState c cluIdle).cluWait c 0).cluInt c 1
  else if p.ending = 2 then
    ((((d.modClu c (fun p => { p with ending := 0 })).setCluState c cluFaulted).cluWait c 0).cluInt c 2).degr 6
  else d

/-- A fault stops the cluster at its bundle (R203). -/
def Dev.cluFault (d : Dev) (c code sw : Nat) : Dev :=
  let d := (d.setF (F.CLU_FAULT_CODE c) code).setF (F.CLU_FAULT_SWCODE c) sw
  let d := d.setF (F.CLU_FAULT_PC c) (d.cluPc c)
  (d.modClu c (fun p => { p with ending := 2 })).cluEnd c

/-! Local memory (R173 to R175). -/

/-- First byte of a line in the machine's memory. -/
def cluLine (c ln : Nat) : Nat := cluWindow c + 64 * (ln % 8192)

/-- Errors that have struck words of a cluster's local memory (R175). -/
def Dev.cluUpset (d : Dev) (c : Nat) (ups : List Upset) : Dev :=
  d.forL ups (fun d u => if u.word < 65536 then d.modClu c (fun p => { p with ecc := Tab.set (fun _ => .clean) u.word u.cls p.ecc }) else d)

/-- A word read: what it is delivered as and what is noted (R175). -/
def Dev.cluWordRead (m : Mem) (d : Dev) (c w : Nat) : List Byte × Dev :=
  let bs := memRead m (cluWindow c + 8 * w) 8
  match Tab.get (fun _ => ErrClass.clean) w (d.clus c).ecc with
  | .clean => (bs, d)
  | .ce => (bs, (d.count (A.CLU_CE_CNT c)).modClu c (fun p => { p with wback := p.wback ++ [w] }))
  | _ => (List.replicate 8 0, ((d.count (A.CLU_UE_CNT c)).setF (F.CLU_UE_ADDR_LINE c) (w / 8)).cluInt c 5)

/-- Words read in turn. -/
def Dev.cluWordsRead (m : Mem) (d : Dev) (c : Nat) (ws : List Nat) : List Byte × Dev :=
  ws.foldl (fun acc w => let (b, d) := Dev.cluWordRead m acc.2 c w; (acc.1 ++ b, d)) ([], d)

/-- The 16 elements of 64 bytes (R171), and their bytes. -/
def lineElems (bs : List Byte) : List W32 := (List.range 16).map (fun k => BitVec.ofNat 32 (leAt bs (4 * k) 4))
def elemBytes (xs : List W32) : List Byte := xs.flatMap word4

/-- A line read. -/
def Dev.cluLineRead (m : Mem) (d : Dev) (c ln : Nat) : List W32 × Dev :=
  let (bs, d) := Dev.cluWordsRead m d c ((List.range 8).map (ln % 8192 * 8 + ·))
  (lineElems bs, d)

/-- Words of local memory rewritten: their errors are gone. -/
def Dev.cluClean (d : Dev) (c : Nat) (ws : List Nat) : Dev :=
  d.modClu c (fun p => { p with
    ecc := ws.foldl (fun t w => Tab.set (fun _ => .clean) w .clean t) p.ecc, wback := p.wback.filter (fun w => !ws.contains w) })

/-- A line written. -/
def Dev.cluLineWrite (d : Dev) (c ln : Nat) (bs : List Byte) : Writes × Dev :=
  ([(cluLine c ln, bs)], d.cluClean c ((List.range 8).map (ln % 8192 * 8 + ·)))

/-- A line as a FIFO holds it. -/
def lineBits (xs : List W32) : BitVec 512 := BitVec.ofNat 512 (leNat (elemBytes xs))
def bitsLine (b : BitVec 512) : List W32 := lineElems (leBytes 64 b.toNat)

/-! The V slot (R186, R187). -/

/-- Rows and columns of a shape (R172). -/
def shapeR (v : Nat) : Nat := 64 / 2 ^ bitsN v 55 2
def shapeC (v : Nat) : Nat := 4 * 2 ^ bitsN v 55 2
def vop (v : Nat) : Nat := bitsN v 58 6
def vAidx (v : Nat) : Nat := bitsN v 37 6
def vBreg (v : Nat) : Nat := bitsN v 30 5
def vDst (v : Nat) : Nat := bitsN v 15 5
def vAcc (v : Nat) : Nat := bitsN v 52 3
def vAsrc (v : Nat) : Nat := bitsN v 46 2
def vBsrc (v : Nat) : Nat := bitsN v 35 2

/-- Whether the SHIFT field is legal, and the shift it gives. -/
def shiftOk (v : Nat) : Bool := let s := bitsN v 20 6; decide (s ≤ 47) || s == 63
def CluSt.shift (p : CluSt) (v : Nat) : Nat :=
  let s := bitsN v 20 6
  if s = 63 then min 47 (bitsN (p.sreg 30).toNat 0 6) else s

/-- Whether the A operand of a CMAC lies inside its source (R186). -/
def aLegal (v : Nat) : Bool :=
  let r := shapeR v
  let part := bitsN v 43 2
  let tr := v.testBit 45
  decide (part < 64 / r) &&
  (match vAsrc v with
   | 0 => decide (vAidx v < 16) && !(tr && r == 64)
   | 3 => false
   | _ => if tr then decide (r * (part + 1) ≤ 32) else decide (vAidx v < 32))

/-- Whether the B operand of a CMAC lies inside its source (R186); `stream`: the bundle's A0 loads the stream line. -/
def bLegal (v : Nat) (stream : Bool) : Bool :=
  let hi := shapeC v * (bitsN v 26 4 + 1)
  match vBsrc v with
  | 0 => decide (vBreg v < 8 ∧ hi ≤ 16)
  | 1 => stream && decide (hi ≤ 16)
  | 2 => decide (vBreg v < 16 ∧ hi ≤ 64)
  | _ => true

/-- Whether a V slot is legal (R184, R186, R187). -/
def vLegal (v : Nat) (stream : Bool) : Bool :=
  bitsN v 0 13 == 0 &&
  (match vop v with
   | 0x00 => true
   | 0x01 => bitsN v 55 2 != 3 && aLegal v && bLegal v stream
   | 0x02 => bitsN v 55 2 != 3 && shiftOk v && (vDst v == 16 || vDst v == 17 || (decide (vDst v < 16) && vDst v % 4 == 0))
   | 0x03 => shiftOk v && decide (vAidx v < 16 ∧ vDst v < 16) && ((vBsrc v == 2 && decide (vBreg v < 16)) || vBsrc v == 3)
   | 0x04 => shiftOk v && decide (vAidx v < 16 ∧ vDst v < 16 ∧ vBreg v < 16)
   | 0x05 => decide (vAidx v < 16 ∧ vDst v < 16)
   | 0x06 => decide (vAidx v < 16 ∧ vDst v < 16)
   | 0x07 => true
   | 0x08 => decide (vAidx v ≤ 12 ∧ vDst v ≤ 12)
   | 0x09 => (vAsrc v == 1 || vAsrc v == 2) && vAidx v % 2 == 0 && decide (vDst v < 16)
   | 0x0A => decide (vAidx v < 16 ∧ vDst v < 16)
   | 0x0B => true
   | _ => false)

/-- The vector registers a V slot writes. -/
def vTargets (v : Nat) : List Nat :=
  match vop v with
  | 0x02 => if vDst v < 16 then (List.range 4).map (vDst v + ·) else []
  | 0x08 => (List.range 4).map (vDst v + ·)
  | 0x03 | 0x04 | 0x05 | 0x06 | 0x09 | 0x0A => [vDst v]
  | _ => []

/-- The coefficient bank a V slot reads. -/
def vBank (v : Nat) : Option Nat :=
  if (vop v = 1 ∨ vop v = 9) ∧ 1 ≤ vAsrc v ∧ vAsrc v ≤ 2 then some (vAsrc v - 1) else none

/-- Element r of the A operand of a CMAC (R186). -/
def CluSt.opA (p : CluSt) (v r : Nat) : Int × Int :=
  let i := shapeR v * bitsN v 43 2 + r
  conjIf (v.testBit 51) (elemOf (match vAsrc v with
    | 0 => p.vreg (vAidx v) i
    | s => if v.testBit 45 then p.coef (s - 1) i (vAidx v) else p.coef (s - 1) (vAidx v) i))

/-- Element c of the B operand of a CMAC (R186). -/
def CluSt.opB (p : CluSt) (v : Nat) (line : List W32) (c : Nat) : Int × Int :=
  let i := shapeC v * bitsN v 26 4 + c
  conjIf (v.testBit 50) (elemOf (match vBsrc v with
    | 0 => p.nreg (vBreg v) i
    | 1 => line.getD i 0
    | 2 => p.vreg (vBreg v) i
    | _ => p.sreg (vBreg v)))

/-- One component of an accumulator after a product (R180): its value, whether it was clamped, whether it wrapped. -/
def accStep (clr neg sat : Bool) (old x : Int) : Int × Nat × Bool :=
  let t := (if clr then 0 else old) + (if neg then -x else x)
  if fitsBits 48 t then (t, 0, false)
  else if sat then (clampI (-(2 ^ 47)) (2 ^ 47 - 1) t, 1, false)
  else (sgn 48 (unsgn 48 t), 0, true)

/-- CMAC (R180). -/
def Dev.opCmac (d : Dev) (c : Nat) (p : CluSt) (v : Nat) (line : List W32) : Dev :=
  let rs := (List.range 256).map (fun u =>
    let (i, q) := cmul (p.opA v (u / shapeC v)) (p.opB v line (u % shapeC v))
    let o := p.accu (vAcc v) u
    (accStep (v.testBit 49) (v.testBit 48) (v.testBit 57) o.1 i, accStep (v.testBit 49) (v.testBit 48) (v.testBit 57) o.2 q))
  let d := d.modClu c (fun x => { x with acc := putRun (0, 0) (256 * vAcc v) (rs.map (fun r => (r.1.1, r.2.1))) x.acc })
  let d := if rs.any (fun r => r.1.2.2 || r.2.2.2) then d.setB (F.CLU_STAT_ACC_WRAP c) true else d
  d.cluSat c ((rs.map (fun r => r.1.2.1 + r.2.2.1)).foldl (· + ·) 0)

/-- A value narrowed to 16 bits (R181), and whether it was clamped. -/
def narrow (s : Nat) (sat : Bool) (x : Int) : Int × Nat :=
  let q := convRound x (2 ^ s)
  if fitsBits 16 q then (q, 0)
  else if sat then (clampI (-32768) 32767 q, 1)
  else (sgn 16 (unsgn 16 q), 0)

/-- Elements narrowed: their words and the clamps. -/
def narrowAll (s : Nat) (sat : Bool) (xs : List (Int × Int)) : List W32 × Nat :=
  let r := xs.map (fun x => (narrow s sat x.1, narrow s sat x.2))
  (r.map (fun x => elemWord x.1.1 x.2.1), (r.map (fun x => x.1.2 + x.2.2)).foldl (· + ·) 0)

/-- VOUT (R187): a buffer that it fills starts again at its first line (R188). -/
def Dev.opVout (d : Dev) (c : Nat) (p : CluSt) (v : Nat) : Dev :=
  let unit := fun (n : Nat) => if v.testBit 14 then n % shapeR v * shapeC v + n / shapeR v else n
  let (ws, k) := narrowAll (p.shift v) (v.testBit 57) ((List.range 256).map (fun n => conjIf (v.testBit 13) (p.accu (vAcc v) (unit n))))
  let d := d.modClu c (fun x =>
    if vDst v < 16 then x.putV (vDst v) 0 ws
    else ({ x with ob := putRun 0 (256 * (vDst v - 16)) ws x.ob }).setObLine (vDst v - 16) 0)
  d.cluSat c k

/-- VMULE (R187). -/
def Dev.opVmule (d : Dev) (c : Nat) (p : CluSt) (v : Nat) : Dev :=
  let (ws, k) := narrowAll (p.shift v) (v.testBit 57) ((List.range 64).map (fun i =>
    cmul (conjIf (v.testBit 51) (elemOf (p.vreg (vAidx v) i)))
      (conjIf (v.testBit 50) (elemOf (if vBsrc v = 2 then p.vreg (vBreg v) i else p.sreg (vBreg v))))))
  (d.modClu c (·.putV (vDst v) 0 ws)).cluSat c k

/-- VADD (R187). -/
def Dev.opVadd (d : Dev) (c : Nat) (p : CluSt) (v : Nat) : Dev :=
  let (ws, k) := narrowAll (p.shift v) (v.testBit 57) ((List.range 64).map (fun i =>
    let b := elemOf (p.vreg (vBreg v) i)
    cadd (elemOf (p.vreg (vAidx v) i)) (if v.testBit 48 then (-b.1, -b.2) else b)))
  (d.modClu c (·.putV (vDst v) 0 ws)).cluSat c k

/-- Whether y × 2^(−15−e) lies within a relative 2^−15 of x^(−1/2), or of x^−1 (R187). -/
def recipNear (root : Bool) (x y : Nat) (e : Int) : Bool :=
  let k := 4 ^ (e + 2).toNat
  if root then decide (32767 ^ 2 * k ≤ 16 * y ^ 2 * x ∧ 16 * y ^ 2 * x ≤ 32769 ^ 2 * k)
  else
    let k := 2 ^ (e + 2).toNat
    decide (32767 * k ≤ 4 * y * x ∧ 4 * y * x ≤ 32769 * k)

/-- The pairs (y, e) that the tolerance of VRSQ and VRCP leaves open for a positive x (R187). -/
def recipChoices (root : Bool) (x : Nat) : List (Nat × Int) :=
  let e1 := ((List.range 17).find? (fun k => decide (x ≤ (if root then 4 else 2) ^ k))).getD 16
  let f := if root then Nat.sqrt (2 ^ (28 + 2 * e1) / x) else 2 ^ (14 + e1) / x
  let e : Int := (e1 : Int) - 1
  [(f, e), (f + 1, e), (16384, e - 1), (32767, e + 1)].filter (fun p =>
    decide (16384 ≤ p.1 ∧ p.1 < 32768 ∧ -2 ≤ p.2) && recipNear root x p.1 p.2)

/-- One element of VRSQ or VRCP: which of the permitted values it is, is free; DOMAIN where x is not positive. -/
def Dev.recipElem (d : Dev) (root : Bool) (x : Int) : W32 × Bool × Dev :=
  if x ≤ 0 then (elemWord 0x7FFF 0x7FFF, true, d)
  else
    let l := recipChoices root x.toNat
    let (n, d) := d.anyNat
    let p := l.getD (n % l.length) (0, 0)
    (elemWord p.1 p.2, false, d)

/-- VRSQ and VRCP (R187). -/
def Dev.opRecip (root : Bool) (d : Dev) (c : Nat) (p : CluSt) (v : Nat) : Dev :=
  let (ws, dom, d) := (List.range 64).foldl (fun acc i =>
    let (w, o, d) := Dev.recipElem acc.2.2 root (elemOf (p.vreg (vAidx v) i)).1
    (acc.1 ++ [w], acc.2.1 || o, d)) (([] : List W32), false, d)
  let d := d.modClu c (·.putV (vDst v) 0 ws)
  if dom then d.setB (F.CLU_STAT_DOMAIN c) true else d

/-- VRSQ (R187). -/
def Dev.opVrsq (d : Dev) (c : Nat) (p : CluSt) (v : Nat) : Dev := Dev.opRecip true d c p v

/-- VRCP (R187). -/
def Dev.opVrcp (d : Dev) (c : Nat) (p : CluSt) (v : Nat) : Dev := Dev.opRecip false d c p v

/-- Redundant sign bits of a 48-bit number: 0 to 47. -/
def redundant (x : Int) : Nat :=
  ((List.range 48).filter (fun n => fitsBits (48 - n) x)).foldl max 0

/-- VNORM (R187). -/
def Dev.opVnorm (d : Dev) (c : Nat) (p : CluSt) (v : Nat) : Dev :=
  d.modClu c (fun x => { x with norm := ((List.range 256).map (fun u =>
    let a := p.accu (vAcc v) u
    min (redundant a.1) (redundant a.2))).foldl min 47 })

/-- VTR (R187). -/
def Dev.opVtr (d : Dev) (c : Nat) (p : CluSt) (v : Nat) : Dev :=
  d.modClu c (·.putV (vDst v) 0 ((List.range 256).map (fun n => p.vreg (vAidx v) (16 * (n % 16) + n / 16))))

/-- VCFCOL (R187). -/
def Dev.opVcfcol (d : Dev) (c : Nat) (p : CluSt) (v : Nat) : Dev :=
  d.modClu c (·.putV (vDst v) 0 ((List.range 64).map (fun i => p.coef (vAsrc v - 1) (i % 32) (vAidx v + i / 32))))

/-- VMOV (R187); the spec states no conjugate of a Q of −32,768: free. -/
def Dev.opVmov (d : Dev) (c : Nat) (p : CluSt) (v : Nat) : Dev :=
  let (ws, d) := (List.range 64).foldl (fun acc i =>
    let w := p.vreg (vAidx v) i
    let x := elemOf w
    if !v.testBit 51 then (acc.1 ++ [w], acc.2)
    else if x.2 ≠ -32768 then (acc.1 ++ [elemWord x.1 (-x.2)], acc.2)
    else let (n, d) := acc.2.anyNat; (acc.1 ++ [elemWord x.1 n], d)) (([] : List W32), d)
  d.modClu c (·.putV (vDst v) 0 ws)

/-- VZERO (R187). -/
def Dev.opVzero (d : Dev) (c : Nat) (v : Nat) : Dev :=
  d.modClu c (fun x => { x with acc := putRun (0, 0) (256 * vAcc v) (List.replicate 256 (0, 0)) x.acc })

/-- The V slot carried out, its sources read from `p`. -/
def Dev.vSlot (d : Dev) (c : Nat) (p : CluSt) (v : Nat) (line : List W32) : Dev :=
  match vop v with
  | 0x01 => d.opCmac c p v line
  | 0x02 => d.opVout c p v
  | 0x03 => d.opVmule c p v
  | 0x04 => d.opVadd c p v
  | 0x05 => d.opVrsq c p v
  | 0x06 => d.opVrcp c p v
  | 0x07 => d.opVnorm c p v
  | 0x08 => d.opVtr c p v
  | 0x09 => d.opVcfcol c p v
  | 0x0A => d.opVmov c p v
  | 0x0B => d.opVzero c v
  | _ => d

/-! The A slots (R176 to R179, R188). -/

def aop (a : Nat) : Nat := bitsN a 60 4
def aAg (a : Nat) : Nat := bitsN a 57 3
def aUpd (a : Nat) : Bool := a.testBit 56
def aReg (a : Nat) : Nat := bitsN a 51 5
def aPort (a : Nat) : Bool := a.testBit 48
def aImm (a : Nat) : Nat := bitsN a 0 48

/-- Whether an A slot is legal (R184, R188); `one`: slot A1. -/
def aSlotLegal (one : Bool) (a : Nat) : Bool :=
  let imm := aImm a
  match aop a with
  | 0 => imm == 0
  | 1 => !one && (decide (aReg a ≤ 24) && imm == 0 || aReg a == 27 && bitsN imm 0 3 == 0 && decide (imm < 2 ^ 11))
  | 2 => one && (decide (aReg a ≤ 23) || aReg a == 25 || aReg a == 26) && imm == 0
  | 3 => bitsN imm 0 6 == 0 && decide (bitsN imm 21 14 ≤ 8192)
  | 4 => decide (imm < 2 ^ 14)
  | 5 => decide (imm < 2 ^ 14)
  | 6 => imm == 0
  | _ => false

/-- Whether a slot accesses local memory through its generator. -/
def aAccess (a : Nat) : Bool := (aop a == 1 || aop a == 2) && !aPort a

/-- A pointer after a step or a new value: reduced in circular mode (R177, R178). -/
def AgSt.at_ (g : AgSt) (x : Int) : AgSt := { g with ptr := if g.post then x else x % (g.len : Int) }

/-- The post-step of a slot, where it has one (R176). -/
def CluSt.postStep (q : CluSt) (a : Nat) : CluSt :=
  if (aAccess a ∧ aUpd a) ∨ aop a = 6 then q.putAg (aAg a) (fun g => g.at_ (g.ptr + g.off)) else q

/-- AGSET (R188). -/
def CluSt.opAgset (q : CluSt) (a : Nat) : CluSt :=
  let imm := aImm a
  let len := bitsN imm 21 14
  q.putAg (aAg a) (fun _ => { base := bitsN imm 35 13, len := if len = 0 then 8192 else len, off := sgn 14 (bitsN imm 7 14), post := imm.testBit 6, ptr := 0 })

/-- AGPTR (R188). -/
def CluSt.opAgptr (q : CluSt) (a : Nat) : CluSt := q.putAg (aAg a) (fun g => g.at_ (sgn 14 (aImm a)))

/-- AGOFF (R188). -/
def CluSt.opAgoff (q : CluSt) (a : Nat) : CluSt := q.putAg (aAg a) (fun g => { g with off := sgn 14 (aImm a) })

/-- What an A slot sets in its generator, after the accesses and post-steps (R179). -/
def CluSt.agOps (q : CluSt) (a : Nat) : CluSt :=
  match aop a with
  | 3 => q.opAgset a
  | 4 => q.opAgptr a
  | 5 => q.opAgoff a
  | _ => q

/-- The line an access through a generator addresses (R176). -/
def AgSt.line (g : AgSt) : Nat := (((g.base : Int) + g.ptr) % 8192).toNat

/-- LD (R188): the line it reads, from the input FIFO or from local memory. -/
def Dev.ldLine (m : Mem) (d : Dev) (c : Nat) (p : CluSt) (a : Nat) : List W32 × Dev :=
  if aop a ≠ 1 then ([], d)
  else if aPort a then (bitsLine (p.inq.headD 0), d.modClu c (fun x => { x with inq := x.inq.drop 1 }))
  else Dev.cluLineRead m d c (p.agen (aAg a)).line

/-- LD (R188): the line reaches its register. -/
def CluSt.opLd (q : CluSt) (a : Nat) (xs : List W32) : CluSt :=
  let r := aReg a
  if r < 16 then q.putV r (16 * bitsN a 49 2) xs
  else if r < 24 then { q with n := putRun 0 (16 * (r - 16)) xs q.n }
  else if r = 27 then
    let imm := aImm a
    { q with cf := putRun 0 ((32 * bitsN imm 10 1 + bitsN imm 5 5) * 64 + 16 * bitsN imm 3 2) xs q.cf }
  else q

/-- The elements an ST stores (R188). -/
def CluSt.stElems (p : CluSt) (a : Nat) : List W32 :=
  let r := aReg a
  (List.range 16).map (fun i =>
    if r < 16 then p.vreg r (16 * bitsN a 49 2 + i)
    else if r < 24 then p.nreg (r - 16) i
    else p.obuf (r - 25) (16 * p.obLine (r - 25) + i))

/-- ST (R188): to the output FIFO or local memory; a store from an output buffer takes its next line. -/
def Dev.opSt (d : Dev) (c : Nat) (p : CluSt) (a : Nat) : Writes × Dev :=
  let r := aReg a
  let xs := p.stElems a
  let d := if 25 ≤ r then d.modClu c (fun q => q.setObLine (r - 25) ((p.obLine (r - 25) + 1) % 16)) else d
  if aPort a then ([], d.modClu c (fun q => { q with outq := q.outq ++ [lineBits xs] }))
  else d.cluLineWrite c (p.agen (aAg a)).line (elemBytes xs)

/-! The S slot (R189, R190). -/

def sop (s : Nat) : Nat := bitsN s 58 6
def sSd (s : Nat) : Nat := bitsN s 53 5
def sSa (s : Nat) : Nat := bitsN s 48 5
def sImm (s : Nat) : Nat := bitsN s 0 32

/-- First source, and second operand. -/
def CluSt.srcA (p : CluSt) (s : Nat) : W32 := p.sreg (sSa s)
def CluSt.srcB (p : CluSt) (s : Nat) : W32 := if s.testBit 42 then BitVec.ofNat 32 (sImm s) else p.sreg (bitsN s 43 5)

/-- Entries of a CFLD and lines of an HCOPY. -/
def sEntries (s : Nat) : Nat := bitsN s 8 6
def sLines (s : Nat) : Nat := bitsN s 0 14

/-- Whether an S slot is legal (R184, R189). -/
def sLegal (s : Nat) : Bool :=
  bitsN s 32 10 == 0 &&
  (match sop s with
   | 0x18 => decide (sSd s ≤ 30)
   | 0x1A => decide (1 ≤ sEntries s ∧ sEntries s ≤ 32)
   | 0x1C => decide (1 ≤ sLines s ∧ sLines s ≤ 8192)
   | 0x3E => true
   | 0x3F => true
   | o => decide (o ≤ 0x0B ∨ (0x10 ≤ o ∧ o ≤ 0x13) ∨ (0x18 ≤ o ∧ o ≤ 0x20)))

/-- The scalar results of SOP 0x01 to 0x0B (R189). -/
def opAdd (a b : W32) : W32 := a + b
def opSub (a b : W32) : W32 := a - b
def opAnd (a b : W32) : W32 := a &&& b
def opOr (a b : W32) : W32 := a ||| b
def opXor (a b : W32) : W32 := a ^^^ b
def opShl (a b : W32) : W32 := a <<< bitsN b.toNat 0 5
def opShr (a b : W32) : W32 := a >>> bitsN b.toNat 0 5
def opSar (a b : W32) : W32 := a.sshiftRight (bitsN b.toNat 0 5)
def opMul (a b : W32) : W32 := a * b
def opSlt (a b : W32) : W32 := if a.slt b then 1 else 0
def opSext (a : W32) : W32 := BitVec.ofInt 32 (sgn 16 a.toNat)

/-- The value SD receives, for the operations that only compute one. -/
def CluSt.scalar (p : CluSt) (s : Nat) : Option W32 :=
  let a := p.srcA s
  let b := p.srcB s
  match sop s with
  | 0x01 => some (opAdd a b)
  | 0x02 => some (opSub a b)
  | 0x03 => some (opAnd a b)
  | 0x04 => some (opOr a b)
  | 0x05 => some (opXor a b)
  | 0x06 => some (opShl a b)
  | 0x07 => some (opShr a b)
  | 0x08 => some (opSar a b)
  | 0x09 => some (opMul a b)
  | 0x0A => some (opSlt a b)
  | 0x0B => some (opSext a)
  | 0x1B => some (BitVec.ofNat 32 (p.stat (bitsN s 0 1)))
  | 0x1D => some (if p.copyUe then 1 else if p.copyDrop then 2 else 0)
  | 0x1E => some (p.vreg (bitsN s 6 4) (bitsN s 0 6))
  | 0x1F => some (BitVec.ofNat 32 p.norm)
  | 0x20 => some (BitVec.ofInt 32 (p.agen (bitsN s 0 3)).ptr)
  | _ => none

/-- WQPOP (R189). -/
def CluSt.opWqpop (q p : CluSt) (s : Nat) : CluSt :=
  let e := (p.wq.headD 0).toNat
  ({ q with wq := q.wq.drop 1 }.putS (sSd s) (BitVec.ofNat 32 e)).putS (sSd s + 1) (BitVec.ofNat 32 (e / 2 ^ 32))

/-- CQPUSH (R189). -/
def CluSt.opCqpush (q p : CluSt) (s : Nat) : CluSt :=
  { q with cq := q.cq ++ [BitVec.ofNat 64 ((p.srcA s).toNat + (p.srcB s).toNat * 2 ^ 32)] }

/-- CFLD starts (R189). -/
def CluSt.opCfld (q p : CluSt) (s : Nat) : CluSt := q.setLoad (bitsN s 0 1) (some ((p.srcA s).toNat, sEntries s))

/-- HCOPY starts (R189). -/
def CluSt.opHcopy (q p : CluSt) (s : Nat) : CluSt :=
  { q with copies := q.copies ++ [{ out := s.testBit 31, addr := (p.srcA s).toNat, line := (p.srcB s).toNat % 8192, n := sLines s }] }

/-- HWAIT ends (R191): the next one reports the copies after it; where both an uncorrectable word was read and a write
was dropped, which status it answers is free. -/
def Dev.opHwait (d : Dev) (c : Nat) (p : CluSt) (s : Nat) : Dev :=
  let (v, d) := if p.copyUe && p.copyDrop then (let (b, d) := d.anyBool; (if b then (1 : W32) else 2, d))
    else (if p.copyUe then 1 else if p.copyDrop then 2 else 0, d)
  d.modClu c (fun q => { q with copyUe := false, copyDrop := false }.putS (sSd s) v)

/-- The S slot carried out, apart from where the run goes on. -/
def Dev.sSlot (d : Dev) (c : Nat) (p : CluSt) (s : Nat) : Dev :=
  match sop s with
  | 0x18 => d.modClu c (fun q => q.opWqpop p s)
  | 0x19 => (d.modClu c (fun q => q.opCqpush p s)).cluInt c 0
  | 0x1A => d.modClu c (fun q => q.opCfld p s)
  | 0x1C => d.modClu c (fun q => q.opHcopy p s)
  | 0x1D => d.opHwait c p s
  | 0x3E => (d.setCluState c cluIdle).cluInt c 1
  | _ => match p.scalar s with
    | some v => d.modClu c (fun q => q.putS (sSd s) v)
    | none => d

/-- Whether a branch is taken. -/
def CluSt.taken (p : CluSt) (s : Nat) : Bool :=
  match sop s with
  | 0x10 => true
  | 0x11 => p.srcA s == 0
  | 0x12 => p.srcA s != 0
  | _ => false

/-- The end of a bundle that does not branch (R190): the innermost loop that ends here goes on or closes. -/
def loopEnd (pc : Nat) : List LoopSt → Nat × List LoopSt
  | [] => (pc + 1, [])
  | l :: r => if l.last ≠ pc then (pc + 1, l :: r) else if 1 < l.left then (l.first, { l with left := l.left - 1 } :: r) else loopEnd pc r

/-- Where the run goes on after the bundle at `pc`, and the loops open then, innermost first (R189, R190). -/
def CluSt.flow (p : CluSt) (pc s : Nat) : Nat × List LoopSt :=
  let t := bitsN s 0 11
  if sop s = 0x13 then
    if p.srcA s = 0 then (t + 1, p.loops) else (pc + 1, { first := pc + 1, last := t, left := (p.srcA s).toNat } :: p.loops)
  else if p.taken s then
    (t, p.loops.dropWhile (fun l => decide (t < l.first ∨ l.last < t)))
  else loopEnd pc p.loops

/-! Issue (R183 to R185, R190, R203). -/

/-- The slots of a bundle (R183). -/
def bunV (b : BitVec 256) : Nat := b.toNat % 2 ^ 64
def bunA0 (b : BitVec 256) : Nat := b.toNat / 2 ^ 64 % 2 ^ 64
def bunA1 (b : BitVec 256) : Nat := b.toNat / 2 ^ 128 % 2 ^ 64
def bunS (b : BitVec 256) : Nat := b.toNat / 2 ^ 192

/-- Whether a bundle's A0 loads the stream line. -/
def bunStream (b : BitVec 256) : Bool := aop (bunA0 b) == 1 && aReg (bunA0 b) == 24

/-- Whether every slot is legal (R184). -/
def bunLegal (b : BitVec 256) : Bool :=
  vLegal (bunV b) (bunStream b) && aSlotLegal false (bunA0 b) && aSlotLegal true (bunA1 b) && sLegal (bunS b)

/-- What of its generator a slot sets: BASE, LENGTH and MODE, or OFFSET. -/
def agSets (a : Nat) : Bool := aop a == 3 || aop a == 5

/-- Whether two slots write one target (R184). -/
def bunConflict (b : BitVec 256) : Bool :=
  let v := bunV b
  let a := bunA0 b
  let s := bunS b
  (aop a == 1 && (vTargets v).contains (aReg a)) ||
  (agSets a && agSets (bunA1 b) && aAg a == aAg (bunA1 b)) ||
  (aop a == 1 && aReg a == 27 && sop s == 0x1A && bitsN (aImm a) 10 1 == bitsN s 0 1 && decide (bitsN (aImm a) 5 5 < sEntries s))

/-- Whether a slot's access leaves its generator's range (R178). -/
def CluSt.agOut (p : CluSt) (a : Nat) : Bool :=
  let g := p.agen (aAg a)
  aAccess a && g.post && !decide (0 ≤ g.ptr ∧ g.ptr < (g.len : Int))

/-- Whether a Hamper request is misaligned or out of range (R191). -/
def CluSt.hportBad (p : CluSt) (s : Nat) : Bool :=
  let a := (p.srcA s).toNat
  (sop s == 0x1A && !(a % 256 == 0 && inHamper a (256 * sEntries s))) || (sop s == 0x1C && !(a % 64 == 0 && inHamper a (64 * sLines s)))

/-- The fault of the bundle at `pc`, if it has one (R203): CODE and SWCODE. -/
def CluSt.bundleFault (p : CluSt) (pc : Nat) : Option (Nat × Nat) :=
  let b := p.store.getD pc 0
  let s := bunS b
  if !bunLegal b then some (1, 0)
  else if bunConflict b then some (2, 0)
  else if p.agOut (bunA0 b) || p.agOut (bunA1 b) then some (3, 0)
  else if p.hportBad s then some (4, 0)
  else if sop s = 0x13 ∧ p.srcA s ≠ 0 ∧ 2 ≤ p.loops.length then some (8, 0)
  else if sop s = 0x3F then some (7, bitsN s 0 8)
  else if sop s ≠ 0x3E ∧ p.store.length ≤ (p.flow pc s).1 then some (5, 0)
  else none

/-- Why the bundle waits, if it does (R185, R188, R189, R191); the codes are those of WAIT_CAUSE. -/
def CluSt.waits (p : CluSt) (b : BitVec 256) : Nat :=
  let s := bunS b
  let a := bunA0 b
  let loading := fun (x : Option Nat) => match x with | some k => (p.load k).isSome | none => false
  if loading (vBank (bunV b)) || (aop a == 1 && aReg a == 27 && loading (some (bitsN (aImm a) 10 1))) ||
      (sop s == 0x1A && loading (some (bitsN s 0 1))) || (sop s == 0x1C && decide (4 ≤ p.copies.length)) then 7
  else if aop a = 1 ∧ aPort a ∧ p.inq = [] then 5
  else if aop (bunA1 b) = 2 ∧ aPort (bunA1 b) ∧ 64 ≤ p.outq.length then 6
  else if sop s = 0x18 ∧ p.wq = [] then 1
  else if sop s = 0x19 ∧ 64 ≤ p.cq.length then 2
  else if sop s = 0x1B ∧ (p.load (bitsN s 0 1)).isSome then 3
  else if sop s = 0x1D ∧ p.copies ≠ [] then 4
  else 0

/-- Cycles counted for a bundle: at least one; how many more, and how many of those it waited, is free. Every 1,024th cycle
leaves a CLU trace record (R495); where the 1,024 cycles begin is free. -/
def Dev.cluCycles (d : Dev) (c : Nat) : Dev :=
  let (n, d) := d.anyNat
  let (k, d) := d.anyNat
  let (x, d) := d.anyBool
  let samples := (1 + n) / 1024 + b2n (x && (1 + n) % 1024 != 0)
  let d := (d.count64 (A.CLU_CYCLE_LO c) (A.CLU_CYCLE_HI c) (1 + n)).count (A.CLU_STALL c) (min k n)
  d.forN samples (fun d _ => d.trace 7 (c * 2 ^ 92 + d.cluPc c * 2 ^ 81 + cluRun * 2 ^ 78))

/-- A bundle that issues: every slot reads the state before it (R184). -/
def Dev.cluBundle (m : Mem) (d : Dev) (c : Nat) : Writes × Dev :=
  let p := d.clus c
  let pc := d.cluPc c
  let b := p.store.getD pc 0
  let a0 := bunA0 b
  let a1 := bunA1 b
  let s := bunS b
  let d := (d.cluWait c 0).cluCycles c
  let (line, d) := Dev.ldLine m d c p a0
  let d := if aop a0 = 1 then d.modClu c (fun q => q.opLd a0 line) else d
  let (ws, d) := if aop a1 = 2 then d.opSt c p a1 else ([], d)
  let d := d.modClu c (fun q => (((q.postStep a0).postStep a1).agOps a0).agOps a1)
  let d := d.vSlot c p (bunV b) line
  let d := d.sSlot c p s
  if sop s = 0x3E then (ws, d)
  else
    let (next, loops) := p.flow pc s
    (ws, (d.modClu c (fun q => { q with loops := loops })).setF (F.CLU_STAT_PC c) next)

/-- The bundle at the PC comes up for issue: it faults, waits or issues. -/
def Dev.issue (m : Mem) (d : Dev) (c : Nat) : Writes × Dev :=
  let p := d.clus c
  match p.bundleFault (d.cluPc c) with
  | some (code, sw) => ([], d.cluFault c code sw)
  | none =>
    let w := p.waits (p.store.getD (d.cluPc c) 0)
    if w ≠ 0 then ([], d.cluWait c w) else Dev.cluBundle m d c

/-- Whether a bundle of the cluster can come up: it runs and is not being stopped. -/
def Dev.cluIssues (d : Dev) (c : Nat) : Bool := d.cluState c == cluRun && (d.clus c).ending == 0

/-- The bundle the PC stands at. -/
def Dev.cluBun (d : Dev) (c : Nat) : BitVec 256 := (d.clus c).store.getD (d.cluPc c) 0

/-- An operation row: the bundle comes up if one of its slots holds the operation. -/
def Dev.issueIf (m : Mem) (d : Dev) (c : Nat) (holds : BitVec 256 → Bool) : Writes × Dev :=
  if d.cluIssues c ∧ holds (d.cluBun c) then Dev.issue m d c else ([], d)

/-- Slots that hold an operation. -/
def holdsV (o : Nat) (b : BitVec 256) : Bool := vop (bunV b) == o
def holdsA (o : Nat) (b : BitVec 256) : Bool := aop (bunA0 b) == o || aop (bunA1 b) == o
def holdsS (o : Nat) (b : BitVec 256) : Bool := sop (bunS b) == o

end Sys2Proof.Machine
end

