-- ==== Sys2Proof/Machine/Cluster.lean ====
section
/-! DEFINITION. Beam clusters from outside their bundles (05_beam_clusters.md, R174, R191 to R205): transfers, kernel
loading, starting and stopping, the queues, and the cluster commands. -/

namespace Sys2Proof.Machine

/-! Bank loads and copies (R191). -/

/-- The fallback columns of a group's layers from `l` on, or zero, as a bank takes them. -/
def Dev.fallbackBytes (m : Mem) (d : Dev) (k : Nat) (ul : Bool) (l n : Nat) : List Byte :=
  (List.range n).flatMap (fun i => memRead m (d.entryAddr (fallbackEntry k ul ((l + i) % 32))) 256)

/-- What a bank load from the weight memory delivers, with its status: `e` its first entry, `n` its columns. -/
def Dev.weightLoad (m : Mem) (d : Dev) (e n : Nat) : List Byte × Nat × Dev :=
  let a := d.entryAddr e
  let (ue, d) := d.readEcc 5 a (256 * n)
  let plain := d.eccBytes m a (256 * n)
  if e < 32768 then
    if ue then (List.replicate (256 * n) 0, 2, d.count A.BEAM_FB_FAIL |>.beamInt 3) else (plain, 0, d)
  else if e < d.copyFloor then
    if !ue then (plain, 0, d)
    else
      let (bs, d) := (List.range (64 * n)).foldl (fun acc _ => let (w, d) := acc.2.anyWord; (acc.1 ++ word4 w, d)) (([] : List Byte), d)
      (bs, 1, (d.count A.BEAM_UE_GRP).beamInt 2)
  else match d.copyAt e with
    | none => (plain, if ue then 3 else 0, d)
    | some (s, copy) =>
      let w := d.wset s
      let col := (e - d.wsBase s copy) / 64
      let g := col / w.layers
      let l := col % w.layers
      let d := if ue ∧ (d.fallenAt false w.carrier w.ul s g).isNone then
          d.fall { beam := false, carrier := w.carrier, ul := w.ul, id := s, grp := g, dark := false } (List.range w.layers)
        else d
      match d.fallenAt false w.carrier w.ul s g with
      | none => (plain, 0, d)
      | some f => if f.dark then (List.replicate (256 * n) 0, 2, d) else (Dev.fallbackBytes m d w.carrier w.ul l n, 1, d)

/-- CFLD_DONE: a bank load completes (R191). -/
def Dev.cfldDone (m : Mem) (d : Dev) (c b : Nat) (ups : List Upset) : Dev :=
  match (d.clus c).load b with
  | none => d
  | some (a, n) =>
    let d := d.upset ups
    let lo := d.regionBase 0
    let (bs, st, d) :=
      if lo ≤ a ∧ a + 256 * n ≤ lo + d.regionSize 0 then Dev.weightLoad m d ((a - lo) / 4) n
      else
        let (ue, d) := d.readEcc (16 + c) a (256 * n)
        (d.eccBytes m a (256 * n), if ue then 3 else 0, d)
    let xs := (List.range (64 * n)).map (fun i => BitVec.ofNat 32 (leAt bs (4 * i) 4))
    (d.modClu c (fun q => ({ q with cf := putRun 0 (2048 * b) xs q.cf }.setLoad b none).setStat b st)).cluEnd c

/-- CFLD_DONE (R191). -/
def execCfldDone (c : Fin 16) (bank : Fin 2) (ups : List Upset) (s : State) : Host.Outcome State Fault Refusal :=
  runW s (fun m d => ([], Dev.cfldDone m d c.val bank.val ups))

/-- HCOPY_DONE: the oldest copy completes (R191). -/
def Dev.hcopyDone (m : Mem) (d : Dev) (c : Nat) (ups : List Upset) : Writes × Dev :=
  match (d.clus c).copies with
  | [] => ([], d)
  | h :: r =>
    let d := (d.upset ups).modClu c (fun q => { q with copies := r })
    let lines := (List.range h.n).map (fun i => (h.line + i) % 8192)
    if h.out then
      let (bs, d) := Dev.cluWordsRead m d c (lines.flatMap (fun l => (List.range 8).map (8 * l + ·)))
      let (ws, drop, d) := d.hamperWrite (16 + c) h.addr bs
      (ws, (d.modClu c (fun q => { q with copyDrop := q.copyDrop || drop })).cluEnd c)
    else
      let (ue, d) := d.readEcc (16 + c) h.addr (64 * h.n)
      let bs := d.eccBytes m h.addr (64 * h.n)
      let (ws, d) := lines.zipIdx.foldl (fun acc l =>
        let (w, d) := acc.2.cluLineWrite c l.1 ((bs.drop (64 * l.2)).take 64)
        (acc.1 ++ w, d)) (([] : Writes), d)
      (ws, (d.modClu c (fun q => { q with copyUe := q.copyUe || ue })).cluEnd c)

/-- HCOPY_DONE (R191). -/
def execHcopyDone (c : Fin 16) (ups : List Upset) (s : State) : Host.Outcome State Fault Refusal :=
  runW s (fun m d => Dev.hcopyDone m d c.val ups)

/-! Local memory from outside (R174, R175). -/

/-- The oldest corrected word is written back (R175). -/
def Dev.localWriteback (d : Dev) (c : Nat) : Dev :=
  match (d.clus c).wback with
  | [] => d
  | w :: _ => d.cluClean c [w]

/-- LOCAL_WRITEBACK (R175). -/
def execLocalWriteback (c : Fin 16) (s : State) : Host.Outcome State Fault Refusal := run s (·.localWriteback c.val)

/-- An external request (R174): what it reads is answered; it changes only the bytes it names. -/
def Dev.externalAccess (m : Mem) (d : Dev) (c : Nat) (r : Requester) (acc : ExtAccess) (forced : Bool) (ups : List Upset) : Writes × Dev :=
  let go := fun (d : Dev) => (d.cluUpset c ups).when (forced && d.cluState c == cluRun) (fun d => d.count (A.CLU_EXT_STALL c))
  if r = .mspi then ([], d)
  else match acc with
    | .read off n =>
      if 0x80000 < off + n then ([], d)
      else
        let (bs, d) := Dev.cluWordsRead m (go d) c ((List.range ((off + n + 7) / 8 - off / 8)).map (off / 8 + ·))
        ([], { d with rbytes := (bs.drop (off % 8)).take n })
    | .write off bytes =>
      if 0x80000 < off + bytes.length then ([], d)
      else
        let ws := bytes.zipIdx.filterMap (fun b => b.1.map (fun v => (cluWindow c + off + b.2, [v])))
        let full := ((List.range ((off + bytes.length) / 8 + 1)).filter (fun w =>
          decide (off ≤ 8 * w ∧ 8 * w + 8 ≤ off + bytes.length) && ((bytes.drop (8 * w - off)).take 8).all (·.isSome)))
        let (src, d) := d.reqSrc r
        let d := ws.foldl (fun d w => d.watch src w.1 w.2) d
        (ws, (go d).cluClean c full)

/-- EXTERNAL_ACCESS (R174). -/
def execExternalAccess (c : Fin 16) (r : Requester) (acc : ExtAccess) (forced : Bool) (ups : List Upset) (s : State) :
    Host.Outcome State Fault Refusal :=
  runW s (fun m d => Dev.externalAccess m d c.val r acc forced ups)

/-! Kernels (R194 to R199). -/

/-- An ignored command or push (R196). -/
def Dev.cluErr (d : Dev) (c : Nat) : Dev := d.count (A.CLU_CMD_ERR c)

/-- Whether the guard of R199 holds a cluster's commands off. -/
def Dev.cluGuard (d : Dev) (c : Nat) : Bool := d.flag (F.CLU_CTRL_LOCK c) && d.beamOn

/-- Whether a digest is an entry of the verified-kernel table (R195, R448). -/
def Dev.digestKnown (d : Dev) (h : List Byte) : Bool :=
  (List.range 32).any (fun e => d.flag (F.LCS_KE_INFO_VALID e) && d.regsBytes (A.LCS_KE_DIGEST e 0) 12 == h)

/-- LOAD (R195, R196): both queues are emptied. -/
def Dev.cluLoad (d : Dev) (c : Nat) : Dev :=
  let st := d.cluState c
  if d.cluGuard c ∨ st = cluLoading ∨ st = cluRun then d.cluErr c
  else (d.modClu c (fun q => { q with wq := [], cq := [] })).setCluState c cluLoading

/-- CLU_LOAD (R195). -/
def execCluLoad (c : Fin 16) (s : State) : Host.Outcome State Fault Refusal := run s (·.cluLoad c.val)

/-- The loader's checks (R195): the LOAD_ERR, zero for none, the image's header and its bundles. -/
def Dev.loadCheck (m : Mem) (d : Dev) (c : Nat) : Nat × List Byte × List Byte × Dev :=
  let a := (d.reg (A.CLU_LOAD_ADDR c)).toNat
  if a % 32 ≠ 0 ∨ !inHamper a 32 then (4, [], [], d)
  else
    let (ue, d) := d.readEcc (16 + c) a 32
    let h := d.eccBytes m a 32
    let nb := leAt h 0x10 2
    if ue then (3, h, [], d)
    else if leAt h 0 4 ≠ 0x4B45524E ∨ leAt h 4 2 ≠ 1 ∨ nb = 0 ∨ 2048 < nb ∨ nb ≤ leAt h 0x12 2 then (1, h, [], d)
    else if !inHamper a (32 + 32 * nb) then (4, h, [], d)
    else
      let (ue, d) := d.readEcc (16 + c) (a + 32) (32 * nb)
      let b := d.eccBytes m (a + 32) (32 * nb)
      if ue then (3, h, b, d) else if !d.digestKnown (sha384 (h ++ b)) then (2, h, b, d) else (0, h, b, d)

/-- The bundles of an image's bytes. -/
def bundles (b : List Byte) : List (BitVec 256) := (List.range (b.length / 32)).map (fun i => BitVec.ofNat 256 (leAt b (32 * i) 32))

/-- The load completes (R195, R196, R201). -/
def Dev.cluLoadDone (m : Mem) (d : Dev) (c : Nat) (ups : List Upset) : Dev :=
  if d.cluState c ≠ cluLoading then d
  else
    let (err, h, b, d) := Dev.loadCheck m (d.upset ups) c
    if err ≠ 0 then
      let d := (d.modClu c (fun q => { q with store := [], entry := 0, role := 0 })).setF (F.CLU_FAULT_LOAD_ERR c) err
      let d := (d.setReg (A.CLU_KERNEL c) 0).setReg (A.CLU_KVER c) 0
      (d.setCluState c cluEmpty).cluInt c 4
    else
      let d := d.modClu c (fun q => { q with store := bundles b, entry := leAt h 0x12 2, role := leAt h 6 2 })
      let d := (d.setReg (A.CLU_KERNEL c) (BitVec.ofNat 32 (leAt h 8 4))).setReg (A.CLU_KVER c) (BitVec.ofNat 32 (leAt h 0xC 4))
      let (w, d) := if leAt h 0x14 4 < 65536 then (leAt h 0x14 4, d) else d.anyNat
      ((d.setF (F.CLU_WDOG_PERIOD c) w).setCluState c cluIdle).cluInt c 3

/-- CLU_LOAD_DONE (R195). -/
def execCluLoadDone (c : Fin 16) (ups : List Upset) (s : State) : Host.Outcome State Fault Refusal :=
  runW s (fun m d => ([], Dev.cluLoadDone m d c.val ups))

/-- START (R197). -/
def Dev.cluStart (d : Dev) (c : Nat) : Dev :=
  if d.cluGuard c ∨ d.cluState c ≠ cluIdle then d.cluErr c
  else
    let args := (List.range 16).map (fun n => d.reg (A.CLU_ARGn c n))
    let d := d.modClu c (fun q => { q with
      v := [], n := [], cf := [], ob := [], acc := [], obLine0 := 0, obLine1 := 0, ag := [], loops := [], s := putRun 0 16 args [] })
    let d := ((d.setF (F.CLU_STAT_PC c) (d.clus c).entry).setB (F.CLU_STAT_DOMAIN c) false).setB (F.CLU_STAT_ACC_WRAP c) false
    (d.setCluState c cluRun).cluWait c 0

/-- CLU_START (R197). -/
def execCluStart (c : Fin 16) (s : State) : Host.Outcome State Fault Refusal := run s (·.cluStart c.val)

/-- STOP (R198): no further bundle issues; the cluster reads IDLE once its transfers are complete. -/
def Dev.cluStop (d : Dev) (c : Nat) : Dev :=
  if d.cluGuard c ∨ d.cluState c ≠ cluRun then d.cluErr c
  else d.modClu c (fun q => { q with ending := if q.ending = 0 then 1 else q.ending })

/-- CLU_STOP (R198). -/
def execCluStop (c : Fin 16) (s : State) : Host.Outcome State Fault Refusal := run s (·.cluStop c.val)

/-- CLU_STOP_DONE (R198). -/
def execCluStopDone (c : Fin 16) (s : State) : Host.Outcome State Fault Refusal :=
  run s (fun d => if (d.clus c.val).ending = 1 then d.cluEnd c.val else d)

/-- CLEAR (R196). -/
def Dev.cluClear (d : Dev) (c : Nat) : Dev :=
  if d.cluGuard c ∨ d.cluState c ≠ cluFaulted then d.cluErr c else d.setCluState c cluIdle

/-- CLU_CLEAR (R196). -/
def execCluClear (c : Fin 16) (s : State) : Host.Outcome State Fault Refusal := run s (·.cluClear c.val)

/-- A write of CLU_CTRL (R196, R199): LOCK and BEAM_ACCT are kept, the other bits act. -/
def Dev.cluCtrlWrite (d : Dev) (c v : Nat) : Dev :=
  let keep := d.flag (F.CLU_CTRL_LOCK c) && d.beamOn
  let d := (d.setB (F.CLU_CTRL_LOCK c) (v.testBit 7 || keep)).setB (F.CLU_CTRL_BEAM_ACCT c) (v.testBit 6)
  d.acts [(v.testBit 4, (·.cluClear c)), (v.testBit 3, (·.cluStop c)), (v.testBit 2, (·.cluStart c)), (v.testBit 1, (·.cluLoad c))]

/-- CLU_WQ_PUSH (R200). -/
def Dev.wqPush (d : Dev) (r : Requester) (c : Nat) (lo : W32) : Dev :=
  if 64 ≤ (d.clus c).wq.length then d.cluErr c
  else
    let (hi, d) := d.takeStaged r (A.CLU_WQ_HI c)
    (d.setReg (A.CLU_WQ_HI c) hi).modClu c (fun q => { q with wq := q.wq ++ [BitVec.ofNat 64 (lo.toNat + hi.toNat * 2 ^ 32)] })

/-- CLU_WQ_PUSH (R200). -/
def execCluWqPush (r : Requester) (c : Fin 16) (lo : BitVec 32) (s : State) : Host.Outcome State Fault Refusal :=
  run s (·.wqPush r c.val lo)

/-- A read of CLU_CQ_LO (R200). -/
def Dev.cqPop (d : Dev) (r : Requester) (c : Nat) : Dev :=
  let e := ((d.clus c).cq.headD 0).toNat
  let d := d.latchWords r (A.CLU_CQ_LO c) [BitVec.ofNat 32 e, BitVec.ofNat 32 (e / 2 ^ 32)]
  { d.modClu c (fun q => { q with cq := q.cq.drop 1 }) with rdata := BitVec.ofNat 32 e }

/-- CLU_CQ_POP (R200). -/
def execCluCqPop (r : Requester) (c : Fin 16) (s : State) : Host.Outcome State Fault Refusal := run s (·.cqPop r c.val)

/-- CLU_WDOG_EXPIRY (R201): counted in RUN, except while the cluster waits in WQPOP. -/
def Dev.cluWdog (d : Dev) (c : Nat) (tie : Bool) : Dev :=
  if !d.cluIssues c ∨ d.getF (F.CLU_WDOG_PERIOD c) = 0 ∨ d.getF (F.CLU_STAT_WAIT_CAUSE c) = 1 then d
  else if tie then d.count (A.CLU_TIE c) else d.cluFault c 6 0

/-- CLU_WDOG_EXPIRY (R201). -/
def execCluWdogExpiry (c : Fin 16) (tie : Bool) (s : State) : Host.Outcome State Fault Refusal := run s (·.cluWdog c.val tie)

/-- FEED_ENGINE_FILL (R192): a line into the input FIFO while it has room. -/
def execFeedEngineFill (c : Fin 16) (line : BitVec 512) (s : State) : Host.Outcome State Fault Refusal :=
  run s (fun d => d.modClu c.val (fun q => if q.inq.length < 64 then { q with inq := q.inq ++ [line] } else q))

/-- DRAIN_ENGINE_EMPTY (R192). -/
def execDrainEngineEmpty (c : Fin 16) (s : State) : Host.Outcome State Fault Refusal :=
  run s (fun d => d.modClu c.val (fun q => { q with outq := q.outq.drop 1 }))

/-- Output lines replaced by zeros at a symbol (R193). -/
def Dev.lateOut (d : Dev) (c n : Nat) : Dev := if n = 0 then d else (d.count (A.CLU_LATE_OUT c) n).cluInt c 6

/-- The firmware restarts its faulted clusters at a slot boundary (R203). -/
def Dev.cluRestart (d : Dev) : Dev :=
  if !d.fw.running then d
  else d.forN 16 (fun d c =>
    if d.cluState c = cluFaulted ∧ !d.fw.ownerClu.testBit c then
      let d := d.setCluState c cluIdle
      let lock := d.flag (F.CLU_CTRL_LOCK c)
      ((d.setB (F.CLU_CTRL_LOCK c) false).cluStart c).setB (F.CLU_CTRL_LOCK c) lock
    else d)

/-! Cluster commands (R204, R205). -/

/-- Whether a cluster runs or holds a registered kernel for its owner. -/
def Dev.kernelAssigned (d : Dev) (id : Nat) : Bool :=
  (List.range 16).any (fun c => d.fw.ownerClu.testBit c && (d.reg (A.CLU_KERNEL c)).toNat == id)

/-- KERNEL_ADD: the answer follows the engine's. -/
def cmdKernelAdd (pl : List Byte) : Body := fun m d =>
  let id := leAt pl 0 4
  let o := leAt pl 4 4
  let n := leAt pl 8 4
  let a := d.regionBase 4 + o
  if id = 0 ∨ o % 32 ≠ 0 ∨ n = 0 ∨ d.regionSize 4 < o + n ∨ memNat m (a + 8) 4 ≠ id then badParam d
  else if d.kernelAssigned id then busyR d
  else (.wait [id], d.engineAdd ⟨1, a, n, 0x3060⟩, [])

/-- KERNEL_ADD (R205). -/
def execKernelAdd (h : CmdHdr) (pl : List Byte) (s : State) : Host.Outcome State Fault Refusal :=
  runW s (runCmd h 0x3060 (lenIs 12) pl (cmdKernelAdd pl))

/-- Whether a cluster has a job outstanding: entries of its owner's kernel, or weight jobs of the runtime. -/
def Dev.cluJob (d : Dev) (c : Nat) : Bool :=
  if d.fw.ownerClu.testBit c then !(d.clus c).wq.isEmpty
  else (d.getF F.BEAM_CLU_MAP_CALC).testBit c && d.beam.jobs.any (·.running)

/-- A cluster stopped by the firmware, whatever it does. -/
def Dev.cluHalt (d : Dev) (c : Nat) : Dev :=
  (d.modClu c (fun q => { q with ending := 0, load0 := none, load1 := none, copies := [] })).setCluState c
    (if (d.clus c).store = [] then cluEmpty else cluIdle)

/-- The largest count of owner clusters that leaves the apply load within its limit (R204). -/
def Dev.ownerLegal (d : Dev) : Nat :=
  let nc := d.calcClusters (d.getF F.BEAM_CLU_MAP_CALC)
  ((List.range (17 - nc)).filter (fun n => d.loadFits d.wsets (16 - nc - n))).foldl max 0

/-- A kernel loaded into a cluster and started (R205); false where the load fails. -/
def Dev.assignOne (m : Mem) (d : Dev) (c a : Nat) : Bool × Dev :=
  let d := ((d.cluHalt c).setB (F.CLU_CTRL_LOCK c) false).setReg (A.CLU_LOAD_ADDR c) (BitVec.ofNat 32 a)
  let d := d.setF F.MEMI_CLU_PWR_ON (setBitN (d.getF F.MEMI_CLU_PWR_ON) c true)
  let d := Dev.cluLoadDone m (d.cluLoad c) c []
  if d.cluState c = cluIdle then (true, d.cluStart c) else (false, d)

/-- A cluster given back to the runtime (R204). -/
def Dev.unassignOne (d : Dev) (c : Nat) : Dev :=
  let d := (d.cluHalt c).modClu c (fun q => { q with store := [], wq := [], cq := [] })
  ((d.setReg (A.CLU_KERNEL c) 0).setCluState c cluEmpty).setB (F.CLU_CTRL_LOCK c) true

/-- CLU_ASSIGN. -/
def cmdCluAssign (pl : List Byte) : Body := fun m d =>
  let mask := leAt pl 0 2
  let id := leAt pl 4 4
  let named := bitsOf 16 mask
  if id = 0 then
    if named.any d.cluJob then busyR d
    else okR ((named.foldl Dev.unassignOne d).modFw (fun f => { f with ownerClu := named.foldl (fun o c => setBitN o c false) f.ownerClu }))
  else match d.fw.kernels.find? (fun k => k.1 == id) with
    | none => badParam d
    | some (_, a, _) =>
      if memNat m (a + 6) 2 ≠ 2 then badParam d
      else
        let d' := d.modFw (fun f => { f with ownerClu := named.foldl (fun o c => setBitN o c true) f.ownerClu })
        if !d'.loadFits d'.wsets (d'.applyClusters (d'.getF F.BEAM_CLU_MAP_CALC)) then limitR d 0x0106 d.ownerLegal
        else if named.any d.cluJob then busyR d
        else
          let (ok, d') := named.foldl (fun acc c => let (o, d) := Dev.assignOne m acc.2 c a; (acc.1 && o, d)) (true, d')
          if ok then okR d' else errR d 0x0B

/-- CLU_ASSIGN (R205). -/
def execCluAssign (h : CmdHdr) (pl : List Byte) (s : State) : Host.Outcome State Fault Refusal :=
  runW s (runCmd h 0x3061 (lenIs 8) pl (cmdCluAssign pl))

/-- CLU_WORK. -/
def cmdCluWork (pl : List Byte) : Body := devBody fun d =>
  let c := byteAt pl 0
  let n := (pl.length - 8) / 8
  if 16 ≤ c ∨ !d.fw.ownerClu.testBit c then badParam d
  else if 64 < (d.clus c).wq.length + n then busyR d
  else okR (d.modClu c (fun q => { q with wq := q.wq ++ (List.range n).map (fun i => BitVec.ofNat 64 (leAt pl (8 + 8 * i) 8)) }))

/-- CLU_WORK (R205). -/
def execCluWork (h : CmdHdr) (pl : List Byte) (s : State) : Host.Outcome State Fault Refusal :=
  runW s (runCmd h 0x3062 (fun l => decide (16 ≤ l ∧ l ≤ 520 ∧ l % 8 = 0)) pl (cmdCluWork pl))

/-- CLU_POLL. -/
def cmdCluPoll (pl : List Byte) : Body := devBody fun d =>
  let c := byteAt pl 0
  let n := byteAt pl 1
  if 16 ≤ c ∨ n = 0 ∨ 64 < n then badParam d
  else
    let rs := (d.clus c).cq.take n
    okR (d.modClu c (fun q => { q with cq := q.cq.drop n })) (BitVec.ofNat 8 rs.length :: rs.flatMap (fun e => leBytes 8 e.toNat))

/-- CLU_POLL (R205). -/
def execCluPoll (h : CmdHdr) (pl : List Byte) (s : State) : Host.Outcome State Fault Refusal :=
  runW s (runCmd h 0x3063 (lenIs 4) pl (cmdCluPoll pl))

/-- The counters of a cluster that a read clears (R206). -/
def cluRc (c : Nat) : List Nat :=
  [A.CLU_TIE c, A.CLU_CMD_ERR c, A.CLU_CYCLE_LO c, A.CLU_CYCLE_HI c, A.CLU_SAT_LO c, A.CLU_SAT_HI c, A.CLU_STALL c, A.CLU_EXT_STALL c,
    A.CLU_CE_CNT c, A.CLU_UE_CNT c, A.CLU_LATE_OUT c]

/-- CLU_STAT: the words of write-only registers and of the completion record read zero. -/
def cmdCluStat (pl : List Byte) : Body := devBody fun d =>
  let c := byteAt pl 0
  if 16 ≤ c then badParam d
  else
    let zero := [A.CLU_WQ_LO c, A.CLU_WQ_HI c, A.CLU_CQ_LO c, A.CLU_CQ_HI c]
    let bs := (List.range 50).flatMap (fun i => let a := A.CLU_ID c + 4 * i; if zero.contains a then le4 0 else word4 (d.live a))
    okR ((cluRc c).foldl (fun d a => d.setReg a 0) d) bs

/-- CLU_STAT (R205). -/
def execCluStat (h : CmdHdr) (pl : List Byte) (s : State) : Host.Outcome State Fault Refusal :=
  runW s (runCmd h 0x3064 (lenIs 4) pl (cmdCluStat pl))

end Sys2Proof.Machine
end

