-- ==== Sys2Proof/Machine/Dma.lean ====
section
/-! DEFINITION. The DMA channels and the power of the memories they touch, and the partition command
(15_memory_bist_dma.md, R476 to R481; R522). -/

namespace Sys2Proof.Machine

def Dev.dmaSt (d : Dev) (c : Nat) : DmaSt := Tab.get (fun _ => {}) c d.memi.dma
def Dev.modDma (d : Dev) (c : Nat) (f : DmaSt → DmaSt) : Dev :=
  d.modMemi (fun m => { m with dma := Tab.set (fun _ => {}) c (f (d.dmaSt c)) m.dma })

/-- The states of a channel (R485). -/
def dmaIdle : Nat := 0
def dmaRun : Nat := 1
def dmaPaused : Nat := 2
def dmaDraining : Nat := 3
def Dev.dmaState (d : Dev) (c : Nat) : Nat := d.getF (F.DMA_CHc_STAT_STATE c)

/-- A transfer as its registers give it (R477). -/
structure Xfer where
  mode : Nat
  src : Nat
  dst : Nat
  count : Nat
  esize : Nat
  ways : Nat
  stride : Nat
  deriving DecidableEq, Repr

/-- The transfer set up in a channel. -/
def Dev.xfer (d : Dev) (c : Nat) : Xfer :=
  { mode := d.getF (F.DMA_CHc_CFG_MODE c), src := (d.reg (A.DMA_CHc_SRC c)).toNat, dst := (d.reg (A.DMA_CHc_DST c)).toNat,
    count := (d.reg (A.DMA_CHc_COUNT c)).toNat, esize := 2 * 2 ^ d.getF (F.DMA_CHc_CFG_ESIZE c),
    ways := d.getF (F.DMA_CHc_CFG_WAYS_M1 c) + 1, stride := (d.reg (A.DMA_CHc_PSTRIDE c)).toNat }

/-- How many bytes a side of a transfer spans: the interleaved or plain side, and the planes. -/
def Xfer.planes (x : Xfer) : Nat := match x.mode with
  | 1 => (x.ways - 1) * x.stride + x.count / x.ways
  | 2 => (x.ways - 1) * x.stride + x.count / x.ways
  | _ => 15 * x.stride + x.count / 16
def Xfer.srcLen (x : Xfer) : Nat := if x.mode = 2 ∨ x.mode = 4 then x.planes else x.count
def Xfer.dstLen (x : Xfer) : Nat := if x.mode = 1 ∨ x.mode = 3 then x.planes else x.count

/-- The cluster whose window holds an address. -/
def windowOf (a : Nat) : Option Nat := if cluWindow 0 ≤ a ∧ a < cluWindow 16 then some ((a - cluWindow 0) / 0x80000) else none

/-- Whether a run lies wholly inside one of the three areas (R476). -/
def inArea (a n : Nat) : Bool :=
  inHamper a n || inTcm a n || (match windowOf a with | some c => decide (a + n ≤ cluWindow (c + 1)) | none => false)

/-- Whether a transfer obeys R476 and R477. -/
def Xfer.ok (x : Xfer) : Bool :=
  (match x.mode with
   | 0 => x.count % 4 == 0
   | 1 => decide (x.esize ≤ 8 ∧ 2 ≤ x.ways) && x.count % (x.ways * x.esize) == 0 && decide (x.count / x.ways ≤ x.stride)
   | 2 => decide (x.esize ≤ 8 ∧ 2 ≤ x.ways) && x.count % (x.ways * x.esize) == 0 && decide (x.count / x.ways ≤ x.stride)
   | 3 => x.count % 32 == 0
   | 4 => x.count % 32 == 0
   | _ => false) && inArea x.src x.srcLen && inArea x.dst x.dstLen

/-- The place of byte `i` of the transfer on its plane side (R477). -/
def Xfer.planeAddr (x : Xfer) (base i : Nat) : Nat :=
  let e := i / x.esize
  base + e % x.ways * x.stride + e / x.ways * x.esize + i % x.esize

/-- The domain an address belongs to: a cluster's number, 16 for the Hamper, none for the tightly-coupled memories. -/
def domainOf (a : Nat) : Option Nat := match windowOf a with
  | some c => some c
  | none => if hamperLo ≤ a ∧ a < hamperHi then some 16 else none

/-- Whether a domain is down (R480). -/
def Dev.domainDown (d : Dev) : Option Nat → Bool
  | none => false
  | some 16 => d.memi.hamperSleep
  | some c => !(d.getF F.MEMI_CLU_PWR_ON).testBit c

/-- The domains a channel touches. -/
def Dev.dmaDomains (d : Dev) (c : Nat) : List (Option Nat) := [domainOf (d.xfer c).src, domainOf (d.xfer c).dst]

/-- A channel stops with a status and raises its interrupt (R479). -/
def Dev.dmaEnd (d : Dev) (c st status : Nat) : Dev :=
  let d := (d.setF (F.DMA_CHc_STAT_STATE c) st).setF (F.DMA_CHc_STAT_STATUS c) status
  (d.setF F.DMA_INT_STAT_END (setBitN (d.getF F.DMA_INT_STAT_END) c true)).modDma c (fun x => { x with stopping := false, drain := none })

/-- The status of a transfer whose count is complete; where both a word was uncorrectable and a write was dropped, which
of the two it tells is free. -/
def Dev.dmaComplete (d : Dev) (c : Nat) : Dev :=
  let x := d.dmaSt c
  let (s, d) := if x.ue && x.prot then (let (b, d) := d.anyBool; (if b then 1 else 2, d)) else (if x.ue then 1 else if x.prot then 2 else 0, d)
  d.dmaEnd c dmaIdle s

/-- START (R476, R477). -/
def Dev.dmaStart (d : Dev) (c : Nat) : Dev :=
  if d.dmaState c ≠ dmaIdle then d
  else
    let d := (d.setReg (A.DMA_CHc_DONE c) 0).modDma c (fun _ => {})
    if !(d.xfer c).ok then d.dmaEnd c dmaIdle 7
    else if (d.dmaDomains c).any (fun x => x != some 16 && d.domainDown x) then d.dmaEnd c dmaIdle 4
    else
      let d := if (d.dmaDomains c).contains (some 16) then d.modMemi (fun m => { m with hamperSleep := false }) else d
      if (d.xfer c).count = 0 then d.dmaComplete c else d.setF (F.DMA_CHc_STAT_STATE c) dmaRun

/-- DMA_START (R476). -/
def execDmaStart (c : Fin 16) (s : State) : Host.Outcome State Fault Refusal := run s (·.dmaStart c.val)

/-- STOP (R478). -/
def Dev.dmaStop (d : Dev) (c : Nat) : Dev :=
  let st := d.dmaState c
  if st = dmaIdle then d else if st = dmaPaused then d.dmaEnd c dmaIdle 5 else d.modDma c (fun x => { x with stopping := true })

/-- DMA_STOP (R478). -/
def execDmaStop (c : Fin 16) (s : State) : Host.Outcome State Fault Refusal := run s (·.dmaStop c.val)

/-- RESUME (R480). -/
def Dev.dmaResume (d : Dev) (c : Nat) : Dev :=
  if d.dmaState c ≠ dmaPaused then d
  else if (d.dmaDomains c).any d.domainDown then d.dmaEnd c dmaIdle 4
  else d.setF (F.DMA_CHc_STAT_STATE c) dmaRun

/-- DMA_RESUME (R480). -/
def execDmaResume (c : Fin 16) (s : State) : Host.Outcome State Fault Refusal := run s (·.dmaResume c.val)

/-- A run of bytes read by a channel: uncorrectable words read zero (R462, R175). -/
def Dev.dmaRead (m : Mem) (d : Dev) (a n : Nat) : List Byte × Bool × Dev :=
  match domainOf a with
  | none => (memRead m a n, false, d)
  | some 16 => let (ue, d') := d.readEcc 3 a n; (d.eccBytes m a n, ue, d')
  | some c =>
    let off := a - cluWindow c
    let before := d.reg (A.CLU_UE_CNT c)
    let (bs, d) := Dev.cluWordsRead m d c ((List.range ((off + n + 7) / 8 - off / 8)).map (off / 8 + ·))
    ((bs.drop (off % 8)).take n, d.reg (A.CLU_UE_CNT c) != before, d)

/-- A run of bytes written by a channel (R148, R174). -/
def Dev.dmaWrite (d : Dev) (a : Nat) (bs : List Byte) : Writes × Bool × Dev :=
  match domainOf a with
  | none => ([(a, bs)], false, d.watch 3 a bs)
  | some 16 => d.hamperWrite 3 a bs
  | some c =>
    let off := a - cluWindow c
    let full := (List.range ((off + bs.length) / 8 + 1)).filter (fun w => decide (off ≤ 8 * w ∧ 8 * w + 8 ≤ off + bs.length))
    ([(a, bs)], false, (d.watch 3 a bs).cluClean c full)

/-- 16 words of 16 bits, and their bit planes: the same map in both directions (R477). -/
def bitFlip (ws : List Nat) : List Nat :=
  (List.range 16).map (fun b => maskOf ((List.range 16).filter (fun j => (ws.getD j 0).testBit b)))

/-- What one burst reads and writes: bytes `lo` to `lo + n` of the transfer. -/
def Dev.dmaMove (m : Mem) (d : Dev) (x : Xfer) (lo n : Nat) : Writes × Bool × Bool × Dev :=
  let put := fun (acc : Writes × Bool × Dev) (p : Nat × List Byte) =>
    let (w, b, d) := acc.2.2.dmaWrite p.1 p.2
    (acc.1 ++ w, acc.2.1 || b, d)
  let get := fun (acc : List Byte × Bool × Dev) (p : Nat × Nat) =>
    let (b, u, d) := Dev.dmaRead m acc.2.2 p.1 p.2
    (acc.1 ++ b, acc.2.1 || u, d)
  let els := (List.range (n / x.esize)).map (fun i => lo + i * x.esize)
  let blocks := (List.range (n / 32)).map (fun i => lo / 32 + i)
  match x.mode with
  | 1 =>
    let (bs, ue, d) := Dev.dmaRead m d (x.src + lo) n
    let (ws, pr, d) := (els.map (fun i => (x.planeAddr x.dst i, (bs.drop (i - lo)).take x.esize))).foldl put (([] : Writes), false, d)
    (ws, ue, pr, d)
  | 2 =>
    let (bs, ue, d) := (els.map (fun i => (x.planeAddr x.src i, x.esize))).foldl get (([] : List Byte), false, d)
    let (ws, pr, d) := d.dmaWrite (x.dst + lo) bs
    (ws, ue, pr, d)
  | 3 =>
    let (bs, ue, d) := Dev.dmaRead m d (x.src + lo) n
    let runs := blocks.flatMap (fun i =>
      (bitFlip ((List.range 16).map (fun j => leAt bs (32 * i - lo + 2 * j) 2))).zipIdx.map (fun p =>
        (x.dst + p.2 * x.stride + 2 * i, leBytes 2 p.1)))
    let (ws, pr, d) := runs.foldl put (([] : Writes), false, d)
    (ws, ue, pr, d)
  | 4 =>
    let (bs, ue, d) := (blocks.flatMap (fun i => (List.range 16).map (fun b => (x.src + b * x.stride + 2 * i, 2)))).foldl get
      (([] : List Byte), false, d)
    let out := (List.range (n / 32)).flatMap (fun i =>
      (bitFlip ((List.range 16).map (fun b => leAt bs (32 * i + 2 * b) 2))).flatMap (leBytes 2))
    let (ws, pr, d) := d.dmaWrite (x.dst + lo) out
    (ws, ue, pr, d)
  | _ =>
    let (bs, ue, d) := Dev.dmaRead m d (x.src + lo) n
    let (ws, pr, d) := d.dmaWrite (x.dst + lo) bs
    (ws, ue, pr, d)

/-- The domain a channel drained for goes down, once no channel drains for it (R480). -/
def Dev.domainLower (d : Dev) (dom : Option Nat) : Dev :=
  if dom = some 16 ∧ (List.range 16).all (fun c => d.dmaState c != dmaDraining || (d.dmaSt c).drain != some 16) then
    d.modMemi (fun m => { m with hamperSleep := true })
  else d

/-- A burst completes (R478, R480). -/
def Dev.dmaBurst (m : Mem) (d : Dev) (c : Nat) (ups : List Upset) : Writes × Dev :=
  let st := d.dmaState c
  if st ≠ dmaRun ∧ st ≠ dmaDraining then ([], d)
  else
    let x := d.xfer c
    let lo := (d.reg (A.DMA_CHc_DONE c)).toNat
    let n := min 4096 (x.count - lo)
    let (ws, ue, pr, d) := Dev.dmaMove m (d.upset ups) x lo n
    let d := (d.setReg (A.DMA_CHc_DONE c) (BitVec.ofNat 32 (lo + n))).modDma c (fun s => { s with ue := s.ue || ue, prot := s.prot || pr })
    let drain := (d.dmaSt c).drain
    let d := if lo + n = x.count then d.dmaComplete c
      else if (d.dmaSt c).stopping then d.dmaEnd c dmaIdle 5
      else if st = dmaDraining then d.dmaEnd c dmaPaused 3
      else d
    (ws, if st = dmaDraining then d.domainLower drain else d)

/-- DMA_BURST_DONE (R478). -/
def execDmaBurstDone (c : Fin 16) (ups : List Upset) (s : State) : Host.Outcome State Fault Refusal :=
  runW s (fun m d => Dev.dmaBurst m d c.val ups)

/-- DMA_WDOG_EXPIRY (R478). -/
def Dev.dmaWdog (d : Dev) (c : Nat) (tie : Bool) : Dev :=
  let st := d.dmaState c
  if (st ≠ dmaRun ∧ st ≠ dmaDraining) ∨ d.getF (F.DMA_CHc_WDOG_US c) = 0 then d
  else if tie then d.count A.DMA_TIE
  else
    let drain := (d.dmaSt c).drain
    (d.dmaEnd c dmaIdle 6).domainLower drain

/-- DMA_WDOG_EXPIRY (R478). -/
def execDmaWdogExpiry (c : Fin 16) (tie : Bool) (s : State) : Host.Outcome State Fault Refusal := run s (·.dmaWdog c.val tie)

/-- DRAIN_TIMEOUT (R480). -/
def Dev.drainTimeout (d : Dev) (c : Nat) (tie : Bool) : Dev :=
  if d.dmaState c ≠ dmaDraining then d
  else if tie then d.count A.DMA_TIE
  else
    let drain := (d.dmaSt c).drain
    (d.dmaEnd c dmaIdle 4).domainLower drain

/-- DRAIN_TIMEOUT (R480). -/
def execDrainTimeout (c : Fin 16) (tie : Bool) (s : State) : Host.Outcome State Fault Refusal := run s (·.drainTimeout c.val tie)

/-- The running channels that touch a domain drain (R480); the domain goes down at once where there is none. -/
def Dev.drainFor (d : Dev) (dom : Nat) : Dev :=
  let d := d.forN 16 (fun d c =>
    if d.dmaState c = dmaRun ∧ (d.dmaDomains c).contains (some dom) then
      (d.setF (F.DMA_CHc_STAT_STATE c) dmaDraining).modDma c (fun x => { x with drain := some dom })
    else d)
  d.domainLower (some dom)

/-- A write of MEMI_CLU_PWR (R480): a bit is cleared only for a cluster neither RUN nor LOADING. -/
def Dev.cluPwrWrite (d : Dev) (on : Nat) : Dev :=
  d.forN 16 (fun d c =>
    let old := d.getF F.MEMI_CLU_PWR_ON
    if on.testBit c = old.testBit c then d
    else if on.testBit c then d.setF F.MEMI_CLU_PWR_ON (setBitN old c true)
    else if d.cluState c = cluRun ∨ d.cluState c = cluLoading then d
    else (d.setF F.MEMI_CLU_PWR_ON (setBitN old c false)).drainFor c)

/-- CLU_PWR_WRITE (R480). -/
def execCluPwrWrite (on : BitVec 16) (s : State) : Host.Outcome State Fault Refusal := run s (·.cluPwrWrite on.toNat)

/-- The first four conditions of R521. -/
def Dev.deepSleep (d : Dev) : Bool :=
  (d.mod == .standby || d.mod == .safe) && (List.range 8).all (fun k => !d.carOn k) &&
    (List.range 4).all (fun t => d.flag (F.TILE_STAT_ASLEEP t)) && d.getF F.MEMI_CLU_PWR_ON == 0

/-- HAMPER_DEEP_SLEEP (R522, R480): a channel that touches the Hamper drains first. -/
def execHamperDeepSleep (s : State) : Host.Outcome State Fault Refusal := run s (fun d => if d.deepSleep then d.drainFor 16 else d)

/-- While no carrier is enabled and every tile is asleep, the firmware keeps in retention every cluster memory but those
of owner kernels (R521). -/
def Dev.fwRetention (d : Dev) : Dev :=
  if d.fw.running ∧ (List.range 8).all (fun k => !d.carOn k) ∧ (List.range 4).all (fun t => d.flag (F.TILE_STAT_ASLEEP t)) then
    d.cluPwrWrite (d.fw.ownerClu % 65536)
  else d

/-! MEM_PARTITION (R458, R481). -/

/-- Bytes of a capture record (R268). -/
def captureBytes : Nat := 458816

/-- Whether region `r` passes the checks at a size of `u` units (R126, R167, R481). -/
def Dev.regionFits (d : Dev) (r u : Nat) : Bool :=
  match r with
  | 0 => decide (d.wmemNeed d.wsets d.nbeam ≤ u * 65536 / 4)
  | 1 => d.storeFits d.nUser d.ctxPorts d.ctxSb d.ctxNsb (u * 65536)
  | 2 => d.jitterFits (d.streams 0 []) d.earlySet (u * 65536)
  | 3 => decide (captureBytes ≤ u * 65536)
  | _ => true

/-- The smallest size of a region that passes, by halving. -/
def Dev.regionLeast (d : Dev) (r : Nat) : Nat :=
  if d.regionFits r 0 then (regionLimits.getD r (0, 0)).1
  else max (regionLimits.getD r (0, 0)).1 (largest 12 (fun u => !d.regionFits r u) + 1)

/-- Every weight set freed and every user context invalid (R481). -/
def Dev.forgetBeams (d : Dev) : Dev :=
  (d.wsets.foldl (fun d w => d.wsFreeSet w.n) d).forN 512 (fun d u => d.setB (F.BEAM_UCn_STAT_VALID u) false)

/-- MEM_PARTITION. -/
def cmdMemPartition (pl : List Byte) : Body := devBody fun d =>
  let l := (List.range 5).map (fun r => leAt pl (4 * r) 4)
  if !sizesOk l then badParam d
  else match (List.range 5).find? (fun r => !d.regionFits r (l.getD r 0)) with
    | some r => limitR d (0x0901 + r) (d.regionLeast r)
    | none =>
      let d := d.forN 5 (fun d r => d.setF (F.MEMI_PART_SIZEr_UNITS r) (l.getD r 0))
      okR (d.forgetBeams.partCommit)

/-- MEM_PARTITION (R481). -/
def execMemPartition (h : CmdHdr) (pl : List Byte) (s : State) : Host.Outcome State Fault Refusal :=
  runW s (runCmd h 0x9001 (lenIs 20) pl (cmdMemPartition pl))

end Sys2Proof.Machine
end

