-- ==== Sys2Proof/Machine/Clock.lean ====
section
/-! DEFINITION. The counter, its increment, slews, the servo and PPS (09_time.md, R307 to R320). -/

namespace Sys2Proof.Machine

/-! Events. -/

/-- TIME_EVENT (R331) on MB0 and on the mailboxes of the commands concerned, each with its TAG. -/
def Dev.timeEvent (d : Dev) (code : Nat) (dest : List (Nat × Nat)) : Dev :=
  let body := [BitVec.ofNat 8 code, 0, 0, 0] ++ le4 d.nowNs ++ leBytes 8 d.time.now.sec
  let d := if dest.any (fun m => m.1 == 0) then d else d.notify 0 0x5080 0 body
  d.forL dest (fun d m => d.notify m.1 0x5080 m.2 body)

/-- A completing event of the time base: the commands of an opcode end with it (R415). -/
def Dev.timeDone (d : Dev) (code opcode : Nat) : Dev :=
  let ops := d.pendingFor opcode
  (d.timeEvent code (ops.map (fun p => (p.mb, p.tag)))).forL ops (fun d p => d.dropPend p)

/-! The increment (R308). -/

/-- The clamp of y. -/
def yLim : Rat := 200 / 1000000

/-- A number held within ± a bound. -/
def clampR (lim q : Rat) : Rat := if q < -lim then -lim else if lim < q then lim else q

/-- SLEW_PPM in force: 0 acts as 1, above 200 as 200. -/
def Dev.slewPpm (d : Dev) : Nat := clampN 1 200 (d.getF F.TIME_CTRL_SLEW_PPM)

/-- The slew term of y (R312). -/
def Dev.ySlew (d : Dev) : Rat :=
  if d.time.slewRem = 0 then 0 else if 0 < d.time.slewRem then (d.slewPpm : Rat) / 1000000 else -(d.slewPpm : Rat) / 1000000

/-- The total y (R308). -/
def Dev.yTotal (d : Dev) : Rat := clampR yLim (d.time.yServo + d.time.yManual + d.ySlew)

/-- The crystal's part of y, which INCR does not carry while the crystal is the reference (R317). -/
def Dev.yCrystal (d : Dev) : Rat := if d.flag F.TIME_CTRL_CLK_SRC then 0 else d.time.yXo

/-- The increment for a y, within the bounds of R308; its rounding is not stated. -/
def Dev.incrFor (d : Dev) (y : Rat) : Int × Dev :=
  let q : Rat := (2 ^ 33 : Nat) * (1 + y)
  let (w, d) := d.roundFree q.num q.den
  (clampI 0x1FFE5C91D 0x2001A36E3 w, d)

/-- INCR brought to the present y, and what a tick takes of the slew. -/
def Dev.retime (d : Dev) : Dev :=
  let y := d.yTotal
  let y0 := clampR yLim (d.time.yServo + d.time.yManual)
  let (w, d) := d.incrFor (y - d.yCrystal)
  let (w0, d) := if y0 = y then (w, d) else d.incrFor (y0 - d.yCrystal)
  (d.setPair A.TIME_INCR_LO A.TIME_INCR_HI w.toNat).modTime (fun t => { t with slewTick := w - w0 })

/-! Slews (R312). -/

/-- A slew's offset is used up: what is left is added, SLEWING clears and SLEW_DONE is raised and reported. -/
def Dev.slewDone (d : Dev) : Dev :=
  let now : Int := (d.time.now.toFrac : Int) + d.time.slewRem
  let d := d.modTime (fun t => { t with now := TimeVal.ofFrac now.toNat, slewRem := 0, slewOn := false })
  let d := ((d.setB F.TIME_STATUS_SLEWING false).retime).setB F.TIME_INT_STAT_SLEW_DONE true
  d.timeDone 0x09 0x5003

/-- A slew begins or is replaced, by an offset in 2^-16 ns. -/
def Dev.slewStart (d : Dev) (ofs : Int) : Dev :=
  let d := d.modTime (fun t => { t with slewRem := ofs * 65536, slewOn := true })
  let d := (d.setB F.TIME_STATUS_SLEWING (ofs != 0)).retime
  if ofs = 0 then d.slewDone else d

/-- SLEW_START (R312): a write of TIME_SLEW_LO. -/
def Dev.slewWrite (d : Dev) (r : Requester) (lo : Nat) : Dev :=
  let (hi, d) := d.takeStaged r A.TIME_SLEW_HI
  let w := lo + hi.toNat % 65536 * 2 ^ 32
  (d.setPair A.TIME_SLEW_LO A.TIME_SLEW_HI w).slewStart (sgn 48 w)

/-- SLEW_START (R312). -/
def execSlewStart (r : Requester) (lo : BitVec 32) (s : State) : Host.Outcome State Fault Refusal := run s (·.slewWrite r lo.toNat)

/-- The slew ends once no more is left than one tick takes. -/
def Dev.slewEnd (d : Dev) : Dev :=
  if d.time.slewOn ∧ d.time.slewRem.natAbs ≤ d.time.slewTick.natAbs then d.slewDone else d

/-- SLEW_END (R312). -/
def execSlewEnd (s : State) : Host.Outcome State Fault Refusal := run s (·.slewEnd)

/-! The tick (R307). -/

/-- The servo state (R318). -/
def Dev.servo (d : Dev) : Nat := d.getF F.TIME_STATUS_SERVO_STATE

/-- Whether PPS_OUT is to stay low (R320). -/
def Dev.ppsGated (d : Dev) : Bool :=
  d.flag F.TIME_CTRL_PPS_GATE && (decide (d.servo ≤ 1) || d.flag F.TIME_STATUS_HOLD_EXP)

/-- One 500 MHz tick: INCR is added, the slew's last part exactly, and PPS_OUT rises as NS passes zero (R307, R312,
R320). The counter holds while TB_CLK is set (R488). -/
def Dev.tick (d : Dev) : Dev :=
  if d.time.held then d
  else
    let t := d.time
    let w : Int := (d.pair A.TIME_INCR_LO A.TIME_INCR_HI : Nat)
    let last := t.slewRem != 0 && t.slewTick != 0 && decide (t.slewRem.natAbs ≤ t.slewTick.natAbs)
    let inc := if last then w - t.slewTick + t.slewRem else w
    let now := TimeVal.ofFrac ((t.now.toFrac : Int) + inc).toNat
    let rem := if t.slewRem = 0 ∨ last then 0 else t.slewRem - t.slewTick
    let rise := decide (now.sec ≠ t.now.sec) && d.flag F.TIME_PPS_CFG_OUT_EN && !d.ppsGated
    let d := d.modTime (fun t => { t with
      now := now
      slewRem := rem
      ppsAge := t.ppsAge.map (· + 1)
      ppsOut := t.ppsOut || rise })
    if last then (d.setB F.TIME_STATUS_SLEWING false).retime else d

/-- TIME_BASE_TICK (R307). -/
def execTimeBaseTick (s : State) : Host.Outcome State Fault Refusal := run s (·.tick)

/-- PPS_OUT_FALL (R320): OUT_WIDTH has passed. -/
def execPpsOutFall (s : State) : Host.Outcome State Fault Refusal := run s (·.modTime (fun t => { t with ppsOut := false }))

/-! Offsets (R314, R315). -/

/-- An offset committed to the servo, in 2^-16 ns; one of a servo period in which a step fell is discarded (R311). -/
def Dev.measCommit (d : Dev) (src : Nat) (ofs : Int) : Dev :=
  if d.time.dropMeas then d.count A.TIME_MEAS_DROP else d.modTime (fun t => { t with meas := t.meas ++ [(src, ofs)] })

/-- A write of TIME_MEAS_LO (R314): source PPS is ignored and counted. -/
def Dev.measWrite (d : Dev) (r : Requester) (lo : Nat) : Dev :=
  let (hi, d) := d.takeStaged r A.TIME_MEAS_HI
  let src := bitsN hi.toNat 16 2
  if src = 1 then d.count A.TIME_MEAS_DROP else d.measCommit src (sgn 48 (lo + hi.toNat % 65536 * 2 ^ 32))

/-- MEAS_COMMIT (R314). -/
def execMeasCommit (r : Requester) (lo : BitVec 32) (s : State) : Host.Outcome State Fault Refusal := run s (·.measWrite r lo.toNat)

/-- 0.9 s of the time-base clock. -/
def ppsMin : Nat := 450000000

/-- The present time to 0.125 ns, in eighths (R309). -/
def Dev.nowEighths (d : Dev) : Nat := d.time.now.toFrac / 2 ^ 29

/-- A rising edge of PPS_IN (R315); `tie`: in the cycle in which a miss was due. -/
def Dev.ppsEdge (d : Dev) (tie : Bool) : Dev :=
  let early : Bool := match d.time.ppsAge with
    | some n => decide (n < ppsMin)
    | none => false
  if !d.flag F.TIME_PPS_CFG_IN_EN ∨ d.time.held ∨ early then d
  else
    let d := if tie ∧ d.time.ppsAge.isSome then d.count A.TIME_TIE else d
    let e := d.nowEighths
    let d := d.setReg A.TIME_PPS_NS (BitVec.ofNat 32 d.nowNs)
    let d := d.setReg A.TIME_PPS_FRAC (wordOf [(29, e % 8)])
    let d := d.setReg A.TIME_PPS_SEC_LO (BitVec.ofNat 32 d.nowSecLo)
    let d := d.modTime (fun t => { t with ppsAge := some 0 })
    let within : Int := (e % 8000000000 : Nat)
    let (half, d) := if within = 4000000000 then d.anyBool else (false, d)
    let near := if 4000000000 < within ∨ half then within - 8000000000 else within
    d.measCommit 1 ((near - 8 * sgn 16 (d.getF F.TIME_PPS_CFG_DELAY)) * 8192)

/-- PPS_IN_EDGE (R315). -/
def execPpsInEdge (tie : Bool) (s : State) : Host.Outcome State Fault Refusal := run s (·.ppsEdge tie)

/-- 1.1 s pass without an accepted edge (R315). -/
def Dev.ppsMiss (d : Dev) (tie : Bool) : Dev :=
  if !d.flag F.TIME_PPS_CFG_IN_EN ∨ d.time.ppsAge.isNone then d
  else if tie then d.count A.TIME_TIE
  else ((d.count A.TIME_PPS_MISS).setB F.TIME_INT_STAT_PPS_MISS true).timeEvent 0x07 []

/-- PPS_MISS (R315). -/
def execPpsMiss (tie : Bool) (s : State) : Host.Outcome State Fault Refusal := run s (·.ppsMiss tie)

/-! The servo (R316 to R318). -/

/-- The mean of some numbers, none of an empty list. -/
def meanOf (l : List Int) : Option Rat := if l = [] then none else some ((l.foldl (· + ·) 0 : Int) / (l.length : Nat))

/-- The servo enters a state (R318, R331). -/
def Dev.setServo (d : Dev) (st : Nat) : Dev :=
  let old := d.servo
  if old = st then d
  else
    let t := d.time
    let held := if t.yHist.length = 64 then (t.yHist.foldl (· + ·) 0) / 64 else t.yServo
    let d := d.modTime (fun t => { t with
      yManual := if st = 0 then t.yManual + t.yServo else t.yManual
      yServo := if st ≤ 1 then 0 else if st = 4 then held else t.yServo
      lockRun := 0
      noUpd := 0 })
    let d := if old = 4 then d.setB F.TIME_STATUS_HOLD_EXP false else d
    let d := (d.setF F.TIME_STATUS_SERVO_STATE st).setB F.TIME_INT_STAT_STATE true
    let d := match st with
      | 2 => d.timeEvent 0x02 []
      | 3 => d.timeEvent 0x01 []
      | 4 => d.timeEvent 0x03 []
      | _ => d
    d.retime

/-- AUTO and HOLD_FORCE as they stand (R318). -/
def Dev.servoCtrl (d : Dev) : Dev :=
  if !d.flag F.TIME_CTRL_AUTO then d.setServo 0
  else if d.servo = 0 then d.setServo 1
  else if d.flag F.TIME_CTRL_HOLD_FORCE ∧ (d.servo = 2 ∨ d.servo = 3) then d.setServo 4
  else d

/-- The servo period in ns (R316): PERIOD 7 acts as 6. -/
def Dev.servoNs (d : Dev) : Rat := 1000000000 / (2 ^ min 6 (d.getF F.TIME_SERVO_PERIOD) : Nat)

/-- The control law for an offset in ns (R316), with the acquisition or the tracking gains. -/
def Dev.servoLaw (d : Dev) (ofs : Rat) : Dev :=
  let acq := d.servo == 2
  let kp := d.getF (if acq then F.TIME_SERVO_KP_ACQ else F.TIME_SERVO_KP)
  let ki := d.getF (if acq then F.TIME_SERVO_KI_ACQ else F.TIME_SERVO_KI)
  let i := d.time.integ + ofs / (2 ^ ki : Nat)
  let y := -(ofs / (2 ^ kp : Nat) + i) / d.servoNs
  let other := d.time.yManual + d.ySlew
  let total := y + other
  let railed := decide (total < -yLim ∨ yLim < total)
  let lock : Rat := (d.getF F.TIME_LOCK_LOCK_NS : Nat)
  let small := decide (-lock ≤ ofs ∧ ofs ≤ lock)
  let d := d.modTime (fun t => { t with
    integ := if railed then t.integ else i
    yServo := if railed then clampR yLim total - other else y
    lockRun := if acq then (if small then t.lockRun + 1 else 0) else t.lockRun
    yHist := if acq then t.yHist else ((if railed then clampR yLim total - other else y) :: t.yHist).take 64 })
  let d := d.retime
  if acq then (if max 1 (d.getF F.TIME_LOCK_LOCK_CNT) ≤ d.time.lockRun then d.setServo 3 else d)
  else if ofs < -(4 * lock) ∨ 4 * lock < ofs then d.setServo 2 else d

/-- The crystal's steering (R317): up to 1 ppb of the integral term at an evaluation, within ±10 ppm. -/
def Dev.steerCrystal (d : Dev) : Dev :=
  if d.flag F.TIME_CTRL_CLK_SRC ∨ !d.flag F.TIME_CTRL_SYNT_EN ∨ ¬(d.servo = 2 ∨ d.servo = 3) then d
  else
    let want := -d.time.integ / d.servoNs
    let new := d.time.yXo + clampR (1 / 1000000000) (want - d.time.yXo)
    let rail := decide (new ≤ -(10 / 1000000) ∨ 10 / 1000000 ≤ new)
    let was := d.flag F.TIME_STATUS_XO_RAIL
    let d := (d.modTime (fun t => { t with yXo := clampR (10 / 1000000) new })).setB F.TIME_STATUS_XO_RAIL rail
    let q := d.time.yXo * 100000000000
    let (w, d) := d.roundFree q.num q.den
    let d := (d.setReg A.TIME_XO_STEER (BitVec.ofInt 32 w)).retime
    if rail ∧ !was then (d.setB F.TIME_INT_STAT_XO_RAIL true).timeEvent 0x0A [] else d

/-- The SERVO record of an evaluation (R495). -/
def Dev.servoTrace (d : Dev) : Dev := d.trace 9 (d.pair A.TIME_OFS_LO A.TIME_OFS_HI * 2 ^ 48 + (d.reg A.TIME_FREQ).toNat * 2 ^ 16)

/-- An evaluation of the servo (R316 to R318): the combined offset in 2^-16 ns if there is an update, and whether it has
raised BIG_OFS; `tie`: a fresh offset came in the cycle in which HOLD_TO was reached. -/
def Dev.servoEval (d : Dev) (tie : Bool) : Option Rat × Bool × Dev :=
  let ms := d.time.meas
  let val := fun s => meanOf ((ms.filter (fun m => m.1 == s)).map (·.2))
  let wt := fun s => bitsN (d.reg A.TIME_MIX).toNat (4 * s) 4
  let fresh := (List.range 4).filter (fun s => (val s).isSome)
  let num : Rat := (fresh.map (fun s => (wt s : Rat) * (val s).getD 0)).foldl (· + ·) 0
  let den : Nat := (fresh.map wt).foldl (· + ·) 0
  let d := d.modTime (fun t => { t with meas := [], dropMeas := false })
  let d := (d.setF F.TIME_STATUS_FRESH (maskOf fresh)).setB F.TIME_INT_STAT_EVAL true
  if den = 0 then
    let d := d.modTime (fun t => { t with noUpd := if d.servo = 2 ∨ d.servo = 3 then t.noUpd + 1 else 0 })
    let due := decide ((d.servo = 2 ∨ d.servo = 3) ∧ max 1 (d.getF F.TIME_LOCK_HOLD_TO) ≤ d.time.noUpd)
    let d := if !due then d
      else if tie then (d.modTime (fun t => { t with noUpd := 0 })).count A.TIME_TIE
      else d.setServo 4
    (none, false, d.steerCrystal.servoTrace)
  else
    let ofs : Rat := num / (den : Nat)
    let (w, d) := d.roundFree ofs.num ofs.den
    let d := d.setPair A.TIME_OFS_LO A.TIME_OFS_HI (unsgn 48 w)
    let lim : Rat := (d.getF F.TIME_MIX_BIG_US * 1000 * 65536 : Nat)
    let big := decide (ofs < -lim ∨ lim < ofs)
    let raised := big && !d.flag F.TIME_STATUS_BIG_OFS
    let d := d.setB F.TIME_STATUS_BIG_OFS big
    let d := if raised then (d.setB F.TIME_INT_STAT_BIG_OFS true).timeEvent 0x06 [] else d
    let d := d.modTime (fun t => { t with noUpd := 0 })
    let force := d.flag F.TIME_CTRL_HOLD_FORCE
    let d := if d.servo = 1 ∨ (d.servo = 4 ∧ !force) then d.setServo 2 else d
    let d := if d.servo = 2 ∨ d.servo = 3 then d.servoLaw (ofs / 65536) else d
    let d := d.steerCrystal.servoCtrl
    let q := d.yTotal * 100000000000
    let (y, d) := d.roundFree q.num q.den
    (some ofs, raised, (d.setReg A.TIME_FREQ (BitVec.ofInt 32 y)).servoTrace)

/-- HOLD_MAX minutes have passed in HOLDOVER (R318). -/
def Dev.holdExp (d : Dev) : Dev :=
  if d.servo ≠ 4 ∨ !d.flag F.TIME_MIX_HOLD_MAX ∨ d.flag F.TIME_STATUS_HOLD_EXP then d
  else (((d.setB F.TIME_STATUS_HOLD_EXP true).setB F.TIME_INT_STAT_HOLD_EXP true).degr 9).timeEvent 0x04 []

/-- HOLD_EXP (R318). -/
def execHoldExp (s : State) : Host.Outcome State Fault Refusal := run s (·.holdExp)

/-- A write of TIME_INCR_LO (R318): outside MANUAL it is ignored and counted. -/
def Dev.incrWrite (d : Dev) (r : Requester) (lo : Nat) : Dev :=
  if d.servo ≠ 0 then d.count A.TIME_CMD_ERR
  else
    let (hi, d) := d.takeStaged r A.TIME_INCR_HI
    let w : Nat := lo + hi.toNat % 256 * 2 ^ 32
    let y : Rat := (w : Rat) / (2 ^ 33 : Nat) - 1 + d.yCrystal - d.ySlew - d.time.yServo
    (d.modTime (fun t => { t with yManual := y })).retime

/-- INCR_COMMIT (R318). -/
def execIncrCommit (r : Requester) (lo : BitVec 32) (s : State) : Host.Outcome State Fault Refusal := run s (·.incrWrite r lo.toNat)

/-- Whether every tile is asleep or has its PLL OFF (R317). -/
def Dev.tilesQuiet (d : Dev) : Bool :=
  (List.range 4).all (fun t => d.flag (F.TILE_STAT_ASLEEP t) || d.getF (F.TILE_STAT_PLL_STATE t) == 0)

/-- A write of CLK_SRC (R317, R514); `agree`: the two references agree to within ±20 ppm. -/
def Dev.clkSrc (d : Dev) (refclk agree : Bool) : Dev :=
  if d.flag F.TIME_CTRL_CLK_SRC = refclk then d
  else if !d.tilesQuiet then d.count A.TIME_CMD_ERR
  else
    let d := (d.setB F.TIME_CTRL_CLK_SRC refclk).retime
    if agree then d else (d.modTime (fun t => { t with held := true })).hardFault 2

/-- CLK_SRC_CHANGE (R317). -/
def execClkSrcChange (refclk agree : Bool) (s : State) : Host.Outcome State Fault Refusal := run s (·.clkSrc refclk agree)

/-! Writes of the TIME registers with an effect of their own. -/

/-- TIME_CTRL but for CLK_SRC, whose change CLK_SRC_CHANGE makes. -/
def Dev.timeCtrlWrite (d : Dev) (v : Nat) : Dev :=
  let keep := d.flag F.TIME_CTRL_CLK_SRC
  (((d.storeRw A.TIME_CTRL v).setB F.TIME_CTRL_CLK_SRC keep).retime).servoCtrl

/-- TIME_PPS_CFG (R315, R320): PPS_OUT goes low with OUT_EN, and the spans end with IN_EN. -/
def Dev.ppsCfgWrite (d : Dev) (v : Nat) : Dev :=
  let d := d.storeRw A.TIME_PPS_CFG v
  d.modTime (fun t => { t with
    ppsOut := t.ppsOut && d.flag F.TIME_PPS_CFG_OUT_EN
    ppsAge := if d.flag F.TIME_PPS_CFG_IN_EN then t.ppsAge else none })

/-- TIME_FRAME_OFS (R313): written only while no carrier is enabled. -/
def Dev.frameOfsWrite (d : Dev) (v : Nat) : Dev :=
  if (List.range 8).any (fun k => d.carOn k) then d.count A.TIME_CMD_ERR else d.storeRw A.TIME_FRAME_OFS v

end Sys2Proof.Machine
end

