-- ==== Sys2Proof/Machine/Rambler.lean ====
section
/-! DEFINITION. The Rambler's bursts: the queue, start instants, locks and grants (10_rambler.md, R344 to R348, R359,
R360). -/

namespace Sys2Proof.Machine

/-! Air lengths (R339). -/

/-- One symbol: 16 samples of 122.88 MS/s. -/
def rmbSym : Nat := 16 * airSample

/-- Symbols of a burst of `n` payload bytes. -/
def burstSyms (n : Nat) : Nat := 152 + 4 * n

/-- How long it lasts. -/
def burstAir (n : Nat) : Int := (burstSyms n * rmbSym : Nat)

/-- Eighths of a ns of an air time (R309). -/
def eighths (t : Int) : Int := t / (3 * 2 ^ 29)

/-- The timestamp point of a burst that began at `t` (R343), in eighths of a ns. -/
def stampPoint (t : Int) : Int := eighths (t + (68 * rmbSym : Nat))

/-! Windows. -/

/-- Length of a window less RANGE_US, in air time (R345). -/
def Dev.rmbRoom (d : Dev) : Int := ((d.getF F.RMB_WIN_CFG_WIN_US : Int) - d.getF F.RMB_WIN_CFG_RANGE_US) * (airUs : Int)

/-- TX_OFS in force, in air time: 100 ns units. -/
def Dev.rmbOfs (d : Dev) : Int := (bitsN d.rmb.txcfg.toNat 16 8 * 100 * airNs : Nat)

/-- The TX path in force. -/
def Dev.rmbTxPath (d : Dev) : Nat := bitsN d.rmb.path.toNat 0 6

/-- Whether a transmit window is open in which a burst may still be sent. -/
def Dev.txWindow (d : Dev) : Bool :=
  d.rmb.opened.isSome && d.flag F.RMB_STATUS_TXWIN && d.flag F.RMB_CTRL_TX_EN && !d.rmb.sent

/-- Whether a burst of `n` bytes that starts at `t` ends in time (R345). -/
def Dev.rmbFits (d : Dev) (n : Nat) (t : Int) : Bool := match d.rmb.opened with
  | some o => decide (t + burstAir n ≤ o + d.rmbRoom)
  | none => false

/-- Whether it fits no window of WIN_US (R345). -/
def Dev.rmbTooLong (d : Dev) (n : Nat) : Bool :=
  decide (d.rmbRoom < (d.getF F.RMB_TXCFG_TX_OFS * 100 * airNs : Nat) + burstAir n)

/-- The air time of AT: SEC[31:0] taken nearest to the present. -/
def Dev.atAir (d : Dev) (at_ : Nat × Nat) : Int :=
  let s : Int := d.time.now.sec
  let w : Int := at_.2
  let k := (s - w + 2147483648) / 4294967296
  ((w + k * 4294967296) * 1000000000 + at_.1) * (airNs : Int)

/-! The queue (R344). -/

/-- Where frames of the hardware go: before every descriptor, an ACK before a response. -/
def rmbRank (t : RmbTx) : Nat := if t.hw then (if t.type = 2 then 0 else 1) else 2

/-- A frame of the hardware, or a copy of a frame, put before what ranks no higher. -/
def rmbInsert (l : List RmbTx) (t : RmbTx) : List RmbTx :=
  if t.hw then l.takeWhile (fun x => rmbRank x ≤ rmbRank t) ++ [t] ++ l.dropWhile (fun x => rmbRank x ≤ rmbRank t)
  else l.takeWhile (·.hw) ++ [t] ++ l.dropWhile (·.hw)

/-- A frame takes its number. -/
def Dev.rmbNumber (d : Dev) (t : RmbTx) : RmbTx × Dev :=
  ({ t with seq := d.rmb.seq }, d.modRmb (fun r => { r with seq := (r.seq + 1) % 64 }))

/-- A frame queued behind the others. A TIME_REQ opens the exchange; one that finds an exchange outstanding is refused
(R356, R357). -/
def Dev.rmbQueue (d : Dev) (t : RmbTx) : Dev :=
  let (t, d) := d.rmbNumber t
  if t.type = 3 ∧ d.rmb.exch.isSome then d.rmbComplete t 9
  else
    let req := t.type == 3 && d.flag F.RMB_TT_REQ_EN
    d.modRmb (fun r => { r with txq := r.txq ++ [t], exch := if req then some { seq := t.seq } else r.exch })

/-- A frame of the hardware queued at the head. -/
def Dev.rmbQueueHw (d : Dev) (t : RmbTx) : Dev :=
  let (t, d) := d.rmbNumber { t with hw := true }
  d.modRmb (fun r => { r with txq := rmbInsert r.txq t })

/-- A burst put back to wait for the next transmit window. -/
def Dev.rmbBack (d : Dev) (t : RmbTx) : Dev := d.modRmb (fun r => { r with txq := t :: r.txq, gone := true })

/-! The start (R345, R346, R359, R360). -/

/-- Whether both PLLs are locked. -/
def Dev.rmbLocked (d : Dev) : Bool := d.rmb.locked && d.getF (F.TILE_STAT_PLL_STATE (tileOf d.rmbTxPath)) == 3

/-- Whether the TX path may not send (R345): stopped, shed, TX_EN clear, or its tile asleep. -/
def Dev.rmbBlocked (d : Dev) : Bool :=
  let p := d.rmbTxPath
  let t := tileOf p
  let x := d.tile t
  let off := if d.groupUsed (d.bandGroup t) then x.shed.testBit (p % 16) || !x.txEn.testBit (p % 16)
    else (d.getF (F.TILE_SHED_TX_SHED t)).testBit (p % 16) || !(d.getF (F.TILE_PATH_EN_TX_EN t)).testBit (p % 16)
  !d.flag (runF t .tx) || d.flag (stoppedF t .tx) || off || !d.awake t

/-- Whether a safety mute is on the path (R23). -/
def Dev.rmbMuted (d : Dev) : Bool :=
  d.mod == .safe || d.txMuted || d.flag F.MON_MUTE_ALL_ALL || d.muteMask.testBit d.rmbTxPath

/-- A burst denied its start: REQ_OUT falls, and it waits, or completes once it has been denied MAX_DEFER times. -/
def Dev.rmbDeny (d : Dev) (t : RmbTx) : Dev :=
  let d := d.reqLow
  let n := t.denials + 1
  if t.at_.isSome then (d.modRmb (fun r => { r with gone := true })).rmbComplete t 7
  else if max 1 (d.getF F.COEX_CTRL_MAX_DEFER) ≤ n then (d.modRmb (fun r => { r with gone := true })).rmbComplete t 4
  else (d.count A.COEX_DEFER_CNT).rmbBack { t with denials := n }

/-- A burst goes on the air at `at_`: it displaces the path's downlink symbols (R337), marks the path's captures (R267), and
a time request takes t1 (R356). A safety mute cuts it at once (R345). -/
def Dev.rmbGo (d : Dev) (t : RmbTx) (at_ : Int) : Dev :=
  let p := d.rmbTxPath
  let d := d.modRmb (fun r => { r with
    burst := some ({ t with denials := 0 }, at_)
    sent := true
    gone := true
    exch := r.exch.map (fun e => if t.type = 3 ∧ e.seq = t.seq ∧ !t.hw ∧ e.t1.isNone then { e with t1 := some (stampPoint at_) } else e) })
  let d := d.capMark (fun q => q == p) 0
  let d := d.count A.RMB_DL_DISPLACED (d.tile (tileOf p)).txSyms.length
  let d := if t.type = 1 ∧ !t.hw ∧ !t.fw ∧ inHamper t.pay t.n then (d.readEcc 7 t.pay t.n).2 else d
  if d.rmbMuted then d.rmbCut else d

/-- A burst whose locks are there: yield, grant and go. -/
def Dev.rmbGrant (d : Dev) (t : RmbTx) (at_ : Int) (gnt : Bool) : Dev :=
  if d.flag F.COEX_CTRL_YIELD_EN ∧ d.flag F.COEX_STAT_REQ_IN then d.rmbDeny t
  else if d.flag F.COEX_CTRL_REQ_EN ∧ !gnt then d.rmbDeny t
  else d.rmbGo t at_

/-- The start instant of a burst that has left the queue. -/
def Dev.rmbBegin (d : Dev) (t : RmbTx) (at_ : Int) (gnt tie : Bool) : Dev :=
  if d.rmbBlocked then (d.modRmb (fun r => { r with gone := true })).rmbComplete t 5
  else if !d.rmbLocked then d.modRmb (fun r => { r with hold := some t, gone := true })
  else
    let d := d.setB F.COEX_STAT_GNT_IN (gnt || tie)
    let d := if tie ∧ d.flag F.COEX_CTRL_REQ_EN then d.count A.RMB_TIE else d
    d.rmbGrant t at_ (gnt || tie)

/-- The burst at the head of the queue (R345); `gnt`: COEX_GNT_IN is high, `tie`: it rises in this cycle. -/
def Dev.burstStart (d : Dev) (gnt tie : Bool) : Dev :=
  match d.rmb.txq, d.rmb.burst, d.rmb.hold with
  | t :: rest, none, none =>
    let out := d.modRmb (fun r => { r with txq := rest })
    match t.at_ with
    | some w =>
      let a := d.atAir w
      if d.nowAir < a then d
      else if a + (airSample : Int) ≤ d.nowAir ∨ !d.txWindow ∨ !d.rmbFits t.n a then out.rmbComplete t 7
      else out.rmbBegin t a gnt tie
    | none =>
      if d.rmbTooLong t.n then out.rmbComplete t 8
      else if !d.txWindow ∨ d.rmb.gone then d
      else out.rmbBegin t (d.rmb.opened.getD 0 + d.rmbOfs) gnt tie
  | _, _, _ => d

/-- BURST_START (R345). -/
def execBurstStart (gnt tie : Bool) (s : State) : Host.Outcome State Fault Refusal := run s (·.burstStart gnt tie)

/-- A lock has come: a held burst starts at once if it still fits (R346). Whether COEX_GNT_IN is high then, the command
does not say. -/
def Dev.rmbRelease (d : Dev) : Dev := match d.rmb.hold with
  | none => d
  | some t =>
    if !d.rmbLocked then d
    else
      let d := d.modRmb (fun r => { r with hold := none })
      if d.rmbBlocked then d.rmbComplete t 5
      else if d.rmb.opened.isSome ∧ d.rmbFits t.n d.nowAir then
        let (g, d) := if d.flag F.COEX_CTRL_REQ_EN then d.anyBool else (false, d)
        (d.setB F.COEX_STAT_GNT_IN g).rmbGrant t d.nowAir g
      else if t.at_.isSome then d.rmbComplete t 7
      else d.reqLow.rmbBack t

/-- RAMBLER_PLL_LOCK (R346, R410): the held burst is released, and the function bit can be set. -/
def execRamblerPllLock (s : State) : Host.Outcome State Fault Refusal :=
  run s (fun d => ((d.modRmb (fun r => { r with locked := true })).func 14 true).rmbRelease)

/-- HOLD_US ends with a PLL unlocked (R346); `tie`: the lock came in the same cycle. -/
def Dev.holdEnd (d : Dev) (tie : Bool) : Dev := match d.rmb.hold with
  | none => d
  | some t =>
    if tie then d.count A.RMB_TIE
    else ((d.modRmb (fun r => { r with hold := none })).reqLow).rmbComplete t 3

/-- SYNTH_HOLD_EXPIRY (R346). -/
def execSynthHoldExpiry (tie : Bool) (s : State) : Host.Outcome State Fault Refusal := run s (·.holdEnd tie)

/-- BURST_END (R345, R355): the burst counts as sent, and completes or starts its acknowledgement timer. -/
def Dev.burstEnd (d : Dev) : Dev := match d.rmb.burst with
  | none => d
  | some (t, _) =>
    let d := (d.burstOver).count A.RMB_TX_CNT
    if t.acked then d
    else if t.ackReq then d.modRmb (fun r => { r with
      acks := r.acks.filter (fun a => a.tx.seq != t.seq) ++ [{ tx := { t with tries := t.tries + 1 }, timing := true }] })
    else d.rmbComplete t 0

/-- BURST_END (R345). -/
def execBurstEnd (s : State) : Host.Outcome State Fault Refusal := run s (·.burstEnd)

/-! Coexistence wires (R359, R360). -/

/-- COEX_REQUEST (R359): LEAD_US before the head burst's start instant. -/
def Dev.coexRequest (d : Dev) : Dev :=
  match d.rmb.txq with
  | t :: _ =>
    if d.flag F.COEX_CTRL_REQ_EN ∧ d.mod ≠ .safe ∧ d.rmb.burst.isNone then
      (d.setB F.COEX_STAT_REQ_OUT true).setB F.COEX_STAT_PRI_OUT t.pri
    else d
  | [] => d

/-- COEX_REQUEST (R359). -/
def execCoexRequest (s : State) : Host.Outcome State Fault Refusal := run s (·.coexRequest)

/-- COEX_REQ_IN_EDGE (R360). -/
def Dev.reqIn (d : Dev) (high : Bool) : Dev :=
  let d := d.setB F.COEX_STAT_REQ_IN high
  if !high then d.gntLow
  else if d.flag F.COEX_CTRL_YIELD_EN ∧ d.rmb.burst.isNone then d.gntHigh
  else d

/-- COEX_REQ_IN_EDGE (R360). -/
def execCoexReqInEdge (high : Bool) (s : State) : Host.Outcome State Fault Refusal := run s (·.reqIn high)

/-- A write of COEX_CTRL (R360, R364): without YIELD_EN no grant is given, and with both enables clear the outputs are
low. -/
def Dev.coexWrite (d : Dev) (v : Nat) : Dev :=
  let d := d.storeRw A.COEX_CTRL v
  let d := if d.flag F.COEX_CTRL_YIELD_EN then (if d.flag F.COEX_STAT_REQ_IN ∧ d.rmb.burst.isNone then d.gntHigh else d) else d.gntLow
  if d.flag F.COEX_CTRL_REQ_EN then d else d.reqLow

end Sys2Proof.Machine
end

