-- ==== Sys2Proof/Machine/Tile.lean ====
section
/-! DEFINITION. Converter tiles and carriers: oscillators, chains, filter stages, the tile PLL, sleep and power-down (06_rf_paths.md,
R207 to R240). -/

namespace Sys2Proof.Machine

/-! Groups and events. -/

/-- The lowest-numbered enabled carrier of a band group. -/
def Dev.lowCar (d : Dev) (g : Nat) : Option Nat := (List.range 8).find? (fun k => d.carOn k && d.carGroup k == g)

/-- The tiles of a band group. -/
def Dev.groupTiles (d : Dev) (g : Nat) : List Nat := (List.range 4).filter (fun t => d.bandGroup t == g)

/-- The frame and subframe now, where no carrier gives a symbol. -/
def Dev.framePos (d : Dev) : AirPos :=
  let t : Int := d.time.now.toFrac - d.frameOfs * (2 ^ 32 : Int)
  { sfn := (d.frameNow % 1024).toNat, subframe := (t % (10000000 * 2 ^ 32) / (1000000 * 2 ^ 32)).toNat, slot := 0, symbol := 0 }

/-- Where in air time an event of a tile took effect (R243). -/
def Dev.tilePos (d : Dev) (t : Nat) : AirPos :=
  match d.lowCar (d.bandGroup t) with
  | some k => (d.posNow k false).1
  | none => d.framePos

/-- TILE_EVENT (R243) on MB0 and on the mailboxes of the commands concerned, each with its TAG. -/
def Dev.tileEvent (d : Dev) (code id muted : Nat) (p : AirPos) (dest : List (Nat × Nat)) : Dev :=
  let body := [BitVec.ofNat 8 code, BitVec.ofNat 8 id] ++ leBytes 2 (min 65535 muted) ++ leBytes 2 p.sfn ++
    [BitVec.ofNat 8 p.subframe, BitVec.ofNat 8 p.slot, BitVec.ofNat 8 p.symbol, 0, 0, 0]
  let d := if dest.any (fun m => m.1 == 0) then d else d.notify 0 0x2080 0 body
  d.forL dest (fun d m => d.notify m.1 0x2080 m.2 body)

def Dev.modRf (d : Dev) (f : RfSt → RfSt) : Dev := { d with rf := f d.rf }

/-- The operations of a list that a tile's event answers: whom it goes to, with the TAG where the command ends with it. -/
def opsTo (l : List TileOp) (t : Nat) : List (Nat × Nat) :=
  (l.filter (fun o => o.left.contains t)).map (fun o => (o.op.mb, if o.left = [t] then o.op.tag else 0))

/-- Those that end with it. -/
def opsEnd (l : List TileOp) (t : Nat) : List PendOp := (l.filter (fun o => o.left == [t])).map (·.op)

/-- The list once the tile has answered. -/
def opsAfter (l : List TileOp) (t : Nat) : List TileOp :=
  (l.map (fun o => { o with left := o.left.filter (· != t), todo := o.todo.filter (· != t) })).filter (fun o => !o.left.isEmpty)

/-- An event of a tile that answers recalibrations and wakes or sleeps. -/
def Dev.tileDone (d : Dev) (t code muted : Nat) (rec slp : TileOp → Bool) : Dev :=
  let rs := d.rf.recals.filter rec
  let ss := d.rf.sleeps.filter slp
  let ends := opsEnd rs t ++ opsEnd ss t
  let d := d.tileEvent code t muted (d.tilePos t) (opsTo rs t ++ opsTo ss t)
  let d := d.modRf (fun r => { r with recals := opsAfter rs t ++ r.recals.filter (fun o => !rec o),
                                      sleeps := opsAfter ss t ++ r.sleeps.filter (fun o => !slp o) })
  d.forL ends (fun d p => d.dropPend p)

/-- A bit of TILE_INT_STAT raised. -/
def Dev.tileInt (d : Dev) (t b : Nat) : Dev := d.setB ⟨A.TILE_INT_STAT t, b, 1⟩ true

/-! Oscillators (R212 to R214). -/

/-- The number under which an oscillator's committed word is kept. -/
def ncoKey : Nco → Nat
  | .band t dir => 2 * t.val + (if dir = .tx then 0 else 1)
  | .carrier k dir => 16 + 2 * k.val + (if dir = .tx then 0 else 1)
  | .rambler dir => 64 + (if dir = .tx then 0 else 1)

/-- The register pair of an oscillator. -/
def ncoRegs : Nco → Nat × Nat
  | .band t .tx => (A.TILE_TX_FTW_LO t.val, A.TILE_TX_FTW_HI t.val)
  | .band t .rx => (A.TILE_RX_FTW_LO t.val, A.TILE_RX_FTW_HI t.val)
  | .carrier k .tx => (A.CARk_DL_FTW_LO k.val, A.CARk_DL_FTW_HI k.val)
  | .carrier k .rx => (A.CARk_UL_FTW_LO k.val, A.CARk_UL_FTW_HI k.val)
  | .rambler .tx => (A.RMB_TX_FTW_LO, A.RMB_TX_FTW_HI)
  | .rambler .rx => (A.RMB_RX_FTW_LO, A.RMB_RX_FTW_HI)

/-- The committed word of an oscillator that is not yet in force. -/
def Dev.ncoPend (d : Dev) (n : Nco) : Option Nat := Tab.get (fun _ => none) (ncoKey n) d.rf.nco
def Dev.setPend (d : Dev) (n : Nco) (w : Option Nat) : Dev :=
  d.modRf (fun r => { r with nco := Tab.set (fun _ => none) (ncoKey n) w r.nco })

/-- The word of an oscillator in force, and the last one committed. -/
def Dev.ncoWord (d : Dev) (n : Nco) : Nat := d.pair (ncoRegs n).1 (ncoRegs n).2
def Dev.ncoLast (d : Dev) (n : Nco) : Nat := (d.ncoPend n).getD (d.ncoWord n)

/-- The pending flag of a carrier's oscillator. -/
def pendF : Nco → Option Fld
  | .carrier k .tx => some (F.CARk_STAT_DL_PEND k.val)
  | .carrier k .rx => some (F.CARk_STAT_UL_PEND k.val)
  | _ => none

def Dev.pendFlag (d : Dev) (n : Nco) (b : Bool) : Dev := match pendF n with
  | some f => d.setB f b
  | none => d

/-- Fixed point with 80 fraction bits. -/
def fixOne : Int := 2 ^ 80
def fixMul (a b : Int) : Int := a * b / fixOne

/-- 100 × 20 log10(sin x / x) for x = π w / 2^48, rounded to nearest (R230): the sine by its series, the logarithm by that
of the inverse hyperbolic tangent. -/
def droopOf (w : Nat) : Int :=
  let pi : Int := 3797952473636338580787993 -- π × 2^80
  let ln10 : Int := 2783654570780253816072539 -- ln 10 × 2^80
  let x := pi * w / 2 ^ 48
  let u := fixMul x x
  let sinc := ((List.range 20).foldl (fun (acc : Int × Int) n =>
    let term := -(fixMul acc.2 u) / ((2 * n + 2) * (2 * n + 3) : Nat)
    (acc.1 + term, term)) (fixOne, fixOne)).1
  let z := (sinc - fixOne) * fixOne / (sinc + fixOne)
  let z2 := fixMul z z
  let ath := ((List.range 40).foldl (fun (acc : Int × Int) n =>
    (acc.1 + acc.2 / ((2 * n + 1) : Nat), fixMul acc.2 z2)) (0, z)).1
  convRound (4000 * ath) ln10.toNat

/-- TILE_DROOP for a TX band word (R230); the spec states nothing above the DAC's first Nyquist zone. -/
def droopReg (w : Nat) : Nat :=
  if w < 2 ^ 47 then unsgn 16 (droopOf w) else (Config.droopAbove w).toNat

/-- A word in force: on every tile of the band group for a band oscillator (R244), whose TX word also sets the droop
equaliser (R230). -/
def Dev.ncoSet (d : Dev) (n : Nco) (w : Nat) : Dev :=
  match n with
  | .band t dir =>
    d.forL (d.groupTiles (d.bandGroup t.val)) (fun d u =>
      let (lo, hi) := match dir with
        | .tx => (A.TILE_TX_FTW_LO u, A.TILE_TX_FTW_HI u)
        | .rx => (A.TILE_RX_FTW_LO u, A.TILE_RX_FTW_HI u)
      let d := d.setPair lo hi w
      match dir with
      | .tx => d.setF (F.TILE_DROOP_DROOP u) (droopReg w)
      | .rx => d)
  | _ => d.setPair (ncoRegs n).1 (ncoRegs n).2 w

/-- Whether an oscillator's registers accept a write: a band word acts in TILE0, and in TILE2 while SPLIT is set (R244). -/
def Dev.ncoOpen (d : Dev) : Nco → Bool
  | .band t _ => t.val == 0 || (t.val == 2 && d.flag F.TILE_GROUP_SPLIT)
  | _ => true

/-- A word committed: it waits for its boundary (R214); the Rambler's acts at once. -/
def Dev.ncoPut (d : Dev) (n : Nco) (w : Nat) : Dev :=
  match n with
  | .rambler _ => d.ncoSet n (w % 2 ^ 48)
  | _ => (d.setPend n (some (w % 2 ^ 48))).pendFlag n true

/-- The low word of a pair written: it commits with the staged high word (R12, R214). -/
def Dev.ncoCommit (d : Dev) (r : Requester) (n : Nco) (lo : Nat) : Dev :=
  if !d.ncoOpen n then d
  else
    let (hi, d) := d.takeStaged r (ncoRegs n).2
    d.ncoPut n (hi.toNat % 65536 * 2 ^ 32 + lo % 2 ^ 32)

/-- NCO_WORD_COMMIT (R214, R12). -/
def execNcoWordCommit (r : Requester) (nco : Nco) (lo : BitVec 32) (s : State) : Host.Outcome State Fault Refusal :=
  run s (fun d => d.ncoCommit r nco lo.toNat)

/-- Retunes of a carrier whose words are in force end with TILE_EVENT RETUNED (R242, R243). -/
def Dev.retuneDone (d : Dev) (k : Fin 8) : Dev :=
  if (d.ncoPend (.carrier k .tx)).isSome ∨ (d.ncoPend (.carrier k .rx)).isSome then d
  else
    let done := d.rf.retunes.filter (fun r => r.carrier == k.val && r.committed)
    let d := d.modRf (fun r => { r with retunes := r.retunes.filter (fun x => !(x.carrier == k.val && x.committed)) })
    d.forL done (fun d r => (d.tileEvent 0x08 k.val 0 (d.posNow k.val false).1 [(r.op.mb, r.op.tag)]).dropPend r.op)

/-- A committed word takes effect (R214). -/
def Dev.ncoApply (d : Dev) (n : Nco) : Dev :=
  match d.ncoPend n with
  | none => d
  | some w =>
    let d := ((d.ncoSet n w).setPend n none).pendFlag n false
    match n with
    | .carrier k _ => d.retuneDone k
    | _ => d

/-- NCO_WORD_APPLY (R214). -/
def execNcoWordApply (nco : Nco) (s : State) : Host.Outcome State Fault Refusal := run s (·.ncoApply nco)

/-! Chains and stages (R221 to R225). -/

/-- CHAIN_STOP (R225). -/
def execChainStop (t : Fin 4) (d : Dir) (s : State) : Host.Outcome State Fault Refusal := run s (·.chainStop t.val d)

/-- CHAIN_DRAINED (R225). -/
def execChainDrained (t : Fin 4) (d : Dir) (s : State) : Host.Outcome State Fault Refusal := run s (·.chainDrained t.val d)

/-- CHAIN_START (R225). -/
def execChainStart (t : Fin 4) (d : Dir) (s : State) : Host.Outcome State Fault Refusal := run s (·.chainStart t.val d)

/-- The chain whose stage registers an offset of the tile page holds, none where it holds another register (R244). -/
def stageDir (o : Nat) : Option Dir :=
  if o = 0x100 ∨ o = 0x104 ∨ o = 0x108 ∨ (0x400 ≤ o ∧ o < 0x580) ∨ (0x600 ≤ o ∧ o < 0x780) then some .tx
  else if o = 0x10C ∨ o = 0x110 ∨ o = 0x114 ∨ (0x800 ≤ o ∧ o < 0x980) ∨ (0xA00 ≤ o ∧ o < 0xB80) then some .rx
  else none

/-- A write of a stage or coefficient register: only while its chain has stopped (R224). -/
def Dev.coefWrite (d : Dev) (a v : Nat) : Dev :=
  let t := (a - 0x40100000) / 0x40000
  match stageDir ((a - 0x40100000) % 0x40000) with
  | none => d
  | some dir =>
    if d.flag (stoppedF t dir) then d.storeRw a v
    else (d.tileInt t 4).count (A.TILE_COEF_ERR t)

/-- COEF_WRITE (R224). -/
def execCoefWrite (_r : Requester) (addr v : BitVec 32) (s : State) : Host.Outcome State Fault Refusal :=
  run s (fun d => if 0x40100000 ≤ addr.toNat ∧ addr.toNat < 0x40200000 then d.coefWrite addr.toNat v.toNat else d)

/-! The band groups and the carrier table (R209, R244). -/

/-- A write of the carrier table or of SPLIT that is ignored. -/
def Dev.carErr (d : Dev) : Dev := (d.count (A.TILE_CAR_ERR 0)).tileInt 0 10

/-- Whether every chain of every tile has stopped. -/
def Dev.allStopped (d : Dev) : Bool :=
  (List.range 4).all (fun t => d.flag (F.TILE_STAT_TX_STOPPED t) && d.flag (F.TILE_STAT_RX_STOPPED t))

/-- A write of TILE_GROUP.SPLIT (R209). While SPLIT is clear TILE2 and TILE3 return TILE0's words. -/
def Dev.splitWrite (d : Dev) (b : Bool) : Dev :=
  if !d.allStopped then d.carErr
  else
    let was := d.flag F.TILE_GROUP_SPLIT
    let d := d.setB F.TILE_GROUP_SPLIT b
    if was ∧ !b then
      let d := (d.setPend (.band 2 .tx) none).setPend (.band 2 .rx) none
      (d.ncoSet (.band 0 .tx) (d.ncoWord (.band 0 .tx))).ncoSet (.band 0 .rx) (d.ncoWord (.band 0 .rx))
    else d

/-- SPLIT_WRITE (R209). -/
def execSplitWrite (split : Bool) (s : State) : Host.Outcome State Fault Refusal := run s (·.splitWrite split)

/-- BG, MU, TAO and NPRB of a CARk_CFG word. -/
def lockedBits : Nat := 0x37FF0000

/-- A write of CARk_CFG: while EN is set a change of BG, MU, TAO or NPRB is ignored and counted (R244). -/
def Dev.carCfgWrite (d : Dev) (k v : Nat) : Dev :=
  let a := A.CARk_CFG k
  let old := (d.reg a).toNat
  if d.carOn k ∧ old &&& lockedBits ≠ v &&& lockedBits then
    (d.storeRw a (v - (v &&& lockedBits) + (old &&& lockedBits))).carErr
  else d.storeRw a v

/-- A write of a carrier-table register by its address; a low word commits (R214). -/
def Dev.carWrite (d : Dev) (r : Requester) (a v : Nat) : Dev :=
  let k : Fin 8 := ⟨(a - A.CARk_CFG 0) / 0x40 % 8, Nat.mod_lt _ (by decide)⟩
  if a = A.CARk_CFG k then d.carCfgWrite k v
  else if a = A.CARk_DL_FTW_LO k then d.ncoCommit r (.carrier k .tx) v
  else if a = A.CARk_UL_FTW_LO k then d.ncoCommit r (.carrier k .rx) v
  else if a = A.CARk_DL_FTW_HI k ∨ a = A.CARk_UL_FTW_HI k then d.setStaged r a (BitVec.ofNat 32 v)
  else if a = A.CARk_GAIN k ∨ a = A.CARk_UL_WIN k then d.storeRw a v
  else d

/-- CARRIER_TABLE_WRITE (R244). -/
def execCarrierTableWrite (r : Requester) (addr v : BitVec 32) (s : State) : Host.Outcome State Fault Refusal :=
  run s (fun d => if A.CARk_CFG 0 ≤ addr.toNat ∧ addr.toNat < A.CARk_CFG 8 then d.carWrite r addr.toNat v.toNat else d)

/-! The tile PLL (R231 to R235). -/

def plOff : Nat := 0
def plCal : Nat := 1
def plSettling : Nat := 2
def plLocked : Nat := 3
def plUnlocked : Nat := 4
def plFail : Nat := 5

/-- The state of a tile's PLL. -/
def Dev.pll (d : Dev) (t : Nat) : Nat := d.getF (F.TILE_STAT_PLL_STATE t)

/-- The distinct starts of the symbols of a list that have not been counted, leaving out those that have. -/
def freshStarts (l : List SymSt) : List Int :=
  ((l.filter (fun x => !x.counted)).map (·.start)).eraseDups.filter
    (fun s => !l.any (fun x => x.counted && x.start == s))

/-- The symbols in progress on a tile are lost: each counts once, however many carriers share it (R232, R233). -/
def Dev.loseSyms (d : Dev) (t : Nat) : Dev :=
  let x := d.tile t
  let ntx := (freshStarts x.txSyms).length
  let nrx := (freshStarts x.rxSyms).length
  let mark := fun (l : List SymSt) => l.map (fun y => { y with counted := true })
  let d := d.modTile t (fun x => { x with txSyms := mark x.txSyms, rxSyms := mark x.rxSyms, muted := x.muted + ntx })
  (d.count (A.TILE_TX_UNLOCK_SYM t) ntx).count (A.TILE_RX_UNLOCK_SYM t) nrx

/-- The PLL takes a state; what is in progress is lost when it leaves LOCKED. -/
def Dev.setPll (d : Dev) (t s : Nat) : Dev :=
  let d' := d.setF (F.TILE_STAT_PLL_STATE t) s
  if d.pll t = plLocked ∧ s ≠ plLocked then (d'.loseSyms t).capMark (fun p => tileOf p == t) 4 else d'

/-- PLL_POWER_UP (R231, R518): the references of a cold power-up have settled. -/
def Dev.pllPowerUp (d : Dev) (t : Nat) : Dev :=
  let x := d.tile t
  if d.pll t = plOff ∧ d.awake t ∧ (x.refsOk ∨ x.cold) ∧ !d.time.held then
    (d.modTile t (fun x => { x with refsOk := true, cold := false })).setPll t plCal
  else d

/-- PLL_POWER_UP (R231). -/
def execPllPowerUp (t : Fin 4) (s : State) : Host.Outcome State Fault Refusal := run s (·.pllPowerUp t.val)

/-- The lock detector asserts (R231). A calibration puts the tuning voltage back inside its window, at a code the spec
does not state. -/
def Dev.pllLockDetect (d : Dev) (t : Nat) : Dev :=
  if d.pll t = plCal then
    let (v, d) := d.anyNat
    (((d.setB (F.TILE_STAT_LOCK t) true).setB (F.TILE_STAT_VT_WARN t) false).setF (F.TILE_STAT_VT_CODE t) v).setPll t plSettling
  else if d.pll t = plUnlocked then (d.setB (F.TILE_STAT_LOCK t) true).setPll t plSettling
  else d

/-- PLL_LOCK_DETECT (R231). -/
def execPllLockDetect (t : Fin 4) (s : State) : Host.Outcome State Fault Refusal := run s (·.pllLockDetect t.val)

/-- No lock within 1 ms (R231, R234): FAIL, with the function bit cleared and the degraded source PLL (R489). -/
def Dev.pllCalTimeout (d : Dev) (t : Nat) : Dev :=
  if d.pll t ≠ plCal then d
  else
    let d := ((d.setPll t plFail).tileInt t 2).func (7 + t) false
    let d := d.modTile t (fun x => { x with recal := false })
    (d.degr 2).tileDone t 0x04 0 (fun _ => true) (fun o => o.wake)

/-- PLL_CAL_TIMEOUT (R231). -/
def execPllCalTimeout (t : Fin 4) (s : State) : Host.Outcome State Fault Refusal := run s (·.pllCalTimeout t.val)

/-- The settle time has passed (R231, R234): LOCKED, and the function bit set unless the tile is still waking (R240). A
Rambler burst that was held for it is released (R346). -/
def Dev.pllSettleDone (d : Dev) (t : Nat) : Dev :=
  if d.pll t ≠ plSettling then d
  else
    let x := d.tile t
    let d := (d.setPll t plLocked).tileInt t 1
    let d := if x.waking then d else d.func (7 + t) true
    let d := d.modTile t (fun x => { x with recal := false, lost := false })
    let d := if x.lost then d.tileEvent 0x02 t x.muted (d.tilePos t) [] else d
    (if x.recal then d.tileDone t 0x03 0 (fun _ => true) (fun _ => false) else d).rmbRelease

/-- PLL_SETTLE_DONE (R231). -/
def execPllSettleDone (t : Fin 4) (s : State) : Host.Outcome State Fault Refusal := run s (·.pllSettleDone t.val)

/-- The lock detector drops (R231, R232): the tile's outputs are gated and the symbols in progress lost. -/
def Dev.pllLockLost (d : Dev) (t : Nat) : Dev :=
  if d.pll t ≠ plLocked ∧ d.pll t ≠ plSettling then d
  else
    let d := d.modTile t (fun x => if x.lost then x else { x with lost := true, muted := 0 })
    let d := ((d.setB (F.TILE_STAT_LOCK t) false).setPll t plUnlocked).count (A.TILE_UNLOCK_CNT t)
    (d.tileInt t 0).tileEvent 0x01 t 0 (d.tilePos t) []

/-- PLL_LOCK_LOST (R231, R232). -/
def execPllLockLost (t : Fin 4) (s : State) : Host.Outcome State Fault Refusal := run s (·.pllLockLost t.val)

/-- PLL_UNLOCK_TIMEOUT (R231). -/
def execPllUnlockTimeout (t : Fin 4) (s : State) : Host.Outcome State Fault Refusal :=
  run s (fun d => if d.pll t.val = plUnlocked then d.setPll t.val plCal else d)

/-- A write of PLL_CAL (R231, R235): in any state but OFF the calibration begins, or begins again. -/
def Dev.pllCal (d : Dev) (t : Nat) : Dev :=
  if d.pll t = plOff then d
  else ((d.setB (F.TILE_STAT_LOCK t) false).setPll t plCal).modTile t (fun x => { x with recal := true })

/-- PLL_CAL (R235). -/
def execPllCal (t : Fin 4) (s : State) : Host.Outcome State Fault Refusal := run s (·.pllCal t.val)

/-- The tuning voltage leaves its centre window (R231, R235): it changes no state and is reported. -/
def Dev.vtWarn (d : Dev) (t code : Nat) : Dev :=
  if d.pll t = plOff then d
  else
    let d := ((d.setB (F.TILE_STAT_VT_WARN t) true).setF (F.TILE_STAT_VT_CODE t) code).tileInt t 3
    d.tileEvent 0x05 t 0 (d.tilePos t) []

/-- VT_WARN (R231). -/
def execVtWarn (t : Fin 4) (code : Byte) (s : State) : Host.Outcome State Fault Refusal := run s (·.vtWarn t.val code.toNat)

/-! Sleep (R239, R240, R518). -/

/-- SLEEP_SET (R239). -/
def execSleepSet (t : Fin 4) (s : State) : Host.Outcome State Fault Refusal := run s (·.tileSleep t.val)

/-- The tile is asleep (R239): its pipelines have drained, its function bit is cleared, and the runtime firmware looks
at the memories of the clusters (R521). -/
def Dev.sleepDone (d : Dev) (t : Nat) : Dev :=
  if !d.flag (F.TILE_CTRL_SLEEP t) ∨ d.flag (F.TILE_STAT_ASLEEP t) then d
  else
    let d := (d.chainDrained t .tx).chainDrained t .rx
    let d := ((d.setB (F.TILE_STAT_ASLEEP t) true).tileInt t 7).func (7 + t) false
    let d := d.modTile t (fun x => { x with txSyms := [], rxSyms := [], recal := false, lost := false })
    (d.tileDone t 0x06 0 (fun _ => false) (fun o => !o.wake)).fwRetention

/-- SLEEP_DONE (R239). -/
def execSleepDone (t : Fin 4) (s : State) : Host.Outcome State Fault Refusal := run s (·.sleepDone t.val)

/-- SLEEP cleared (R240): the wake begins, as a cold power-up where the references have not settled (R518); the runtime
firmware powers the clusters' memories (R521). -/
def Dev.wakeStart (d : Dev) (t : Nat) : Dev :=
  if !d.flag (F.TILE_CTRL_SLEEP t) then d
  else
    let d := (d.setB (F.TILE_CTRL_SLEEP t) false).setB (F.TILE_STAT_ASLEEP t) false
    let d := d.modTile t (fun x => { x with waking := true, cold := !x.refsOk })
    if d.fw.running then d.cluPwrWrite 65535 else d

/-- WAKE_START (R240). -/
def execWakeStart (t : Fin 4) (s : State) : Host.Outcome State Fault Refusal := run s (·.wakeStart t.val)

/-- The wake is complete (R240): the runtime firmware sets RUN again (R409). -/
def Dev.wakeDone (d : Dev) (t : Nat) : Dev :=
  if !(d.tile t).waking ∨ d.pll t ≠ plLocked then d
  else
    let d := d.modTile t (fun x => { x with waking := false })
    let d := (d.tileInt t 8).func (7 + t) true
    (d.tileDone t 0x07 0 (fun _ => false) (fun o => o.wake)).refreshRun

/-- WAKE_DONE (R240). -/
def execWakeDone (t : Fin 4) (s : State) : Host.Outcome State Fault Refusal := run s (·.wakeDone t.val)

/-- TILE_COLD_START (R518): a tile that sleeps at its time does not start. -/
def execTileColdStart (t : Fin 4) (s : State) : Host.Outcome State Fault Refusal :=
  run s (fun d =>
    if d.power.booted ∧ d.awake t.val ∧ !(d.tile t.val).refsOk ∧ d.pll t.val = plOff then
      d.modTile t.val (fun x => { x with cold := true })
    else d)

/-! Power-down of paths (R237). -/

/-- The TX paths of a tile that are powered down from now on. -/
def Dev.setDown (d : Dev) (t mask : Nat) : Dev := (d.shutCount t).modTile t (fun x => { x with down := mask })

/-- PATH_WAKE (R237): a path is woken 2 µs before its next symbol. -/
def execPathWake (p : Fin 64) (s : State) : Host.Outcome State Fault Refusal :=
  run s (fun d =>
    let t := tileOf p.val
    if (d.tile t).down.testBit (p.val % 16) then d.setDown t (setBitN (d.tile t).down (p.val % 16) false) else d)

end Sys2Proof.Machine
end

