-- ==== Sys2Proof/Machine/Rf.lean ====
section
/-! DEFINITION. The carrier and RF commands of the runtime firmware (R211, R241 to R243). -/

namespace Sys2Proof.Machine

/-! Frequencies and words (R212). -/

/-- Sample rates in Hz. -/
def fsTx : Nat := 15728640000
def fsRx : Nat := 7864320000
def fsCar : Nat := 983040000

/-- The rate of a band oscillator. -/
def fsBand (dir : Dir) : Nat := if dir = .tx then fsTx else fsRx

/-- round(f × 2^48 / fs), ties to even. -/
def wordFor (fs : Nat) (f : Int) : Int := convRound (f * 2 ^ 48) fs

/-- The word of a band frequency, none outside the words' range. -/
def bandWord (dir : Dir) (f : Nat) : Option Nat :=
  let w := (wordFor (fsBand dir) f).toNat
  if w < 2 ^ 48 then some w else none

/-- The word of a carrier's offset from its band, none outside the words' range. -/
def carWord (offs : Rat) : Option Nat :=
  let w := convRound (offs.num * 2 ^ 48) (offs.den * fsCar)
  if -(2 ^ 47 : Int) ≤ w ∧ w < 2 ^ 47 then some (w % 2 ^ 48).toNat else none

/-- The frequency of a band word, and of a carrier word. -/
def bandHz (dir : Dir) (w : Nat) : Rat := (w * fsBand dir : Nat) / (2 ^ 48 : Nat)
def carHz (w : Nat) : Rat := ((sgn 48 w * fsCar : Int) : Rat) / ((2 ^ 48 : Nat) : Rat)

/-- The band oscillator of a group. -/
def groupNco (g : Nat) (dir : Dir) : Nco := .band (if g = 0 then 0 else 2) dir

/-- The band frequency of a group: as BAND_CFG gave it while its word stands, else that of the word. -/
def Dev.bandFreq (d : Dev) (g : Nat) (dir : Dir) : Rat :=
  let w := d.ncoLast (groupNco g dir)
  match Tab.get (fun _ => none) g d.rf.bands with
  | some (tx, rx) =>
    let f := if dir = .tx then tx else rx
    if bandWord dir f = some w then (f : Rat) else bandHz dir w
  | none => bandHz dir w

/-! The plan check (R211, R241). -/

/-- A carrier of the plan. -/
structure PlanCar where
  k : Nat
  g : Nat
  mu : Nat
  nprb : Nat
  bw : Rat
  dl : Rat
  ul : Rat
  deriving DecidableEq, Repr

/-- Occupied bandwidth in Hz. -/
def occupied (mu nprb : Nat) : Nat := nprb * 12 * (if mu = 0 then 15000 else 30000)

/-- The smallest whole multiple of 5 MHz that meets the fourth rule of R211. -/
def smallestBw (mu nprb : Nat) : Nat := (100 * occupied mu nprb + 99 * 5000000 - 1) / (99 * 5000000) * 5000000

/-- A carrier as it stands: with the centres its CARRIER_CFG gave, or those of its words (R241). -/
def Dev.planCar (d : Dev) (k : Fin 8) : PlanCar :=
  let g := d.carGroup k
  let mu := d.getF (F.CARk_CFG_MU k)
  let n := d.getF (F.CARk_CFG_NPRB k)
  match Tab.get (fun _ => none) k.val d.rf.fwCars with
  | some c => ⟨k, g, mu, n, (c.bw * 1000000 : Nat), (c.dl : Nat), (c.ul : Nat)⟩
  | none => ⟨k, g, mu, n, (smallestBw mu n : Nat), d.bandFreq g .tx + carHz (d.ncoLast (.carrier k .tx)),
      d.bandFreq g .rx + carHz (d.ncoLast (.carrier k .rx))⟩

/-- The carriers enabled in CARk_CFG. -/
def Dev.plan (d : Dev) : List PlanCar :=
  ((List.finRange 8).filter (fun k : Fin 8 => d.carOn k.val)).map (fun k => d.planCar k)

/-- The Nyquist zone of a span, none where it has no legal one. -/
def zoneOf (lo hi : Rat) : Option Nat :=
  if hi ≤ 3882160000 then some 1 else if 3982160000 ≤ lo then some 2 else none

/-- A carrier's centre in a direction. -/
def PlanCar.centre (c : PlanCar) (dir : Dir) : Rat := if dir = .tx then c.dl else c.ul

/-- The rules of R211 on one carrier of a direction. -/
def PlanCar.ok (c : PlanCar) (band : Rat) (dir : Dir) : Bool :=
  let f := c.centre dir
  decide ((f - band).abs + c.bw / 2 ≤ 400000000 ∧ 600000000 ≤ f - c.bw / 2 ∧ f + c.bw / 2 ≤ 7125000000) &&
    decide ((100 * occupied c.mu c.nprb : Nat) ≤ 99 * c.bw ∧ c.nprb ≤ (if c.mu = 0 then 270 else 273))

/-- Whether every two of a list meet a symmetric test. -/
def allPairs {α : Type} (p : α → α → Bool) : List α → Bool
  | [] => true
  | a :: l => l.all (p a) && allPairs p l

/-- The plan of one band group and direction. -/
def planDir (l : List PlanCar) (band : Rat) (dir : Dir) : Bool :=
  let zones := l.map (fun c => zoneOf (c.centre dir - c.bw / 2) (c.centre dir + c.bw / 2))
  l.all (fun c => c.ok band dir) &&
    (dir == .tx || (zones.all (·.isSome) && allPairs (fun a b => a == b) zones)) &&
    allPairs (fun a b => decide ((a.bw + b.bw) / 2 ≤ (a.centre dir - b.centre dir).abs)) l

/-- Half-PRBs at 30 kHz. -/
def planUnits (l : List PlanCar) : Nat := (l.map (fun c => if c.mu = 0 then c.nprb else 2 * c.nprb)).foldl (· + ·) 0

/-- Whether a plan is legal but for the sum of PRBs. -/
def planOk (l : List PlanCar) (band : Nat → Dir → Rat) : Bool :=
  [0, 1].all (fun g => [Dir.tx, Dir.rx].all (fun dir => planDir (l.filter (fun c => c.g == g)) (band g dir) dir))

/-- The sum of PRBs checked: none where it is in bound, else the largest NPRB of a carrier that keeps it so. -/
def planLimit (l : List PlanCar) (k mu : Nat) : Option Nat :=
  if planUnits l ≤ 4368 then none
  else
    let room := 4368 - planUnits (l.filter (fun c => c.k != k))
    some (if mu = 0 then room else room / 2)

/-- The checks of R126 and R167 that follow every carrier change. -/
def Dev.carChecks (d : Dev) : Option (Nat × Nat) :=
  match d.checkStreams 0 ((List.range 4096).map (fun n => (d.reg (A.FHP_STRMn n)).toNat)) with
  | some l => some l
  | none => d.beamCheck

/-! BAND_CFG. -/

/-- Every chain stopped and drained by the firmware (R409). -/
def Dev.stopAll (d : Dev) : Dev :=
  d.forN 4 (fun d t => [Dir.tx, Dir.rx].foldl (fun d dir => (d.chainStop t dir).chainDrained t dir) d)

/-- The carriers configured keep their centres: their words are written for the bands as they are (R242). -/
def Dev.rewriteCars (d : Dev) : Dev :=
  d.forL (List.finRange 8) (fun d k =>
    match Tab.get (fun _ => none) k.val d.rf.fwCars with
    | none => d
    | some c =>
      let g := d.carGroup k
      [(Dir.tx, c.dl), (Dir.rx, c.ul)].foldl (fun d p =>
        match carWord ((p.2 : Rat) - d.bandFreq g p.1) with
        | some w => if d.ncoLast (.carrier k p.1) = w then d else d.ncoPut (.carrier k p.1) w
        | none => d) d)

/-- SPLIT and the band words as BAND_CFG writes them, the configured carriers' words with them (R209, R242); a change of
SPLIT stops every chain first. -/
def Dev.bandSet (d : Dev) (g : Nat) (split : Bool) (wtx wrx ftx frx : Nat) : Dev :=
  let d := if split = d.flag F.TILE_GROUP_SPLIT then d else (d.stopAll).splitWrite split
  let d := (d.ncoPut (groupNco g .tx) wtx).ncoPut (groupNco g .rx) wrx
  (d.modRf (fun r => { r with bands := Tab.set (fun _ => none) g (some (ftx, frx)) r.bands })).rewriteCars

/-- BAND_CFG (R209, R241, R242). -/
def cmdBandCfg (pl : List Byte) : Body := devBody fun d0 =>
  let g := byteAt pl 0
  let split := (byteAt pl 1).testBit 0
  let ftx := leAt pl 4 8
  let frx := leAt pl 12 8
  match bandWord .tx ftx, bandWord .rx frx with
  | some wtx, some wrx =>
    if 1 < g ∨ (g = 1 ∧ !split) then badParam d0
    else
      let d := d0.bandSet g split wtx wrx ftx frx
      if !planOk d.plan d.bandFreq then badParam d0
      else match planLimit d.plan 8 1 with
        | some n => limitR d0 0x0201 n
        | none => match d.carChecks with
          | some l => limitOf d0 l
          | none => okR (if split = d0.flag F.TILE_GROUP_SPLIT then d
              else if d0.mod = .ready then d.refreshRun
              else d.forN 4 (fun d t => [Dir.tx, Dir.rx].foldl (fun d dir =>
                if d0.flag (runF t dir) then d.chainStart t dir else d) d))
  | _, _ => badParam d0

/-! CARRIER_CFG. -/

/-- The fields of CARRIER_CFG that R242 refuses. -/
def carrierCfgOk (split : Bool) (pl : List Byte) : Bool :=
  decide (byteAt pl 0 < 8 ∧ byteAt pl 1 ≤ b2n split ∧ byteAt pl 2 ≤ 1 ∧ byteAt pl 3 ≠ 0 ∧ leAt pl 4 2 ≠ 0 ∧ byteAt pl 6 < 3 ∧
    byteAt pl 7 ≤ 1 ∧ byteAt pl 26 ≤ 13 ∧ byteAt pl 27 ≤ 13 ∧ leAt pl 28 2 ≤ 1023 ∧ leAt pl 30 2 = 0)

/-- The carrier that a CARRIER_CFG describes, for the check of R241. -/
def planOf (pl : List Byte) : PlanCar :=
  ⟨byteAt pl 0, byteAt pl 1, byteAt pl 2, leAt pl 4 2, (byteAt pl 3 * 1000000 : Nat), (leAt pl 8 8 : Nat), (leAt pl 16 8 : Nat)⟩

/-- The CARk_CFG word of a CARRIER_CFG, with EN clear (R244). -/
def carrierWord (pl : List Byte) : W32 :=
  wordOf [(29, byteAt pl 1), (28, byteAt pl 2), (27, byteAt pl 7), (25, byteAt pl 6), (16, leAt pl 4 2 % 512), (12, byteAt pl 26),
    (8, byteAt pl 27)]

/-- A carrier as CARRIER_CFG writes it, with these frequency words: written with EN clear and then enabled (R244); a new
NPRB frees its weight sets. -/
def Dev.carrierSet (d : Dev) (pl : List Byte) (wdl wul : Nat) : Dev :=
  let k : Fin 8 := ⟨byteAt pl 0 % 8, Nat.mod_lt _ (by decide)⟩
  let d := if d.getF (F.CARk_CFG_NPRB k) = leAt pl 4 2 then d else d.freeCarrierSets k
  let d := (d.setB (F.CARk_CFG_EN k) false).carCfgWrite k (carrierWord pl).toNat
  let d := (d.setF (F.CARk_GAIN_DL_GAIN k) (leAt pl 24 2)).setF (F.CARk_UL_WIN_WIN k) (leAt pl 28 2)
  let d := (d.ncoPut (.carrier k .tx) wdl).ncoPut (.carrier k .rx) wul
  let d := d.setB (F.CARk_CFG_EN k) true
  d.modRf (fun r => { r with fwCars := Tab.set (fun _ => none) k.val (some ⟨byteAt pl 3, leAt pl 8 8, leAt pl 16 8⟩) r.fwCars })

/-- CARRIER_CFG (R241, R242). -/
def cmdCarrierCfg (pl : List Byte) : Body := devBody fun d0 =>
  if !carrierCfgOk (d0.flag F.TILE_GROUP_SPLIT) pl then badParam d0
  else
    let g := byteAt pl 1
    let plan := d0.plan.filter (fun c => c.k != byteAt pl 0) ++ [planOf pl]
    match carWord ((leAt pl 8 8 : Nat) - d0.bandFreq g .tx), carWord ((leAt pl 16 8 : Nat) - d0.bandFreq g .rx) with
    | some wdl, some wul =>
      if !planOk plan d0.bandFreq then badParam d0
      else match planLimit plan (byteAt pl 0) (byteAt pl 2) with
        | some n => limitR d0 0x0201 n
        | none =>
          let d := d0.carrierSet pl wdl wul
          match d.carChecks with
          | some l => limitOf d0 l
          | none => okR d.refreshRun
    | _, _ => badParam d0

/-- CARRIER_DEL (R242). -/
def cmdCarrierDel (pl : List Byte) : Body := devBody fun d =>
  let k := byteAt pl 0
  if 7 < k then badParam d
  else
    let d := (d.setB (F.CARk_CFG_EN k) false).freeCarrierSets k
    let d := d.modRf (fun r => { r with fwCars := Tab.set (fun _ => none) k none r.fwCars })
    okR (d.refreshRun).fwRetention

/-! CARRIER_RETUNE. -/

/-- The symbol before a position. -/
def prevSymbol (mu : Nat) (p : AirPos) : AirPos :=
  if 0 < p.symbol then { p with symbol := p.symbol - 1 }
  else if 0 < p.slot then { p with slot := p.slot - 1, symbol := 13 }
  else if 0 < p.subframe then { p with subframe := p.subframe - 1, slot := mu, symbol := 13 }
  else { sfn := (p.sfn + 1023) % 1024, subframe := 9, slot := mu, symbol := 13 }

/-- A symbol named in a payload. -/
def symbolAt (pl : List Byte) (i : Nat) : AirPos :=
  { sfn := leAt pl i 2, subframe := byteAt pl (i + 2), slot := byteAt pl (i + 3), symbol := byteAt pl (i + 4) }

/-- A retune's words committed, its centres taken over. -/
def Dev.retuneCommit (d : Dev) (r : Retune) : Dev :=
  let k : Fin 8 := ⟨r.carrier % 8, Nat.mod_lt _ (by decide)⟩
  let g := d.carGroup k
  let put := fun (d : Dev) (dir : Dir) (f : Option Nat) => match f with
    | none => d
    | some f => match carWord ((f : Rat) - d.bandFreq g dir) with
      | some w => d.ncoPut (.carrier k dir) w
      | none => d
  let d := put (put d .tx r.dl) .rx r.ul
  d.modRf (fun x => { x with
    retunes := x.retunes.map (fun y => if y = r then { y with committed := true, was := Tab.get (fun _ => none) k.val x.fwCars } else y)
    fwCars := match Tab.get (fun _ => none) k.val x.fwCars with
      | some c => Tab.set (fun _ => none) k.val (some { c with dl := r.dl.getD c.dl, ul := r.ul.getD c.ul }) x.fwCars
      | none => x.fwCars })

/-- At a symbol boundary of a carrier, the retune that a script on MB3 commits in the symbol before the one named (R242);
one whose symbol has come uncommitted ends with TIMEOUT. -/
def Dev.retuneAt (d : Dev) (k : Nat) (pos : AirPos) : Dev :=
  let mu := d.getF (F.CARk_CFG_MU k)
  d.forL (d.rf.retunes.filter (fun r => r.carrier == k && !r.committed)) (fun d r =>
    match r.at_ with
    | none => d
    | some p =>
      if nextSymbol mu pos = p then d.retuneCommit r
      else if d.airTime k false p ≤ d.nowAir then
        (d.modRf (fun x => { x with retunes := x.retunes.erase r })).finish r.op 0x09 0 []
      else d)

/-- CARRIER_RETUNE (R241, R242). -/
def cmdCarrierRetune (h : CmdHdr) (pl : List Byte) : Body := devBody fun d =>
  let k : Fin 8 := ⟨byteAt pl 0 % 8, Nat.mod_lt _ (by decide)⟩
  let b := byteAt pl 1
  let p := symbolAt pl 2
  let mu := d.getF (F.CARk_CFG_MU k)
  let at_ := if b.testBit 2 then some p else none
  if 7 < byteAt pl 0 ∨ b % 4 = 0 then badParam d
  else match Tab.get (fun _ => none) k.val d.rf.fwCars with
    | none => badParam d
    | some c =>
      let dl := if b.testBit 0 then leAt pl 8 8 else c.dl
      let ul := if b.testBit 1 then leAt pl 16 8 else c.ul
      let g := d.carGroup k
      let me := { d.planCar k with dl := (dl : Nat), ul := (ul : Nat) }
      let plan := d.plan.map (fun x => if x.k = k.val then me else x)
      let late : Bool := match at_ with
        | some p => !posOk mu p || decide (d.airTime k false (prevSymbol mu p) ≤ d.nowAir)
        | none => false
      if (carWord ((dl : Rat) - d.bandFreq g .tx)).isNone ∨ (carWord ((ul : Rat) - d.bandFreq g .rx)).isNone ∨
          !planOk plan d.bandFreq ∨ late then badParam d
      else match planLimit plan k mu with
        | some n => limitR d 0x0201 n
        | none => match d.carChecks with
          | some l => limitOf d l
          | none =>
            if d.rf.retunes.any (fun r => r.carrier == k.val) then busyR d else
            let args := [k.val]
            let r : Retune := { op := ⟨h.mb.val, h.tag.toNat, h.seq.toNat, 0x2003, args⟩, carrier := k, at_ := at_, committed := false,
                                dl := if b.testBit 0 then some dl else none, ul := if b.testBit 1 then some ul else none }
            let d := d.modRf (fun x => { x with retunes := x.retunes ++ [r] })
            (.pending args, if at_.isNone then d.retuneCommit r else d, [])

/-! Filters. -/

/-- The stage register of a tile, and the address of its first coefficient. -/
def stageCfg (t chain stage : Nat) : Nat :=
  if chain = 0 then (if stage = 1 then A.TILE_DUC_S1_CFG t else A.TILE_DUC_S2_CFG t)
  else (if stage = 1 then A.TILE_DDC_S1_CFG t else A.TILE_DDC_S2_CFG t)
def stageCoef (t chain stage : Nat) : Nat :=
  if chain = 0 then (if stage = 1 then A.TILE_DUC_S1_COEFi t 0 else A.TILE_DUC_S2_COEFi t 0)
  else (if stage = 1 then A.TILE_DDC_S1_COEFi t 0 else A.TILE_DDC_S2_COEFi t 0)

/-- A stage of the tiles of a mask loaded; a chain that runs is stopped for it and started again (R224, R409). -/
def Dev.stageLoad (d : Dev) (mask chain stage : Nat) (cfg : W32) (coefs : List Nat) : Dev :=
  let dir := if chain = 0 then Dir.tx else Dir.rx
  d.forL (bitsOf 4 mask) (fun d t =>
    let ran := d.flag (runF t dir)
    let d := (d.chainStop t dir).chainDrained t dir
    let d := d.setReg (stageCfg t chain stage) cfg
    let d := d.forL coefs.zipIdx (fun d c => d.setReg (stageCoef t chain stage + 4 * c.2) (BitVec.ofNat 32 (c.1 % 2 ^ 18)))
    if ran then d.chainStart t dir else d)

/-- How many coefficients a stage stores (R222). -/
def storedTaps (sym : Bool) (n : Nat) : Nat := if sym then (n + 1) / 2 else n

/-- FILTER_LOAD (R242). -/
def cmdFilterLoad (pl : List Byte) : Body := devBody fun d =>
  let mask := byteAt pl 0
  let fl := byteAt pl 3
  let n := byteAt pl 4
  let cnt := storedTaps (fl.testBit 0) n
  let coef := fun i => leAt pl (8 + 4 * i) 4
  if mask = 0 ∨ 15 < mask ∨ 1 < byteAt pl 1 ∨ byteAt pl 2 = 0 ∨ 2 < byteAt pl 2 ∨ n = 0 ∨ 95 < n ∨ 7 < byteAt pl 5 ∨ 4095 < leAt pl 6 2 ∨
      pl.length ≠ 8 + 4 * cnt ∨ !(List.range cnt).all (fun i => fitsBits 18 (sgn 32 (coef i))) then badParam d
  else
    let cfg := wordOf [(20, leAt pl 6 2), (19, b2n (fl.testBit 1)), (18, b2n (fl.testBit 0)), (11, n), (8, byteAt pl 5)]
    okR (d.stageLoad mask (byteAt pl 1) (byteAt pl 2) cfg ((List.range cnt).map coef))

/-- A shipped option (R226): stage, taps, declared delay in sixteenths, symmetric storage. -/
def shipped : Nat → Option (Nat × Nat × Nat × Bool)
  | 0x01 => some (1, 95, 752, true)
  | 0x02 => some (1, 63, 496, true)
  | 0x03 => some (1, 95, 144, false)
  | 0x11 => some (2, 23, 176, true)
  | 0x12 => some (2, 23, 48, false)
  | _ => none

/-- FILTER_SELECT (R221, R226, R242). -/
def cmdFilterSelect (pl : List Byte) : Body := devBody fun d =>
  let mask := byteAt pl 0
  let chain := byteAt pl 1
  match shipped (byteAt pl 3) with
  | none => badParam d
  | some (stage, n, gdly, sym) =>
    if mask = 0 ∨ 15 < mask ∨ 1 < chain ∨ byteAt pl 2 ≠ stage then badParam d
    else
      let cfg := wordOf [(20, gdly), (19, b2n !sym), (18, b2n sym), (11, n), (8, 2 + chain)]
      okR (d.stageLoad mask chain stage cfg ((List.range (storedTaps sym n)).map (fun i => (Config.shippedCoef (byteAt pl 3) i).toNat)))

/-! PLL_RECAL and TILE_SLEEP. -/

/-- PLL_CAL written on tiles for a recalibration. -/
def Dev.recalTiles (d : Dev) (o : TileOp) (ts : List Nat) : Dev :=
  let d := d.modRf (fun r => { r with recals := r.recals.map (fun x => if x = o then { x with todo := x.todo.filter (fun t => !ts.contains t) } else x) })
  d.forL ts (fun d t => d.pllCal t)

/-- At a symbol boundary of the lowest enabled carrier of a band group, the recalibrations timed at that symbol begin on
the group's tiles (R242). -/
def Dev.recalAt (d : Dev) (k : Nat) : Dev :=
  let g := d.carGroup k
  if d.lowCar g ≠ some k then d
  else
    d.forL (d.rf.recals.filter (fun o => match o.at_ with
      | some p => decide (d.airTime k false p ≤ d.nowAir)
      | none => false)) (fun d o => d.recalTiles o (o.todo.filter (fun t => d.bandGroup t == g)))

/-- PLL_RECAL (R242). -/
def cmdPllRecal (h : CmdHdr) (pl : List Byte) : Body := devBody fun d =>
  let mask := byteAt pl 0
  let ts := bitsOf 4 mask
  let p := symbolAt pl 2
  let timed := (byteAt pl 1).testBit 0
  let lateOn := fun t => match d.lowCar (d.bandGroup t) with
    | none => true
    | some k => !posOk (d.getF (F.CARk_CFG_MU k)) p || decide (d.airTime k false p ≤ d.nowAir)
  if mask = 0 ∨ 15 < mask ∨ ts.any (fun t => !d.awake t || d.pll t == plOff) ∨ (timed ∧ ts.any lateOn) then badParam d
  else if ts.any (fun t => d.pll t == plCal || d.rf.recals.any (fun o => o.left.contains t)) then busyR d
  else
    let o : TileOp := { op := ⟨h.mb.val, h.tag.toNat, h.seq.toNat, 0x2020, [mask]⟩, wake := false, left := ts, todo := ts,
                        at_ := if timed then some p else none }
    let d := d.modRf (fun r => { r with recals := r.recals ++ [o] })
    (.pending [mask], if timed then d else d.recalTiles o ts, [])

/-- Tiles told to sleep or to wake. -/
def Dev.sleepTiles (d : Dev) (o : TileOp) (ts : List Nat) : Dev :=
  let d := d.modRf (fun r => { r with sleeps := r.sleeps.map (fun x => if x = o then { x with todo := x.todo.filter (fun t => !ts.contains t) } else x) })
  d.forL ts (fun d t => if o.wake then d.wakeStart t else d.tileSleep t)

/-- At a slot boundary of the lowest enabled carrier of a band group, the sleeps and wakes of its tiles begin (R242); with
no carrier in its group a tile follows the lowest enabled carrier of the module. -/
def Dev.sleepAt (d : Dev) (k : Nat) : Dev :=
  let low := (List.range 8).find? (fun j => d.carOn j)
  let due := fun t => match d.lowCar (d.bandGroup t) with
    | some j => j == k
    | none => low == some k
  d.forL d.rf.sleeps (fun d o => d.sleepTiles o (o.todo.filter due))

/-- Whether a tile is already in the state that a TILE_SLEEP asks. -/
def Dev.sleptAs (d : Dev) (wake : Bool) (t : Nat) : Bool :=
  if wake then d.awake t && !(d.tile t).waking else d.flag (F.TILE_STAT_ASLEEP t)

/-- TILE_SLEEP (R242). -/
def cmdTileSleep (h : CmdHdr) (pl : List Byte) : Body := devBody fun d =>
  let mask := byteAt pl 0
  let wake := byteAt pl 1 == 1
  let ts := bitsOf 4 mask
  let todo := ts.filter (fun t => !d.sleptAs wake t)
  let bare := [0, 1].any (fun g => d.groupUsed g && (d.groupTiles g).all (fun t => !d.awake t || ts.contains t))
  if mask = 0 ∨ 15 < mask ∨ 1 < byteAt pl 1 ∨ (!wake ∧ bare) then badParam d
  else if todo.isEmpty then okR d
  else
    let o : TileOp := { op := ⟨h.mb.val, h.tag.toNat, h.seq.toNat, 0x2021, [mask, byteAt pl 1]⟩, wake := wake, left := todo, todo := todo,
                        at_ := none }
    let d := d.modRf (fun r => { r with sleeps := r.sleeps ++ [o] })
    (.pending [mask, byteAt pl 1], if d.mod = .active then d else d.sleepTiles o todo, [])

/-! PATH_MASK and RF_STAT. -/

/-- PATH_MASK (R242). -/
def cmdPathMask (pl : List Byte) : Body := devBody fun d =>
  okR (d.forN 4 (fun d t => (d.setF (F.TILE_PATH_EN_TX_EN t) (leAt pl (2 * t) 2)).setF (F.TILE_PATH_EN_RX_EN t) (leAt pl (8 + 2 * t) 2)))

/-- RF_STAT (R242): reading the counters clears them. -/
def cmdRfStat (_pl : List Byte) : Body := devBody fun d =>
  let (bs, d) := (List.range 4).foldl (fun (acc : List Byte × Dev) t =>
    let d := acc.2.shutCount t
    let (b, d') := d.takeRcs ((List.range 12).map (fun i => A.TILE_UNLOCK_CNT t + 4 * i))
    (acc.1 ++ word4 (d.live (A.TILE_STAT t)) ++ word4 (d.live (A.TILE_DROOP t)) ++ b, d')) ([], d)
  okR d bs

/-- BAND_CFG (R242). -/
def execBandCfg (h : CmdHdr) (pl : List Byte) (s : State) : Host.Outcome State Fault Refusal :=
  runW s (runCmd h 0x2001 (lenIs 20) pl (cmdBandCfg pl))

/-- CARRIER_CFG (R242). -/
def execCarrierCfg (h : CmdHdr) (pl : List Byte) (s : State) : Host.Outcome State Fault Refusal :=
  runW s (runCmd h 0x2002 (lenIs 32) pl (cmdCarrierCfg pl))

/-- CARRIER_RETUNE (R242). -/
def execCarrierRetune (h : CmdHdr) (pl : List Byte) (s : State) : Host.Outcome State Fault Refusal :=
  runW s (runCmd h 0x2003 (lenIs 24) pl (cmdCarrierRetune h pl))

/-- CARRIER_DEL (R242). -/
def execCarrierDel (h : CmdHdr) (pl : List Byte) (s : State) : Host.Outcome State Fault Refusal :=
  runW s (runCmd h 0x2004 (lenIs 4) pl (cmdCarrierDel pl))

/-- FILTER_LOAD (R242). -/
def execFilterLoad (h : CmdHdr) (pl : List Byte) (s : State) : Host.Outcome State Fault Refusal :=
  runW s (runCmd h 0x2010 (lenIn 8 388) pl (cmdFilterLoad pl))

/-- FILTER_SELECT (R242). -/
def execFilterSelect (h : CmdHdr) (pl : List Byte) (s : State) : Host.Outcome State Fault Refusal :=
  runW s (runCmd h 0x2011 (lenIs 4) pl (cmdFilterSelect pl))

/-- PLL_RECAL (R242). -/
def execPllRecal (h : CmdHdr) (pl : List Byte) (s : State) : Host.Outcome State Fault Refusal :=
  runW s (runCmd h 0x2020 (lenIs 8) pl (cmdPllRecal h pl))

/-- TILE_SLEEP (R242). -/
def execTileSleep (h : CmdHdr) (pl : List Byte) (s : State) : Host.Outcome State Fault Refusal :=
  runW s (runCmd h 0x2021 (lenIs 4) pl (cmdTileSleep h pl))

/-- PATH_MASK (R242). -/
def execPathMask (h : CmdHdr) (pl : List Byte) (s : State) : Host.Outcome State Fault Refusal :=
  runW s (runCmd h 0x2022 (lenIs 16) pl (cmdPathMask pl))

/-- RF_STAT (R242). -/
def execRfStat (h : CmdHdr) (pl : List Byte) (s : State) : Host.Outcome State Fault Refusal :=
  runW s (runCmd h 0x2030 (lenIs 0) pl (cmdRfStat pl))

end Sys2Proof.Machine
end

