-- ==== Sys2Proof/Machine/Dpd.lean ====
section
/-! DEFINITION. Array-aware predistortion: the actuator, its table copies, the loader, the symbol-aligned switch, the
observation receivers and the adaptation of the runtime firmware (07_predistortion.md, R245 to R281). -/

namespace Sys2Proof.Machine

def Dev.modDpd (d : Dev) (f : DpdSt → DpdSt) : Dev := { d with dpd := f d.dpd }
def Dev.dfw (d : Dev) (n : Nat) : DpdFw := Tab.get (fun _ => {}) n d.dpd.fw
def Dev.modDfw (d : Dev) (n : Nat) (f : DpdFw → DpdFw) : Dev :=
  d.modDpd (fun x => { x with fw := Tab.set (fun _ => {}) n (f (d.dfw n)) x.fw })

/-- The band group of a path. -/
def Dev.pathGroup (d : Dev) (n : Nat) : Nat := d.bandGroup (tileOf n)

/-- An interrupt of the DPD block. -/
def Dev.dpdInt (d : Dev) (b : Nat) : Dev := d.setB ⟨A.DPD_INT_STAT, b, 1⟩ true

/-- A write or push that is ignored. -/
def Dev.dpdCmdErr (d : Dev) : Dev := (d.count A.DPD_CMD_ERR).dpdInt 6

/-! Tables (R251 to R254). -/

/-- The identity table of R254, as an image. -/
def identityTable : List W32 :=
  [0x01000000] ++ List.replicate 15 0 ++ List.replicate 64 0x20000000 ++ List.replicate 704 0

/-- Copy `c` of path `n`. -/
def Dev.dpdTab (d : Dev) (n c : Nat) : List W32 := Tab.get (fun _ => identityTable) (2 * n + c) d.dpd.tables
def Dev.setDpdTab (d : Dev) (n c : Nat) (t : List W32) : Dev :=
  d.modDpd (fun x => { x with tables := Tab.set (fun _ => identityTable) (2 * n + c) t x.tables })

/-- The number of the active copy. -/
def Dev.actCopy (d : Dev) (n : Nat) : Nat := d.getF (F.DPD_Pn_STAT_ACT n)

/-- The active table and the shadow. -/
def Dev.actTab (d : Dev) (n : Nat) : List W32 := d.dpdTab n (d.actCopy n)
def Dev.shdTab (d : Dev) (n : Nat) : List W32 := d.dpdTab n (1 - d.actCopy n)

/-- Word `i` of an image. -/
def imgWord (t : List W32) (i : Nat) : Nat := (t.getD i 0).toNat

/-- Fields of an image's header (R252). -/
def imgTag (t : List W32) : Nat := bitsN (imgWord t 0) 0 8
def imgGen (t : List W32) : Nat := bitsN (imgWord t 0) 8 8
def imgChk (t : List W32) : Bool := (imgWord t 0).testBit 23
def imgBr (t : List W32) (b : Nat) : Bool := (imgWord t 0).testBit (24 + b)
def imgDelay (t : List W32) (w b : Nat) : Nat := bitsN (imgWord t w) (4 * b) 3

/-- Neighbour entry `j` of a header: path and delay, none when VALID is clear. -/
def imgNbr (t : List W32) (j : Nat) : Option (Nat × Nat) :=
  let w := imgWord t (3 + j)
  if w.testBit 31 then some (bitsN w 8 6, bitsN w 0 3) else none

/-- The valid neighbours of a header. -/
def imgNbrs (t : List W32) : List Nat := (List.range 4).filterMap (fun j => (imgNbr t j).map (·.1))

/-- Whether a neighbour map is legal for a path (R251). -/
def Dev.nbrsOk (d : Dev) (n : Nat) (l : List Nat) : Bool :=
  !l.contains n && allPairs (fun a b => a != b) l && l.all (fun p => d.pathGroup p == d.pathGroup n)

/-- Whether an image may be loaded into a path (R251, R252, R255): a neighbour entry with VALID clear is not looked at. -/
def Dev.imgOk (d : Dev) (n : Nat) (t : List W32) : Bool :=
  imgWord t 0 &&& 0x007F0000 == 0 && imgWord t 1 &&& 0x88888888 == 0 && imgWord t 2 &&& 0x88888888 == 0 &&
    (List.range 4).all (fun j => (imgNbr t j).isNone || imgWord t (3 + j) &&& 0x7FFFC0F8 == 0) &&
    (List.range 9).all (fun i => imgWord t (7 + i) == 0) && d.nbrsOk n (imgNbrs t)

/-- The tags of a path's copies as DPD_Pn_STAT shows them. -/
def Dev.dpdTags (d : Dev) (n : Nat) : Dev :=
  (d.setF (F.DPD_Pn_STAT_ACT_TAG n) (imgTag (d.actTab n))).setF (F.DPD_Pn_STAT_SHD_TAG n) (imgTag (d.shdTab n))

/-- An image placed in a path's shadow. -/
def Dev.loadShadow (d : Dev) (n : Nat) (t : List W32) : Dev := (d.setDpdTab n (1 - d.actCopy n) t).dpdTags n

/-- An image as bytes, and bytes as an image. -/
def imgBytes (t : List W32) : List Byte := t.flatMap word4
def imgOf (bs : List Byte) : List W32 := (List.range 784).map (fun i => BitVec.ofNat 32 (leAt bs (4 * i) 4))

/-! The actuator (R245 to R247). -/

/-- I² + Q² of an element. -/
def elemPow (w : W32) : Nat := ((elemOf w).1 * (elemOf w).1 + (elemOf w).2 * (elemOf w).2).toNat

/-- The amplitude of a sample (R246): within 1 LSB of its magnitude, at most 32,767. -/
def ampOf (w : W32) : Nat :=
  let p := elemPow w
  let r := Nat.sqrt p
  let pick := Config.ampPick (elemOf w).1 (elemOf w).2
  min 32767 (if r * r = p then (if r = 0 then pick % 2 else r - 1 + pick % 3) else r + pick % 2)

/-- A table of an image read at an amplitude, times 512 (R246). -/
def lutAt (t : List W32) (tbl a : Nat) : Int × Int :=
  let e := fun (i : Nat) => elemOf (t.getD (16 + 64 * tbl + min 63 i) 0)
  let i := a / 512
  let f : Int := (a % 512 : Nat)
  ((e i).1 * 512 + ((e (i + 1)).1 - (e i).1) * f, (e i).2 * 512 + ((e (i + 1)).2 - (e i).2) * f)

/-- An output sample of the actuator (R245, R247): the path's input `x` and the neighbour inputs at sample `k`. -/
def actuate (t : List W32) (x : Nat → W32) (nb : Nat → Nat → W32) (k : Nat) : W32 :=
  let br := ((List.range 8).filter (imgBr t)).map (fun b =>
    cmul (elemOf (x (k - imgDelay t 1 b))) (lutAt t b (ampOf (x (k - imgDelay t 2 b)))))
  let ns := (List.range 4).filterMap (fun j => (imgNbr t j).map (fun e =>
    cmul (elemOf (nb j (k - e.2))) (lutAt t (8 + j) (ampOf (x k)))))
  let s := (br ++ ns).foldl cadd (0, 0)
  let out := fun (v : Int) => clampI (-32768) 32767 (convRound v (512 * 8192))
  elemWord (out s.1) (out s.2)

/-! Events (R280). -/

/-- DPD_EVENT on MB0 and on the mailboxes of the commands concerned. -/
def Dev.dpdEvent (d : Dev) (code id tag : Nat) (p : AirPos) (dest : List (Nat × Nat)) : Dev :=
  let body := [BitVec.ofNat 8 code, BitVec.ofNat 8 id, BitVec.ofNat 8 tag, 0] ++ leBytes 2 p.sfn ++
    [BitVec.ofNat 8 p.subframe, BitVec.ofNat 8 p.slot, BitVec.ofNat 8 p.symbol, 0, 0, 0]
  let d := if dest.any (fun m => m.1 == 0) then d else d.notify 0 0x4080 0 body
  d.forL dest (fun d m => d.notify m.1 0x4080 m.2 body)

/-- The event of one path, which no command awaits. -/
def Dev.dpdPathEvent (d : Dev) (code n : Nat) : Dev :=
  d.dpdEvent code n (imgTag (d.actTab n)) (d.tilePos (tileOf n)) []

/-! The observation receivers (R262 to R271). -/

/-- Whether a request may be pushed (R265). -/
def capReqOk (q : CapReq) : Bool := q.dest % 64 == 0 && inHamper q.dest captureBytes && decide (q.trig ≤ 1)

/-- A request pushed onto a receiver's queue. -/
def Dev.capPush (d : Dev) (r : Nat) (q : CapReq) : Dev := d.modOrx r (fun o => { o with queue := o.queue ++ [q] })

/-- A write of DPD_ORXr_REQ_LO (R265). -/
def Dev.capRequest (d : Dev) (rq : Requester) (r lo : Nat) : Dev :=
  let (hi, d) := d.takeStaged rq (A.DPD_ORXr_REQ_HI r)
  let q : CapReq := { owner := lo.testBit 31, sel := bitsN lo 28 3, trig := bitsN lo 26 2, tag := bitsN lo 16 8,
                      delay := bitsN lo 0 16, dest := hi.toNat }
  if 16 ≤ (d.orx r).queue.length ∨ !capReqOk q then d.dpdCmdErr else d.capPush r q

/-- CAPTURE_REQUEST (R265). -/
def execCaptureRequest (r : Requester) (o : Fin 8) (lo : BitVec 32) (s : State) : Host.Outcome State Fault Refusal :=
  run s (fun d => d.capRequest r o.val lo.toNat)

/-- A request reaches the head of its queue (R264, R266): FBSEL changes, and an immediate request has its reference. -/
def Dev.capHead (d : Dev) (r : Nat) : Dev :=
  let o := d.orx r
  match o.queue with
  | [] => d
  | q :: _ =>
    if !d.flag (F.DPD_ORXr_CTRL_EN r) ∨ o.atHead ∨ o.win.isSome then d
    else (d.setF (F.DPD_ORXr_STAT_SEL r) q.sel).modOrx r (fun o => { o with atHead := true, trig := q.trig == 1 })

/-- CAPTURE_HEAD (R264). -/
def execCaptureHead (o : Fin 8) (s : State) : Host.Outcome State Fault Refusal := run s (·.capHead o.val)

/-- A DPD_CAPt event of the Timetable (R266): the trigger of what waits at the head of the tile's receivers. -/
def Dev.capTrigger (d : Dev) (t : Nat) : Dev :=
  [2 * t, 2 * t + 1].foldl (fun d r =>
    if (d.orx r).atHead ∧ (d.orx r).queue.head?.any (fun q => q.trig == 0) then d.modOrx r (fun o => { o with trig := true }) else d) d

/-- Whether a Rambler burst is on a TX path now. -/
def Dev.rmbSends (d : Dev) (p : Nat) : Bool := d.rmb.burst.isSome && decide (bitsN d.rmb.path.toNat 0 6 = p)

/-- Whether the outputs of a path are muted now, as R267 counts it. -/
def Dev.capMuted (d : Dev) (p : Nat) : Bool :=
  d.txMuted || d.pathMuted p || decide (d.pll (tileOf p) ≠ plLocked) ||
    (d.getF (F.TILE_SHED_TX_SHED (tileOf p))).testBit (p % 16)

/-- The flags of a path that hold now: NO_TRAFFIC, MUTED and RAMBLER (R267). -/
def Dev.capNow (d : Dev) (p : Nat) : Nat :=
  (if (d.tile (tileOf p)).busy.testBit (p % 16) then 0 else 64) + (if d.capMuted p then 16 else 0) + b2n (d.rmbSends p)

/-- A capture window opens (R264, R266). -/
def Dev.capOpen (d : Dev) (r : Nat) : Dev :=
  let o := d.orx r
  match o.queue with
  | [] => d
  | q :: qs =>
    if !d.flag (F.DPD_ORXr_CTRL_EN r) ∨ !o.atHead ∨ !o.trig ∨ o.win.isSome ∨ 16 ≤ o.done.length ∨ !o.held.isEmpty then d
    else
      let p := 8 * r + q.sel
      let w : CapWin := { req := q, t0 := d.time.now, gen := d.getF (capGenF (tileOf p)), flags := d.capNow p,
                          head := (d.actTab p).take 16 }
      d.modOrx r (fun o => { o with queue := qs, atHead := false, trig := false, win := some w })

/-- CAPTURE_WINDOW_OPEN (R266). -/
def execCaptureWindowOpen (o : Fin 8) (s : State) : Host.Outcome State Fault Refusal := run s (·.capOpen o.val)

/-- Whether a path runs bypassed (R249, R250). -/
def Dev.bypassed (d : Dev) (n : Nat) : Bool := !d.dpd.en.testBit n || d.flag (F.DPD_Pn_STAT_UE_BYPASS n)

/-- Samples of a window. -/
def capSamples : Nat := 16384

/-- Whether the mean of I² + Q² over a window is below 2^30 × 10^(−db / 10), given its sum: both sides to the tenth power. -/
def belowDb (sum db : Nat) : Bool := decide (sum ^ 10 * 10 ^ db < (2 ^ 30 * capSamples) ^ 10)

/-- Neighbour bytes of a record's header. -/
def capNbrWord (t : List W32) : Nat :=
  ((List.range 4).map (fun j => match imgNbr t j with
    | some (p, _) => (128 + p) * 2 ^ (8 * j)
    | none => 0)).foldl (· + ·) 0

/-- The window closes (R267, R268): its flags are decided and its record begins to drain. -/
def Dev.capClose (d : Dev) (r : Nat) (c : CaptureData) : Dev :=
  match (d.orx r).win with
  | none => d
  | some w =>
    let p := 8 * r + w.req.sel
    let x := fun (k : Nat) => c.inp.getD k 0
    let nb := fun (j k : Nat) => (c.nbs.getD j []).getD k 0
    let inp := (List.range capSamples).map (fun k => x (k + 7))
    let obs := (List.range capSamples).map (fun k => c.obs.getD k 0)
    let tbl := w.head ++ (d.actTab p).drop 16
    let out := if w.changed then (List.range capSamples).map (fun k => c.out.getD k 0)
      else if d.bypassed p then inp
      else (List.range capSamples).map (fun k => actuate tbl x nb (k + 7))
    let nbs := (List.range 4).map (fun j =>
      (List.range capSamples).map (fun k => if (imgNbr w.head j).isSome then nb j (k + 7) else 0))
    let sumIn := (inp.map elemPow).foldl (· + ·) 0
    let sumOb := (obs.map elemPow).foldl (· + ·) 0
    let genEnd := d.getF (capGenF (tileOf p))
    let low := belowDb sumIn (min 90 (d.getF F.DPD_CAP_CFG_FLOOR_DB))
    let set := fun (f i : Nat) (b : Bool) => if b then setBitN f i true else f
    let flags := Nat.lor w.flags (d.capNow p)
    let flags := set (set (set flags 5 low) 3 (w.gen != genEnd)) 1 (c.clips != 0)
    let (meanIn, d) := d.roundFree (sumIn : Nat) capSamples
    let (meanOb, d) := d.roundFree (sumOb : Nat) capSamples
    let amp := (inp.map ampOf).foldl max 0
    let head := le4 (flags * 2 ^ 24 + w.req.tag * 2 ^ 16 + p * 2 ^ 8) ++ le4 (w.t0.sec % 2 ^ 32) ++ le4 w.t0.ns ++
      le4 (w.t0.frac / 2 ^ 29 * 2 ^ 29) ++ le4 meanIn.toNat ++ le4 meanOb.toNat ++ le4 (amp * 65536 + min 65535 c.clips) ++
      le4 (imgTag w.head * 65536 + genEnd * 256 + w.gen) ++ le4 (capNbrWord w.head) ++ List.replicate 28 0
    let d := if c.clips ≠ 0 then d.dpdInt 8 else d
    d.modOrx r (fun o => { o with
      win := none
      drains := o.drains ++ [{ req := w.req, flags := flags, gen := w.gen, head := head, streams := [obs, inp, out] ++ nbs }] })

/-- CAPTURE_WINDOW_CLOSE (R267). -/
def execCaptureWindowClose (o : Fin 8) (cap : CaptureData) (s : State) : Host.Outcome State Fault Refusal :=
  run s (fun d => d.capClose o.val cap)

/-- The block after a table or the bypass of a path has changed: an open window on it holds both. -/
def Dev.capChanged (d : Dev) (n : Nat) : Dev :=
  let r := n / 8
  match (d.orx r).win with
  | some w => if w.req.sel = n % 8 then d.modOrx r (fun o => { o with win := some { w with changed := true } }) else d
  | none => d

/-! Requests of the firmware (R273 to R276). -/

/-- Where the firmware has the next record written, among the capture buffers. -/
def Dev.recPlace (d : Dev) : Nat × Dev :=
  let n := max 1 (d.regionSize 3 / captureBytes)
  (d.regionBase 3 + captureBytes * (d.dpd.nextRec % n), d.modDpd (fun x => { x with nextRec := (x.nextRec + 1) % n }))

/-- A request of the firmware on a path, none where the receiver's queue is full. -/
def Dev.fwPush (d : Dev) (n : Nat) (q : CapReq) : Option (Nat × Dev) :=
  let r := n / 8
  if 16 ≤ (d.orx r).queue.length then none
  else
    let (a, d) := d.recPlace
    some (a, (d.setB (F.DPD_ORXr_CTRL_EN r) true).capPush r { q with sel := n % 8, dest := a })

/-- Whether the firmware may capture on a tile: 2 ms have passed since its generation last rose (R275). -/
def Dev.genCalm (d : Dev) (t : Nat) : Bool := Tab.get (fun _ => 0) t d.dpd.gens == d.getF (capGenF t)

/-- The firmware asks for a capture of a path in ADAPT mode, unless one is under way (R273, R275). -/
def Dev.fwCapture (d : Dev) (n : Nat) : Dev :=
  let f := d.dfw n
  if !d.fw.running ∨ f.mode ≠ 2 ∨ f.asked ∨ f.clean.isSome ∨ f.ready.isSome ∨ d.flag (F.DPD_Pn_STAT_PEND n) ∨ !d.genCalm (tileOf n) then d
  else match d.fwPush n { owner := false, sel := 0, trig := 1, tag := f.tag, delay := 0, dest := 0, who := 1 } with
    | none => d
    | some (_, d) => d.modDfw n (fun f => { f with asked := true })

/-- A capture of a path in ADAPT mode has come back (R274, R275). -/
def Dev.fwAdapt (d : Dev) (e : DoneEnt) (n : Nat) : Dev :=
  let d := d.modDfw n (fun f => { f with asked := false })
  let f := d.dfw n
  if f.mode ≠ 2 then d
  else if e.flags.testBit 6 ∨ e.flags.testBit 5 then
    if f.frozen then d else (d.modDfw n (fun f => { f with frozen := true })).dpdPathEvent 3 n
  else if e.flags ≠ 0 then
    let r := n / 8
    let d := if e.flags.testBit 1 then d.setF (F.DPD_ORXr_CTRL_ATT r) (min 31 (d.getF (F.DPD_ORXr_CTRL_ATT r) + 3)) else d
    d.fwCapture n
  else
    let d := if f.frozen then (d.modDfw n (fun f => { f with frozen := false })).dpdPathEvent 4 n else d
    if e.gen = d.getF (capGenF (tileOf n)) then d.modDfw n (fun f => { f with clean := some e.gen }) else d.fwCapture n

/-- The firmware asks for a capture for the DAC fit of a path (R271, R295), unless one is under way or waits. -/
def Dev.dacAsk (d : Dev) (n : Nat) : Dev :=
  if !d.fw.running ∨ !d.cal.dacOn.testBit (tileOf n) ∨ d.cal.dacAsked.contains n ∨ d.cal.dacClean.contains n then d
  else match d.fwPush n { owner := true, sel := 0, trig := 1, tag := 0, delay := 0, dest := 0, who := 3 } with
    | none => d
    | some (_, d) => { d with cal := { d.cal with dacAsked := d.cal.dacAsked ++ [n] } }

/-- A capture for the DAC fit has come back (R296): clean, with an input power of at least −30 dBFS. -/
def Dev.fwDacCap (d : Dev) (e : DoneEnt) (n : Nat) : Dev :=
  let ok := e.flags == 0 && decide (2 ^ 30 ≤ 1000 * leAt e.head 16 4)
  let d := { d with cal := { d.cal with dacAsked := d.cal.dacAsked.erase n } }
  if !ok then d.dacAsk n
  else if d.cal.dacClean.contains n then d
  else { d with cal := { d.cal with dacClean := d.cal.dacClean ++ [n] } }

/-- What the firmware does with a completion of its own. -/
def Dev.fwTake (d : Dev) (r : Nat) (e : DoneEnt) : Dev :=
  let n := 8 * r + e.req.sel
  match e.req.who with
  | 1 => d.fwAdapt e n
  | 2 => match e.req.op with
    | some p => if d.fw.pendingOps.contains p then
        (if e.flags.testBit 7 then d.finish p 0x09 0 [] else d.finish p 0x00 0 (e.head ++ le4 (e.req.dest - d.regionBase 3)))
      else d
    | none => d
  | 3 => d.fwDacCap e n
  | _ => d

/-- The firmware reads its completions at the front of a receiver's done queue. -/
def Dev.fwDone (r : Nat) : Nat → Dev → Dev
  | 0, d => d
  | fuel + 1, d =>
    match (d.orx r).done with
    | [] => d
    | e :: es =>
      if e.req.who = 0 ∨ !d.fw.running then d
      else Dev.fwDone r fuel ((d.modOrx r (fun o => { o with done := es })).fwTake r e)

/-- A completion enters the done queue (R269). -/
def Dev.capEnter (d : Dev) (r : Nat) (e : DoneEnt) : Dev :=
  let d := (d.modOrx r (fun o => { o with done := o.done ++ [e] })).count A.DPD_CAP_CNT
  d.dpdInt (if e.flags.testBit 7 then 5 else 4)

/-- Held completions enter while there is room, and the firmware reads its own. -/
def Dev.capRefill (r : Nat) : Nat → Dev → Dev
  | 0, d => d
  | fuel + 1, d =>
    let d := Dev.fwDone r 32 d
    match (d.orx r).held with
    | [] => d
    | e :: es =>
      if 16 ≤ (d.orx r).done.length then d
      else Dev.capRefill r fuel ((d.modOrx r (fun o => { o with held := es })).capEnter r e)

/-- A capture or a request is complete (R269). -/
def Dev.capComplete (d : Dev) (r : Nat) (e : DoneEnt) : Dev :=
  Dev.capRefill r 32 (d.modOrx r (fun o => { o with held := o.held ++ [e] }))

/-- CAPTURE_RECORD_DONE (R268, R269): the record is complete in the Hamper. -/
def Dev.capRecord (d : Dev) (r : Nat) : Writes × Dev :=
  match (d.orx r).drains with
  | [] => ([], d)
  | c :: cs =>
    let (ws, _, d) := d.hamperWrite 6 c.req.dest (c.head ++ c.streams.flatMap imgBytes)
    (ws, (d.modOrx r (fun o => { o with drains := cs })).capComplete r { req := c.req, flags := c.flags, gen := c.gen, head := c.head })

/-- CAPTURE_RECORD_DONE (R269). -/
def execCaptureRecordDone (o : Fin 8) (s : State) : Host.Outcome State Fault Refusal := runW s (fun _ d => d.capRecord o.val)

/-- The trigger has not come in TIMEOUT_MS (R267, R270). -/
def Dev.capTimeout (d : Dev) (r : Nat) (tie : Bool) : Dev :=
  let o := d.orx r
  match o.queue with
  | [] => d
  | q :: qs =>
    if !o.atHead ∨ o.trig then d
    else if tie then (d.count A.DPD_TIE).modOrx r (fun o => { o with trig := true })
    else (d.modOrx r (fun o => { o with queue := qs, atHead := false })).capComplete r { req := q, flags := 128, gen := 0, head := [] }

/-- CAPTURE_TIMEOUT (R267, R270). -/
def execCaptureTimeout (o : Fin 8) (tie : Bool) (s : State) : Host.Outcome State Fault Refusal :=
  run s (fun d => d.capTimeout o.val tie)

/-- DPD_ORXr_DONE_LO of a completion. -/
def DoneEnt.word (e : DoneEnt) : W32 :=
  wordOf [(24, e.flags), (16, e.req.tag), (15, 1), (14, b2n e.req.owner), (11, e.req.sel)]

/-- A read of DPD_ORXr_DONE_LO (R269). -/
def Dev.capDoneRead (d : Dev) (rq : Requester) (r : Nat) : Dev :=
  match (d.orx r).done with
  | [] => ({ d with rdata := 0 }.setLatch rq (A.DPD_ORXr_DONE_HI r) 0)
  | e :: es =>
    let d := ({ d with rdata := e.word }.setLatch rq (A.DPD_ORXr_DONE_HI r) (BitVec.ofNat 32 e.req.dest))
    Dev.capRefill r 32 (d.modOrx r (fun o => { o with done := es }))

/-- CAPTURE_DONE_READ (R269). -/
def execCaptureDoneRead (r : Requester) (o : Fin 8) (s : State) : Host.Outcome State Fault Refusal :=
  run s (fun d => d.capDoneRead r o.val)

/-! Switching (R256 to R258). -/

/-- The operations that a path's switch answers, with TAG where they end. -/
def Dev.dpdDest (d : Dev) (n : Nat) : List (Nat × Nat) :=
  (d.dpd.ops.filter (fun o => o.left.contains n)).map (fun o => (o.op.mb, if o.left = [n] then o.op.tag else 0))

/-- A path exchanges its copies (R257, R280). -/
def Dev.dpdSwitch (d : Dev) (n : Nat) : Dev :=
  let d := ((d.setF (F.DPD_Pn_STAT_ACT n) (1 - d.actCopy n)).setB (F.DPD_Pn_STAT_PEND n) false).setB (F.DPD_Pn_STAT_UE_BYPASS n) false
  let d := ((d.dpdTags n).dpdInt 0).capChanged n
  let ends := (d.dpd.ops.filter (fun o => o.left == [n])).map (·.op)
  let d := d.dpdEvent 1 n (imgTag (d.actTab n)) (d.tilePos (tileOf n)) (d.dpdDest n)
  let d := d.modDpd (fun x => { x with
    ops := (x.ops.map (fun o => { o with left := o.left.filter (· != n) })).filter (fun o => !o.left.isEmpty) })
  let d := d.forL ends (fun d p => d.dropPend p)
  if (d.dfw n).converged then d else d.fwCapture n

/-- The paths of a band group that are committed. -/
def Dev.pendPaths (d : Dev) (g : Nat) : List Nat :=
  (List.range 64).filter (fun n => d.flag (F.DPD_Pn_STAT_PEND n) && d.pathGroup n == g)

/-- Whether the shadow of a path fits the generation of its tile (R258). -/
def Dev.genFits (d : Dev) (n : Nat) : Bool := !imgChk (d.shdTab n) || imgGen (d.shdTab n) == d.getF (capGenF (tileOf n))

/-- Whether the firmware recommits a refused path at once (R275): its tile and its neighbours' tiles kept their
generation; a path of a DPD_RESET is committed until it switches. -/
def Dev.recommits (d : Dev) (n : Nat) : Bool :=
  d.fw.running && ((n :: imgNbrs (d.shdTab n)).all (fun p => d.genCalm (tileOf p)) && d.genFits n ||
    d.dpd.ops.any (fun o => o.op.opcode == 0x4005 && o.left.contains n))

/-- The committed paths of a band group are refused (R258): the DPD_TABLE_LOADs among them end. -/
def Dev.dpdStale (d : Dev) (g : Nat) (l : List Nat) : Dev :=
  let d := d.forL l (fun d n => d.setB (F.DPD_Pn_STAT_PEND n) false)
  let d := (d.dpdInt 1).count A.DPD_STALE_CNT
  let hit := fun (o : DpdOp) => o.op.opcode == 0x4003 && o.left.any (fun n => l.contains n)
  let ended := (d.dpd.ops.filter hit).map (·.op)
  let pos := match d.lowCar g with
    | some k => (d.posNow k false).1
    | none => d.framePos
  let d := d.dpdEvent 2 g 0 pos (ended.map (fun p => (p.mb, p.tag)))
  let d := d.modDpd (fun x => { x with ops := x.ops.filter (fun o => !hit o) })
  let d := d.forL ended (fun d p => d.dropPend p)
  d.forL l (fun d n =>
    if d.recommits n then d.setB (F.DPD_Pn_STAT_PEND n) true
    else d.fwCapture n)

/-- The committed paths of a band group at its boundary: together, or not at all (R257, R258). -/
def Dev.dpdBoundary (d : Dev) (g : Nat) : Dev :=
  let l := d.pendPaths g
  if l.isEmpty then d
  else if l.all d.genFits then d.forL l (fun d n => d.dpdSwitch n)
  else d.dpdStale g l

/-- DPD_PATH_EN of a band group in force (R249). -/
def Dev.dpdEnable (d : Dev) (g : Nat) : Dev :=
  let want := d.pair A.DPD_PATH_EN_LO A.DPD_PATH_EN_HI
  d.forN 64 (fun d n =>
    if d.pathGroup n = g ∧ d.dpd.en.testBit n ≠ want.testBit n then
      (d.modDpd (fun x => { x with en := setBitN x.en n (want.testBit n) })).capChanged n
    else d)

/-- The band groups that have no boundary to wait for. -/
def Dev.idleGroups (d : Dev) : List Nat := [0, 1].filter (fun g => (d.lowCar g).isNone && !(d.groupTiles g).isEmpty)

/-- Paths committed (R256, R257): those of a band group with no enabled carrier switch within 1 µs. -/
def Dev.dpdPend (d : Dev) (mask : Nat) : Dev :=
  let d := d.forL (bitsOf 64 mask) (fun d n => d.setB (F.DPD_Pn_STAT_PEND n) true)
  d.forL d.idleGroups (fun d g => d.dpdBoundary g)

/-- A write of DPD_COMMIT_LO (R256). -/
def Dev.dpdCommit (d : Dev) (rq : Requester) (lo : Nat) : Dev :=
  let (hi, d) := d.takeStaged rq A.DPD_COMMIT_HI
  let mask := lo % 2 ^ 32 + hi.toNat * 2 ^ 32
  if (bitsOf 64 mask).any (fun n => d.flag (F.DPD_Pn_STAT_PEND n)) ∨ d.flag F.DPD_LOAD_STAT_BUSY then d.dpdCmdErr
  else d.dpdPend mask

/-- DPD_COMMIT (R256). -/
def execDpdCommit (r : Requester) (lo : BitVec 32) (s : State) : Host.Outcome State Fault Refusal :=
  run s (fun d => d.dpdCommit r lo.toNat)

/-- DPD_PATH_EN written (R249): a band group with no enabled carrier has no boundary to wait for. -/
def Dev.pathEnPut (d : Dev) (mask : Nat) : Dev :=
  let d := d.setPair A.DPD_PATH_EN_LO A.DPD_PATH_EN_HI mask
  d.forL d.idleGroups (fun d g => d.dpdEnable g)

/-- A write of DPD_PATH_EN_LO, which commits the pair (R12). -/
def Dev.pathEnWrite (d : Dev) (rq : Requester) (lo : Nat) : Dev :=
  let (hi, d) := d.takeStaged rq A.DPD_PATH_EN_HI
  d.pathEnPut (lo % 2 ^ 32 + hi.toNat * 2 ^ 32)

/-- A path's table memory shows an uncorrectable entry: from the boundary on it runs bypassed (R250). -/
def Dev.tableUe (d : Dev) (n : Nat) : Dev :=
  if d.flag (F.DPD_Pn_STAT_UE_BYPASS n) then d
  else
    let d := ((d.setB (F.DPD_Pn_STAT_UE_BYPASS n) true).dpdInt 9).capChanged n
    (d.degr 8).dpdPathEvent 7 n

/-! The loader (R255). -/

/-- A write of DPD_LOAD_MASK_LO. -/
def Dev.loadStart (d : Dev) (rq : Requester) (lo : Nat) : Dev :=
  if d.flag F.DPD_LOAD_STAT_BUSY then d.dpdCmdErr
  else
    let (hi, d) := d.takeStaged rq A.DPD_LOAD_MASK_HI
    let j : LoadJob := { mask := lo % 2 ^ 32 + hi.toNat * 2 ^ 32, dir := d.flag F.DPD_LOAD_CTRL_DIR, copy := d.flag F.DPD_LOAD_CTRL_COPY,
                         addr := (d.reg A.DPD_LOAD_ADDR).toNat }
    (d.setB F.DPD_LOAD_STAT_BUSY true).modDpd (fun x => { x with load := some j })

/-- DPD_LOAD (R255). -/
def execDpdLoad (r : Requester) (lo : BitVec 32) (s : State) : Host.Outcome State Fault Refusal :=
  run s (fun d => d.loadStart r lo.toNat)

/-- A path's load refused. -/
def Dev.loadErr (d : Dev) (n code : Nat) : Dev :=
  ((d.setF F.DPD_LOAD_STAT_ERR_CODE code).setF F.DPD_LOAD_STAT_ERR_PATH n).count A.DPD_LOAD_ERR |>.dpdInt 3

/-- Bytes of an image. -/
def imgLen : Nat := 3136

/-- One path of a transfer. -/
def Dev.loadPath (m : Mem) (d : Dev) (j : LoadJob) (n : Nat) : Writes × Dev :=
  let a := j.addr + 0x1000 * n
  if j.dir then
    let c := if j.copy then 1 - d.actCopy n else d.actCopy n
    let (ws, _, d) := d.hamperWrite 6 a (imgBytes (d.dpdTab n c))
    (ws, d)
  else
    let img := imgOf (d.eccBytes m a imgLen)
    let (ue, d) := d.readEcc 6 a imgLen
    if ue then ([], d.loadErr n 2)
    else if !d.imgOk n img then ([], d.loadErr n 3)
    else if d.flag (F.DPD_Pn_STAT_PEND n) then ([], d.loadErr n 4)
    else ([], d.loadShadow n img)

/-- The transfer ends (R255). -/
def Dev.loadDone (m : Mem) (d : Dev) (ups : List Upset) : Writes × Dev :=
  match d.dpd.load with
  | none => ([], d)
  | some j =>
    let d := d.upset ups
    let ns := bitsOf 64 j.mask
    let bad := decide (j.addr % 64 ≠ 0) || ns.any (fun n => !inHamper (j.addr + 0x1000 * n) imgLen)
    let (ws, d) := if bad then (([] : Writes), d.forL ns (fun d n => d.loadErr n 1))
      else ns.foldl (fun acc n => let (w, d) := Dev.loadPath m acc.2 j n; (acc.1 ++ w, d)) (([] : Writes), d)
    (ws, ((d.setB F.DPD_LOAD_STAT_BUSY false).modDpd (fun x => { x with load := none })).dpdInt 2)

/-- DPD_LOAD_DONE (R255). -/
def execDpdLoadDone (ups : List Upset) (s : State) : Host.Outcome State Fault Refusal := runW s (fun m d => Dev.loadDone m d ups)

/-! Adaptation (R272 to R278). -/

/-- The tables that are ready are loaded and committed together, at most once a slot in each band group (R278). -/
def Dev.fwCommit (d : Dev) (g : Nat) : Dev :=
  let busy := (d.lowCar g).isSome && d.dpd.slotDone.testBit g
  if busy then d
  else
    let d := d.forN 64 (fun d n => match (d.dfw n).ready with
      | some t => if imgGen t = d.getF (capGenF (tileOf n)) then d else d.modDfw n (fun f => { f with ready := none })
      | none => d)
    let l := (List.range 64).filter (fun n => d.pathGroup n == g && (d.dfw n).ready.isSome && !d.flag (F.DPD_Pn_STAT_PEND n))
    if l.isEmpty then d
    else
      let d := d.forL l (fun d n => match (d.dfw n).ready with
        | some t => (d.loadShadow n t).modDfw n (fun f => { f with ready := none })
        | none => d)
      (d.modDpd (fun x => { x with slotDone := setBitN x.slotDone g true })).dpdPend (maskOf l)

/-- A fitted table (R272, R273): its header, and 768 entries the fit gives; tables of neighbours not in use are zero. -/
def Dev.fitTable (d : Dev) (n gen tag : Nat) : List W32 × Dev :=
  let nbrs := (d.dfw n).nbrs
  let w0 := wordOf [(24, 0xFF), (23, 1), (8, gen), (0, tag)]
  let nb := (List.range 4).map (fun j => match nbrs[j]? with
    | some (p, f) => wordOf [(31, 1), (8, p), (0, f)]
    | none => 0)
  let (es, d) := (List.range 768).foldl (fun (acc : List W32 × Dev) i =>
    if 512 ≤ i ∧ nbrs.length ≤ i / 64 - 8 then (acc.1 ++ [0], acc.2)
    else let (v, d) := acc.2.anyWord; (acc.1 ++ [v], d)) ([], d)
  ([w0, 0x32100210, 0x30021210] ++ nb ++ List.replicate 9 0 ++ es, d)

/-- An update from a clean capture (R273, R276, R277). The arithmetic of the fit and of the two estimates is the
firmware's: its values are free. -/
def Dev.adaptUpdate (d : Dev) (n : Nat) : Dev :=
  let f := d.dfw n
  match f.clean with
  | none => d
  | some gen =>
    let d := d.modDfw n (fun f => { f with clean := none })
    if !d.fw.running ∨ f.mode ≠ 2 then d
    else if gen ≠ d.getF (capGenF (tileOf n)) then d.fwCapture n
    else
      let (a, d) := d.anyNat
      let (b, d) := d.anyNat
      let (c, d) := d.anyNat
      let evm : Int := 10 * sgn 16 a + (c % 10 : Nat) - 4
      let aclr : Int := 10 * sgn 16 b
      let d := (d.setF (F.DPD_Pn_QUAL_EVM n) a).setF (F.DPD_Pn_QUAL_ACLR n) b
      let near : Bool := match f.evm with
        | some e => decide (|evm - e| < 10)
        | none => false
      let calm := if near then f.calm + 1 else 0
      if f.converged ∧ (f.bestEvm + 100 < evm ∨ f.bestAclr + 200 < aclr) then
        let d := d.modDfw n (fun f => { f with converged := false, calm := 0, evm := some evm, mu := max 1 (f.mu / 2) })
        let d := if d.flag (F.DPD_Pn_STAT_PEND n) then d else d.dpdPend (2 ^ n)
        d.dpdPathEvent 6 n
      else
        let now := !f.converged && decide (3 ≤ calm)
        let (t, d) := d.fitTable n gen ((f.tag + 1) % 256)
        let d := d.modDfw n (fun f => { f with
          ready := some t, tag := (f.tag + 1) % 256, updates := (f.updates + 1) % 65536, evm := some evm, calm := calm,
          converged := f.converged || now, mu := (if now then f.step else f.mu),
          bestEvm := (if f.converged then min f.bestEvm evm else evm),
          bestAclr := (if f.converged then min f.bestAclr aclr else aclr) })
        let d := if now then d.dpdPathEvent 5 n else d
        d.fwCommit (d.pathGroup n)

/-- ADAPT_UPDATE (R273). -/
def execAdaptUpdate (p : Fin 64) (s : State) : Host.Outcome State Fault Refusal := run s (·.adaptUpdate p.val)

/-- DPD_UPDATE_TIMER (R274, R276): UPDATE_MS has passed for a converged or frozen path. -/
def execDpdUpdateTimer (p : Fin 64) (s : State) : Host.Outcome State Fault Refusal :=
  run s (fun d => if (d.dfw p.val).converged ∨ (d.dfw p.val).frozen then d.fwCapture p.val else d)

/-- CAPGEN_RECAPTURE (R275): 2 ms after a rise of a tile's generation, its paths are captured again. -/
def execCapgenRecapture (t : Fin 4) (s : State) : Host.Outcome State Fault Refusal :=
  run s (fun d =>
    if !d.fw.running ∨ d.genCalm t.val then d
    else
      let d := d.modDpd (fun x => { x with gens := Tab.set (fun _ => 0) t.val (d.getF (capGenF t.val)) x.gens })
      d.forL ((List.range 16).map (16 * t.val + ·)) (fun d n => d.fwCapture n))

/-! Commands (R279). -/

/-- The paths of a mask at a payload offset. -/
def pathMask (pl : List Byte) (i : Nat) : Nat := leAt pl i 8

/-- DPD_MODE. -/
def cmdDpdMode (pl : List Byte) : Body := devBody fun d =>
  let mask := pathMask pl 0
  let mode := byteAt pl 8
  let step := byteAt pl 9
  let ms := leAt pl 10 2
  if 2 < mode ∨ step = 0 ∨ 16 < step ∨ ms = 0 ∨ 1000 < ms then badParam d
  else
    let d := d.forL (bitsOf 64 mask) (fun d n => d.modDfw n (fun f =>
      let f := { f with mode := mode, step := step, mu := step, updateMs := ms }
      if mode = 2 then f else { f with frozen := false, converged := false, calm := 0, clean := none, ready := none }))
    let en := d.pair A.DPD_PATH_EN_LO A.DPD_PATH_EN_HI
    let d := d.pathEnPut ((bitsOf 64 mask).foldl (fun e n => setBitN e n (mode != 0)) en)
    okR (d.forL (bitsOf 64 mask) (fun d n => d.fwCapture n))

/-- DPD_NEIGHBOUR. -/
def cmdDpdNeighbour (pl : List Byte) : Body := devBody fun d =>
  let n := byteAt pl 0
  let c := byteAt pl 1
  let l := (List.range c).map (fun i => (byteAt pl (4 + 2 * i), byteAt pl (5 + 2 * i)))
  if 63 < n ∨ 4 < c ∨ pl.length ≠ 4 + 2 * c ∨ l.any (fun e => decide (63 < e.1 ∨ 7 < e.2)) ∨ !d.nbrsOk n (l.map (·.1)) then badParam d
  else okR (d.modDfw n (fun f => { f with nbrs := l }))

/-- DPD_TABLE_LOAD. -/
def cmdDpdTableLoad (h : CmdHdr) (pl : List Byte) : Body := devBody fun d =>
  let n := byteAt pl 0
  let img := imgOf (pl.drop 4)
  if 63 < n ∨ !d.imgOk n img then badParam d
  else if d.flag (F.DPD_Pn_STAT_PEND n) ∨ (d.dfw n).mode = 2 then busyR d
  else
    let d := d.loadShadow n img
    if !(byteAt pl 1).testBit 0 then okR d
    else
      let p : PendOp := ⟨h.mb.val, h.tag.toNat, h.seq.toNat, 0x4003, [n]⟩
      (.pending [n], (d.modDpd (fun x => { x with ops := x.ops ++ [⟨p, [n]⟩] })).setB (F.DPD_Pn_STAT_PEND n) true, [])

/-- DPD_TABLE_READ. -/
def cmdDpdTableRead (pl : List Byte) : Body := devBody fun d =>
  let n := byteAt pl 0
  if 63 < n ∨ 1 < byteAt pl 1 then badParam d
  else okR d (imgBytes (if byteAt pl 1 = 0 then d.actTab n else d.shdTab n))

/-- DPD_RESET. -/
def cmdDpdReset (h : CmdHdr) (pl : List Byte) : Body := devBody fun d =>
  let l := bitsOf 64 (pathMask pl 0)
  if l.isEmpty then badParam d
  else if l.any (fun n => d.flag (F.DPD_Pn_STAT_PEND n)) then busyR d
  else
    let p : PendOp := ⟨h.mb.val, h.tag.toNat, h.seq.toNat, 0x4005, [pathMask pl 0]⟩
    let d := d.forL l (fun d n => ((d.loadShadow n identityTable).setB (F.DPD_Pn_STAT_PEND n) true).modDfw n
      (fun f => { f with clean := none, ready := none, converged := false, calm := 0 }))
    (.pending [pathMask pl 0], d.modDpd (fun x => { x with ops := x.ops ++ [⟨p, l⟩] }), [])

/-- DPD_CAPTURE. -/
def cmdDpdCapture (h : CmdHdr) (pl : List Byte) : Body := devBody fun d =>
  let n := byteAt pl 0
  let att := byteAt pl 4
  if 63 < n ∨ 1 < byteAt pl 1 ∨ (31 < att ∧ att ≠ 0xFF) then badParam d
  else
    let p : PendOp := ⟨h.mb.val, h.tag.toNat, h.seq.toNat, 0x4006, [n]⟩
    match d.fwPush n { owner := false, sel := 0, trig := byteAt pl 1, tag := 0, delay := leAt pl 2 2, dest := 0, who := 2, op := some p } with
    | none => busyR d
    | some (_, d) => (.pending [n], if att = 0xFF then d else d.setF (F.DPD_ORXr_CTRL_ATT (n / 8)) att, [])

/-- DPD_STAT: it reads the RC fields and so clears them. -/
def cmdDpdStat (pl : List Byte) : Body := devBody fun d =>
  let (bs, d) := (bitsOf 64 (pathMask pl 0)).foldl (fun (acc : List Byte × Dev) n =>
    let f := acc.2.dfw n
    let (b, d) := acc.2.takeRcs [A.DPD_Pn_SAT n, A.DPD_Pn_PEAK n]
    (acc.1 ++ word4 (d.live (A.DPD_Pn_STAT n)) ++ word4 (d.live (A.DPD_Pn_QUAL n)) ++ b ++
      word4 (wordOf [(30, f.mode), (29, b2n f.frozen), (28, b2n f.converged), (0, f.updates)]), d)) ([], d)
  okR d bs

/-- What a command committed in a band group with no boundary switches at once (R257). -/
def dpdSettle (r : Writes × Dev) : Writes × Dev := (r.1, r.2.forL r.2.idleGroups (fun d g => d.dpdBoundary g))

/-- DPD_MODE (R279). -/
def execDpdMode (h : CmdHdr) (pl : List Byte) (s : State) : Host.Outcome State Fault Refusal :=
  runW s (runCmd h 0x4001 (lenIs 12) pl (cmdDpdMode pl))

/-- DPD_NEIGHBOUR (R279). -/
def execDpdNeighbour (h : CmdHdr) (pl : List Byte) (s : State) : Host.Outcome State Fault Refusal :=
  runW s (runCmd h 0x4002 (lenIn 4 12) pl (cmdDpdNeighbour pl))

/-- DPD_TABLE_LOAD (R279). -/
def execDpdTableLoad (h : CmdHdr) (pl : List Byte) (s : State) : Host.Outcome State Fault Refusal :=
  runW s (fun m d => dpdSettle (runCmd h 0x4003 (lenIs 3140) pl (cmdDpdTableLoad h pl) m d))

/-- DPD_TABLE_READ (R279). -/
def execDpdTableRead (h : CmdHdr) (pl : List Byte) (s : State) : Host.Outcome State Fault Refusal :=
  runW s (runCmd h 0x4004 (lenIs 4) pl (cmdDpdTableRead pl))

/-- DPD_RESET (R279). -/
def execDpdReset (h : CmdHdr) (pl : List Byte) (s : State) : Host.Outcome State Fault Refusal :=
  runW s (fun m d => dpdSettle (runCmd h 0x4005 (lenIs 8) pl (cmdDpdReset h pl) m d))

/-- DPD_CAPTURE (R279). -/
def execDpdCapture (h : CmdHdr) (pl : List Byte) (s : State) : Host.Outcome State Fault Refusal :=
  runW s (runCmd h 0x4006 (lenIs 8) pl (cmdDpdCapture h pl))

/-- DPD_STAT (R279). -/
def execDpdStat (h : CmdHdr) (pl : List Byte) (s : State) : Host.Outcome State Fault Refusal :=
  runW s (runCmd h 0x4007 (lenIs 8) pl (cmdDpdStat pl))

end Sys2Proof.Machine
end

