-- ==== Sys2Proof/Machine/Cal.lean ====
section
/-! DEFINITION. Calibration from the signal itself: trim banks and epochs, the tracking engine, DAC fits, reciprocity and
the monitoring converters' calibration (08_calibration.md, R282 to R306). -/

namespace Sys2Proof.Machine

def Dev.modCal (d : Dev) (f : CalSt → CalSt) : Dev := { d with cal := f d.cal }
def Dev.calStat (d : Dev) (p : Nat) : CalStat := Tab.get (fun _ => {}) p d.cal.stats
def Dev.modStat (d : Dev) (p : Nat) (f : CalStat → CalStat) : Dev :=
  d.modCal (fun c => { c with stats := Tab.set (fun _ => {}) p (f (d.calStat p)) c.stats })

/-- An interrupt of the CAL block, and a write or command that is ignored. -/
def Dev.calInt (d : Dev) (b : Nat) : Dev := d.setB ⟨A.CAL_INT_STAT, b, 1⟩ true
def Dev.calCmdErr (d : Dev) : Dev := (d.count A.CAL_CMD_ERR).calInt 5

/-- CAL_EVENT (R305) on MB0 and on the mailboxes of the commands concerned. -/
def Dev.calEvent (d : Dev) (code id ver : Nat) (p : AirPos) (dest : List (Nat × Nat)) : Dev :=
  let body := [BitVec.ofNat 8 code, BitVec.ofNat 8 id] ++ leBytes 2 ver ++ leBytes 2 p.sfn ++ [BitVec.ofNat 8 p.subframe, BitVec.ofNat 8 p.slot]
  let d := if dest.any (fun m => m.1 == 0) then d else d.notify 0 0x4081 0 body
  d.forL dest (fun d m => d.notify m.1 0x4081 m.2 body)

/-- The event of a path. -/
def Dev.calPathEvent (d : Dev) (code p : Nat) : Dev := d.calEvent code p 0 (d.tilePos (tileOf p)) []

/-- One part of an operation with several parts has ended: whom its event goes to, and the operations that end with it. -/
def partDest (l : List DpdOp) (i : Nat) : List (Nat × Nat) :=
  (l.filter (fun o => o.left.contains i)).map (fun o => (o.op.mb, if o.left = [i] then o.op.tag else 0))
def partEnds (l : List DpdOp) (i : Nat) : List PendOp := (l.filter (fun o => o.left == [i])).map (·.op)
def partAfter (l : List DpdOp) (i : Nat) : List DpdOp :=
  (l.map (fun o => { o with left := o.left.filter (· != i) })).filter (fun o => !o.left.isEmpty)

/-! Banks and epochs (R285 to R290). -/

/-- The offsets of the words of a trim page (R306). -/
def trimOffsets : List Nat := (List.range 328).map (4 * ·)

/-- First address of a bank's page of a tile: 0 active, 1 staged, 2 baseline. -/
def trimPage (bank t : Nat) : Nat := 0x40211000 + 0x4000 * bank + 0x1000 * t

/-- One bank of a tile copied over another. -/
def Dev.trimCopy (d : Dev) (src dst t : Nat) : Dev :=
  d.forL trimOffsets (fun d o => d.setReg (trimPage dst t + o) (d.reg (trimPage src t + o)))

/-- Whether a tile's staged bank is ARMED. -/
def Dev.armed (d : Dev) (t : Nat) : Bool := d.flag (F.CAL_Tt_STAT_STATE t)

/-- Whether the tracking engine of a tile is on. -/
def Dev.engOn (d : Dev) (t : Nat) : Bool := (d.getF F.CAL_CTRL_ENG_EN).testBit t

/-- A write of a staged trim, or of the staged reciprocity table (R286, R290, R301). -/
def Dev.trimWrite (d : Dev) (a v : Nat) : Dev :=
  if 0x40215000 ≤ a ∧ a < 0x40219000 then
    let t := (a - 0x40215000) / 0x1000
    let o := (a - 0x40215000) % 0x1000
    if trimBits o = 0 then d
    else if d.armed t ∨ (o < 0x400 ∧ d.engOn t) then d.calCmdErr
    else d.setReg a (BitVec.ofNat 32 (v % 2 ^ trimBits o))
  else if 0x4021E000 ≤ a ∧ a < 0x4021F000 then
    if d.flag F.CAL_RECIP_CFG_BUSY ∨ d.flag F.CAL_RECIP_CFG_SWAP_PEND then d.calCmdErr
    else d.setReg a (BitVec.ofNat 32 v)
  else d

/-- TRIM_WRITE (R286, R290). -/
def execTrimWrite (_r : Requester) (addr v : BitVec 32) (s : State) : Host.Outcome State Fault Refusal :=
  run s (fun d => if addr.toNat % 4 = 0 then d.trimWrite addr.toNat v.toNat else d)

/-- A staged bank armed, by the engine or by firmware, whose COMMIT clears HOLD (R286, R290). -/
def Dev.calArm (d : Dev) (t : Nat) (eng : Bool) : Dev :=
  let d := (d.setB (F.CAL_Tt_STAT_STATE t) true).setB (F.CAL_Tt_STAT_BY_ENG t) eng
  let d := d.modCal (fun c => { c with deferred := setBitN c.deferred t false })
  if eng then d else d.setB (F.CAL_Tt_CMD_HOLD t) false

/-- COMMIT by firmware (R286). -/
def Dev.calCommit (d : Dev) (t : Nat) : Dev := if d.armed t then d.calCmdErr else d.calArm t false

/-- CAL_COMMIT (R286). -/
def execCalCommit (t : Fin 4) (s : State) : Host.Outcome State Fault Refusal := run s (·.calCommit t.val)

/-- ABORT: the staged codes are kept (R286). -/
def Dev.calAbort (d : Dev) (t : Nat) : Dev :=
  if d.armed t then (d.setB (F.CAL_Tt_STAT_STATE t) false).setB (F.CAL_Tt_STAT_BY_ENG t) false else d

/-- CAL_ABORT (R286). -/
def execCalAbort (t : Fin 4) (s : State) : Host.Outcome State Fault Refusal := run s (·.calAbort t.val)

/-- The paths of an open Rambler window, TX and RX (R336): it is open from the rise of RMB_WIN, before the modem has
seen it, to its closing (R288). -/
def Dev.rmbPaths (d : Dev) : List Nat :=
  let w := (if d.rmb.opened.isSome then d.rmb.path else d.reg A.RMB_PATH).toNat
  if d.rmb.opened.isNone ∧ !d.flag F.TTBL_STAT_RMB_WIN then [] else [bitsN w 0 6, bitsN w 8 6, bitsN w 16 6]

/-- How long an epoch takes at most to reach its tile (R32, R287), and the blanking of R289. -/
def epochBlank : Int := (8 * (airNs : Int) + airNs / 10) + 1000 * (airNs : Int)

/-- The epoch of a tile (R286 to R289). -/
def Dev.calEpoch (d : Dev) (t : Nat) : Dev :=
  if !d.armed t then d
  else if d.rmbPaths.any (fun p => tileOf p == t) then
    let d := (d.count (A.CAL_Tt_DEFER_CNT t)).calInt 1
    if d.cal.deferred.testBit t then d
    else (d.modCal (fun c => { c with deferred := setBitN c.deferred t true })).calEvent 2 t 0 (d.tilePos t) []
  else
    let d := d.trimCopy 1 0 t
    let d := (d.setB (F.CAL_Tt_STAT_STATE t) false).setB (F.CAL_Tt_STAT_BY_ENG t) false
    let d := ((d.setF (F.CAL_Tt_VER_VER t) (d.getF (F.CAL_Tt_VER_VER t) + 1)).count (A.CAL_Tt_EPOCH_CNT t)).calInt 0
    let d := (d.capMark (fun p => tileOf p == t) 2).modCal (fun c => { c with
      blank := Tab.set (fun _ => 0) t (d.nowAir + epochBlank) c.blank
      deferred := setBitN c.deferred t false })
    let ends := partEnds d.cal.resets t
    let d := d.calEvent 1 t (d.getF (F.CAL_Tt_VER_VER t)) (d.tilePos t) (partDest d.cal.resets t)
    let d := d.modCal (fun c => { c with resets := partAfter c.resets t })
    d.forL ends (fun d p => d.dropPend p)

/-- The tracking engines switched (R290, R294): one that is switched on starts its paths afresh. -/
def Dev.engSet (d : Dev) (mask : Nat) : Dev :=
  let was := d.getF F.CAL_CTRL_ENG_EN
  let d := d.setF F.CAL_CTRL_ENG_EN mask
  d.forN 4 (fun d t =>
    if mask.testBit t ∧ !was.testBit t then
      d.forL ((List.range 16).map (16 * t + ·)) (fun d p => d.modStat p (fun _ => { since := d.nowAir, starve := d.nowAir }))
    else d)

/-! The tracking engine (R291 to R294). -/

/-- Whether the mean power of a block, given Σ x², lies between the two levels of CAL_ADEQ in dB below a full-scale sine
(R291): both sides to the tenth power. -/
def powerOk (s2 lo hi : Nat) : Bool :=
  let full := 2 ^ 29 * 65536
  decide (full ^ 10 ≤ s2 ^ 10 * 10 ^ lo ∧ s2 ^ 10 * 10 ^ hi ≤ full ^ 10)

/-- Whether the engine gathers on an RX path now (R291). -/
def Dev.gathers (d : Dev) (p : Nat) : Bool :=
  let t := tileOf p
  d.engOn t && decide (d.pll t = plLocked) && (d.tile t).rxBusy.testBit (p % 16) && !d.rmbPaths.contains p &&
    !(d.flag F.CAL_RECIP_CFG_BUSY && d.cal.recip.win.isSome) && decide (Tab.get (fun _ => 0) t d.cal.blank ≤ d.nowAir)

/-- A block of samples of an RX path (R291). -/
def Dev.statsBlock (d : Dev) (p : Nat) (b : StatsBlock) : Dev :=
  if !d.gathers p then d
  else
    let sum := fun (x y : List Int) => (List.range 16).map (fun m => x.getD m 0 + y.getD m 0)
    let ok := powerOk (((b.s2.take 16).foldl (· + ·) 0).toNat) (d.getF F.CAL_ADEQ_PWR_MIN) (d.getF F.CAL_ADEQ_PWR_MAX)
    d.modStat p (fun x =>
      let x := { x with offered := x.offered + 1 }
      if ok then { x with counted := x.counted + 1, s1 := sum x.s1 b.s1, s2 := sum x.s2 b.s2, c := sum x.c b.c } else x)

/-- STATS_BLOCK (R291). -/
def execStatsBlock (p : Fin 64) (blk : StatsBlock) (s : State) : Host.Outcome State Fault Refusal := run s (·.statsBlock p.val blk)

/-- Samples of each sub-ADC that have been counted, and the sample floor. -/
def CalStat.n (x : CalStat) : Nat := x.counted * 4096
def Dev.sampleFloor (d : Dev) : Nat := 2 ^ clampN 20 30 (d.getF F.CAL_LOOP_MIN_LOG2N)

/-- Whether enough of the offered blocks count. -/
def Dev.occOk (d : Dev) (x : CalStat) : Bool := decide (d.getF F.CAL_ADEQ_MIN_OCC * x.offered ≤ 256 * x.counted)

/-- One millisecond of air time. -/
def airMs : Int := 1000000 * (airNs : Int)

/-- Whether the statistics of a path are adequate (R293). -/
def Dev.adequate (d : Dev) (p : Nat) : Bool :=
  let x := d.calStat p
  decide (d.sampleFloor ≤ x.n) && decide ((d.getF F.CAL_DWELL_DWELL_MS : Int) * airMs ≤ d.nowAir - x.since) && d.occOk x

/-- sin(π x) for 0 ≤ x ≤ 1/2, by its series in fixed point. -/
def sinPiBase (x : Rat) : Rat :=
  let a := (3797952473636338580787993 * x.num) / x.den
  let u := fixMul a a
  let s := ((List.range 20).foldl (fun (acc : Int × Int) n =>
    let term := -(fixMul acc.2 u) / ((2 * n + 2) * (2 * n + 3) : Nat)
    (acc.1 + term, term)) (a, a)).1
  (s : Rat) / (fixOne : Rat)

/-- sin(π x) for 0 ≤ x < 2. -/
def sinPi (x : Rat) : Rat :=
  let y := if 1 ≤ x then x - 1 else x
  let v := sinPiBase (if 1 / 2 < y then 1 - y else y)
  if 1 ≤ x then -v else v

/-- The centroid of the enabled RX carriers of a band group in Hz, weighted by NPRB (R292); none without one. -/
def Dev.centroid (d : Dev) (g : Nat) : Option Rat :=
  let l := (List.finRange 8).filter (fun k : Fin 8 => d.carOn k.val && d.carGroup k.val == g)
  let w : Nat := (l.map (fun k : Fin 8 => d.prbs k.val)).foldl (· + ·) 0
  if w = 0 then none
  else
    let band := bandHz .rx (d.ncoWord (groupNco g .rx))
    let sum : Rat := (l.map (fun k : Fin 8 => ((d.prbs k.val : Rat) * (band + carHz (d.ncoWord (.carrier k .rx))) : Rat))).foldl (· + ·) 0
    some (sum / (w : Rat))

/-- η of a centroid (R292). -/
def etaOf (f : Rat) : Rat := sinPi (f / 3932160000)

/-- The nearest whole number; which of the two for a tie, the spec does not state. -/
def Dev.roundNear (d : Dev) (q : Rat) : Int × Dev :=
  if (2 * q).den = 1 then d.roundFree q.num q.den else (((2 * q + 1) / 2).floor, d)

/-- A whole number for a quotient whose rounding the spec does not state. -/
def Dev.roundQ (d : Dev) (q : Rat) : Int × Dev := d.roundFree q.num q.den

/-- A list mapped with the block passed along. -/
def Dev.mapM {α β : Type} (d : Dev) (l : List α) (f : Dev → α → β × Dev) : List β × Dev :=
  l.foldl (fun acc a => let (b, d) := f acc.2 a; (acc.1 ++ [b], d)) ([], d)

/-- Steps less their mean (R292). -/
def Dev.lessMean (d : Dev) (l : List Int) : List Int × Dev :=
  let mean : Rat := (l.foldl (· + ·) 0 : Int) / (16 : Rat)
  d.mapM l (fun d v => d.roundQ ((v : Rat) - mean))

/-- The steps of an update: offsets, gains and skews (R292). With no signal left beside the offsets the gains and skews
are not stated. -/
def Dev.calSteps (d : Dev) (x : CalStat) (fbar : Rat) : (List Int × List Int × List Int) × Dev :=
  let n : Rat := (x.n : Nat)
  let mu : Rat := 1 / (2 ^ d.getF F.CAL_LOOP_MU : Nat)
  let o := fun (m : Nat) => (x.s1.getD (m % 16) 0 : Rat) / n
  let p := fun (m : Nat) => (x.s2.getD (m % 16) 0 : Rat) / n - o m * o m
  let pbar := ((List.range 16).map p).foldl (· + ·) 0 / 16
  let r := fun (m : Nat) => (x.c.getD (m % 16) 0 : Rat) / n - o m * o (m + 1)
  let pi : Rat := (3797952473636338580787993 : Rat) / (fixOne : Rat)
  let slope := -2 * pi * fbar * pbar * etaOf fbar
  let anyStep := fun (d : Dev) => let (v, d) := d.anyNat; (sgn 10 v, d)
  let (os, d) := d.mapM (List.range 16) (fun d m => d.roundNear (mu * o m))
  let (gs, d) := d.mapM (List.range 16) (fun d m =>
    if pbar = 0 then anyStep d else d.roundNear (mu * ((p m / pbar - 1) / 2) * 16384))
  let (ks, d) := d.mapM (List.range 16) (fun d m =>
    if slope = 0 then anyStep d else d.roundNear (mu * ((r (m + 15) - r m) / (2 * slope)) * 200000000000000))
  let (gs, d) := d.lessMean gs
  let (ks, d) := d.lessMean ks
  ((os, gs, ks), d)

/-- A trim code moved by a step: both clipped (R292). -/
def Dev.trimStep (d : Dev) (code : Nat) (step : Int) : Nat :=
  let mx : Int := (max 1 (d.getF F.CAL_LOOP_MAX_STEP) : Nat)
  unsgn 10 (clampI (-512) 511 (sgn 10 code - clampI (-mx) mx step))

/-- Whether a code is at a range end. -/
def atRail (code : Nat) : Bool := code % 1024 == 511 || code % 1024 == 512

/-- A flag of a path set or cleared: the field, its tile's mask, and the block. -/
def Dev.setPathBit (d : Dev) (f mask : Fld) (p : Nat) (b : Bool) : Dev :=
  (d.setB f b).setF mask (setBitN (d.getF mask) (p % 16) b)

/-- An adequate path updated and staged (R292, R293). -/
def Dev.pathUpdate (d : Dev) (p : Nat) (fbar eta : Rat) : Dev :=
  let t := tileOf p
  let i := p % 16
  let x := d.calStat p
  let seen := decide ((d.getF F.CAL_ADEQ_ETA_MIN : Rat) ≤ |eta| * 256)
  let skew := seen && (d.getF F.CAL_CTRL_SKEW_EN).testBit t
  let ((os, gs, ks), d) := d.calSteps x fbar
  let d := d.forN 16 (fun d m =>
    let so := d.trimStep (d.getF (F.CAL_STG_ADC_OFFSET t i m)) (os.getD m 0)
    let sg := d.trimStep (d.getF (F.CAL_STG_ADC_GAIN t i m)) (gs.getD m 0)
    let sk := if skew then d.trimStep (d.getF (F.CAL_STG_ADC_SKEW t i m)) (ks.getD m 0) else d.getF (F.CAL_STG_ADC_SKEW t i m)
    d.setReg (A.CAL_STG_ADC t i m) (wordOf [(20, so), (10, sg), (0, sk)]))
  let rail := (List.range 16).any (fun m => atRail (d.getF (F.CAL_STG_ADC_OFFSET t i m)) ||
    atRail (d.getF (F.CAL_STG_ADC_GAIN t i m)) || atRail (d.getF (F.CAL_STG_ADC_SKEW t i m)))
  let wasRail := d.flag (F.CAL_Pp_STAT_RAIL p)
  let d := d.setB (F.CAL_Pp_STAT_RAIL p) rail
  let d := if rail then d.calInt 4 else d
  let d := if rail ∧ !wasRail then d.calPathEvent 6 p else d
  let blind := d.flag (F.CAL_Pp_STAT_SKEW_BLIND p)
  let d := if !seen then
      let d := (d.setPathBit (F.CAL_Pp_STAT_SKEW_BLIND p) (F.CAL_Tt_BLIND_SKEW_BLIND t) p true).calInt 3
      if blind then d else d.calPathEvent 4 p
    else if skew then d.setPathBit (F.CAL_Pp_STAT_SKEW_BLIND p) (F.CAL_Tt_BLIND_SKEW_BLIND t) p false else d
  let (occ, d) := if x.offered = 0 then ((0 : Int), d) else d.roundFree (256 * x.counted : Nat) x.offered
  let d := (d.setF (F.CAL_Pp_STAT_OCC p) (min 255 occ.toNat)).setF (F.CAL_Pp_STAT_UPDATES p) (d.getF (F.CAL_Pp_STAT_UPDATES p) + 1)
  let d := if d.flag (F.CAL_Pp_STAT_STARVED p) then
      ((d.setPathBit (F.CAL_Pp_STAT_STARVED p) (F.CAL_Tt_STAT_STARVED t) p false).setF (F.CAL_Pp_STAT_WHY p) 0).calPathEvent 5 p
    else d
  d.modStat p (fun _ => { since := d.nowAir, starve := d.nowAir })

/-- The engine updates every adequate path of a tile, stages and commits (R293). -/
def Dev.engineUpdate (d : Dev) (t : Nat) : Dev :=
  let l := ((List.range 16).map (16 * t + ·)).filter d.adequate
  if !d.engOn t ∨ d.armed t ∨ d.flag (F.CAL_Tt_CMD_HOLD t) ∨ l.isEmpty then d
  else
    let fbar := (d.centroid (d.bandGroup t)).getD 0
    let eta := etaOf fbar
    let (fm, d) := d.roundQ (fbar / 1000000)
    let (e, d) := d.roundQ (|eta| * 256)
    let d := (d.setF (F.CAL_Tt_ETA_FBAR_MHZ t) fm.toNat).setF (F.CAL_Tt_ETA_ETA t) (min 255 e.toNat)
    (d.forL l (fun d p => d.pathUpdate p fbar eta)).calArm t true

/-- ENGINE_UPDATE (R292, R293). -/
def execEngineUpdate (t : Fin 4) (s : State) : Host.Outcome State Fault Refusal := run s (·.engineUpdate t.val)

/-- A path starves (R294). -/
def Dev.starve (d : Dev) (p : Nat) (tie : Bool) : Dev :=
  let t := tileOf p
  let x := d.calStat p
  if !d.engOn t ∨ d.flag (F.CAL_Pp_STAT_STARVED p) then d
  else if tie then (d.count A.CAL_TIE).modStat p (fun x => { x with starve := d.nowAir })
  else
    let why := if x.counted = 0 then 3 else if x.n < d.sampleFloor then 1 else 2
    let (occ, d) := if x.offered = 0 then ((0 : Int), d) else d.roundFree (256 * x.counted : Nat) x.offered
    let d := d.setPathBit (F.CAL_Pp_STAT_STARVED p) (F.CAL_Tt_STAT_STARVED t) p true
    let d := ((d.setF (F.CAL_Pp_STAT_WHY p) why).setF (F.CAL_Pp_STAT_OCC p) (min 255 occ.toNat)).calInt 2
    let d := d.modStat p (fun x => { since := x.since, starve := d.nowAir })
    (d.degr 5).calPathEvent 3 p

/-- STARVE_EXPIRY (R294). -/
def execStarveExpiry (p : Fin 64) (tie : Bool) (s : State) : Host.Outcome State Fault Refusal := run s (fun d => d.starve p.val tie)

/-! The DAC fit (R295, R296). -/

/-- A DAC update of a path (R295): the firmware's fit gives the steps, which are free; they are clipped as in R292, staged
under HOLD and committed, at most once a second. -/
def Dev.dacFit (d : Dev) (p : Nat) : Dev :=
  let t := tileOf p
  let early : Bool := match Tab.get (fun _ => none) p d.cal.dacLast with
    | some (l : Int) => decide (d.nowAir - l < 1000 * airMs)
    | none => false
  if !d.fw.running ∨ !d.cal.dacOn.testBit t ∨ !d.cal.dacClean.contains p ∨ d.armed t ∨ early then d
  else
    let d := d.forN 4 (fun d s =>
      let (a, d) := d.anyNat
      let (b, d) := d.anyNat
      (d.setF (F.CAL_STG_DAC_GAIN t (p % 16) s) (d.trimStep (d.getF (F.CAL_STG_DAC_GAIN t (p % 16) s)) (sgn 10 a))).setF
        (F.CAL_STG_DAC_SKEW t (p % 16) s) (d.trimStep (d.getF (F.CAL_STG_DAC_SKEW t (p % 16) s)) (sgn 10 b)))
    let was := d.cal.dacStarved.testBit p
    let d := d.modCal (fun c => { c with
      dacClean := c.dacClean.erase p
      dacLast := Tab.set (fun _ => none) p (some d.nowAir) c.dacLast
      dacStarved := setBitN c.dacStarved p false })
    let d := if was then d.calPathEvent 5 p else d
    (d.calArm t false).dacAsk p

/-- DAC_FIT (R295). -/
def execDacFit (p : Fin 64) (s : State) : Host.Outcome State Fault Refusal := run s (·.dacFit p.val)

/-- No usable capture of a path for 60 s (R296). -/
def Dev.dacStarve (d : Dev) (p : Nat) : Dev :=
  if !d.fw.running ∨ !d.cal.dacOn.testBit (tileOf p) ∨ d.cal.dacClean.contains p ∨ d.cal.dacStarved.testBit p then d
  else ((d.modCal (fun c => { c with dacStarved := setBitN c.dacStarved p true })).calPathEvent 3 p).dacAsk p

/-- DAC_STARVE (R296). -/
def execDacStarve (p : Fin 64) (s : State) : Host.Outcome State Fault Refusal := run s (·.dacStarve p.val)

/-! Reciprocity (R297 to R302). -/

def Dev.modRecip (d : Dev) (f : RecipSt → RecipSt) : Dev := d.modCal (fun c => { c with recip := f c.recip })

/-- A write of RUN: ignored while BUSY (R306). -/
def Dev.recipStart (d : Dev) : Dev :=
  if d.flag F.CAL_RECIP_CFG_BUSY then d.calCmdErr
  else
    let d := ((d.setB F.CAL_RECIP_CFG_BUSY true).setF F.CAL_RECIP_STAT_WINDOWS 0).setF F.CAL_RECIP_STAT_BURSTS 0
    d.modRecip (fun r => { r with mt := [], mr := [], used := false })

/-- RECIP_MEASURE_START (R297). -/
def execRecipMeasureStart (s : State) : Host.Outcome State Fault Refusal := run s (·.recipStart)

/-- The level of the Timetable target CAL_RECIP (R298). -/
def Dev.recipLevel (d : Dev) (b : Bool) : Dev := d.modRecip (fun r => { r with win := if b then some d.nowAir else none, used := false })

/-- A complex number held to 13 fraction bits and 16-bit parts, whose rounding is not stated, nor its value outside the
format (R300). -/
def Dev.to13 (d : Dev) (re im : Rat) : W32 × Dev :=
  let part := fun (d : Dev) (q : Rat) =>
    let (v, d) := d.roundQ (q * 8192)
    if -32768 ≤ v ∧ v ≤ 32767 then (v, d) else let (n, d) := d.anyNat; (sgn 16 n, d)
  let (i, d) := part d re
  let (q, d) := part d im
  (elemWord i q, d)

/-- c_n of a bin (R297); the reference path has 1, and a quotient by zero is not stated. -/
def Dev.recipValue (d : Dev) (n b : Nat) : W32 × Dev :=
  let g := fun (t : Tab (Int × Int)) => Tab.get (fun _ => ((0 : Int), (0 : Int))) (16 * n + b) t
  let t := g d.cal.recip.mt
  let r := g d.cal.recip.mr
  let den : Rat := (r.1 * r.1 + r.2 * r.2 : Int)
  if n = d.getF F.CAL_RECIP_CFG_REF then (0x20000000, d)
  else if den = 0 then d.anyWord
  else d.to13 ((t.1 * r.1 + t.2 * r.2 : Int) / den) ((t.2 * r.1 - t.1 * r.2 : Int) / den)

/-- The entry of a path and bin multiplied by the host's factor (R302). -/
def Dev.hostFactor (d : Dev) (n b : Nat) : Dev :=
  let h := Tab.get (fun _ => (0x20000000 : W32)) (16 * n + b) d.cal.host
  if h = 0x20000000 then d
  else
    let x := elemOf (d.reg (A.CAL_RECIP_STG n b))
    let y := cmul x (elemOf h)
    let (w, d) := d.to13 ((y.1 : Rat) / 67108864) ((y.2 : Rat) / 67108864)
    d.setReg (A.CAL_RECIP_STG n b) w

/-- The lowest-numbered enabled carrier of the module. -/
def Dev.firstCar (d : Dev) : Option Nat := (List.range 8).find? (fun k => d.carOn k)

/-- The staged table copied into the active one (R301). -/
def Dev.recipSwap (d : Dev) : Dev :=
  if !d.flag F.CAL_RECIP_CFG_SWAP_PEND then d
  else
    let d := d.forN 64 (fun d n => d.forN 16 (fun d b => d.setReg (A.CAL_RECIP_ACT n b) (d.reg (A.CAL_RECIP_STG n b))))
    let d := (d.setB F.CAL_RECIP_CFG_SWAP_PEND false).calInt 8
    let ops := (d.cal.recipOps.filter (·.2)).map (·.1)
    let ref := d.getF F.CAL_RECIP_CFG_REF
    let d := d.calEvent 8 ref 0 (d.tilePos (tileOf ref)) (ops.map (fun p => (p.mb, p.tag)))
    let d := d.modCal (fun c => { c with recipOps := c.recipOps.filter (fun o => !o.2) })
    d.forL ops (fun d p => d.dropPend p)

/-- A write of SWAP (R301): with no enabled carrier there is no slot boundary to wait for. -/
def Dev.recipSwapReq (d : Dev) : Dev :=
  let d := d.setB F.CAL_RECIP_CFG_SWAP_PEND true
  if d.firstCar.isNone then d.recipSwap else d

/-- RECIP_SWAP_REQUEST (R301). -/
def execRecipSwapRequest (s : State) : Host.Outcome State Fault Refusal := run s (·.recipSwapReq)

/-- All bursts have run (R298): the staged table is written; the firmware applies it where a RECIP_RUN asks (R302, R304). -/
def Dev.recipDone (d : Dev) : Dev :=
  let d := d.forN 64 (fun d n => d.forN 16 (fun d b => let (w, d) := d.recipValue n b; d.setReg (A.CAL_RECIP_STG n b) w))
  let d := ((d.setB F.CAL_RECIP_CFG_BUSY false).count A.CAL_RECIP_CNT).calInt 7
  let ref := d.getF F.CAL_RECIP_CFG_REF
  let ops := d.cal.recipOps
  let d := d.calEvent 7 ref 0 (d.tilePos (tileOf ref)) (ops.map (fun o => (o.1.mb, if o.2 then 0 else o.1.tag)))
  let d := d.modCal (fun c => { c with recipOps := c.recipOps.filter (·.2) })
  let d := d.forL (ops.filter (fun o => !o.2)) (fun d o => d.dropPend o.1)
  if ops.any (·.2) ∧ d.fw.running then
    (d.forN 64 (fun d n => d.forN 16 (fun d b => d.hostFactor n b))).recipSwapReq
  else d

/-- A burst completes (R297 to R299): `meas` is what it measures, path by path and bin by bin. -/
def Dev.recipBurst (d : Dev) (meas : List (Int × Int)) (epoch : Bool) : Dev :=
  match d.cal.recip.win with
  | none => d
  | some w =>
    let win : Int := 1000 * (airNs : Int) * (max 6 (d.getF F.CAL_RECIP_CFG_WIN_US) : Nat)
    let q := d.getF F.CAL_RECIP_STAT_BURSTS
    if !d.flag F.CAL_RECIP_CFG_BUSY ∨ win < d.nowAir - w ∨ !d.rmbPaths.isEmpty ∨ 17 ≤ q then d
    else
      let d := if d.cal.recip.used then d
        else (d.countF F.CAL_RECIP_STAT_WINDOWS).modRecip (fun r => { r with used := true })
      if epoch then d
      else
        let put := fun (base len : Nat) (t : Tab (Int × Int)) =>
          (List.range len).foldl (fun t i => Tab.set (fun _ => ((0 : Int), (0 : Int))) (base + i) (meas.getD i (0, 0)) t) t
        let d := if q < 16 then d.modRecip (fun r => { r with mt := put (64 * q) 64 r.mt })
          else d.modRecip (fun r => { r with mr := put 0 1024 r.mr })
        let d := d.setF F.CAL_RECIP_STAT_BURSTS (q + 1)
        if q + 1 = 17 then d.recipDone else d

/-- RECIP_BURST (R297, R299). -/
def execRecipBurst (meas : List (Int × Int)) (epochInside : Bool) (s : State) : Host.Outcome State Fault Refusal :=
  run s (fun d => d.recipBurst meas epochInside)

/-! Monitoring converters (R303). -/

/-- A START of a converter's calibration: it waits for injected conversions. -/
def Dev.monCalStart (d : Dev) (c : Nat) : Dev :=
  if d.monCal c ∨ (d.getF F.CAL_MON_PEND).testBit c then d
  else if (d.monc c).inj.isEmpty then
    (d.setF F.CAL_MON_BUSY (setBitN (d.getF F.CAL_MON_BUSY) c true)).modMon c (fun m => { m with cur := none })
  else d.setF F.CAL_MON_PEND (setBitN (d.getF F.CAL_MON_PEND) c true)

/-- MON_CAL_START (R303). -/
def execMonCalStart (cv : Fin 2) (s : State) : Host.Outcome State Fault Refusal := run s (·.monCalStart cv.val)

/-- A calibration has run its 20 µs (R303, R305): what waits on the converter goes on. -/
def Dev.monCalDone (d : Dev) (c : Nat) : Dev :=
  if !d.monCal c then d
  else
    let d := (d.setF F.CAL_MON_BUSY (setBitN (d.getF F.CAL_MON_BUSY) c false)).calInt 9
    let ends := partEnds d.cal.mons c
    let d := d.calEvent 9 c 0 d.framePos (partDest d.cal.mons c)
    let d := d.modCal (fun x => { x with mons := partAfter x.mons c })
    (d.forL ends (fun d p => d.dropPend p)).monNext c

/-- MON_CAL_DONE (R303). -/
def execMonCalDone (cv : Fin 2) (s : State) : Host.Outcome State Fault Refusal := run s (·.monCalDone cv.val)

/-! Commands (R304). -/

/-- CAL_MODE. -/
def cmdCalMode (pl : List Byte) : Body := devBody fun d =>
  let mask := byteAt pl 0
  let b := byteAt pl 1
  if 15 < mask then badParam d
  else
    let put := fun (old : Nat) (on : Bool) => (bitsOf 4 mask).foldl (fun m t => setBitN m t on) old
    let d := d.engSet (put (d.getF F.CAL_CTRL_ENG_EN) (b.testBit 0))
    let d := d.setF F.CAL_CTRL_SKEW_EN (put (d.getF F.CAL_CTRL_SKEW_EN) (b.testBit 1))
    let d := (d.setB F.CAL_CTRL_RECIP_EN (b.testBit 3)).modCal (fun c => { c with dacOn := put c.dacOn (b.testBit 2) })
    okR (d.forN 64 (fun d p => d.dacAsk p))

/-- CAL_READ. -/
def cmdCalRead (pl : List Byte) : Body := devBody fun d =>
  let t := byteAt pl 0
  if 3 < t ∨ 2 < byteAt pl 1 then badParam d
  else okR d (leBytes 2 (d.getF (F.CAL_Tt_VER_VER t)) ++ [0, 0] ++ d.regsBytes (trimPage (byteAt pl 1) t) 328)

/-- CAL_RESET: the baseline is staged and armed, with the tile's engine off meanwhile (R290). -/
def cmdCalReset (h : CmdHdr) (pl : List Byte) : Body := devBody fun d =>
  let mask := byteAt pl 0
  let ts := bitsOf 4 mask
  if mask = 0 ∨ 15 < mask then badParam d
  else if ts.any d.armed then busyR d
  else
    let eng := d.getF F.CAL_CTRL_ENG_EN
    let d := d.engSet (ts.foldl (fun m t => setBitN m t false) eng)
    let d := d.forL ts (fun d t => (d.trimCopy 2 1 t).calArm t false)
    let d := d.engSet eng
    let p : PendOp := ⟨h.mb.val, h.tag.toNat, h.seq.toNat, 0x4012, [mask]⟩
    (.pending [mask], d.modCal (fun c => { c with resets := c.resets ++ [⟨p, ts⟩] }), [])

/-- Whether a CAL_RECIP window is programmed in the active bank of the Timetable (R298, R304). -/
def Dev.recipProgrammed (d : Dev) : Bool :=
  (List.range 256).any (fun e => let w := (d.reg (A.TTBL_ACTV_W0 e)).toNat; w.testBit 31 && bitsN w 20 7 == 45)

/-- RECIP_RUN. -/
def cmdRecipRun (h : CmdHdr) (pl : List Byte) : Body := devBody fun d =>
  let ref := byteAt pl 0
  let app := (byteAt pl 1).testBit 0
  if !d.recipProgrammed then notReady d 0
  else if 63 < ref then badParam d
  else if d.flag F.CAL_RECIP_CFG_BUSY ∨ !d.cal.recipOps.isEmpty then busyR d
  else
    let p : PendOp := ⟨h.mb.val, h.tag.toNat, h.seq.toNat, 0x4013, [ref]⟩
    let d := (d.setF F.CAL_RECIP_CFG_REF ref).recipStart
    (.pending [ref], d.modCal (fun c => { c with recipOps := c.recipOps ++ [(p, app)] }), [])

/-- Whether a run of paths is legal. -/
def pathRun (pl : List Byte) : Bool :=
  decide (1 ≤ byteAt pl 1 ∧ byteAt pl 1 ≤ 63 ∧ byteAt pl 0 + byteAt pl 1 ≤ 64)

/-- RECIP_READ. -/
def cmdRecipRead (pl : List Byte) : Body := devBody fun d =>
  if !pathRun pl ∨ 1 < byteAt pl 2 then badParam d
  else
    let a := if byteAt pl 2 = 0 then A.CAL_RECIP_ACT (byteAt pl 0) 0 else A.CAL_RECIP_STG (byteAt pl 0) 0
    okR d (d.regsBytes a (16 * byteAt pl 1))

/-- RECIP_HOST. -/
def cmdRecipHost (pl : List Byte) : Body := devBody fun d =>
  let n := 16 * byteAt pl 1
  if !pathRun pl ∨ pl.length ≠ 4 + 4 * n then badParam d
  else okR (d.modCal (fun c => { c with host := (List.range n).foldl (fun t i =>
    Tab.set (fun _ => (0x20000000 : W32)) (16 * byteAt pl 0 + i) (BitVec.ofNat 32 (leAt pl (4 + 4 * i) 4)) t) c.host }))

/-- MON_CAL. -/
def cmdMonCal (h : CmdHdr) (pl : List Byte) : Body := devBody fun d =>
  let mask := byteAt pl 0
  let cs := bitsOf 2 mask
  if mask = 0 ∨ 3 < mask then badParam d
  else
    let p : PendOp := ⟨h.mb.val, h.tag.toNat, h.seq.toNat, 0x4016, [mask]⟩
    let d := d.modCal (fun c => { c with mons := c.mons ++ [⟨p, cs⟩] })
    (.pending [mask], d.forL cs (fun d c => d.monCalStart c), [])

/-- CAL_STAT: it reads the RC counters and so clears them. -/
def cmdCalStat (_pl : List Byte) : Body := devBody fun d =>
  let (bs, d) := (List.range 4).foldl (fun (acc : List Byte × Dev) t =>
    let (b, d) := acc.2.takeRcs [A.CAL_Tt_EPOCH_CNT t, A.CAL_Tt_DEFER_CNT t]
    (acc.1 ++ word4 (d.live (A.CAL_Tt_STAT t)) ++ b, d)) (d.liveBytes (A.CAL_Pp_STAT 0) 64, d)
  okR d bs

/-- CAL_MODE (R304). -/
def execCalMode (h : CmdHdr) (pl : List Byte) (s : State) : Host.Outcome State Fault Refusal :=
  runW s (runCmd h 0x4010 (lenIs 4) pl (cmdCalMode pl))

/-- CAL_READ (R304). -/
def execCalRead (h : CmdHdr) (pl : List Byte) (s : State) : Host.Outcome State Fault Refusal :=
  runW s (runCmd h 0x4011 (lenIs 4) pl (cmdCalRead pl))

/-- CAL_RESET (R304). -/
def execCalReset (h : CmdHdr) (pl : List Byte) (s : State) : Host.Outcome State Fault Refusal :=
  runW s (runCmd h 0x4012 (lenIs 4) pl (cmdCalReset h pl))

/-- RECIP_RUN (R304). -/
def execRecipRun (h : CmdHdr) (pl : List Byte) (s : State) : Host.Outcome State Fault Refusal :=
  runW s (runCmd h 0x4013 (lenIs 4) pl (cmdRecipRun h pl))

/-- RECIP_READ (R304). -/
def execRecipRead (h : CmdHdr) (pl : List Byte) (s : State) : Host.Outcome State Fault Refusal :=
  runW s (runCmd h 0x4014 (lenIs 4) pl (cmdRecipRead pl))

/-- RECIP_HOST (R304). -/
def execRecipHost (h : CmdHdr) (pl : List Byte) (s : State) : Host.Outcome State Fault Refusal :=
  runW s (runCmd h 0x4015 (lenIn 68 4036) pl (cmdRecipHost pl))

/-- MON_CAL (R304). -/
def execMonCal (h : CmdHdr) (pl : List Byte) (s : State) : Host.Outcome State Fault Refusal :=
  runW s (runCmd h 0x4016 (lenIs 4) pl (cmdMonCal h pl))

/-- CAL_STAT (R304). -/
def execCalStat (h : CmdHdr) (pl : List Byte) (s : State) : Host.Outcome State Fault Refusal :=
  runW s (runCmd h 0x4017 (lenIs 0) pl (cmdCalStat pl))

end Sys2Proof.Machine
end

