-- ==== Sys2Proof/Machine/RmbLink.lean ====
section
/-! DEFINITION. The Rambler's windows, receiver, acknowledgements, time transfer and commands (10_rambler.md, R334 to R361). -/

namespace Sys2Proof.Machine

/-! Records (R354). -/

/-- States of the receiver (R349, R363). -/
def rxSearch : Nat := 0
def rxPreamble : Nat := 1
def rxHeader : Nat := 2
def rxPayload : Nat := 3

/-- The receiver's state. -/
def Dev.rxState (d : Dev) : Nat := d.getF F.RMB_STATUS_RX_STATE

/-- The receiver takes a state. -/
def Dev.setRx (d : Dev) (st : Nat) (rx : Option RmbRx) : Dev :=
  (d.setF F.RMB_STATUS_RX_STATE st).modRmb (fun r => { r with rx := rx })

/-- Fields of a header (R341). -/
def hdrType (h : BitVec 64) : Nat := bitsN h.toNat 60 4
def hdrSeq (h : BitVec 64) : Nat := bitsN h.toNat 51 6
def hdrSrc (h : BitVec 64) : Nat := bitsN h.toNat 39 12
def hdrDst (h : BitVec 64) : Nat := bitsN h.toNat 27 12
def hdrLen (h : BitVec 64) : Nat := bitsN h.toNat 16 11 + 1

/-- LQI of an EVM in 0.25 dB (R353). -/
def lqi (evm : Int) : Nat := (clampI 0 255 (-2 * evm)).toNat

/-- A time in eighths of a ns in the format of bytes 4–15 of R268. -/
def stampBytes (t : Int) : List Byte :=
  let n := (t / 8).toNat
  le4 (n / 1000000000 % 2 ^ 32) ++ le4 (n % 1000000000) ++ le4 ((t % 8).toNat * 2 ^ 29)

/-- The 64-byte header of a record. -/
def recordHead (x : RmbRx) (status : Nat) (dup : Bool) (hdr : BitVec 64) (rx : RxPayload) : List Byte :=
  let sound := decide (status ≤ 1) && hdrType hdr == 5
  le4 (status * 2 ^ 28 + b2n dup * 2 ^ 27 + b2n x.branch * 2 ^ 26 + lqi rx.evm * 2 ^ 16 + unsgn 16 rx.evm) ++ beBytes 8 hdr.toNat ++
    stampBytes x.ts ++ le4 (unsgn 16 x.lev0 * 2 ^ 16 + unsgn 16 x.lev1) ++
    (if sound then word4 rx.ch0 ++ word4 rx.ch1 ++ [rx.exp] ++ List.replicate 27 0 else List.replicate 36 0)

/-- A record written to the ring: whether a slot was free, the bytes and the block. The runtime firmware delivers it at
once with RMB_RX and frees the slot (R361). -/
def Dev.rmbRecord (d : Dev) (x : RmbRx) (status : Nat) (dup : Bool) (hdr : BitVec 64) (bytes : List Byte) (rx : RxPayload) :
    Bool × Writes × Dev :=
  match ((List.range 16).map (fun i => (d.rmb.nextSlot + i) % 16)).find? (fun i => !d.rmb.slots.testBit i) with
  | none => (false, [], (d.count A.RMB_RX_OVF).setB F.RMB_INT_STAT_RX_OVF true)
  | some i =>
    let rec_ := recordHead x status dup hdr rx ++ bytes
    let a := (d.reg A.RMB_RX_BASE).toNat + 2112 * i
    let d := d.modRmb (fun r => { r with nextSlot := (i + 1) % 16 })
    let d := (d.setB F.RMB_INT_STAT_RX_DONE true).setB F.RMB_INT_STAT_CAPTURE (d.flag F.RMB_INT_STAT_CAPTURE || status == 2)
    let d := if status = 0 then d.count A.RMB_RX_OK else d
    let d := if d.fw.running then d.notify 0 0x6080 0 rec_
      else d.modRmb (fun r => { r with slots := setBitN r.slots i true, rxq := r.rxq ++ [(status, i)] })
    if inHamper a rec_.length then (true, [(a, rec_)], d.wroteEcc 7 a rec_) else (true, [], d)

/-! Windows (R334 to R336). -/

/-- RMB_WIN has risen: the window opens, takes the words in force for its length, and powers its TX path (R238). -/
def Dev.rmbOpen (d : Dev) : Dev :=
  if !d.flag F.TTBL_STAT_RMB_WIN ∨ d.rmb.opened.isSome then d
  else
    let tx := (d.getF F.RMB_WIN_CFG_TXPAT).testBit (d.frameNow % 16).toNat
    let d := d.modRmb (fun r => { r with
      opened := some d.nowAir
      sent := false
      gone := false
      path := d.reg A.RMB_PATH
      txcfg := d.reg A.RMB_TXCFG
      txFtw := d.ncoWord (.rambler .tx)
      rxFtw := d.ncoWord (.rambler .rx) })
    let d := (d.setB F.RMB_STATUS_WIN true).setB F.RMB_STATUS_TXWIN tx
    let p := d.rmbTxPath
    let t := tileOf p
    if (d.tile t).down.testBit (p % 16) then d.setDown t (setBitN (d.tile t).down (p % 16) false) else d

/-- RMB_WINDOW_OPEN (R335). -/
def execRmbWindowOpen (s : State) : Host.Outcome State Fault Refusal := run s (·.rmbOpen)

/-- RMB_WIN has fallen: a running burst is cut and a reception aborted (R345, R349). -/
def Dev.rmbClose (d : Dev) (rx : RxPayload) : Writes × Dev :=
  if d.flag F.TTBL_STAT_RMB_WIN ∨ d.rmb.opened.isNone then ([], d)
  else
    let d := d.rmbCut
    let d := ((d.setB F.RMB_STATUS_WIN false).setB F.RMB_STATUS_TXWIN false).modRmb (fun r => { r with opened := none })
    let st := d.rxState
    match d.rmb.rx with
    | none => ([], d)
    | some x =>
      let d := (d.setRx rxSearch none).count A.RMB_WIN_ABORT
      if st = rxPayload then (d.rmbRecord x 3 false x.hdr (rx.bytes.take (hdrLen x.hdr)) rx).2
      else if st = rxHeader then (d.rmbRecord x 3 false rx.hdr [] rx).2
      else ([], d)

/-- RMB_WINDOW_CLOSE (R334). -/
def execRmbWindowClose (rx : RxPayload) (s : State) : Host.Outcome State Fault Refusal := runW s (fun _ d => d.rmbClose rx)

/-! Descriptors (R344). -/

/-- Bytes a reader of the Rambler gets: of an uncorrectable word, what the spec does not state. -/
def Dev.rmbBytes (d : Dev) (m : Mem) (a n : Nat) : List Byte × Dev :=
  let bad := (d.badWords a n).filter (fun e => e.2.1 != .ce)
  let (_, d) := d.readEcc 7 a n
  if bad.isEmpty then (memRead m a n, d)
  else
    let (f, d) := d.anyNat
    ((List.range n).map (fun i =>
      if bad.any (fun e => decide (hamperLo + 8 * e.1 ≤ a + i ∧ a + i < hamperLo + 8 * e.1 + 8)) then
        BitVec.ofNat 8 (Config.freeNat (f + i)) else memGet m (a + i)), d)

/-- A write of RMB_TXQ (R344): ignored when the queue is full; a descriptor of another TYPE, with a reserved field set, or
outside the Hamper completes as REFUSED. -/
def Dev.rmbPush (m : Mem) (d : Dev) (desc : Nat) : Dev :=
  if 16 ≤ d.rmbQueued then d.setB F.RMB_INT_STAT_CMD_ERR true
  else if !inHamper desc 32 then
    let (t, d) := d.rmbNumber { type := 0, dst := 0, n := 1, desc := desc }
    d.rmbComplete t 9
  else
    let (b, d) := d.rmbBytes m desc 32
    let w := leAt b 0 4
    let dst := bitsN w 12 12
    let type := bitsN w 28 4
    let t : RmbTx := { type := type, ackReq := w.testBit 27 && dst != 0xFFF, pri := w.testBit 26, dst := dst,
                       at_ := if w.testBit 25 then some (leAt b 8 4, leAt b 12 4) else none,
                       n := bitsN w 0 11 + 1, desc := desc, pay := leAt b 4 4 }
    if !(type == 1 || type == 3 || type == 5) ∨ w.testBit 24 ∨ w.testBit 11 ∨ !zeroAt b 16 16 then
      let (t, d) := d.rmbNumber t
      d.rmbComplete t 9
    else d.rmbQueue t

/-- RMB_TXQ_PUSH (R344). -/
def execRmbTxqPush (desc : BitVec 32) (s : State) : Host.Outcome State Fault Refusal :=
  runW s (fun m d => ([], d.rmbPush m desc.toNat))

/-- A read of RMB_TXDONE_LO (R348): the oldest completion leaves, its descriptor latched. -/
def Dev.txDoneRead (d : Dev) (r : Requester) : Dev :=
  let ws := d.txDoneWords
  let d := d.setLatch r A.RMB_TXDONE_HI (ws.getD 1 0)
  { d with rdata := ws.getD 0 0, rmb := { d.rmb with done := d.rmb.done.drop 1 } }

/-- TXDONE_READ (R348). -/
def execTxdoneRead (r : Requester) (s : State) : Host.Outcome State Fault Refusal := run s (·.txDoneRead r)

/-! Receiving (R349 to R354). -/

/-- Whether the receiver works: a receive window with RX_EN (R335). -/
def Dev.rmbHears (d : Dev) : Bool := d.rmb.opened.isSome && !d.flag F.RMB_STATUS_TXWIN && d.flag F.RMB_CTRL_RX_EN

/-- A preamble is detected (R349 to R351). Which of two equal branches is chosen, the spec does not state. -/
def Dev.preamble (d : Dev) (p : Preamble) (rx : RxPayload) : Writes × Dev :=
  if !d.rmbHears then ([], d)
  else
    let (b, d) := if p.at0 = p.at1 then d.anyBool else (decide (p.at0 < p.at1), d)
    let lvl := if p.at0 < p.at1 then p.at1 else p.at0
    let new : RmbRx := { level := lvl, branch := b, lev0 := p.lev0, lev1 := p.lev1 }
    let st := d.rxState
    match d.rmb.rx with
    | none => ([], d.setRx rxPreamble (some new))
    | some x =>
      if st = rxPreamble then
        if x.level ≤ lvl then ([], (d.count A.RMB_PRE_CAPTURE).setRx rxPreamble (some new)) else ([], d)
      else if x.level + (clampN 3 15 (d.getF F.RMB_RXCFG_CAPTURE_DB) : Nat) ≤ lvl then
        let d := d.count A.RMB_ABORT_CAP
        let (_, ws, d) := if st = rxPayload then d.rmbRecord x 2 false x.hdr (rx.bytes.take (hdrLen x.hdr)) rx
          else d.rmbRecord x 2 false rx.hdr [] rx
        (ws, d.setRx rxPreamble (some new))
      else ([], d)

/-- PREAMBLE_DETECT (R350). -/
def execPreambleDetect (pre : Preamble) (rx : RxPayload) (s : State) : Host.Outcome State Fault Refusal :=
  runW s (fun _ d => d.preamble pre rx)

/-- SYNC_FOUND (R343, R349): `ts` is the timestamp point as the receiver finds it, in eighths of a ns. -/
def Dev.syncFound (d : Dev) (ts : Int) : Dev :=
  match d.rmb.rx with
  | some x => if d.rxState = rxPreamble then d.setRx rxHeader (some { x with ts := ts }) else d
  | none => d

/-- SYNC_FOUND (R349). -/
def execSyncFound (ts : Int) (s : State) : Host.Outcome State Fault Refusal := run s (·.syncFound ts)

/-- SYNC_TIMEOUT (R349). -/
def Dev.syncTimeout (d : Dev) : Dev :=
  if d.rxState = rxPreamble then (d.setRx rxSearch none).count A.RMB_FALSE_DETECT else d

/-- SYNC_TIMEOUT (R349). -/
def execSyncTimeout (s : State) : Host.Outcome State Fault Refusal := run s (·.syncTimeout)

/-- Whether a header's HCRC is correct and its TYPE is not reserved (R341). -/
def hdrOk (h : BitVec 64) : Bool :=
  crc16 (beBytes 6 (h.toNat / 65536)) == h.toNat % 65536 && decide (1 ≤ hdrType h ∧ hdrType h ≤ 5)

/-- The module's unit ID. -/
def Dev.unitId (d : Dev) : Nat := d.getF F.RMB_CTRL_UNIT

/-- The header has come (R349). -/
def Dev.header (d : Dev) (h : BitVec 64) : Dev :=
  match d.rmb.rx with
  | none => d
  | some x =>
    if d.rxState ≠ rxHeader then d
    else if !hdrOk h then (d.setRx rxSearch none).count A.RMB_HDR_ERR
    else if hdrDst h ≠ d.unitId ∧ hdrDst h ≠ 0xFFF then d.setRx rxSearch none
    else d.setRx rxPayload (some { x with hdr := h })

/-- HEADER_RECEIVE (R349). -/
def execHeaderReceive (hdr : BitVec 64) (s : State) : Host.Outcome State Fault Refusal := run s (·.header hdr)

/-! What a correct frame brings about (R355 to R357). -/

/-- An acknowledgement for a frame (R355); `tie`: it came in the cycle in which the timer expired. -/
def Dev.ackFor (d : Dev) (src seq : Nat) (tie : Bool) : Dev :=
  match d.rmb.acks.find? (fun a => a.tx.seq == seq && a.tx.dst == src) with
  | none => d
  | some a =>
    let d := if tie ∧ a.timing then d.count A.RMB_TIE else d
    let mine := fun (t : RmbTx) => !t.hw && t.seq == seq
    let d := d.modRmb (fun r => { r with
      txq := if a.timing then r.txq else r.txq.filter (fun t => !mine t)
      hold := if a.timing then r.hold else r.hold.filter (fun t => !mine t)
      burst := r.burst.map (fun b => if mine b.1 ∧ !a.timing then ({ b.1 with acked := true }, b.2) else b) })
    d.rmbComplete a.tx 1

/-- The value of a 40-bit count nearest to a time, both in eighths of a ns (R356); of two as near, either. -/
def Dev.expand40 (d : Dev) (t : Int) (x : Nat) : Int × Dev :=
  let r := (t - x) % 2 ^ 40
  let (up, d) := if r = 2 ^ 39 then d.anyBool else (decide (2 ^ 39 < r), d)
  (t - r + (if up then 2 ^ 40 else 0), d)

/-- An EVM of −20 dB or better. -/
def evmGood (evm : Int) : Bool := decide (evm ≤ -80)

/-- A response to the outstanding time request (R356, R357). -/
def Dev.timeResp (d : Dev) (x : RmbRx) (bytes : List Byte) (evm : Int) (tie : Bool) : Dev :=
  match d.rmb.exch with
  | none => d
  | some e => match e.t1 with
    | none => d
    | some t1 =>
      if e.seq ≠ byteAt bytes 0 % 64 ∨ hdrSrc x.hdr ≠ d.getF F.RMB_TT_PEER then d
      else
        let d := if tie then d.count A.RMB_TIE else d
        let d := d.modRmb (fun r => { r with exch := none })
        if !evmGood evm ∨ e.stepped then d.count A.RMB_TT_DROP
        else
          let (t2, d) := d.expand40 t1 (beAt bytes 1 5)
          let (t3, d) := d.expand40 x.ts (beAt bytes 6 5)
          let ofs := ((t1 - t2) + (x.ts - t3)) * 4096 - sgn 32 (d.reg A.RMB_TT_ASYM).toNat
          let d := (d.setPair A.RMB_TT_OFS_LO A.RMB_TT_OFS_HI (unsgn 48 ofs)).setB F.RMB_INT_STAT_TT_DONE true
          let d := d.rmbEvent 0x10 e.seq ofs []
          if d.flag F.RMB_TT_TT_SERVO then d.measCommit 2 (sgn 48 (unsgn 48 ofs)) else d

/-- The effects of a frame received whole and correct, addressed to this unit alone. -/
def Dev.frameIn (d : Dev) (x : RmbRx) (bytes : List Byte) (evm : Int) (tie : Bool) : Dev :=
  let h := x.hdr
  let src := hdrSrc h
  match hdrType h with
  | 1 => if h.toNat.testBit 59 then d.rmbQueueHw { type := 2, dst := src, n := 1, ref := hdrSeq h } else d
  | 2 => d.ackFor src (byteAt bytes 0 % 64) tie
  | 3 => if evmGood evm then d.rmbQueueHw { type := 4, dst := src, n := 11, ref := hdrSeq h, t2 := (x.ts % 2 ^ 40).toNat }
      else d.count A.RMB_TT_DROP
  | 4 => d.timeResp x bytes evm tie
  | _ => d

/-- The last CRC byte has come (R349): the record is written, and a correct frame with a slot has its effect. -/
def Dev.payloadIn (d : Dev) (rx : RxPayload) (tie : Bool) : Writes × Dev :=
  match d.rmb.rx with
  | none => ([], d)
  | some x =>
    let n := hdrLen x.hdr
    if d.rxState ≠ rxPayload ∨ rx.bytes.length ≠ n + 4 then ([], d)
    else
      let bytes := rx.bytes.take n
      let good := crc32 bytes == beAt rx.bytes n 4
      let src := hdrSrc x.hdr
      let seq := hdrSeq x.hdr
      let dup := good && d.rmb.seen.contains (src, seq)
      let d := d.setRx rxSearch none
      let d := if good then d else d.count A.RMB_PAY_ERR
      let (kept, ws, d) := d.rmbRecord x (if good then 0 else 1) dup x.hdr bytes rx
      if !good ∨ !kept then (ws, d)
      else
        let d := d.modRmb (fun r => { r with seen := ((src, seq) :: r.seen.filter (fun e => e.1 != src)).take 16 })
        (ws, if hdrDst x.hdr = d.unitId then d.frameIn x bytes rx.evm tie else d)

/-- PAYLOAD_RECEIVE (R349). -/
def execPayloadReceive (rx : RxPayload) (tie : Bool) (s : State) : Host.Outcome State Fault Refusal :=
  runW s (fun _ d => d.payloadIn rx tie)

/-- RX_SLOT_FREE (R354). -/
def execRxSlotFree (slot : Fin 16) (s : State) : Host.Outcome State Fault Refusal :=
  run s (·.modRmb (fun r => { r with slots := setBitN r.slots slot.val false }))

/-- A read of RMB_RXQ (R354). -/
def Dev.rxqRead (d : Dev) : Dev := { d with rdata := d.rxqWord, rmb := { d.rmb with rxq := d.rmb.rxq.drop 1 } }

/-- RXQ_READ (R354). -/
def execRxqRead (_r : Requester) (s : State) : Host.Outcome State Fault Refusal := run s (·.rxqRead)

/-! Timers (R355, R357, R361). -/

/-- The acknowledgement timer of a frame expires (R355). -/
def Dev.ackTimeout (d : Dev) (seq : Nat) (tie : Bool) : Dev :=
  match d.rmb.acks.find? (fun a => a.tx.seq == seq && a.timing) with
  | none => d
  | some a =>
    if tie then d.count A.RMB_TIE
    else if a.tx.tries ≤ d.getF F.RMB_ACK_RETRY then
      d.modRmb (fun r => { r with
        acks := r.acks.map (fun b => if b.tx.seq = seq then { b with timing := false } else b)
        txq := rmbInsert r.txq { a.tx with at_ := none } })
    else d.rmbComplete a.tx 2

/-- ACK_TIMEOUT (R355). -/
def execAckTimeout (seq : BitVec 6) (tie : Bool) (s : State) : Host.Outcome State Fault Refusal := run s (·.ackTimeout seq.toNat tie)

/-- MAX_MS pass without a response (R357). -/
def Dev.ttTimeout (d : Dev) (tie : Bool) : Dev :=
  match d.rmb.exch with
  | some e =>
    if e.t1.isNone then d
    else if tie then d.count A.RMB_TIE
    else (((d.modRmb (fun r => { r with exch := none })).count A.RMB_TT_DROP).setB F.RMB_INT_STAT_TT_TIMEOUT true).rmbEvent 0x11 e.seq 0 []
  | none => d

/-- TT_TIMEOUT (R357). -/
def execTtTimeout (tie : Bool) (s : State) : Host.Outcome State Fault Refusal := run s (·.ttTimeout tie)

/-- TIME_REQ_INTERVAL (R361): the runtime firmware queues a TIME_REQ to PEER. -/
def Dev.timeReq (d : Dev) : Dev :=
  if !d.fw.running ∨ d.rmb.interval = 0 ∨ !d.flag F.RMB_TT_REQ_EN ∨ 16 ≤ d.rmbQueued then d
  else d.rmbQueue { type := 3, dst := d.getF F.RMB_TT_PEER, n := 1, fw := true }

/-- TIME_REQ_INTERVAL (R361). -/
def execTimeReqInterval (s : State) : Host.Outcome State Fault Refusal := run s (·.timeReq)

/-! Commands (R361). -/

/-- Whether the Rambler's channel, a carrier of 10.368 MHz at `f`, meets the first, second and sixth rules of R211 (R338). -/
def Dev.rmbChannelOk (d : Dev) (f : Nat) (g : Nat) (dir : Dir) : Bool :=
  let lo : Rat := (f : Rat) - 5184000
  let hi : Rat := (f : Rat) + 5184000
  let zones := (d.plan.filter (fun c => c.g == g)).map (fun c => zoneOf (c.ul - c.bw / 2) (c.ul + c.bw / 2))
  decide (((f : Rat) - d.bandFreq g dir).abs + 5184000 ≤ 400000000 ∧ 600000000 ≤ lo ∧ hi ≤ 7125000000) &&
    (dir == .tx || ((zoneOf lo hi).isSome && zones.all (fun z => z == zoneOf lo hi)))

/-- RMB_CFG. -/
def cmdRmbCfg (pl : List Byte) : Body := devBody fun d =>
  let tx := byteAt pl 0
  let r0 := byteAt pl 1
  let r1 := byteAt pl 2
  let f := leAt pl 4 8
  let gt := d.bandGroup (tileOf tx)
  let gr := d.bandGroup (tileOf r0)
  if 63 < tx ∨ 63 < r0 ∨ 63 < r1 ∨ gr ≠ d.bandGroup (tileOf r1) ∨ 63 < byteAt pl 3 ∨ 0xFFF < leAt pl 12 2 ∨ 15 < byteAt pl 18 ∨
      !d.rmbChannelOk f gt .tx ∨ !d.rmbChannelOk f gr .rx then badParam d
  else match carWord ((f : Rat) - d.bandFreq gt .tx), carWord ((f : Rat) - d.bandFreq gr .rx) with
    | some wt, some wr =>
      let d := d.setReg A.RMB_PATH (wordOf [(16, r1), (8, r0), (0, tx)])
      let d := d.setF F.RMB_TXCFG_ATT (byteAt pl 3)
      let d := (d.setPair A.RMB_TX_FTW_LO A.RMB_TX_FTW_HI wt).setPair A.RMB_RX_FTW_LO A.RMB_RX_FTW_HI wr
      let d := d.setReg A.RMB_WIN_CFG (wordOf [(16, leAt pl 14 2), (8, byteAt pl 17), (0, byteAt pl 16)])
      let d := d.setF F.RMB_RXCFG_CAPTURE_DB (byteAt pl 18)
      let d := (d.setF F.RMB_CTRL_UNIT (leAt pl 12 2)).setB F.RMB_CTRL_TX_EN true
      okR (d.setB F.RMB_CTRL_RX_EN true)
    | _, _ => badParam d

/-- The largest N that fits a window (R348). -/
def Dev.rmbLargest (d : Dev) : Nat :=
  let ns : Int := d.getF F.RMB_WIN_CFG_WIN_US * 1000 - d.getF F.RMB_TXCFG_TX_OFS * 100 - d.getF F.RMB_WIN_CFG_RANGE_US * 1000
  ((ns * 24 / 3125 - 152) / 4).toNat

/-- RMB_SEND. -/
def cmdRmbSend (h : CmdHdr) (pl : List Byte) : Body := devBody fun d =>
  let type := byteAt pl 0
  let b := byteAt pl 1
  let dst := leAt pl 2 2
  let n := leAt pl 12 2
  let ns := leAt pl 8 4
  if !d.ready 14 then notReady d (2 ^ 14)
  else if !(type == 1 || type == 5) ∨ 0xFFF < dst ∨ n = 0 ∨ 2048 < n ∨ pl.length ≠ 16 + (if type = 1 then n else 0) ∨
      (b.testBit 2 ∧ 1000000000 ≤ ns) then badParam d
  else if d.rmbLargest < n then
    let (p, d) := d.anyNat
    limitR d p (d.rmbLargest)
  else if 16 ≤ d.rmbQueued then busyR d
  else
    let p : PendOp := ⟨h.mb.val, h.tag.toNat, h.seq.toNat, 0x6002, [n]⟩
    (.pending [n], d.rmbQueue { type := type, ackReq := b.testBit 0 && dst != 0xFFF, pri := b.testBit 1, dst := dst,
                                at_ := if b.testBit 2 then some (ns, leAt pl 4 4) else none, n := n, fw := true, op := some p }, [])

/-- RMB_TT. -/
def cmdRmbTt (pl : List Byte) : Body := devBody fun d =>
  let b := byteAt pl 0
  if byteAt pl 1 = 0 ∨ 0xFFF < leAt pl 2 2 then badParam d
  else
    let d := d.setReg A.RMB_TT (wordOf [(29, b2n (b.testBit 1)), (28, b2n (b.testBit 0)), (16, leAt pl 2 2), (0, leAt pl 4 2)])
    okR ((d.setReg A.RMB_TT_ASYM (BitVec.ofNat 32 (leAt pl 8 4))).modRmb (fun r => { r with interval := byteAt pl 1 }))

/-- COEX_CFG. -/
def cmdCoexCfg (pl : List Byte) : Body := devBody fun d =>
  if 15 < byteAt pl 2 then badParam d
  else okR (d.coexWrite (byteAt pl 2 * 2 ^ 16 + byteAt pl 1 * 2 ^ 8 + byteAt pl 0 % 4))

/-- RMB_STAT: the counters it reads are cleared. -/
def cmdRmbStat (_pl : List Byte) : Body := devBody fun d =>
  let (b, d) := d.takeRcs ((List.range 13).map (A.RMB_TX_CNT + 4 * ·))
  okR d (d.liveBytes A.RMB_STATUS 1 ++ d.liveBytes A.RMB_TT_OFS_LO 2 ++ b)

/-- RMB_CFG (R361). -/
def execRmbCfg (h : CmdHdr) (pl : List Byte) (s : State) : Host.Outcome State Fault Refusal :=
  runW s (runCmd h 0x6001 (lenIs 20) pl (cmdRmbCfg pl))

/-- RMB_SEND (R361). -/
def execRmbSend (h : CmdHdr) (pl : List Byte) (s : State) : Host.Outcome State Fault Refusal :=
  runW s (runCmd h 0x6002 (lenIn 16 2064) pl (cmdRmbSend h pl))

/-- RMB_TT (R361). -/
def execRmbTt (h : CmdHdr) (pl : List Byte) (s : State) : Host.Outcome State Fault Refusal :=
  runW s (runCmd h 0x6003 (lenIs 12) pl (cmdRmbTt pl))

/-- COEX_CFG (R361). -/
def execCoexCfg (h : CmdHdr) (pl : List Byte) (s : State) : Host.Outcome State Fault Refusal :=
  runW s (runCmd h 0x6004 (lenIs 4) pl (cmdCoexCfg pl))

/-- RMB_STAT (R361). -/
def execRmbStat (h : CmdHdr) (pl : List Byte) (s : State) : Host.Outcome State Fault Refusal :=
  runW s (runCmd h 0x6005 (lenIs 0) pl (cmdRmbStat pl))

end Sys2Proof.Machine
end

