-- ==== Sys2Proof/Machine/Timetable.lean ====
section
/-! DEFINITION. The Timetable: banks, entries, levels, TT_IN and TT_OUT, and its commands (09_time.md, R321 to R333). -/

namespace Sys2Proof.Machine

/-! Entries (R322). -/

/-- The words of a staged and of an active entry. -/
def Dev.ttStaged (d : Dev) (e : Nat) : Nat × Nat := ((d.reg (A.TTBL_STGD_W0 e)).toNat, (d.reg (A.TTBL_STGD_W1 e)).toNat)
def Dev.ttActive (d : Dev) (e : Nat) : Nat × Nat := ((d.reg (A.TTBL_ACTV_W0 e)).toNat, (d.reg (A.TTBL_ACTV_W1 e)).toNat)

/-- Fields of an entry. -/
def ttEn (w : Nat × Nat) : Bool := w.1.testBit 31
def ttMode (w : Nat × Nat) : Nat := bitsN w.1 29 2
def ttAction (w : Nat × Nat) : Nat := bitsN w.1 27 2
def ttTarget (w : Nat × Nat) : Nat := bitsN w.1 20 7
def ttPeriod (w : Nat × Nat) : Nat := 2 ^ min 10 (bitsN w.1 16 4)
def ttFrame (w : Nat × Nat) : Nat := bitsN w.1 0 10
def ttOffset (w : Nat × Nat) : Nat := bitsN w.2 0 24

/-- Whether a staged entry is refused at COMMIT: in use, with a reserved code or an OFFSET past the frame. -/
def ttBad (w : Nat × Nat) : Bool :=
  ttEn w && (decide (2 ≤ ttMode w) || decide (60 ≤ ttTarget w) || decide (9999999 < ttOffset w))

/-- Whether the staged bank is refused. -/
def Dev.ttRefused (d : Dev) : Bool := (List.range 256).any (fun e => ttBad (d.ttStaged e))

/-- A write of COMMIT (R321, R322). -/
def Dev.ttCommit (d : Dev) : Dev :=
  if d.ttRefused then (d.setB F.TTBL_INT_STAT_CMD_ERR true).count A.TTBL_CMD_ERR
  else d.setB F.TTBL_STAT_PEND true

/-- TTBL_COMMIT (R321). -/
def execTtblCommit (s : State) : Host.Outcome State Fault Refusal := run s (·.ttCommit)

/-- A write of COPY (R321). -/
def Dev.ttCopy (d : Dev) : Dev :=
  d.forN 256 (fun d e => (d.setReg (A.TTBL_STGD_W0 e) (d.reg (A.TTBL_ACTV_W0 e))).setReg (A.TTBL_STGD_W1 e) (d.reg (A.TTBL_ACTV_W1 e)))

/-- TTBL_COPY (R321). -/
def execTtblCopy (s : State) : Host.Outcome State Fault Refusal := run s (·.ttCopy)

/-- A frame boundary: a committed bank becomes active; levels keep their values (R321, R331). -/
def Dev.ttSwap (d : Dev) : Dev :=
  if !d.flag F.TTBL_STAT_PEND then d
  else
    let d := d.forN 256 (fun d e =>
      (d.setReg (A.TTBL_ACTV_W0 e) (d.reg (A.TTBL_STGD_W0 e))).setReg (A.TTBL_ACTV_W1 e) (d.reg (A.TTBL_STGD_W1 e)))
    ((d.setB F.TTBL_STAT_PEND false).setB F.TTBL_INT_STAT_SWAPPED true).timeDone 0x08 0x5011

/-! Targets (R323). -/

/-- Whether a target is a level. -/
def ttIsLevel (t : Nat) : Bool := decide (t < 36 ∨ t = 44 ∨ t = 45)

/-- A level. -/
def Dev.ttLevel (d : Dev) (t : Nat) : Bool :=
  if t < 32 then (d.reg A.TTBL_OUT).toNat.testBit t
  else if t < 36 then (d.getF F.TTBL_STAT_ONS).testBit (t - 32)
  else if t = 44 then d.flag F.TTBL_STAT_RMB_WIN
  else if t = 45 then d.flag F.TTBL_STAT_RECIP
  else false

/-- A level set; a change of CAL_RECIP opens or closes the reciprocity window (R298). -/
def Dev.ttSet (d : Dev) (t : Nat) (b : Bool) : Dev :=
  if d.ttLevel t = b then d
  else if t < 32 then d.setReg A.TTBL_OUT (BitVec.ofNat 32 (setBitN (d.reg A.TTBL_OUT).toNat t b))
  else if t < 36 then d.setF F.TTBL_STAT_ONS (setBitN (d.getF F.TTBL_STAT_ONS) (t - 32) b)
  else if t = 44 then d.setB F.TTBL_STAT_RMB_WIN b
  else (d.setB F.TTBL_STAT_RECIP b).recipLevel b

/-- The level a TT_OUT land drives, none while it is high-impedance (R327). -/
def Dev.ttOut (d : Dev) (n : Nat) : Option Bool :=
  if !(d.getF F.TTBL_OUT_OE_OE).testBit n then none
  else if d.mod = .safe ∨ d.ttbl.safeHold.testBit n then some ((d.getF F.TTBL_OUT_SAFE_SAFE).testBit n)
  else some ((d.ttLevel n) != ((d.getF F.TTBL_OUT_POL_POL).testBit n))

/-- TX_ON and RX_ON of a band group (R323): BG0 governs all four tiles while SPLIT is clear. -/
def Dev.txOn (d : Dev) (g : Nat) : Bool := d.ttLevel (32 + (if d.flag F.TILE_GROUP_SPLIT then g else 0))
def Dev.rxOn (d : Dev) (g : Nat) : Bool := d.ttLevel (34 + (if d.flag F.TILE_GROUP_SPLIT then g else 0))

/-- A doorbell for script `n` on MB3 (R328); one that finds the script running or waiting is skipped and counted (R422). -/
def Dev.scriptBell (d : Dev) (n : Nat) : Dev :=
  if !d.fw.running then d
  else if d.fw.bells.contains n ∨ d.fw.scriptsRunning.any (fun x => x.1 == n) then d.count (A.MBOX_m_DROP 3)
  else d.modFw (fun f => { f with bells := f.bells ++ [n] })

/-- An event target fires (R323). -/
def Dev.ttEvent (d : Dev) (t : Nat) : Dev :=
  if 36 ≤ t ∧ t ≤ 39 then d.calEpoch (t - 36)
  else if 40 ≤ t ∧ t ≤ 43 then d.capTrigger (t - 40)
  else if t = 46 ∨ t = 47 then d.monTrig (t - 46)
  else if 48 ≤ t ∧ t ≤ 51 then d.auxStep (t - 48)
  else if 52 ≤ t ∧ t ≤ 59 then d.scriptBell (t - 52)
  else d

/-- An action on a level target (R322, R323, R327): a pending clear is cancelled; TX_ON stays low in SAFE; a TT_OUT land
leaves its SAFE level once the module has left SAFE. -/
def Dev.ttAct (d : Dev) (t action : Nat) : Dev :=
  if d.mod = .safe ∧ (t = 32 ∨ t = 33) then d
  else
    let d := { d with ttbl := { d.ttbl with
      pulses := (d.ttbl.pulses.filter (· != t)) ++ (if action = 3 then [t] else [])
      safeHold := if d.mod ≠ ModState.safe ∧ t < 32 then setBitN d.ttbl.safeHold t false else d.ttbl.safeHold } }
    d.ttSet t (match action with
      | 0 => true
      | 1 => false
      | 2 => !d.ttLevel t
      | _ => true)

/-- One occurrence of an entry: its record, the end of a one-shot, and its action (R322 to R324, R495). -/
def Dev.ttFireEntry (d : Dev) (e : Nat) : Dev :=
  let w := d.ttActive e
  let t := ttTarget w
  let d := d.trace 5 (e * 2 ^ 88 + t * 2 ^ 81 + ttAction w * 2 ^ 79)
  let d := if ttMode w = 1 then d.setB ⟨A.TTBL_ACTV_W0 e, 31, 1⟩ false else d
  if ttIsLevel t then d.ttAct t (ttAction w) else d.ttEvent t

/-- Whether an active entry has an occurrence in a frame (R322). -/
def ttIn (w : Nat × Nat) (f : Int) : Bool :=
  ttEn w && (if ttMode w = 0 then (f - (ttFrame w : Int)) % (ttPeriod w : Int) == 0 else (f - (ttFrame w : Int)) % 1024 == 0)

/-- TT_ENTRY_FIRE (R324): an entry of the present frame whose offset has been reached. -/
def Dev.ttFire (d : Dev) (e : Nat) : Dev :=
  let w := d.ttActive e
  if d.flag F.TTBL_CTRL_EN ∧ ttIn w d.frameNow ∧ d.frameStart d.frameNow + (ttOffset w * airNs : Nat) ≤ d.nowAir then d.ttFireEntry e
  else d

/-- TT_ENTRY_FIRE (R324). -/
def execTtEntryFire (e : Fin 256) (s : State) : Host.Outcome State Fault Refusal := run s (·.ttFire e.val)

/-- TT_PULSE_END (R323): PULSE_W has passed and no later action has come. -/
def Dev.ttPulseEnd (d : Dev) (t : Nat) : Dev :=
  if d.ttbl.pulses.contains t then
    ({ d with ttbl := { d.ttbl with pulses := d.ttbl.pulses.filter (· != t) } }).ttSet t false
  else d

/-- TT_PULSE_END (R323). -/
def execTtPulseEnd (target : Fin 64) (s : State) : Host.Outcome State Fault Refusal := run s (·.ttPulseEnd target.val)

/-- An occurrence put in its place, by time and then index. -/
def ttInsert (x : Int × Nat) : List (Int × Nat) → List (Int × Nat)
  | [] => [x]
  | y :: l => if y.1 < x.1 ∨ (y.1 = x.1 ∧ y.2 < x.2) then y :: ttInsert x l else x :: y :: l

/-- The occurrences of the active bank in a passed-over interval, from `lo` (not included) to `hi` (not included), in time
order and then index order (R325). -/
def Dev.ttPassed (d : Dev) (lo hi : Int) : List (Int × Nat) :=
  let ofs : Int := d.frameOfs * airNs
  let len : Int := 10000000 * airNs
  let f0 := (lo - ofs) / len
  let n := ((hi - ofs) / len - f0 + 1).toNat
  let l := (List.range n).flatMap (fun i => (List.range 256).filterMap (fun e =>
    let w := d.ttActive e
    let at_ := d.frameStart (f0 + i) + (ttOffset w * airNs : Nat)
    if ttIn w (f0 + i) ∧ lo < at_ ∧ at_ < hi then some (at_, e) else none))
  l.foldr ttInsert []

/-- Entries fired by a forward step (R325): a one-shot only once. -/
def Dev.ttStep (d : Dev) (lo hi : Int) : Dev :=
  if !d.flag F.TTBL_CTRL_EN ∨ !(List.range 256).any (fun e => ttEn (d.ttActive e)) then d
  else d.forL (d.ttPassed lo hi) (fun d x =>
    if ttEn (d.ttActive x.2) then
      ((d.count A.TTBL_STEP_FIRED).setB F.TTBL_INT_STAT_STEP_FIRE true).ttFireEntry x.2
    else d)

/-! TT_IN (R326). -/

/-- The queue of an input. -/
def Dev.ttFifo (d : Dev) (i : Nat) : List TtEdge := Tab.get (fun _ => []) i d.ttbl.fifos
def Dev.setTtFifo (d : Dev) (i : Nat) (l : List TtEdge) : Dev :=
  { d with ttbl := { d.ttbl with fifos := Tab.set (fun _ => []) i l d.ttbl.fifos } }

/-- TT_IN_EDGE (R326): an edge that has passed the 10 ns filter; `tooClose`: less than 100 ns after the one before. -/
def Dev.ttEdge (d : Dev) (i : Nat) (rising tooClose : Bool) : Dev :=
  let sel := bitsN (d.reg A.TTBL_IN_CFG).toNat (2 * i) 2
  if !sel.testBit (if rising then 0 else 1) then d
  else if tooClose ∨ 8 ≤ (d.ttFifo i).length then (d.count A.TTBL_IN_LOST).setB F.TTBL_INT_STAT_IN_OVF true
  else
    let e : TtEdge := { rising := rising, ns := d.nowNs, frac := d.time.now.frac / 2 ^ 29, secLo := d.nowSecLo }
    (d.setTtFifo i (d.ttFifo i ++ [e])).setF F.TTBL_INT_STAT_IN_AVAIL (setBitN (d.getF F.TTBL_INT_STAT_IN_AVAIL) i true)

/-- TT_IN_EDGE (R326). -/
def execTtInEdge (i : Fin 8) (rising tooClose : Bool) (s : State) : Host.Outcome State Fault Refusal :=
  run s (·.ttEdge i.val rising tooClose)

/-- A read of TTBL_INn_INFO: the head leaves, its time latched (R326). -/
def Dev.ttInRead (d : Dev) (r : Requester) (i : Nat) : Dev :=
  let ws := ttInWords (d.ttFifo i)
  let d := d.latchWords r (A.TTBL_INn_NS i) (ws.drop 1)
  { d.setTtFifo i ((d.ttFifo i).drop 1) with rdata := ws.getD 0 0 }

/-- TT_IN_READ (R326). -/
def execTtInRead (r : Requester) (i : Fin 8) (s : State) : Host.Outcome State Fault Refusal := run s (·.ttInRead r i.val)

/-! Commands (R330). -/

/-- TT_WRITE. -/
def cmdTtWrite (pl : List Byte) : Body := devBody fun d =>
  let e := byteAt pl 0
  let n := byteAt pl 1
  if n = 0 ∨ 64 < n ∨ 256 < e + n ∨ pl.length ≠ 4 + 8 * n then badParam d
  else okR (d.forN n (fun d i =>
    (d.storeRw (A.TTBL_STGD_W0 (e + i)) (leAt pl (4 + 8 * i) 4)).storeRw (A.TTBL_STGD_W1 (e + i)) (leAt pl (8 + 8 * i) 4)))

/-- TT_COMMIT. -/
def cmdTtCommit (_pl : List Byte) : Body := devBody fun d =>
  if d.ttRefused then badParam d else (.pending [], d.ttCommit, [])

/-- TT_READ. -/
def cmdTtRead (pl : List Byte) : Body := devBody fun d =>
  let e := byteAt pl 0
  let n := byteAt pl 1
  let b := byteAt pl 2
  if n = 0 ∨ 64 < n ∨ 256 < e + n ∨ 1 < b then badParam d
  else okR d (d.regsBytes (if b = 0 then A.TTBL_ACTV_W0 e else A.TTBL_STGD_W0 e) (2 * n))

/-- The command frames of a script, each with its 64-bit header; none where they do not fill the bytes (R330). -/
def scriptFrames : Nat → List Byte → Option (List (List Byte))
  | 0, [] => some []
  | 0, _ => none
  | n + 1, bs =>
    let len := 8 + leAt bs 3 2
    if bs.length < 8 ∨ bs.length < len then none
    else (scriptFrames n (bs.drop len)).map (fun l => bs.take len :: l)

/-- TT_SCRIPT. -/
def cmdTtScript (pl : List Byte) : Body := devBody fun d =>
  let i := byteAt pl 0
  let n := byteAt pl 1
  if 5 < i ∨ 16 < n then badParam d
  else match scriptFrames n (pl.drop 4) with
    | none => badParam d
    | some fs =>
      if d.fw.scriptsRunning.any (fun x => x.1 == i) then busyR d
      else okR (d.modFw (fun f => { f with scripts := Tab.set (fun _ => []) i fs f.scripts }))

/-- TT_WRITE (R330). -/
def execTtWrite (h : CmdHdr) (pl : List Byte) (s : State) : Host.Outcome State Fault Refusal :=
  runW s (runCmd h 0x5010 (lenIn 12 516) pl (cmdTtWrite pl))

/-- TT_COMMIT (R330). -/
def execTtCommit (h : CmdHdr) (pl : List Byte) (s : State) : Host.Outcome State Fault Refusal :=
  runW s (runCmd h 0x5011 (lenIs 0) pl (cmdTtCommit pl))

/-- TT_READ (R330). -/
def execTtRead (h : CmdHdr) (pl : List Byte) (s : State) : Host.Outcome State Fault Refusal :=
  runW s (runCmd h 0x5012 (lenIs 4) pl (cmdTtRead pl))

/-- TT_SCRIPT (R330). -/
def execTtScript (h : CmdHdr) (pl : List Byte) (s : State) : Host.Outcome State Fault Refusal :=
  runW s (runCmd h 0x5013 (lenIn 4 4096) pl (cmdTtScript pl))

end Sys2Proof.Machine
end

