-- ==== Sys2Proof/Machine/Boundary.lean ====
section
/-! DEFINITION. The strobes of R313: what a symbol, slot, subframe or frame boundary brings into force, and the symbols
that carriers send and receive (06_rf_paths.md, R232 to R238; 02_link_lanes.md, R80; 04_beamforming.md, R131 to R151). -/

namespace Sys2Proof.Machine

/-! What a boundary brings into force (R24), apart from the symbol it starts. -/

/-- The words of a carrier's table that its symbols run with (R244). -/
def Dev.carInForce (d : Dev) (k : Nat) : Dev :=
  let c : CarSt := ⟨d.reg (A.CARk_CFG k), d.reg (A.CARk_GAIN k), d.reg (A.CARk_UL_WIN k)⟩
  d.modRf (fun r => { r with cars := Tab.set (fun _ => {}) k c r.cars })

/-- TX_EN, RX_EN and the shed mask of a tile in force (R238), and released comparator mutes over (R377). -/
def Dev.masksInForce (d : Dev) (t : Nat) : Dev :=
  let d := d.modTile t (fun x => { x with
    txEn := d.getF (F.TILE_PATH_EN_TX_EN t)
    rxEn := d.getF (F.TILE_PATH_EN_RX_EN t)
    shed := d.getF (F.TILE_SHED_TX_SHED t) })
  d.modFe (fun f => { f with resumeWait := (List.range 16).foldl (fun m i => setBitN m (16 * t + i) false) f.resumeWait })

/-- What waits for a symbol boundary of a carrier: its table, its frequency words, and for the lowest enabled carrier of
a band group the group's band words, path masks and predistortion switches (R214, R238, R249, R257). -/
def Dev.symChanges (d : Dev) (k : Fin 8) : Dev :=
  let g := d.carGroup k
  let d := ((d.carInForce k).ncoApply (.carrier k .tx)).ncoApply (.carrier k .rx)
  if d.lowCar g ≠ some k.val then d
  else
    let d := (d.ncoApply (groupNco g .tx)).ncoApply (groupNco g .rx)
    let d := d.forL (d.groupTiles g) (fun d t => d.masksInForce t)
    (d.dpdEnable g).dpdBoundary g

/-- What waits for a slot boundary of a carrier: locked weight sets, the reciprocity table at the lowest enabled carrier,
tile sleeps, and what the firmware does once a slot (R144, R203, R242, R278, R301). -/
def Dev.slotChanges (d : Dev) (k : Nat) : Dev :=
  let d := (d.beamSlot k).cluRestart
  let d := if d.firstCar = some k then d.recipSwap else d
  let d := d.sleepAt k
  let g := d.carGroup k
  if d.lowCar g ≠ some k then d
  else (d.modDpd (fun x => { x with slotDone := setBitN x.slotDone g false })).fwCommit g

/-! The symbols in progress on the tiles. -/

/-- Some descriptor with WSRC other than 0b11 is in force on a band group's carriers now (R237). -/
def Dev.groupSends (d : Dev) (g : Nat) : Bool :=
  (List.range 8).any (fun k => d.flag (F.CARk_STAT_ACTIVE k) && d.carGroup k == g &&
    d.fhp.descs.any (fun e => e.carrier == k && !e.ul && e.kind == 0 && e.wsrc != 3 && e.symbols.contains (d.posNow k false).1))

/-- TX paths held powered by a window of the Rambler or of the reciprocity measurement (R238, R337). -/
def Dev.heldPaths (d : Dev) (t : Nat) : Nat :=
  if d.cal.recip.win.isSome then 0xFFFF else maskOf ((d.rmbPaths.filter (fun p => tileOf p == t)).map (· % 16))

/-- The paths of a tile that have something to send now (R237), and those that receive; the others are powered down. -/
def Dev.pathsBusy (d : Dev) (t : Nat) : Dev :=
  let x := d.tile t
  let tx := if x.txSyms.isEmpty ∨ (d.flag (F.TILE_CTRL_AUTO_SHUT t) ∧ !d.groupSends (d.bandGroup t)) then 0
    else x.txEn - Nat.land x.txEn x.shed
  let rx := if x.rxSyms.isEmpty then 0 else x.rxEn
  let d := d.capMark (fun p => tileOf p == t && x.busy.testBit (p % 16) && !tx.testBit (p % 16)) 6
  let d := d.modTile t (fun x => { x with busy := tx, rxBusy := rx })
  let on := Nat.lor tx (d.heldPaths t)
  let down := if d.awake t then 0xFFFF - on % 65536 else 0
  if down = x.down then d else d.setDown t down

/-- Whether a chain of a tile carries the symbol that starts at an instant (R225). -/
def Dev.chainOn (d : Dev) (t : Nat) (dir : Dir) (start : Int) : Bool :=
  let x := d.tile t
  d.flag (runF t dir) && !d.flag (stoppedF t dir) && d.awake t &&
    decide ((match dir with | .tx => x.txFrom | .rx => x.rxFrom) ≤ start)

/-- Symbols with the one of carrier `k` replaced: whether it is lost off-lock and not counted by another carrier's symbol of
the same start (R232, R233). -/
def symStart (l : List SymSt) (k : Nat) (start : Int) (go locked : Bool) : List SymSt × Bool :=
  let rest := l.filter (fun x => x.carrier != k)
  if go then (rest ++ [⟨k, start, !locked⟩], !locked && !rest.any (fun x => x.counted && x.start == start)) else (rest, false)

/-- A carrier's downlink symbol starts on a tile, if it is sent (R232, R236). -/
def Dev.txStart (d : Dev) (t k : Nat) (start : Int) (sent : Bool) : Dev :=
  let (l, lost) := symStart (d.tile t).txSyms k start (sent && d.chainOn t .tx start) (d.pll t == plLocked)
  let d := d.modTile t (fun x => { x with txSyms := l, muted := x.muted + b2n lost })
  if lost then d.count (A.TILE_TX_UNLOCK_SYM t) else d

/-- A carrier's uplink symbol starts on a tile, if it is received (R233, R236). -/
def Dev.rxStart (d : Dev) (t k : Nat) (start : Int) (got : Bool) : Dev :=
  let (l, lost) := symStart (d.tile t).rxSyms k start (got && d.chainOn t .rx start) (d.pll t == plLocked)
  let d := d.modTile t (fun x => { x with rxSyms := l })
  if lost then d.count (A.TILE_RX_UNLOCK_SYM t) else d

/-- R80: whether a symbol that would be sent is muted because the UPSTREAM port is down. -/
def Dev.upMute (d : Dev) (k : Nat) (pos : AirPos) : Dev :=
  let up : Bool := match d.upstream with
    | some x => d.portUp x
    | none => true
  let full := d.fhp.complete.contains (k, pos)
  let mute := if d.fhp.downMute then !(up && full) else !up && !full
  let d := d.modFhp (fun f => { f with downMute := mute })
  if mute then d.count A.LINK_MUTE_SYM else d

/-- TXMUTE_N has been high for 1 µs: TX resumes (R378). -/
def Dev.muteOver (d : Dev) : Dev :=
  match d.fe.muteRose with
  | some t => if t.air + 1000 * (airNs : Int) ≤ d.nowAir then d.modFe (fun f => { f with muteRose := none }) else d
  | none => d

/-! What the environment reports of a symbol. -/

/-- A layer's data on a PRB cannot be used: it is sent as zero (R107, R462). -/
def Dev.losePrb (d : Dev) (k : Nat) (pos : AirPos) (layer prb : Nat) : Dev :=
  match d.secOn k layer pos prb, d.descOn k false pos prb with
  | some s, some e =>
    if !e.layers.testBit layer then d
    else
      let lo := prbBits s.comp * (prb - s.start)
      let bits := (s.data.flatMap byteBits).zipIdx.map (fun b => b.1 && !decide (lo ≤ b.2 ∧ b.2 < lo + prbBits s.comp))
      (d.modFhp (fun f => { f with secs := f.secs.map (fun x => if x = s then { s with data := bitsBytes s.data.length bits } else x) })).count64
        A.FHP_ZERO_PRB_LO A.FHP_ZERO_PRB_HI 1
  | _, _ => d

/-- Components saturated in a carrier's transform, in the band-group sum and in the stages of a direction (R218, R223). -/
def Dev.satCounts (d : Dev) (k : Nat) (env : SymEnv) (dir : Dir) : Dev :=
  let d := if env.sat = 0 then d else (d.count (A.CARk_SAT k) env.sat).tileInt 0 9
  let d := match d.lowCar (d.carGroup k) with
    | some j => if env.sumSat = 0 ∨ dir = Dir.rx then d else (d.count (A.CARk_SAT j) env.sumSat).tileInt 0 9
    | none => d
  d.forL env.tileSat (fun d s =>
    if s.2 = 0 then d
    else match dir with
      | .tx => (d.count64 (A.TILE_TX_SAT_LO s.1) (A.TILE_TX_SAT_HI s.1) s.2).tileInt s.1 9
      | .rx => (d.count64 (A.TILE_RX_SAT_LO s.1) (A.TILE_RX_SAT_HI s.1) s.2).tileInt s.1 9)

/-- What the actuators of a band group met (R247). -/
def Dev.dpdSeen (d : Dev) (g : Nat) (env : SymEnv) : Dev :=
  d.forL (env.dpd.filter (fun x => d.pathGroup x.1 == g)) (fun d x =>
    let d := d.setF (F.DPD_Pn_PEAK_PEAK x.1) (max (d.getF (F.DPD_Pn_PEAK_PEAK x.1)) (min 32767 x.2.2))
    if x.2.1 = 0 then d else (d.count (A.DPD_Pn_SAT x.1) x.2.1).dpdInt 7)

/-! The strobes. -/

/-- SYMBOL_BOUNDARY (R313): a downlink symbol of a carrier in force starts. -/
def Dev.symBoundary (m : Mem) (d : Dev) (k : Fin 8) (env : SymEnv) : Dev :=
  if !d.flag (F.CARk_STAT_ACTIVE k) then d
  else
    let (pos, start) := d.posNow k false
    let g := d.carGroup k
    let d := d.forL (env.tableUe.filter (fun n => d.lowCar g == some k.val && d.pathGroup n == g)) (fun d n => d.tableUe n)
    let d := ((d.dropDescs k false pos).symChanges k).muteOver
    let d := (d.retuneAt k pos).recalAt k
    let d := d.forL env.jitter (fun d u => d.logErr u.cls 4 u.synd u.word)
    let d := d.forL env.lost (fun d l => d.losePrb k pos l.1 l.2)
    let d := (d.upset env.ups).applyDl m k pos
    let d := d.forL env.late (fun d l => d.lateOut l.1 l.2)
    let sent := d.mod == .active && d.txOn g
    let d := if sent then d.upMute k pos else d
    let d := d.forL (d.groupTiles g) (fun d t => (d.txStart t k start sent).pathsBusy t)
    let d := if d.rmb.burst.isSome ∧ (d.tile (tileOf d.rmbTxPath)).txSyms.any (fun x => x.carrier == k.val && x.start == start)
      then d.count A.RMB_DL_DISPLACED else d
    ((d.satCounts k env .tx).dpdSeen g env).symbolDone k false pos

/-- SYMBOL_BOUNDARY (R313). -/
def execSymbolBoundary (k : Fin 8) (env : SymEnv) (s : State) : Host.Outcome State Fault Refusal :=
  runW s (fun m d => ([], Dev.symBoundary m d k env))

/-- UL_SYMBOL_BOUNDARY (R313, R236): an uplink symbol of a carrier in force starts. -/
def Dev.ulBoundary (d : Dev) (k : Nat) (env : SymEnv) : Dev :=
  if !d.flag (F.CARk_STAT_ACTIVE k) then d
  else
    let (pos, start) := d.posNow k true
    let g := d.carGroup k
    let d := ((d.dropDescs k true pos).upset env.ups).applyUl k pos env.beamSat
    let d := d.forL env.late (fun d l => d.lateOut l.1 l.2)
    let got := (d.mod == .ready || d.mod == .active || d.mod == .safe) && d.rxOn g
    let d := d.forL (d.groupTiles g) (fun d t => (d.rxStart t k start got).pathsBusy t)
    (d.satCounts k env .rx).symbolDone k true pos

/-- UL_SYMBOL_BOUNDARY (R313). -/
def execUlSymbolBoundary (k : Fin 8) (env : SymEnv) (s : State) : Host.Outcome State Fault Refusal := run s (·.ulBoundary k.val env)

/-- SLOT_BOUNDARY (R313). -/
def Dev.slotBoundary (d : Dev) (k : Nat) : Dev := if !d.flag (F.CARk_STAT_ACTIVE k) then d else d.slotChanges k

/-- SLOT_BOUNDARY (R313). -/
def execSlotBoundary (k : Fin 8) (s : State) : Host.Outcome State Fault Refusal := run s (·.slotBoundary k.val)

/-- A carrier that is no longer in force sends and receives nothing, and what waits for its symbols is gone. -/
def Dev.carGone (d : Dev) (k : Nat) : Dev :=
  let d := d.forN 4 (fun d t => (d.modTile t (fun x => { x with
    txSyms := x.txSyms.filter (fun y => y.carrier != k), rxSyms := x.rxSyms.filter (fun y => y.carrier != k) })).pathsBusy t)
  d.modFhp (fun f => { f with
    descs := f.descs.filter (fun e => e.carrier != k), secs := f.secs.filter (fun e => e.carrier != k) })

/-- A subframe boundary: EN of every carrier in force (R244). -/
def Dev.subframe (d : Dev) : Dev :=
  d.forN 8 (fun d k =>
    let was := d.flag (F.CARk_STAT_ACTIVE k)
    let d := d.setB (F.CARk_STAT_ACTIVE k) (d.carOn k)
    if was ∧ !d.carOn k then d.carGone k else d)

/-- SUBFRAME_BOUNDARY (R213, R244): every oscillator's phase is zero there, as R213 has it a function of time. -/
def execSubframeBoundary (s : State) : Host.Outcome State Fault Refusal := run s (·.subframe)

/-- A frame boundary (R110, R229, R311, R321, R406). -/
def Dev.frame (d : Dev) : Dev :=
  let d := d.ttSwap
  let d := if d.flag F.SYS_STATE_ACT_PEND ∧ d.mod = .ready then d.toState .active else d
  let d := d.fhpFrame
  let d := d.forN 4 (fun d t => d.modTile t (fun x => { x with adj := d.reg (A.TILE_FRAME_ADJ t) }))
  d.modTime (fun t => { t with stepMute := false })

/-- FRAME_BOUNDARY (R313). -/
def execFrameBoundary (s : State) : Host.Outcome State Fault Refusal := run s (·.frame)

end Sys2Proof.Machine
end

