-- ==== Sys2Proof/Machine/Time.lean ====
section
/-! DEFINITION. Steps of the time base, what they pass over, the evaluation of the servo by hardware and firmware, and
the time commands (09_time.md, R310, R311, R325, R329, R330, R544). -/

namespace Sys2Proof.Machine

/-! What a forward step passes over (R544). -/

/-- A frame boundary lies in the passed interval. -/
def Dev.passFrame (d : Dev) (lo : Int) : Bool := decide (lo < d.frameStart d.frameNow)

/-- The last boundary of a period, in ns from the start of the frame, is later than `lo`. -/
def Dev.passEvery (d : Dev) (ns : Nat) (lo : Int) : Bool :=
  let start := d.frameStart d.frameNow
  let len : Int := ns * (airNs : Int)
  decide (lo < start + (d.nowAir - start) / len * len)

/-- Weight sets whose target the step passes over lock and exchange (R144, R544). -/
def Dev.passSets (d : Dev) (k : Nat) : Dev :=
  d.forN 64 (fun d n =>
    if d.wsUsed n ∧ d.wsState n = wsCommitted ∧ (d.wset n).carrier = k ∧ d.slotAir n (d.wsTarget n) ≤ d.nowAir then d.wsCutoff n else d)

/-- Every boundary passed over counts as reached, once (R544). -/
def Dev.passEdges (d : Dev) (lo : Int) : Dev :=
  let d := if d.passFrame lo then d.frame else d
  let d := if d.passEvery 1000000 lo then d.subframe else d
  let d := d.forL (List.finRange 8) (fun d k =>
    if !d.flag (F.CARk_STAT_ACTIVE k) then d
    else
      let (pos, start) := d.posNow k false
      let slot := d.airTime k false { pos with symbol := 0 }
      let d := if lo < slot then (d.passSets k).slotChanges k else d
      if lo < start then d.symChanges k else d)
  if lo / (1000 * (airNs : Int)) < d.nowAir / (1000 * (airNs : Int)) then d.forN 96 (fun d n => d.auxTickCh n) else d

/-! The step (R310, R311). -/

/-- A step to a new time, in 2^-32 ns: its record, what it cancels and guards, and what it passes over. A Timetable bank
that waits takes its turn at the first frame boundary passed (R321, R325). -/
def Dev.stepTo (d : Dev) (new : Int) (dest : List (Nat × Nat)) : Dev :=
  let old : Int := (d.time.now.toFrac : Nat)
  let now := TimeVal.ofFrac (new % (2 ^ 64 * 1000000000 * 2 ^ 32)).toNat
  let lo := d.nowAir
  let f1 := d.frameStart (d.frameNow + 1)
  let d := d.count A.TIME_MEAS_DROP d.time.meas.length
  let slewed := d.time.slewOn
  let d := d.modTime (fun t => { t with
    now := now, slewRem := 0, slewOn := false, stepPend := none, meas := [], dropMeas := true })
  let d := ((d.setB F.TIME_STATUS_STEP_PEND false).setB F.TIME_STATUS_SLEWING false).setB F.TIME_STATUS_STEPPED true
  let d := (d.setB F.TIME_INT_STAT_STEPPED true).count A.TIME_STEP_CNT
  let d := if slewed then d.retime else d
  let (delta, d) := d.roundFree ((now.toFrac : Int) - old) (2 ^ 32)
  let d := d.setReg A.TIME_STEPREC_NS (BitVec.ofNat 32 now.ns)
  let d := d.setPair A.TIME_STEPREC_SEC_LO A.TIME_STEPREC_SEC_HI now.sec
  let d := d.setPair A.TIME_STEPREC_DELTA_LO A.TIME_STEPREC_DELTA_HI (unsgn 64 delta)
  let d := d.modRmb (fun r => { r with exch := r.exch.map (fun e => { e with stepped := true }) })
  let d := d.finishWhere (fun p => p.opcode == 0x5003) 0x0A 0 []
  let hi := now.air
  let d := if hi ≤ lo then d
    else if f1 ≤ hi then (((d.ttStep lo f1).passEdges lo).ttStep (f1 - 1) hi)
    else (d.ttStep lo hi).passEdges lo
  (d.modTime (fun t => { t with stepMute := true })).timeEvent 0x05 dest

/-- Where a load leads (R310): the value, or with LOAD_REL the present time and a signed offset. -/
def Dev.stepTarget (d : Dev) (r : StepReq) : Int :=
  let sec : Int := if r.rel then sgn 64 r.sec else (r.sec : Nat)
  (sec * 1000000000 + r.ns) * 2 ^ 32 + r.frac + (if r.rel then (d.time.now.toFrac : Int) else 0)

/-- The step record as result bytes (R330). -/
def Dev.stepRec (d : Dev) : List Byte := d.liveBytes A.TIME_STEPREC_NS 5

/-- TIME_SETs that wait end (R330). -/
def Dev.setsEnd (d : Dev) (status : Nat) (data : List Byte) : Dev :=
  d.finishWhere (fun p => p.opcode == 0x5002) status 0 data

/-- A step commanded (R310): at once, or at the next whole second; one that waits is replaced. -/
def Dev.stepAsk (d : Dev) (r : StepReq) (at_ : Bool) (dest : List (Nat × Nat)) : Dev :=
  let d := d.setsEnd 0x0A []
  if at_ then (d.modTime (fun t => { t with stepPend := some r })).setB F.TIME_STATUS_STEP_PEND true
  else d.stepTo (d.stepTarget r) dest

/-- A write of TIME_LOAD_NS (R310, R12). -/
def Dev.loadWrite (d : Dev) (r : Requester) (ns : Nat) : Dev :=
  let (frac, d) := d.takeStaged r A.TIME_LOAD_FRAC
  let (lo, d) := d.takeStaged r A.TIME_LOAD_SEC_LO
  let (hi, d) := d.takeStaged r A.TIME_LOAD_SEC_HI
  d.stepAsk { rel := d.flag F.TIME_CTRL_LOAD_REL, sec := lo.toNat + hi.toNat * 2 ^ 32, ns := ns, frac := frac.toNat }
    (d.flag F.TIME_CTRL_STEP_AT) []

/-- TIME_STEP_COMMIT (R310). -/
def execTimeStepCommit (r : Requester) (ns : BitVec 32) (s : State) : Host.Outcome State Fault Refusal :=
  run s (·.loadWrite r ns.toNat)

/-- TIME_STEP (R310): the unstepped counter passes a whole second, and the step that waits applies. -/
def Dev.stepDue (d : Dev) : Dev :=
  match d.time.stepPend with
  | none => d
  | some r =>
    let dest := (d.pendingFor 0x5002).map (fun p => (p.mb, 0))
    let d := d.stepTo (d.stepTarget r) dest
    d.setsEnd 0x00 d.stepRec

/-- TIME_STEP (R310). -/
def execTimeStep (s : State) : Host.Outcome State Fault Refusal := run s (·.stepDue)

/-! The firmware's own steps and slews (R329). -/

/-- An offset beyond STEP_US is stepped away in STANDBY and READY. -/
def Dev.autoStepFor (d : Dev) (w : Int) : Dev :=
  if d.fw.running ∧ d.fw.autoStep ∧ (d.mod = .standby ∨ d.mod = .ready) ∧ (d.fw.stepUs * 1000 * 65536 : Nat) < w.natAbs then
    (d.setsEnd 0x0A []).stepTo ((d.time.now.toFrac : Int) - w * 65536) []
  else d

/-- SERVO_EVAL (R316, R329). -/
def Dev.servoDone (d : Dev) (tie : Bool) : Dev :=
  let (ofs, raised, d) := d.servoEval tie
  match ofs with
  | none => d
  | some _ =>
    let w := sgn 48 (d.pair A.TIME_OFS_LO A.TIME_OFS_HI)
    if d.fw.running ∧ d.mod = .active then
      (if raised then (d.setPair A.TIME_SLEW_LO A.TIME_SLEW_HI (unsgn 48 (-w))).slewStart (-w) else d)
    else d.autoStepFor w

/-- SERVO_EVAL (R316). -/
def execServoEval (tie : Bool) (s : State) : Host.Outcome State Fault Refusal := run s (·.servoDone tie)

/-- A PTP exchange whose offset the firmware has measured (R122, R124, R329), in 2^-16 ns. -/
def Dev.ptpExchange (d : Dev) (theta : Int) (replayed : Bool) : Dev :=
  if !d.fw.running ∨ !d.fw.ptpCfg.testBit 0 ∨ replayed then d
  else
    let d := if fitsBits 48 theta then d.measCommit 0 theta else d
    d.autoStepFor theta

/-- PTP_EXCHANGE (R329). -/
def execPtpExchange (theta : Int) (replayed : Bool) (s : State) : Host.Outcome State Fault Refusal :=
  run s (·.ptpExchange theta replayed)

/-! Commands (R330). -/

/-- TIME_CFG. -/
def cmdTimeCfg (pl : List Byte) : Body := devBody fun d =>
  let clk := byteAt pl 0
  let fl := byteAt pl 1
  let servo := leAt pl 4 4
  let pps := leAt pl 16 4
  if 1 < clk ∨ 7 < fl ∨ 6 < byteAt pl 2 ∨ byteAt pl 3 ≠ 0 ∨ servo &&& 0xF0000FF8 ≠ 0 ∨ pps &&& 0xFC ≠ 0 then badParam d
  else if clk ≠ d.getF F.TIME_CTRL_CLK_SRC ∧ !d.tilesQuiet then busyR d
  else
    let d := d.clkSrc (clk == 1) true
    let d := (d.setB F.TIME_CTRL_SYNT_EN (fl.testBit 0)).setB F.TIME_CTRL_PPS_GATE (fl.testBit 1)
    let d := (d.setReg A.TIME_SERVO (BitVec.ofNat 32 servo)).setF F.TIME_SERVO_PERIOD (byteAt pl 2)
    let d := (d.setReg A.TIME_LOCK (BitVec.ofNat 32 (leAt pl 8 4))).setReg A.TIME_MIX (BitVec.ofNat 32 (leAt pl 12 4))
    okR ((d.ppsCfgWrite pps).modFw (fun f => { f with autoStep := fl.testBit 2, stepUs := leAt pl 20 4 }))

/-- TIME_SET. -/
def cmdTimeSet (h : CmdHdr) (pl : List Byte) : Body := devBody fun d =>
  let rel := (byteAt pl 0).testBit 0
  let at_ := (byteAt pl 0).testBit 1
  let ns := leAt pl 12 4
  if 1000000000 ≤ ns then badParam d
  else
    let d := d.stepAsk { rel := rel, sec := leAt pl 4 8, ns := ns, frac := leAt pl 16 4 } at_ [(h.mb.val, 0)]
    if at_ then (.pending [], d, []) else okR d d.stepRec

/-- TIME_SLEW: one that is still pending ends with ABORTED. -/
def cmdTimeSlew (pl : List Byte) : Body := devBody fun d =>
  let ofs := sgn 64 (leAt pl 0 8)
  let ppm := byteAt pl 8
  if !fitsBits 48 ofs ∨ ppm = 0 ∨ 200 < ppm then badParam d
  else
    let d := (d.finishWhere (fun p => p.opcode == 0x5003) 0x0A 0 []).setF F.TIME_CTRL_SLEW_PPM ppm
    let d := d.setPair A.TIME_SLEW_LO A.TIME_SLEW_HI (unsgn 48 ofs)
    let d := (d.modTime (fun t => { t with slewRem := ofs * 65536, slewOn := true })).setB F.TIME_STATUS_SLEWING (ofs != 0)
    (.pending [], d.retime, [])

/-- TIME_GET. -/
def cmdTimeGet (_pl : List Byte) : Body := devBody fun d =>
  okR d (d.liveBytes A.TIME_NS 4 ++ d.liveBytes A.TIME_STATUS 1 ++ d.liveBytes A.TIME_OFS_LO 2 ++ d.liveBytes A.TIME_FREQ 1)

/-- PTP_CFG. -/
def cmdPtpCfg (pl : List Byte) : Body := devBody fun d =>
  okR (d.modFw (fun f => { f with ptpCfg := byteAt pl 0 % 4, ptpDomain := byteAt pl 1, ptpInterval := byteAt pl 2 }))

/-- TIME_CFG (R330). -/
def execTimeCfg (h : CmdHdr) (pl : List Byte) (s : State) : Host.Outcome State Fault Refusal :=
  runW s (runCmd h 0x5001 (lenIs 24) pl (cmdTimeCfg pl))

/-- TIME_SET (R330). -/
def execTimeSet (h : CmdHdr) (pl : List Byte) (s : State) : Host.Outcome State Fault Refusal :=
  runW s (runCmd h 0x5002 (lenIs 20) pl (cmdTimeSet h pl))

/-- TIME_SLEW (R330). -/
def execTimeSlew (h : CmdHdr) (pl : List Byte) (s : State) : Host.Outcome State Fault Refusal :=
  runW s (runCmd h 0x5003 (lenIs 9) pl (cmdTimeSlew pl))

/-- TIME_GET (R330). -/
def execTimeGet (h : CmdHdr) (pl : List Byte) (s : State) : Host.Outcome State Fault Refusal :=
  runW s (runCmd h 0x5004 (lenIs 0) pl (cmdTimeGet pl))

/-- PTP_CFG (R330). -/
def execPtpCfg (h : CmdHdr) (pl : List Byte) (s : State) : Host.Outcome State Fault Refusal :=
  runW s (runCmd h 0x5005 (lenIs 4) pl (cmdPtpCfg pl))

end Sys2Proof.Machine
end

