-- ==== Sys2Proof/Machine/Bus.lean ====
section
/-! DEFINITION. Register accesses at the bus: what a write of a word does and what a read of it answers (00_scope.md,
R5 to R12), and the management SPI's register transactions (R412). A word whose write or read has a behaviour of its own
reaches the operation of its block; every other word stores, clears or latches by its access types. -/

namespace Sys2Proof.Machine

/-! Writes. -/

/-- A write of a word with no behaviour of its own (R5, R6): RW bits store, each 1 clears a W1C bit. -/
def Dev.plainWrite (d : Dev) (a v : Nat) : Dev :=
  match regRow a with
  | none => d
  | some row =>
    let d := d.storeRw a v
    let old := (d.reg a).toNat
    d.setReg a (BitVec.ofNat 32 (old - (old &&& row.w1c &&& v)))

/-- Whether a word belongs to a writable group and is not its lowest, so that a write of it is staged (R12): carrier
words, which carWrite stages, apart. -/
def isStagedWord (a : Nat) : Bool :=
  let t := (a - 0x40100000) / 0x40000 % 4
  let o := (a - A.DPD_ORXr_CTRL 0) / 0x20 % 8
  let k := (a - A.FESPIk_CMD 0) / 0x40 % 4
  let c := (a - 0x40080000) / 0x1000 % 16
  a == A.TILE_TX_FTW_HI t || a == A.TILE_RX_FTW_HI t || a == A.DPD_PATH_EN_HI || a == A.DPD_COMMIT_HI ||
  a == A.DPD_LOAD_MASK_HI || a == A.DPD_ORXr_REQ_HI o || a == A.TIME_LOAD_FRAC || a == A.TIME_LOAD_SEC_LO ||
  a == A.TIME_LOAD_SEC_HI || a == A.TIME_INCR_HI || a == A.TIME_SLEW_HI || a == A.TIME_MEAS_HI ||
  a == A.RMB_TX_FTW_HI || a == A.RMB_RX_FTW_HI || a == A.FESPIk_TX_LO k || a == A.FESPIk_TX_HI k || a == A.CLU_WQ_HI c

/-- Writes of the SYS registers (R405, R407, R423 to R425, R428, R435). -/
def Dev.writeSys (d : Dev) (a v : Nat) : Dev :=
  if a = A.SYS_STATE then d.stateWrite (v % 8)
  else if a = A.SYS_SAFE_CAUSE then d.safeCauseClear v
  else if a = A.SYS_WDOG_CFG then (d.wdogPeriod (v % 2 ^ 14)).when (v.testBit 31) (·.setB F.SYS_WDOG_CFG_LOCK true)
  else if a = A.SYS_WDOG_KICK then d.wdogKick v false
  else if a = A.SYS_BOOT then d.when (v.testBit 31) (fun d => (d.setB F.SYS_BOOT_CONFIRM true).setF F.SYS_BOOT_ATTEMPTS 0)
  else d.plainWrite a v

/-- Writes of the LCS registers (R447, R449, R456). -/
def Dev.writeLcs (d : Dev) (a v : Nat) : Dev :=
  if a = A.LCS_VCTRL then (d.setF F.LCS_VCTRL_OP (bitsN v 28 2)).when (v.testBit 31) (·.engineStart)
  else if a = A.LCS_CTRL then d.when (v.testBit 0) (·.setB F.LCS_CTRL_LOCK true)
  else if (A.LCS_MEAS_RT_i 0 ≤ a ∧ a < A.LCS_MEAS_RT_i 12) ∨ a = A.LCS_RT_VER then
    if d.flag F.LCS_CTRL_LOCK then d.cmdErr else d.plainWrite a v
  else d.plainWrite a v

/-- Writes of the MBOX registers (R436): the ring bases are open only while EN is clear, and setting EN lets waiting
frames in. -/
def Dev.writeMbox (m : Mem) (d : Dev) (a v : Nat) : Writes × Dev :=
  let b := (a - A.MBOX_m_CTRL 0) / 0x40 % 4
  if a = A.MBOX_m_CTRL b then (d.plainWrite a v).refill
  else if a = A.MBOX_m_IN_BASE b ∨ a = A.MBOX_m_OUT_BASE b then ([], if d.flag (F.MBOX_m_CTRL_EN b) then d else d.plainWrite a v)
  else if a = A.MBOX_m_IN_POP b then (d.popIn b).refill
  else if a = A.MBOX_m_OUT_PUSH b then ([], Dev.outPush m d b v)
  else ([], d.plainWrite a v)

/-- Writes of the TIME and TTBL registers (R307 to R333). -/
def Dev.writeTime (d : Dev) (r : Requester) (a v : Nat) : Dev :=
  if a = A.TIME_CTRL then
    let (agree, d) := if v.testBit 4 = d.flag F.TIME_CTRL_CLK_SRC then (true, d) else d.anyBool
    (d.clkSrc (v.testBit 4) agree).timeCtrlWrite v
  else if a = A.TIME_LOAD_NS then d.loadWrite r v
  else if a = A.TIME_INCR_LO then d.incrWrite r v
  else if a = A.TIME_SLEW_LO then d.slewWrite r v
  else if a = A.TIME_MEAS_LO then d.measWrite r v
  else if a = A.TIME_FRAME_OFS then d.frameOfsWrite v
  else if a = A.TIME_PPS_CFG then d.ppsCfgWrite v
  else if a = A.TTBL_CTRL then
    (d.setB F.TTBL_CTRL_EN (v.testBit 0)).acts [(v.testBit 2, Dev.ttCopy), (v.testBit 1, Dev.ttCommit)]
  else d.plainWrite a v

/-- Writes of the LINK and FHP registers (R36, R46, R73, R82, R130). -/
def Dev.writeLink (d : Dev) (a v : Nat) : Dev :=
  let x := (a - A.LINK_Px_CTRL 0) / 0x40 % 4
  let n := (a - A.LINK_Ln_CTRL 0) / 0x40 % 16
  let k := (a - A.LINK_SEEDk 0) / 4 % 16
  let e := (a - A.FHP_STRMn 0) / 4 % 4096
  if a = A.LINK_BOND then d.bondWrite v
  else if a = A.LINK_SEEDk k then d.seedWrite k v
  else if a = A.LINK_Px_CTRL x then d.portCtrlWrite x v
  else if a = A.LINK_Ln_CTRL n then d.laneCtrlWrite n v
  else if a = A.FHP_STRMn e then d.strmWrite e v
  else d.plainWrite a v

/-- Writes of the BEAM registers (R140 to R145, R166, R170): the registers that the map locks while precoding,
combining or sounding runs count a write then in BEAM_CMD_ERR (DEDUCED: its text counts "set commands and writes
ignored"). -/
def Dev.writeBeam (d : Dev) (a v : Nat) : Dev :=
  let n := (a - A.BEAM_WSn_CFG 0) / 0x20 % 64
  let u := (a - A.BEAM_UCn_CFG 0) / 0x10 % 512
  if a = A.BEAM_NBEAM ∨ a = A.BEAM_CLU_MAP ∨ a = A.BEAM_FSCALE_DL ∨ a = A.BEAM_FSCALE_UL then
    if d.beamOn then d.beamCmdErr else d.plainWrite a v
  else if a = A.BEAM_CTX_CFG then if d.flag F.BEAM_CTRL_SRS_EN then d.beamCmdErr else d.plainWrite a v
  else if a = A.BEAM_WSn_CFG n then d.wsCfgWrite n v
  else if a = A.BEAM_WSn_BASE0 n ∨ a = A.BEAM_WSn_BASE1 n then d.wsBaseWrite a v
  else if a = A.BEAM_WSn_CMD n then
    (d.setF (F.BEAM_WSn_CMD_GRP n) (v % 256)).acts
      [(v.testBit 31, fun d => d.wsCommit n (v % 256) false), (v.testBit 30, fun d => d.wsAbort n)]
  else if a = A.BEAM_UCn_CFG u then d.ucCfgWrite u v
  else d.plainWrite a v

/-- Writes of the CLU registers (R195 to R206). -/
def Dev.writeClu (d : Dev) (r : Requester) (a v : Nat) : Dev :=
  let c := (a - 0x40080000) / 0x1000 % 16
  if a = A.CLU_CTRL c then d.cluCtrlWrite c v
  else if a = A.CLU_WQ_LO c then d.wqPush r c (BitVec.ofNat 32 v)
  else d.plainWrite a v

/-- A write of TILEt_CTRL (R225, R235, R237, R239, R240): while SLEEP is set, and in the write that sets it, a 1 for a
RUN bit is ignored. -/
def Dev.tileCtrlWrite (d : Dev) (t v : Nat) : Dev :=
  let slept := d.flag (F.TILE_CTRL_SLEEP t)
  let d := d.setB (F.TILE_CTRL_AUTO_SHUT t) (v.testBit 5)
  let d := if v.testBit 6 then d.tileSleep t else d.wakeStart t
  let runs := fun (d : Dev) (dir : Dir) (b : Bool) =>
    if b = d.flag (runF t dir) then d else if b then d.chainStart t dir else d.chainStop t dir
  let d := if slept ∨ v.testBit 6 then d else runs (runs d .rx (v.testBit 4)) .tx (v.testBit 3)
  d.when (v.testBit 7) (·.pllCal t)

/-- Writes of the TILE registers and of the carrier table (R209, R214, R224, R235, R244). -/
def Dev.writeTile (d : Dev) (r : Requester) (a v : Nat) : Dev :=
  let t := (a - 0x40100000) / 0x40000 % 4
  let tf : Fin 4 := ⟨t, Nat.mod_lt _ (by decide)⟩
  if a = A.TILE_CTRL t then d.tileCtrlWrite t v
  else if a = A.TILE_GROUP then d.splitWrite (v.testBit 0)
  else if a = A.TILE_TX_FTW_LO t then d.ncoCommit r (.band tf .tx) v
  else if a = A.TILE_RX_FTW_LO t then d.ncoCommit r (.band tf .rx) v
  else if (stageDir ((a - 0x40100000) % 0x40000)).isSome then d.coefWrite a v
  else if A.CARk_CFG 0 ≤ a ∧ a < A.CARk_CFG 8 then d.carWrite r a v
  else d.plainWrite a v

/-- Writes of the DPD registers (R249, R255, R256, R265, R281). -/
def Dev.writeDpd (d : Dev) (r : Requester) (a v : Nat) : Dev :=
  let o := (a - A.DPD_ORXr_CTRL 0) / 0x20 % 8
  if a = A.DPD_PATH_EN_LO then d.pathEnWrite r v
  else if a = A.DPD_COMMIT_LO then d.dpdCommit r v
  else if a = A.DPD_LOAD_MASK_LO then d.loadStart r v
  else if a = A.DPD_ORXr_REQ_LO o then d.capRequest r o v
  else d.plainWrite a v

/-- Writes of the CAL registers (R285 to R306). -/
def Dev.writeCal (d : Dev) (a v : Nat) : Dev :=
  let t := (a - A.CAL_Tt_CMD 0) / 0x40 % 4
  if a = A.CAL_CTRL then
    ((d.setF F.CAL_CTRL_RECIP_EN (bitsN v 12 1)).setF F.CAL_CTRL_SKEW_EN (bitsN v 8 4)).engSet (v % 16)
  else if a = A.CAL_MON then (d.when (v.testBit 0) (·.monCalStart 0)).when (v.testBit 1) (·.monCalStart 1)
  else if a = A.CAL_RECIP_CFG then
    ((d.setF F.CAL_RECIP_CFG_WIN_US (bitsN v 8 8)).setF F.CAL_RECIP_CFG_REF (bitsN v 0 6)).acts
      [(v.testBit 19, Dev.recipSwapReq), (v.testBit 17, Dev.recipStart)]
  else if a = A.CAL_Tt_CMD t then
    (d.setB (F.CAL_Tt_CMD_HOLD t) (v.testBit 2)).acts [(v.testBit 1, (·.calAbort t)), (v.testBit 0, (·.calCommit t))]
  else if 0x40211000 ≤ a then d.trimWrite a v
  else d.plainWrite a v

/-- Writes of the RMB and COEX registers (R344, R354, R363, R364). -/
def Dev.writeRmb (m : Mem) (d : Dev) (r : Requester) (a v : Nat) : Dev :=
  if a = A.RMB_TX_FTW_LO then d.ncoCommit r (.rambler .tx) v
  else if a = A.RMB_RX_FTW_LO then d.ncoCommit r (.rambler .rx) v
  else if a = A.RMB_TXQ then Dev.rmbPush m d v
  else if a = A.RMB_RX_FREE then d.modRmb (fun q => { q with slots := setBitN q.slots (v % 16) false })
  else if a = A.COEX_CTRL then d.coexWrite v
  else d.plainWrite a v

/-- Writes of the AUXD, FESPI, FEI2C and MON registers (R365 to R384). -/
def Dev.writeFe (d : Dev) (r : Requester) (a v : Nat) : Dev :=
  let n := (a - A.AUXD_CHn_CFG 0) / 0x10 % 96
  let k := (a - A.FESPIk_CMD 0) / 0x40 % 4
  let c := (a - A.MON_INJc_REQ 0) / 4 % 2
  let w := (a - A.MON_WACTn 0) / 8 % 144
  if a = A.AUXD_CTRL then d.when (v.testBit 0) (·.auxHiz 3)
  else if a = A.AUXD_CHn_CFG n then d.auxCfgWrite n v
  else if a = A.AUXD_CHn_LIM n then d.auxLimWrite n v
  else if a = A.AUXD_CHn_Q n then d.auxPush n v
  else if a = A.FESPIk_CMD k then d.spiStart r k v
  else if a = A.FEI2C_CMD then
    (if d.flag F.FEI2C_STAT_BUSY then d else d.plainWrite a v).when (v.testBit 31) (·.i2cStart)
  else if a = A.MON_CTRL then d.monCtrlWrite v
  else if a = A.MON_INJc_REQ c then d.monInject c v false
  else if A.MON_CLIST 0 0 ≤ a ∧ a < A.MON_CLIST 1 160 ∧ (a - A.MON_CLIST 0 0) % 0x300 < 640 then
    if d.monListOpen ((a - A.MON_CLIST 0 0) / 0x300) then d.plainWrite a v else d.count A.MON_CMD_ERR
  else if A.MON_TLIST 0 0 ≤ a ∧ a < A.MON_TLIST 1 16 then
    if d.monListOpen ((a - A.MON_TLIST 0 0) / 0x40) then d.plainWrite a v else d.count A.MON_CMD_ERR
  else if a = A.MON_MUTE_LO then d.muteRelease v false
  else if a = A.MON_MUTE_HI then d.muteRelease (v * 2 ^ 32) false
  else if a = A.MON_MUTE_ALL then d.muteRelease 0 (v.testBit 0)
  else if a = A.MON_WACTn w then d.winActWrite w v
  else d.plainWrite a v

/-- Writes of the THRM and PWR registers (R387, R389, R393, R400, R401). -/
def Dev.writeThrm (d : Dev) (a v : Nat) : Dev :=
  let i := (a - A.THRM_SHEDi 0) / 4 % 16
  let z := (a - A.THRM_Zz_CFG 0) / 0x20 % 7
  let s := (a - A.THRM_Ss 0) / 4 % 124
  if a = A.THRM_SHEDi i then d.shedWrite i v
  else if a = A.THRM_Zz_CFG z then d.zoneCfgWrite z v
  else if a = A.THRM_Ss s then d.when (v.testBit 31) (·.sensorClear s)
  else d.plainWrite a v

/-- Writes of the MEMI, BIST, DMA and OBS registers (R458, R466 to R470, R478 to R485, R490, R500). -/
def Dev.writeMemi (d : Dev) (a v : Nat) : Dev :=
  let c := (a - A.DMA_CHc_SRC 0) / 0x40 % 16
  if a = A.MEMI_CLU_PWR then d.cluPwrWrite (v % 65536)
  else if a = A.MEMI_RETIRE then d.retireStart (v % 32768)
  else if a = A.MEMI_PART_CTRL then d.when (v.testBit 0) (·.partCommit)
  else if a = A.BIST_CTRL then d.acts [(v.testBit 1, Dev.bistStop), (v.testBit 0, Dev.bistStart)]
  else if a = A.BIST_FUSE then d.when (v.testBit 0) (·.fuseCommit)
  else if a = A.BIST_LB_CTRL then (d.setF F.BIST_LB_CTRL_LB_TOL (bitsN v 3 5)).when (v.testBit 0) (·.lbStart)
  else if a = A.DMA_CHc_SRC c ∨ a = A.DMA_CHc_DST c ∨ a = A.DMA_CHc_COUNT c ∨ a = A.DMA_CHc_CFG c ∨ a = A.DMA_CHc_PSTRIDE c then
    if d.dmaState c = dmaIdle then d.plainWrite a v else d.count A.MEMI_CMD_ERR
  else if a = A.DMA_CHc_CTRL c then
    d.acts [(v.testBit 2, (·.dmaResume c)), (v.testBit 1, (·.dmaStop c)), (v.testBit 0, (·.dmaStart c))]
  else if a = A.OBS_FAULT_STAT then d.faultClear 1 v
  else if a = A.OBS_DEGR_STAT then d.faultClear 2 v
  else if a = A.OBS_TRC_CTRL then if d.devAccess then d.plainWrite a v else d
  else d.plainWrite a v

/-- A 32-bit write of a requester at the bus: the watch record, then the staging of a higher word (R12), else the write
of the block the address lies in. -/
def Dev.busWrite (m : Mem) (d : Dev) (r : Requester) (a v : Nat) : Writes × Dev :=
  let (src, d) := d.reqSrc r
  let d := d.watch src a (le4 v)
  let only := fun (d : Dev) => (([] : Writes), d)
  if isStagedWord a then only (d.setStaged r a (BitVec.ofNat 32 v))
  else if a < 0x40010000 then only (d.writeSys a v)
  else if a < 0x40020000 then only (d.writeLcs a v)
  else if a < 0x40030000 then Dev.writeMbox m d a v
  else if a < 0x40050000 then only (d.writeTime r a v)
  else if a < 0x40070000 then only (d.writeLink a v)
  else if a < 0x40080000 then only (d.writeBeam a v)
  else if a < 0x40100000 then only (d.writeClu r a v)
  else if a < 0x40200000 then only (d.writeTile r a v)
  else if a < 0x40210000 then dpdSettle ([], d.writeDpd r a v)
  else if a < 0x40220000 then only (d.writeCal a v)
  else if a < 0x40230000 then only (Dev.writeRmb m d r a v)
  else if a < 0x40250000 then only (d.writeFe r a v)
  else if a < 0x40260000 then only (d.writeThrm a v)
  else if a < 0x402A0000 then only (d.writeMemi a v)
  else if a < 0x402B0000 then only (d.writeThrm a v)
  else only (Dev.writeRmb m d r a v)

/-! Reads. -/

/-- The block with the RC bits of a word clear (R5). -/
def Dev.clearRc (d : Dev) (a : Nat) : Dev :=
  match regRow a with
  | none => d
  | some row => if row.rc = 0 then d else let old := (d.reg a).toNat; d.setReg a (BitVec.ofNat 32 (old - (old &&& row.rc)))

/-- Counters of time that the model brings up to the present when they are read: TILE_SHUT_US (R237) and COEX_YIELD_US
(R360). -/
def Dev.settleTimers (d : Dev) (a : Nat) : Dev :=
  let t := (a - A.TILE_SHUT_US_LO 0) / 0x40000 % 4
  if a = A.COEX_YIELD_US then d.yieldSettle
  else if a = A.TILE_SHUT_US_LO t then d.shutCount t
  else d

/-- A read of a word with no behaviour of its own (R5, R8 to R11): the lowest word of a group, or a word in none, answers
its live value, latches the rest of the group and clears the group's RC bits; another word answers the requester's latch,
or its reset value before the first. -/
def Dev.plainRead (d : Dev) (r : Requester) (a : Nat) : Dev :=
  match regRow a with
  | none => { d with rdata := 0 }
  | some row =>
    if row.gi ≠ 0 then { d with rdata := (d.getLatch r a).getD (regReset a) }
    else
      let ws := (List.range row.gl).map (fun i => d.live (a + 4 * i))
      let d := (d.settleTimers a).latchWords r (a + 4) (ws.drop 1)
      { d.forN row.gl (fun d i => d.clearRc (a + 4 * i)) with rdata := ws.getD 0 0 }

/-- A 32-bit read of a requester at the bus: the heads of queues are removed by their read (R130, R200, R269, R326, R348,
R354, R464), every other word is plain. -/
def Dev.busRead (d : Dev) (r : Requester) (a : Nat) : Dev :=
  let c := (a - 0x40080000) / 0x1000 % 16
  let o := (a - A.DPD_ORXr_CTRL 0) / 0x20 % 8
  let i := (a - A.TTBL_INn_INFO 0) / 0x10 % 8
  if a = A.MEMI_LOG_INFO then d.logRead r
  else if a = A.FHP_TS_INFO then d.tsFifoRead r
  else if a = A.CLU_CQ_LO c then d.cqPop r c
  else if a = A.DPD_ORXr_DONE_LO o then d.capDoneRead r o
  else if a = A.TTBL_INn_INFO i then d.ttInRead r i
  else if a = A.RMB_TXDONE_LO then d.txDoneRead r
  else if a = A.RMB_RXQ then d.rxqRead
  else d.plainRead r a

/-! The commands. -/

/-- An access of a requester to the register space; outside it no register exists (R402). -/
def runBus (s : State) (a : Nat) (f : Mem → Dev → Writes × Dev) : Host.Outcome State Fault Refusal :=
  if s.dev.alive && !inRegs a then .fault (.noSuchRegister a) else runW s f

/-- REGISTER_WRITE (R5). -/
def execRegisterWrite (r : Requester) (addr v : BitVec 32) (s : State) : Host.Outcome State Fault Refusal :=
  runBus s addr.toNat (fun m d => Dev.busWrite m d r addr.toNat v.toNat)

/-- STAGED_WORD_WRITE (R12). -/
def execStagedWordWrite (r : Requester) (addr v : BitVec 32) (s : State) : Host.Outcome State Fault Refusal :=
  runBus s addr.toNat (fun m d => Dev.busWrite m d r addr.toNat v.toNat)

/-- SNAPSHOT_READ (R8). -/
def execSnapshotRead (r : Requester) (addr : BitVec 32) (s : State) : Host.Outcome State Fault Refusal :=
  runBus s addr.toNat (fun _ d => ([], d.busRead r addr.toNat))

/-- RC_READ (R5). -/
def execRcRead (r : Requester) (addr : BitVec 32) (s : State) : Host.Outcome State Fault Refusal :=
  runBus s addr.toNat (fun _ d => ([], d.busRead r addr.toNat))

/-- REG_READ of the management SPI, through the observation path (R7, R412, R492): no latch, no clearing. The order of the
four bytes it returns is not stated. -/
def Dev.spiRead (m : Mem) (d : Dev) (a : Nat) : Dev :=
  let (w, d) := Dev.obsWord m d false a
  let (swap, d) := d.anyBool
  { d with rdata := w, rbytes := if swap then (word4 w).reverse else word4 w }

/-- REG_READ (R412). -/
def execRegRead (addr : BitVec 32) (s : State) : Host.Outcome State Fault Refusal :=
  run s (fun d => Dev.spiRead s.mem d addr.toNat)

/-- REG_WRITE (R412): accepted only in MAKER and OWNER_OPEN. -/
def execRegWrite (addr v : BitVec 32) (s : State) : Host.Outcome State Fault Refusal :=
  if s.dev.lcOpen then runBus s addr.toNat (fun m d => Dev.busWrite m d .mspi addr.toNat v.toNat)
  else run s (·.cmdErr)

end Sys2Proof.Machine
end

