-- ==== Sys2Proof/Machine/Boot.lean ====
section
/-! DEFINITION. The start of the runtime firmware (R421, R448, R459, R466, R519, R545). -/

namespace Sys2Proof.Machine

/-- The default of a missing link profile (R545): no bond; port A UPSTREAM, MIN_WIDTH 1, FRT_EN, EN. -/
def linkDefault : LinkProfile := { bond := 0, seeds := [], ports := [{ ctrl := 0x10B }] }

/-- The link programmed from its profile, EN last (R82, R519). EN is only ever set here. -/
def Dev.programLink (d : Dev) (p : LinkProfile) : Dev :=
  let d := d.bondWrite p.bond
  let d := d.forL (p.seeds.take 16).zipIdx (fun d s => d.seedWrite s.2 s.1.toNat)
  let d := d.forL (p.lanes.take 16).zipIdx (fun d w => d.laneCtrlWrite w.2 w.1.toNat)
  let d := d.forL (p.ports.take 4).zipIdx (fun d w =>
    let v := w.1.ctrl.toNat
    ((d.setF (F.LINK_Px_CTRL_FRT_EN w.2) (bitsN v 8 1)).setF (F.LINK_Px_CTRL_MIN_WIDTH w.2) (bitsN v 3 5)).setF
      (F.LINK_Px_CTRL_ROLE w.2) (bitsN v 1 2))
  d.forL (p.ports.take 4).zipIdx (fun d w => d.when (w.1.ctrl.toNat.testBit 0) (·.portEnable w.2))

/-- CLK_SRC written from the front-end profile, and what the profile says of bias channels and comparators (R519, R545);
whether the two references agree when CLK_SRC changes is the board's part. -/
def Dev.programFe (d : Dev) (p : FeProfile) : Dev :=
  let (agree, d) := if p.refclk = d.flag F.TIME_CTRL_CLK_SRC then (true, d) else d.anyBool
  (d.clkSrc p.refclk agree).forL (p.words.filter (fun w => decide (0x40230000 ≤ w.1.toNat ∧ w.1.toNat < 0x40250000)))
    (fun d w => d.writeFe .cp0 w.1.toNat w.2.toNat)

/-- The pages recorded in the flash retired again after a power-on, before BOOT is left (R466). -/
def Dev.retireAgain (d : Dev) : Dev :=
  d.forL d.fw.retiredRec (fun d p =>
    if d.retired.contains p then d
    else if d.getF (spareF (pageDie p)) = 0 then d.memEvent 4 (pageDie p) 0 0 0
    else (d.remap p).setB F.MEMI_INT_STAT_RETIRED true)

/-- The kernels of the image whose signer is accepted enter the verified-kernel table (R445, R448). -/
def Dev.imageKernels (d : Dev) (l : List KernelEntry) : Dev :=
  d.forL l (fun d k =>
    if !d.signerOk (b2n k.owner) then d
    else match d.kernelEntry k.id.toNat with
      | some e => d.putKernel e k.digest k.id.toNat (b2n k.owner)
      | none => d)

/-- A command that was received and not answered before a warm reset is answered ABORTED; the repeat of an answered
one gets its stored response (R417, R421). -/
def Dev.abortFrame (d : Dev) (m : Nat) (f : List Byte) : Dev :=
  let seq := leAt f 6 2
  let d := d.popIn m
  match (d.mbx m).lastResp.filter (fun r => r.1 == seq) with
  | some r => d.emit m r.2
  | none =>
    (d.respond m (BitVec.ofNat 8 (byteAt f 2)) seq (leAt f 0 2) 0x0A 0 0 []).modMbx m
      (fun b => { b with expSeq := some ((seq + 1) % 65536) })

/-- Every command and PENDING operation left by a warm reset is answered ABORTED, in SEQ order on each mailbox (R421). -/
def Dev.abortAll (d : Dev) : Dev :=
  let d := d.finishWhere (fun _ => true) 0x0A 0 []
  d.forN 4 (fun d m =>
    let d := match (d.mbx m).waiting with
      | none => d
      | some p =>
        let d := d.modMbx m (fun b => { b with waiting := none })
        if m = 3 then d
        else (d.respond m (BitVec.ofNat 8 p.tag) p.seq p.opcode 0x0A 0 0 []).modMbx m
          (fun b => { b with expSeq := some ((p.seq + 1) % 65536) })
    if m = 3 then d else d.forL (d.mbx m).inRing (fun d f => d.abortFrame m f))

/-- First byte and length of the fallback matrices, which the runtime firmware zeroes (R139, R152). -/
def fallbackLen : Nat := 131072

/-- RUNTIME_START (R519): clock and link from the profiles, the kernels of the image, the fallback matrices at zero, then
STANDBY from BOOT; after a warm reset the module stays in SAFE (R426). -/
def Dev.runtimeStart (d : Dev) (p : Profiles) : Writes × Dev :=
  let warm := d.fw.warm
  let d := d.modFw (fun f => { f with running := true, loader := false, warm := false })
  let d := (match p.fe with | some q => d.programFe q | none => d).setB F.TTBL_CTRL_EN true
  let d := d.programLink (p.link.getD linkDefault)
  let d := if warm then d else d.retireAgain
  let d := d.imageKernels p.kernels
  let d := d.setF F.MEMI_BULK_FLOOR_OFS 0x200000
  let d := d.forN 16 (fun d c => d.setB (F.CLU_CTRL_LOCK c) true)
  let d := if d.mod = .safe then d.clearEnables else d
  let d := d.wroteEcc 1 (d.regionBase 0) (List.replicate fallbackLen 0)
  let d := if d.mod = .safe then d.openBoxes.abortAll else d.fwStandby
  let d := if warm then d.sysEvent 5 (d.getF F.SYS_BOOT_SLOT_RUN) 0 0 0 else d
  let d := if d.mod = .safe then d.fallbackEvent else d
  d.refill

/-- RUNTIME_START (R519). -/
def execRuntimeStart (prof : Profiles) (s : State) : Host.Outcome State Fault Refusal :=
  .next (if s.dev.alive && s.dev.fw.loader && !s.dev.fw.running then
      let base := s.dev.regionBase 0
      let r := s.dev.runtimeStart prof
      settle { s with mem := memZero s.mem base (base + fallbackLen) } r.1 r.2
    else s)

end Sys2Proof.Machine
end

