-- ==== Sys2Proof/Machine/ClusterOps.lean ====
section
/-! DEFINITION. The operation rows of the cluster's instruction bundle (R187 to R189): each brings up the bundle that
the cluster's PC stands at, where one of its slots holds the operation. -/

namespace Sys2Proof.Machine

/-- VNOP (R187). -/
def execOpVnop (c : Fin 16) (s : State) : Host.Outcome State Fault Refusal :=
  runW s (fun m d => Dev.issueIf m d c.val (holdsV 0x00))

/-- CMAC (R187). -/
def execOpCmac (c : Fin 16) (s : State) : Host.Outcome State Fault Refusal :=
  runW s (fun m d => Dev.issueIf m d c.val (holdsV 0x01))

/-- VOUT (R187). -/
def execOpVout (c : Fin 16) (s : State) : Host.Outcome State Fault Refusal :=
  runW s (fun m d => Dev.issueIf m d c.val (holdsV 0x02))

/-- VMULE (R187). -/
def execOpVmule (c : Fin 16) (s : State) : Host.Outcome State Fault Refusal :=
  runW s (fun m d => Dev.issueIf m d c.val (holdsV 0x03))

/-- VADD (R187). -/
def execOpVadd (c : Fin 16) (s : State) : Host.Outcome State Fault Refusal :=
  runW s (fun m d => Dev.issueIf m d c.val (holdsV 0x04))

/-- VRSQ (R187). -/
def execOpVrsq (c : Fin 16) (s : State) : Host.Outcome State Fault Refusal :=
  runW s (fun m d => Dev.issueIf m d c.val (holdsV 0x05))

/-- VRCP (R187). -/
def execOpVrcp (c : Fin 16) (s : State) : Host.Outcome State Fault Refusal :=
  runW s (fun m d => Dev.issueIf m d c.val (holdsV 0x06))

/-- VNORM (R187). -/
def execOpVnorm (c : Fin 16) (s : State) : Host.Outcome State Fault Refusal :=
  runW s (fun m d => Dev.issueIf m d c.val (holdsV 0x07))

/-- VTR (R187). -/
def execOpVtr (c : Fin 16) (s : State) : Host.Outcome State Fault Refusal :=
  runW s (fun m d => Dev.issueIf m d c.val (holdsV 0x08))

/-- VCFCOL (R187). -/
def execOpVcfcol (c : Fin 16) (s : State) : Host.Outcome State Fault Refusal :=
  runW s (fun m d => Dev.issueIf m d c.val (holdsV 0x09))

/-- VMOV (R187). -/
def execOpVmov (c : Fin 16) (s : State) : Host.Outcome State Fault Refusal :=
  runW s (fun m d => Dev.issueIf m d c.val (holdsV 0x0A))

/-- VZERO (R187). -/
def execOpVzero (c : Fin 16) (s : State) : Host.Outcome State Fault Refusal :=
  runW s (fun m d => Dev.issueIf m d c.val (holdsV 0x0B))

/-- LD (R188), with errors that have struck local memory since (R175). -/
def execOpLd (c : Fin 16) (ups : List Upset) (s : State) : Host.Outcome State Fault Refusal :=
  runW s (fun m d => Dev.issueIf m (d.cluUpset c.val ups) c.val (holdsA 0x1))

/-- ANOP (R188). -/
def execOpAnop (c : Fin 16) (s : State) : Host.Outcome State Fault Refusal :=
  runW s (fun m d => Dev.issueIf m d c.val (holdsA 0x0))

/-- ST (R188). -/
def execOpSt (c : Fin 16) (s : State) : Host.Outcome State Fault Refusal :=
  runW s (fun m d => Dev.issueIf m d c.val (holdsA 0x2))

/-- AGSET (R188). -/
def execOpAgset (c : Fin 16) (s : State) : Host.Outcome State Fault Refusal :=
  runW s (fun m d => Dev.issueIf m d c.val (holdsA 0x3))

/-- AGPTR (R188). -/
def execOpAgptr (c : Fin 16) (s : State) : Host.Outcome State Fault Refusal :=
  runW s (fun m d => Dev.issueIf m d c.val (holdsA 0x4))

/-- AGOFF (R188). -/
def execOpAgoff (c : Fin 16) (s : State) : Host.Outcome State Fault Refusal :=
  runW s (fun m d => Dev.issueIf m d c.val (holdsA 0x5))

/-- AGSTEP (R188). -/
def execOpAgstep (c : Fin 16) (s : State) : Host.Outcome State Fault Refusal :=
  runW s (fun m d => Dev.issueIf m d c.val (holdsA 0x6))

/-- SNOP (R189). -/
def execOpSnop (c : Fin 16) (s : State) : Host.Outcome State Fault Refusal :=
  runW s (fun m d => Dev.issueIf m d c.val (holdsS 0x00))

/-- ADD (R189). -/
def execOpAdd (c : Fin 16) (s : State) : Host.Outcome State Fault Refusal :=
  runW s (fun m d => Dev.issueIf m d c.val (holdsS 0x01))

/-- SUB (R189). -/
def execOpSub (c : Fin 16) (s : State) : Host.Outcome State Fault Refusal :=
  runW s (fun m d => Dev.issueIf m d c.val (holdsS 0x02))

/-- AND (R189). -/
def execOpAnd (c : Fin 16) (s : State) : Host.Outcome State Fault Refusal :=
  runW s (fun m d => Dev.issueIf m d c.val (holdsS 0x03))

/-- OR (R189). -/
def execOpOr (c : Fin 16) (s : State) : Host.Outcome State Fault Refusal :=
  runW s (fun m d => Dev.issueIf m d c.val (holdsS 0x04))

/-- XOR (R189). -/
def execOpXor (c : Fin 16) (s : State) : Host.Outcome State Fault Refusal :=
  runW s (fun m d => Dev.issueIf m d c.val (holdsS 0x05))

/-- SHL (R189). -/
def execOpShl (c : Fin 16) (s : State) : Host.Outcome State Fault Refusal :=
  runW s (fun m d => Dev.issueIf m d c.val (holdsS 0x06))

/-- SHR (R189). -/
def execOpShr (c : Fin 16) (s : State) : Host.Outcome State Fault Refusal :=
  runW s (fun m d => Dev.issueIf m d c.val (holdsS 0x07))

/-- SAR (R189). -/
def execOpSar (c : Fin 16) (s : State) : Host.Outcome State Fault Refusal :=
  runW s (fun m d => Dev.issueIf m d c.val (holdsS 0x08))

/-- MUL (R189). -/
def execOpMul (c : Fin 16) (s : State) : Host.Outcome State Fault Refusal :=
  runW s (fun m d => Dev.issueIf m d c.val (holdsS 0x09))

/-- SLT (R189). -/
def execOpSlt (c : Fin 16) (s : State) : Host.Outcome State Fault Refusal :=
  runW s (fun m d => Dev.issueIf m d c.val (holdsS 0x0A))

/-- SEXT16 (R189). -/
def execOpSext16 (c : Fin 16) (s : State) : Host.Outcome State Fault Refusal :=
  runW s (fun m d => Dev.issueIf m d c.val (holdsS 0x0B))

/-- BR (R189). -/
def execOpBr (c : Fin 16) (s : State) : Host.Outcome State Fault Refusal :=
  runW s (fun m d => Dev.issueIf m d c.val (holdsS 0x10))

/-- BRZ (R189). -/
def execOpBrz (c : Fin 16) (s : State) : Host.Outcome State Fault Refusal :=
  runW s (fun m d => Dev.issueIf m d c.val (holdsS 0x11))

/-- BRNZ (R189). -/
def execOpBrnz (c : Fin 16) (s : State) : Host.Outcome State Fault Refusal :=
  runW s (fun m d => Dev.issueIf m d c.val (holdsS 0x12))

/-- LOOP (R189). -/
def execOpLoop (c : Fin 16) (s : State) : Host.Outcome State Fault Refusal :=
  runW s (fun m d => Dev.issueIf m d c.val (holdsS 0x13))

/-- WQPOP (R189). -/
def execOpWqpop (c : Fin 16) (s : State) : Host.Outcome State Fault Refusal :=
  runW s (fun m d => Dev.issueIf m d c.val (holdsS 0x18))

/-- CQPUSH (R189). -/
def execOpCqpush (c : Fin 16) (s : State) : Host.Outcome State Fault Refusal :=
  runW s (fun m d => Dev.issueIf m d c.val (holdsS 0x19))

/-- CFLD (R189). -/
def execOpCfld (c : Fin 16) (s : State) : Host.Outcome State Fault Refusal :=
  runW s (fun m d => Dev.issueIf m d c.val (holdsS 0x1A))

/-- CFWAIT (R189). -/
def execOpCfwait (c : Fin 16) (s : State) : Host.Outcome State Fault Refusal :=
  runW s (fun m d => Dev.issueIf m d c.val (holdsS 0x1B))

/-- HCOPY (R189). -/
def execOpHcopy (c : Fin 16) (s : State) : Host.Outcome State Fault Refusal :=
  runW s (fun m d => Dev.issueIf m d c.val (holdsS 0x1C))

/-- HWAIT (R189). -/
def execOpHwait (c : Fin 16) (s : State) : Host.Outcome State Fault Refusal :=
  runW s (fun m d => Dev.issueIf m d c.val (holdsS 0x1D))

/-- MFVR (R189). -/
def execOpMfvr (c : Fin 16) (s : State) : Host.Outcome State Fault Refusal :=
  runW s (fun m d => Dev.issueIf m d c.val (holdsS 0x1E))

/-- MFNORM (R189). -/
def execOpMfnorm (c : Fin 16) (s : State) : Host.Outcome State Fault Refusal :=
  runW s (fun m d => Dev.issueIf m d c.val (holdsS 0x1F))

/-- MFAG (R189). -/
def execOpMfag (c : Fin 16) (s : State) : Host.Outcome State Fault Refusal :=
  runW s (fun m d => Dev.issueIf m d c.val (holdsS 0x20))

/-- HALT (R189). -/
def execOpHalt (c : Fin 16) (s : State) : Host.Outcome State Fault Refusal :=
  runW s (fun m d => Dev.issueIf m d c.val (holdsS 0x3E))

/-- FAULT (R189). -/
def execOpFault (c : Fin 16) (s : State) : Host.Outcome State Fault Refusal :=
  runW s (fun m d => Dev.issueIf m d c.val (holdsS 0x3F))

end Sys2Proof.Machine
end

