-- ==== Sys2Proof/Machine/Script.lean ====
section
/-! DEFINITION. Scripts of MB3: a script doorbell runs the bound commands in order (R328, R422). -/

namespace Sys2Proof.Machine

/-- What each command of class 0x0 takes and does (R432): the payload lengths in its range, and its body. -/
def scriptCmd0 (_h : CmdHdr) (pl : List Byte) : Nat → Option ((Nat → Bool) × Body)
  | 0x0001 => some (lenIs 0, cmdSysInfo pl)
  | 0x0002 => some (lenIs 4, cmdSysStateSet pl)
  | 0x0003 => some (lenIs 4, cmdSafeClear pl)
  | 0x0004 => some (lenIs 4, cmdSysReboot pl)
  | 0x0005 => some (lenIs 4, cmdWdogCfg pl)
  | 0x0010 => some (lenIs 8, cmdFwStage pl)
  | 0x0011 => some (lenIs 4, cmdFwActivate pl)
  | 0x0012 => some (lenIs 0, cmdFwStat pl)
  | 0x0020 => some (lenIs 24, cmdPinLoopback pl)
  | _ => none

/-- What each command of class 0x1 takes and does (R432): the payload lengths in its range, and its body. -/
def scriptCmd1 (_h : CmdHdr) (pl : List Byte) : Nat → Option ((Nat → Bool) × Body)
  | 0x1010 => some (lenIn 8 2052, cmdStreamCfg pl)
  | 0x1011 => some (lenIs 12, cmdFhTiming pl)
  | 0x1012 => some (lenIs 4, cmdCascadeCfg pl)
  | 0x1013 => some (lenIn 8 2052, cmdFhCheck pl)
  | _ => none

/-- What each command of class 0x2 takes and does (R432): the payload lengths in its range, and its body. -/
def scriptCmd2 (h : CmdHdr) (pl : List Byte) : Nat → Option ((Nat → Bool) × Body)
  | 0x2001 => some (lenIs 20, cmdBandCfg pl)
  | 0x2002 => some (lenIs 32, cmdCarrierCfg pl)
  | 0x2003 => some (lenIs 24, cmdCarrierRetune h pl)
  | 0x2004 => some (lenIs 4, cmdCarrierDel pl)
  | 0x2010 => some (lenIn 8 388, cmdFilterLoad pl)
  | 0x2011 => some (lenIs 4, cmdFilterSelect pl)
  | 0x2020 => some (lenIs 8, cmdPllRecal h pl)
  | 0x2021 => some (lenIs 4, cmdTileSleep h pl)
  | 0x2022 => some (lenIs 16, cmdPathMask pl)
  | 0x2030 => some (lenIs 0, cmdRfStat pl)
  | _ => none

/-- What each command of class 0x3 takes and does (R432): the payload lengths in its range, and its body. -/
def scriptCmd3 (h : CmdHdr) (pl : List Byte) : Nat → Option ((Nat → Bool) × Body)
  | 0x3001 => some (lenIs 4, cmdWmemCfg pl)
  | 0x3002 => some (lenIs 4, cmdCluMap pl)
  | 0x3010 => some (lenIs 8, cmdWsetCfg pl)
  | 0x3011 => some (lenIs 4, cmdWsetFree pl)
  | 0x3012 => some (lenIs 12, cmdWsetCommit h pl)
  | 0x3013 => some (lenIn 12 4096, cmdWsetWrite pl)
  | 0x3014 => some (lenIs 4, cmdWsetStat pl)
  | 0x3020 => some (lenIn 260 3844, cmdFallbackSet pl)
  | 0x3021 => some (lenIn 264 3848, cmdBeamSet pl)
  | 0x3030 => some (lenIs 8, cmdCtxCfg pl)
  | 0x3031 => some (lenIs 8, cmdUserCfg pl)
  | 0x3032 => some (lenIs 8, cmdUserRead pl)
  | 0x3040 => some (lenIn 6 68, cmdGroupCfg pl)
  | 0x3041 => some (lenIs 8, cmdGroupCalc h pl)
  | 0x3050 => some (lenIs 0, cmdBeamStat pl)
  | 0x3060 => some (lenIs 12, cmdKernelAdd pl)
  | 0x3061 => some (lenIs 8, cmdCluAssign pl)
  | 0x3062 => some ((fun l => decide (16 ≤ l ∧ l ≤ 520 ∧ l % 8 = 0)), cmdCluWork pl)
  | 0x3063 => some (lenIs 4, cmdCluPoll pl)
  | 0x3064 => some (lenIs 4, cmdCluStat pl)
  | _ => none

/-- What each command of class 0x4 takes and does (R432): the payload lengths in its range, and its body. -/
def scriptCmd4 (h : CmdHdr) (pl : List Byte) : Nat → Option ((Nat → Bool) × Body)
  | 0x4001 => some (lenIs 12, cmdDpdMode pl)
  | 0x4002 => some (lenIn 4 12, cmdDpdNeighbour pl)
  | 0x4003 => some (lenIs 3140, cmdDpdTableLoad h pl)
  | 0x4004 => some (lenIs 4, cmdDpdTableRead pl)
  | 0x4005 => some (lenIs 8, cmdDpdReset h pl)
  | 0x4006 => some (lenIs 8, cmdDpdCapture h pl)
  | 0x4007 => some (lenIs 8, cmdDpdStat pl)
  | 0x4010 => some (lenIs 4, cmdCalMode pl)
  | 0x4011 => some (lenIs 4, cmdCalRead pl)
  | 0x4012 => some (lenIs 4, cmdCalReset h pl)
  | 0x4013 => some (lenIs 4, cmdRecipRun h pl)
  | 0x4014 => some (lenIs 4, cmdRecipRead pl)
  | 0x4015 => some (lenIn 68 4036, cmdRecipHost pl)
  | 0x4016 => some (lenIs 4, cmdMonCal h pl)
  | 0x4017 => some (lenIs 0, cmdCalStat pl)
  | _ => none

/-- What each command of class 0x5 takes and does (R432): the payload lengths in its range, and its body. -/
def scriptCmd5 (h : CmdHdr) (pl : List Byte) : Nat → Option ((Nat → Bool) × Body)
  | 0x5001 => some (lenIs 24, cmdTimeCfg pl)
  | 0x5002 => some (lenIs 20, cmdTimeSet h pl)
  | 0x5003 => some (lenIs 9, cmdTimeSlew pl)
  | 0x5004 => some (lenIs 0, cmdTimeGet pl)
  | 0x5005 => some (lenIs 4, cmdPtpCfg pl)
  | 0x5010 => some (lenIn 12 516, cmdTtWrite pl)
  | 0x5011 => some (lenIs 0, cmdTtCommit pl)
  | 0x5012 => some (lenIs 4, cmdTtRead pl)
  | 0x5013 => some (lenIn 4 4096, cmdTtScript pl)
  | _ => none

/-- What each command of class 0x6 takes and does (R432): the payload lengths in its range, and its body. -/
def scriptCmd6 (h : CmdHdr) (pl : List Byte) : Nat → Option ((Nat → Bool) × Body)
  | 0x6001 => some (lenIs 20, cmdRmbCfg pl)
  | 0x6002 => some (lenIn 16 2064, cmdRmbSend h pl)
  | 0x6003 => some (lenIs 12, cmdRmbTt pl)
  | 0x6004 => some (lenIs 4, cmdCoexCfg pl)
  | 0x6005 => some (lenIs 0, cmdRmbStat pl)
  | _ => none

/-- What each command of class 0x7 takes and does (R432): the payload lengths in its range, and its body. -/
def scriptCmd7 (_h : CmdHdr) (pl : List Byte) : Nat → Option ((Nat → Bool) × Body)
  | 0x7001 => some (lenIs 8, cmdAuxdCfg pl)
  | 0x7002 => some (lenIn 6 36, cmdAuxdPush pl)
  | 0x7003 => some (lenIs 12, cmdAuxdHiz pl)
  | 0x7010 => some (lenIn 5 164, cmdMonSeq pl)
  | 0x7011 => some (lenIn 5 20, cmdMonTrig pl)
  | 0x7012 => some (lenIs 4, cmdMonInject pl)
  | 0x7013 => some (lenIs 4, cmdMonRead pl)
  | 0x7014 => some (lenIs 12, cmdMonWindow pl)
  | 0x7015 => some (lenIs 9, cmdMonUnmute pl)
  | 0x7020 => some (lenIs 12, cmdFespiXfer pl)
  | 0x7021 => some (lenIn 4 20, cmdFei2cXfer pl)
  | 0x7030 => some (lenIs 0, cmdFeStat pl)
  | _ => none

/-- What each command of class 0x8 takes and does (R432): the payload lengths in its range, and its body. -/
def scriptCmd8 (_h : CmdHdr) (pl : List Byte) : Nat → Option ((Nat → Bool) × Body)
  | 0x8001 => some (lenIs 12, cmdThermCfg pl)
  | 0x8002 => some (lenIs 32, cmdShedOrder pl)
  | 0x8003 => some (lenIs 16, cmdSensClear pl)
  | 0x8004 => some (lenIs 4, cmdPwrCfg pl)
  | 0x8005 => some (lenIs 0, cmdThermStat pl)
  | _ => none

/-- What each command of class 0x9 takes and does (R432): the payload lengths in its range, and its body. -/
def scriptCmd9 (_h : CmdHdr) (pl : List Byte) : Nat → Option ((Nat → Bool) × Body)
  | 0x9001 => some (lenIs 20, cmdMemPartition pl)
  | 0x9002 => some (lenIs 12, cmdMemRead pl)
  | 0x9003 => some (lenIs 4, cmdMemLog pl)
  | 0x9004 => some (lenIs 4, cmdPageRetire pl)
  | 0x9010 => some (lenIs 4, cmdBistCfg pl)
  | 0x9011 => some (lenIs 0, cmdBistStat pl)
  | 0x9012 => some (lenIs 0, cmdFuseRepair pl)
  | 0x9013 => some (lenIs 4, cmdLoopback pl)
  | _ => none

/-- What each command of class 0xA takes and does (R432): the payload lengths in its range, and its body. -/
def scriptCmdA (_h : CmdHdr) (pl : List Byte) : Nat → Option ((Nat → Bool) × Body)
  | 0xA001 => some (lenIs 0, cmdLcStat pl)
  | 0xA002 => some (lenIs 0, cmdLcNonce pl)
  | 0xA003 => some (lenIs 8, cmdLcAuth pl)
  | 0xA004 => some (lenIs 52, cmdOwnerKeySet pl)
  | 0xA005 => some (lenIs 32, cmdAttest pl)
  | 0xA006 => some (lenIs 0, cmdSvnCommit pl)
  | _ => none

/-- What each command of class 0xB takes and does (R432): the payload lengths in its range, and its body. -/
def scriptCmdB (_h : CmdHdr) (pl : List Byte) : Nat → Option ((Nat → Bool) × Body)
  | 0xB001 => some (lenIs 8, cmdObsRead pl)
  | 0xB002 => some (lenIs 0, cmdObsFaults pl)
  | 0xB003 => some (lenIs 8, cmdObsFaultClear pl)
  | 0xB004 => some (lenIs 4, cmdFaultnCfg pl)
  | 0xB005 => some (lenIs 16, cmdTraceCfg pl)
  | _ => none

/-- A command by its opcode (R432). -/
def scriptCmd (h : CmdHdr) (pl : List Byte) (op : Nat) : Option ((Nat → Bool) × Body) :=
  match op / 0x1000 with
  | 0x0 => scriptCmd0 h pl op
  | 0x1 => scriptCmd1 h pl op
  | 0x2 => scriptCmd2 h pl op
  | 0x3 => scriptCmd3 h pl op
  | 0x4 => scriptCmd4 h pl op
  | 0x5 => scriptCmd5 h pl op
  | 0x6 => scriptCmd6 h pl op
  | 0x7 => scriptCmd7 h pl op
  | 0x8 => scriptCmd8 h pl op
  | 0x9 => scriptCmd9 h pl op
  | 0xA => scriptCmdA h pl op
  | 0xB => scriptCmdB h pl op
  | _ => none

/-- One command of a script: its reply, the block and the bytes written. -/
def scriptOne (m : Mem) (d : Dev) (f : List Byte) : CmdOut :=
  let h : CmdHdr := { mb := 3, tag := BitVec.ofNat 8 (byteAt f 2), seq := BitVec.ofNat 16 (leAt f 6 2) }
  let pl := f.drop 8
  match scriptCmd h pl (leAt f 0 2) with
  | none => badParam d
  | some (lenOk, body) =>
    let (r, d, ws) := cmdCore 3 (leAt f 0 2) lenOk pl body m d
    let (w2, d) := dpdSettle ([], d.pumpCommits)
    (r, d, ws ++ w2)

/-- The firmware's note that script `n` runs, with the position of its next command; none once it has ended. -/
def Dev.scriptAt (d : Dev) (n : Nat) (pos : Option Nat) : Dev :=
  d.modFw (fun f =>
    let others := f.scriptsRunning.filter (fun x => x.1 != n)
    { f with scriptsRunning := match pos with
      | some p => (n, p) :: others
      | none => others })

/-- The commands of script `n` from position `pos` on (R422): OK and PENDING are discarded, another response ends the
script with SCRIPT_FAIL, and a command whose response waits for the hardware pauses it. -/
def scriptGo (n : Nat) : Nat → List (List Byte) → Mem → Dev → Writes × Dev
  | _, [], _, d => ([], d.scriptAt n none)
  | pos, f :: fs, m, d =>
    let op := leAt f 0 2
    let p : PendOp := { mb := 3, tag := byteAt f 2, seq := leAt f 6 2, opcode := op, args := [] }
    match scriptOne m d f with
    | (.err st _ _ _, d, ws) => (ws, (d.scriptAt n none).sysEvent 7 n st pos 0)
    | (.wait args, d, ws) =>
      (ws, (d.scriptAt n (some (pos + 1))).modMbx 3 (fun b => { b with waiting := some { p with args := args } }))
    | (.ok _, d, ws) =>
      let (w2, d) := scriptGo n (pos + 1) fs (memWrites m ws) d
      (ws ++ w2, d)
    | (.pending args, d, ws) =>
      let d := d.modFw (fun g => { g with pendingOps := g.pendingOps ++ [{ p with args := args }] })
      let (w2, d) := scriptGo n (pos + 1) fs (memWrites m ws) d
      (ws ++ w2, d)

/-- A script begins on its doorbell, or goes on once the command it waits for has been answered. -/
def Dev.scriptRun (m : Mem) (d : Dev) (n : Nat) : Writes × Dev :=
  let fs := Tab.get (fun _ => []) n d.fw.scripts
  if !d.fw.running ∨ (d.mbx 3).waiting.isSome then ([], d)
  else match d.fw.scriptsRunning.find? (fun x => x.1 == n) with
    | some (_, pos) => scriptGo n pos (fs.drop pos) m d
    | none =>
      if d.fw.bells.contains n then
        scriptGo n 0 fs m ((d.modFw (fun f => { f with bells := f.bells.erase n })).scriptAt n (some 0))
      else ([], d)

/-- MB3_SCRIPT_RUN (R422). -/
def execMb3ScriptRun (sc : Fin 8) (s : State) : Host.Outcome State Fault Refusal :=
  runW s (fun m d => Dev.scriptRun m d sc.val)

end Sys2Proof.Machine
end

