-- ==== Sys2Proof/Machine/Limit.lean ====
section
/-! DEFINITION. The execution limit of a PENDING operation (R420). -/

namespace Sys2Proof.Machine

/-- A capture request of the operation withdrawn from a receiver's queue; one whose window has opened goes on for
nobody. -/
def OrxSt.withdraw (o : OrxSt) (p : PendOp) : OrxSt :=
  let free := fun (q : CapReq) => if q.op = some p then q.nobody else q
  let head := o.queue.head?.any (fun q => q.op == some p)
  { o with
    queue := o.queue.filter (fun q => q.op != some p)
    atHead := o.atHead && !head
    trig := o.trig && !head
    win := o.win.map (fun w => { w with req := free w.req })
    drains := o.drains.map (fun c => { c with req := free c.req })
    done := o.done.map (fun c => { c with req := free c.req })
    held := o.held.map (fun c => { c with req := free c.req }) }

/-- The words of a retune that has not taken effect withdrawn. -/
def Dev.retuneDrop (d : Dev) (r : Retune) : Dev :=
  if !r.committed then d
  else
    let k : Fin 8 := ⟨r.carrier % 8, Nat.mod_lt _ (by decide)⟩
    let d := [Dir.tx, Dir.rx].foldl (fun d dir => (d.setPend (.carrier k dir) none).pendFlag (.carrier k dir) false) d
    d.modRf (fun x => { x with fwCars := Tab.set (fun _ => none) k.val r.was x.fwCars })

/-- What the operation still has under way in the lists of the blocks is given up. -/
def Dev.giveUp (d : Dev) (p : PendOp) : Dev :=
  let mine := fun (o : DpdOp) => o.op == p
  let d := d.forL (d.beam.commits.filter (fun c => c.op == some p)) (fun d c =>
    if c.sent && d.wsState c.set == wsCommitted then d.wsAbort c.set else d)
  let d := d.modBeam (fun b => { b with
    commits := b.commits.filter (fun c => c.op != some p)
    jobs := b.jobs.filter (fun j => j.op != p) })
  let d := d.forL (d.rf.retunes.filter (fun r => r.op == p)) (fun d r => d.retuneDrop r)
  let d := d.modRf (fun x => { x with
    retunes := x.retunes.filter (fun r => r.op != p)
    recals := x.recals.filter (fun o => o.op != p)
    sleeps := x.sleeps.filter (fun o => o.op != p) })
  let d := d.forL (d.dpd.ops.filter mine) (fun d o => d.forL o.left (fun d n => d.setB (F.DPD_Pn_STAT_PEND n) false))
  let d := d.modDpd (fun x => { x with
    ops := x.ops.filter (fun o => !mine o)
    orx := x.orx.map (fun e => (e.1, e.2.withdraw p)) })
  let d := d.forL (d.cal.resets.filter mine) (fun d o => d.forL o.left (fun d t => d.calAbort t))
  d.modCal (fun c => { c with
    resets := c.resets.filter (fun o => !mine o)
    recipOps := c.recipOps.filter (fun o => o.1 != p)
    mons := c.mons.filter (fun o => !mine o) })

/-- The engine's jobs of the operation given up: the one running without a result, the queued ones. -/
def Dev.giveUpJob (d : Dev) (p : PendOp) : Dev :=
  let mine := fun (j : EngJob) => j.who == p.opcode && (p.args == [] || decide (j.addr = d.regionBase 4 + p.args.headD 0))
  let d := d.modLcs (fun l => { l with queue := l.queue.filter (fun j => !mine j) })
  if d.lcs.job.any mine then ((d.modLcs (fun l => { l with job := none, outcome := none })).setB F.LCS_VCTRL_BUSY false).engineNext else d

/-- A PENDING operation abandoned without effect (R420). -/
def Dev.abandon (d : Dev) (p : PendOp) : Dev :=
  let d := d.giveUp p
  if p.opcode = 0x0002 then
    ((d.setB F.SYS_STATE_ACT_PEND false).setB F.BEAM_CTRL_DL_EN false).setB F.BEAM_CTRL_UL_EN false
  else if p.opcode = 0x0010 ∨ p.opcode = 0xA003 ∨ p.opcode = 0xA005 then d.giveUpJob p
  else if p.opcode = 0x4013 then (d.setB F.CAL_RECIP_CFG_BUSY false).modRecip (fun r => { r with mt := [], mr := [] })
  else if p.opcode = 0x4016 then d.setF F.CAL_MON_PEND (d.getF F.CAL_MON_PEND &&& (3 - p.args.headD 0 % 4))
  else if p.opcode = 0x5002 then d.modTime (fun t => { t with stepPend := none })
  else if p.opcode = 0x5003 then (d.modTime (fun t => { t with slewRem := 0, slewOn := false })).retime
  else if p.opcode = 0x5011 then d.setB F.TTBL_STAT_PEND false
  else if p.opcode = 0x9004 then (d.modMemi (fun m => { m with retiring := none })).setB F.MEMI_STAT_RETIRING false
  else if p.opcode = 0x9013 then d.setB F.BIST_LB_CTRL_BUSY false
  else d

/-- The limit of a PENDING operation (R420): it is abandoned and ends with TIMEOUT. A completion in the same cycle counts
as arrival (R13). -/
def Dev.execLimit (d : Dev) (mb seq : Nat) (tie : Bool) : Dev :=
  if !d.fw.running then d
  else if tie then d.count A.MBOX_TIE
  else match d.fw.pendingOps.find? (fun p => p.mb == mb && p.seq == seq) with
    | none => d
    | some p => ((d.abandon p).finish p 0x09 0 []).rmbPrune

/-- EXECUTION_LIMIT (R420). -/
def execExecutionLimit (mb : Fin 4) (seq : BitVec 16) (tie : Bool) (s : State) : Host.Outcome State Fault Refusal :=
  run s (·.execLimit mb.val seq.toNat tie)

end Sys2Proof.Machine
end

