-- ==== Sys2Proof/Machine/Dispatch.lean ====
section
/-! DEFINITION. The dispatch of commands to their meanings, one arm for each row of the opcode table. -/

namespace Sys2Proof.Machine

/-- The effect of a command on everything but the queue. -/
def exec (i : Instr) (s : State) : Host.Outcome State Fault Refusal :=
  match i with
  | .registerWrite r addr v => Sys2Proof.Machine.execRegisterWrite r addr v s
  | .snapshotRead r addr => Sys2Proof.Machine.execSnapshotRead r addr s
  | .rcRead r addr => Sys2Proof.Machine.execRcRead r addr s
  | .stagedWordWrite r addr v => Sys2Proof.Machine.execStagedWordWrite r addr v s
  | .portEnable x => Sys2Proof.Machine.execPortEnable x s
  | .portDisable x => Sys2Proof.Machine.execPortDisable x s
  | .portRetrain x => Sys2Proof.Machine.execPortRetrain x s
  | .laneStagePass n m => Sys2Proof.Machine.execLaneStagePass n m s
  | .portStagePass x => Sys2Proof.Machine.execPortStagePass x s
  | .stageTimeout x lane tie => Sys2Proof.Machine.execStageTimeout x lane tie s
  | .laneReinitDone n => Sys2Proof.Machine.execLaneReinitDone n s
  | .trainBlockReceive n payload => Sys2Proof.Machine.execTrainBlockReceive n payload s
  | .blockReceive n symbols => Sys2Proof.Machine.execBlockReceive n symbols s
  | .frtReq x laneMask => Sys2Proof.Machine.execFrtReq x laneMask s
  | .frtDone x laneMask => Sys2Proof.Machine.execFrtDone x laneMask s
  | .portAbort x laneMask => Sys2Proof.Machine.execPortAbort x laneMask s
  | .laneSignalDetect n => Sys2Proof.Machine.execLaneSignalDetect n s
  | .laneLossOfSignal n => Sys2Proof.Machine.execLaneLossOfSignal n s
  | .frtDeadline x tie => Sys2Proof.Machine.execFrtDeadline x tie s
  | .linkRetryExpiry x => Sys2Proof.Machine.execLinkRetryExpiry x s
  | .eqResume n m => Sys2Proof.Machine.execEqResume n m s
  | .eqSnapshot n m => Sys2Proof.Machine.execEqSnapshot n m s
  | .eqRollback n m => Sys2Proof.Machine.execEqRollback n m s
  | .packetReceive x bytes => Sys2Proof.Machine.execPacketReceive x bytes s
  | .linkControlReceive x bytes => Sys2Proof.Machine.execLinkControlReceive x bytes s
  | .linkControlSend x => Sys2Proof.Machine.execLinkControlSend x s
  | .replayTimeout x tie => Sys2Proof.Machine.execReplayTimeout x tie s
  | .packetStart x => Sys2Proof.Machine.execPacketStart x s
  | .userPlaneSection x tie => Sys2Proof.Machine.execUserPlaneSection x tie s
  | .controlPlaneSection x tie => Sys2Proof.Machine.execControlPlaneSection x tie s
  | .sectionDeadline k pos => Sys2Proof.Machine.execSectionDeadline k pos s
  | .uplinkSectionProduced sec => Sys2Proof.Machine.execUplinkSectionProduced sec s
  | .ulDropExpiry x => Sys2Proof.Machine.execUlDropExpiry x s
  | .psumWaitExpiry entry tie => Sys2Proof.Machine.execPsumWaitExpiry entry tie s
  | .timingMessage x egress replayed msg => Sys2Proof.Machine.execTimingMessage x egress replayed msg s
  | .tsFifoRead r => Sys2Proof.Machine.execTsFifoRead r s
  | .streamCfg h pl => Sys2Proof.Machine.execStreamCfg h pl s
  | .fhTiming h pl => Sys2Proof.Machine.execFhTiming h pl s
  | .cascadeCfg h pl => Sys2Proof.Machine.execCascadeCfg h pl s
  | .fhCheck h pl => Sys2Proof.Machine.execFhCheck h pl s
  | .beamWsUsed w used => Sys2Proof.Machine.execBeamWsUsed w used s
  | .beamWsCommit w grp tie => Sys2Proof.Machine.execBeamWsCommit w grp tie s
  | .beamWsAbort w => Sys2Proof.Machine.execBeamWsAbort w s
  | .wsetCutoff w => Sys2Proof.Machine.execWsetCutoff w s
  | .wsetHoldExpiry w => Sys2Proof.Machine.execWsetHoldExpiry w s
  | .weightWriteRelease x => Sys2Proof.Machine.execWeightWriteRelease x s
  | .srsDone est => Sys2Proof.Machine.execSrsDone est s
  | .contextAgeTick => Sys2Proof.Machine.execContextAgeTick s
  | .userContextCfgWrite u v => Sys2Proof.Machine.execUserContextCfgWrite u v s
  | .weightJobStart job => Sys2Proof.Machine.execWeightJobStart job s
  | .weightJobDone job => Sys2Proof.Machine.execWeightJobDone job s
  | .wmemCfg h pl => Sys2Proof.Machine.execWmemCfg h pl s
  | .cluMap h pl => Sys2Proof.Machine.execCluMap h pl s
  | .wsetCfg h pl => Sys2Proof.Machine.execWsetCfg h pl s
  | .wsetFree h pl => Sys2Proof.Machine.execWsetFree h pl s
  | .wsetCommit h pl => Sys2Proof.Machine.execWsetCommit h pl s
  | .wsetWrite h pl => Sys2Proof.Machine.execWsetWrite h pl s
  | .wsetStat h pl => Sys2Proof.Machine.execWsetStat h pl s
  | .fallbackSet h pl => Sys2Proof.Machine.execFallbackSet h pl s
  | .beamSet h pl => Sys2Proof.Machine.execBeamSet h pl s
  | .ctxCfg h pl => Sys2Proof.Machine.execCtxCfg h pl s
  | .userCfg h pl => Sys2Proof.Machine.execUserCfg h pl s
  | .userRead h pl => Sys2Proof.Machine.execUserRead h pl s
  | .groupCfg h pl => Sys2Proof.Machine.execGroupCfg h pl s
  | .groupCalc h pl => Sys2Proof.Machine.execGroupCalc h pl s
  | .beamStat h pl => Sys2Proof.Machine.execBeamStat h pl s
  | .opVnop c => Sys2Proof.Machine.execOpVnop c s
  | .opCmac c => Sys2Proof.Machine.execOpCmac c s
  | .opVout c => Sys2Proof.Machine.execOpVout c s
  | .opVmule c => Sys2Proof.Machine.execOpVmule c s
  | .opVadd c => Sys2Proof.Machine.execOpVadd c s
  | .opVrsq c => Sys2Proof.Machine.execOpVrsq c s
  | .opVrcp c => Sys2Proof.Machine.execOpVrcp c s
  | .opVnorm c => Sys2Proof.Machine.execOpVnorm c s
  | .opVtr c => Sys2Proof.Machine.execOpVtr c s
  | .opVcfcol c => Sys2Proof.Machine.execOpVcfcol c s
  | .opVmov c => Sys2Proof.Machine.execOpVmov c s
  | .opVzero c => Sys2Proof.Machine.execOpVzero c s
  | .opAnop c => Sys2Proof.Machine.execOpAnop c s
  | .opLd c ups => Sys2Proof.Machine.execOpLd c ups s
  | .opSt c => Sys2Proof.Machine.execOpSt c s
  | .opAgset c => Sys2Proof.Machine.execOpAgset c s
  | .opAgptr c => Sys2Proof.Machine.execOpAgptr c s
  | .opAgoff c => Sys2Proof.Machine.execOpAgoff c s
  | .opAgstep c => Sys2Proof.Machine.execOpAgstep c s
  | .opSnop c => Sys2Proof.Machine.execOpSnop c s
  | .opAdd c => Sys2Proof.Machine.execOpAdd c s
  | .opSub c => Sys2Proof.Machine.execOpSub c s
  | .opAnd c => Sys2Proof.Machine.execOpAnd c s
  | .opOr c => Sys2Proof.Machine.execOpOr c s
  | .opXor c => Sys2Proof.Machine.execOpXor c s
  | .opShl c => Sys2Proof.Machine.execOpShl c s
  | .opShr c => Sys2Proof.Machine.execOpShr c s
  | .opSar c => Sys2Proof.Machine.execOpSar c s
  | .opMul c => Sys2Proof.Machine.execOpMul c s
  | .opSlt c => Sys2Proof.Machine.execOpSlt c s
  | .opSext16 c => Sys2Proof.Machine.execOpSext16 c s
  | .opBr c => Sys2Proof.Machine.execOpBr c s
  | .opBrz c => Sys2Proof.Machine.execOpBrz c s
  | .opBrnz c => Sys2Proof.Machine.execOpBrnz c s
  | .opLoop c => Sys2Proof.Machine.execOpLoop c s
  | .opWqpop c => Sys2Proof.Machine.execOpWqpop c s
  | .opCqpush c => Sys2Proof.Machine.execOpCqpush c s
  | .opCfld c => Sys2Proof.Machine.execOpCfld c s
  | .cfldDone c bank ups => Sys2Proof.Machine.execCfldDone c bank ups s
  | .opCfwait c => Sys2Proof.Machine.execOpCfwait c s
  | .opHcopy c => Sys2Proof.Machine.execOpHcopy c s
  | .hcopyDone c ups => Sys2Proof.Machine.execHcopyDone c ups s
  | .opHwait c => Sys2Proof.Machine.execOpHwait c s
  | .opMfvr c => Sys2Proof.Machine.execOpMfvr c s
  | .opMfnorm c => Sys2Proof.Machine.execOpMfnorm c s
  | .opMfag c => Sys2Proof.Machine.execOpMfag c s
  | .opHalt c => Sys2Proof.Machine.execOpHalt c s
  | .opFault c => Sys2Proof.Machine.execOpFault c s
  | .localWriteback c => Sys2Proof.Machine.execLocalWriteback c s
  | .externalAccess c r acc forced ups => Sys2Proof.Machine.execExternalAccess c r acc forced ups s
  | .cluLoad c => Sys2Proof.Machine.execCluLoad c s
  | .cluLoadDone c ups => Sys2Proof.Machine.execCluLoadDone c ups s
  | .cluStart c => Sys2Proof.Machine.execCluStart c s
  | .cluStop c => Sys2Proof.Machine.execCluStop c s
  | .cluStopDone c => Sys2Proof.Machine.execCluStopDone c s
  | .cluClear c => Sys2Proof.Machine.execCluClear c s
  | .cluWqPush r c lo => Sys2Proof.Machine.execCluWqPush r c lo s
  | .cluCqPop r c => Sys2Proof.Machine.execCluCqPop r c s
  | .cluWdogExpiry c tie => Sys2Proof.Machine.execCluWdogExpiry c tie s
  | .kernelAdd h pl => Sys2Proof.Machine.execKernelAdd h pl s
  | .cluAssign h pl => Sys2Proof.Machine.execCluAssign h pl s
  | .cluWork h pl => Sys2Proof.Machine.execCluWork h pl s
  | .cluPoll h pl => Sys2Proof.Machine.execCluPoll h pl s
  | .cluStat h pl => Sys2Proof.Machine.execCluStat h pl s
  | .symbolBoundary k env => Sys2Proof.Machine.execSymbolBoundary k env s
  | .ulSymbolBoundary k env => Sys2Proof.Machine.execUlSymbolBoundary k env s
  | .slotBoundary k => Sys2Proof.Machine.execSlotBoundary k s
  | .subframeBoundary => Sys2Proof.Machine.execSubframeBoundary s
  | .frameBoundary => Sys2Proof.Machine.execFrameBoundary s
  | .ncoWordCommit r nco lo => Sys2Proof.Machine.execNcoWordCommit r nco lo s
  | .ncoWordApply nco => Sys2Proof.Machine.execNcoWordApply nco s
  | .chainStop t d => Sys2Proof.Machine.execChainStop t d s
  | .chainDrained t d => Sys2Proof.Machine.execChainDrained t d s
  | .chainStart t d => Sys2Proof.Machine.execChainStart t d s
  | .coefWrite r addr v => Sys2Proof.Machine.execCoefWrite r addr v s
  | .splitWrite split => Sys2Proof.Machine.execSplitWrite split s
  | .carrierTableWrite r addr v => Sys2Proof.Machine.execCarrierTableWrite r addr v s
  | .pllPowerUp t => Sys2Proof.Machine.execPllPowerUp t s
  | .pllLockDetect t => Sys2Proof.Machine.execPllLockDetect t s
  | .pllCalTimeout t => Sys2Proof.Machine.execPllCalTimeout t s
  | .pllSettleDone t => Sys2Proof.Machine.execPllSettleDone t s
  | .pllLockLost t => Sys2Proof.Machine.execPllLockLost t s
  | .pllUnlockTimeout t => Sys2Proof.Machine.execPllUnlockTimeout t s
  | .pllCal t => Sys2Proof.Machine.execPllCal t s
  | .vtWarn t code => Sys2Proof.Machine.execVtWarn t code s
  | .sleepSet t => Sys2Proof.Machine.execSleepSet t s
  | .sleepDone t => Sys2Proof.Machine.execSleepDone t s
  | .wakeStart t => Sys2Proof.Machine.execWakeStart t s
  | .wakeDone t => Sys2Proof.Machine.execWakeDone t s
  | .pathWake p => Sys2Proof.Machine.execPathWake p s
  | .bandCfg h pl => Sys2Proof.Machine.execBandCfg h pl s
  | .carrierCfg h pl => Sys2Proof.Machine.execCarrierCfg h pl s
  | .carrierRetune h pl => Sys2Proof.Machine.execCarrierRetune h pl s
  | .carrierDel h pl => Sys2Proof.Machine.execCarrierDel h pl s
  | .filterLoad h pl => Sys2Proof.Machine.execFilterLoad h pl s
  | .filterSelect h pl => Sys2Proof.Machine.execFilterSelect h pl s
  | .pllRecal h pl => Sys2Proof.Machine.execPllRecal h pl s
  | .tileSleep h pl => Sys2Proof.Machine.execTileSleep h pl s
  | .pathMask h pl => Sys2Proof.Machine.execPathMask h pl s
  | .rfStat h pl => Sys2Proof.Machine.execRfStat h pl s
  | .dpdLoad r lo => Sys2Proof.Machine.execDpdLoad r lo s
  | .dpdLoadDone ups => Sys2Proof.Machine.execDpdLoadDone ups s
  | .dpdCommit r lo => Sys2Proof.Machine.execDpdCommit r lo s
  | .captureRequest r o lo => Sys2Proof.Machine.execCaptureRequest r o lo s
  | .captureHead o => Sys2Proof.Machine.execCaptureHead o s
  | .captureWindowOpen o => Sys2Proof.Machine.execCaptureWindowOpen o s
  | .captureWindowClose o cap => Sys2Proof.Machine.execCaptureWindowClose o cap s
  | .captureRecordDone o => Sys2Proof.Machine.execCaptureRecordDone o s
  | .captureTimeout o tie => Sys2Proof.Machine.execCaptureTimeout o tie s
  | .captureDoneRead r o => Sys2Proof.Machine.execCaptureDoneRead r o s
  | .adaptUpdate p => Sys2Proof.Machine.execAdaptUpdate p s
  | .dpdUpdateTimer p => Sys2Proof.Machine.execDpdUpdateTimer p s
  | .capgenRecapture t => Sys2Proof.Machine.execCapgenRecapture t s
  | .dpdMode h pl => Sys2Proof.Machine.execDpdMode h pl s
  | .dpdNeighbour h pl => Sys2Proof.Machine.execDpdNeighbour h pl s
  | .dpdTableLoad h pl => Sys2Proof.Machine.execDpdTableLoad h pl s
  | .dpdTableRead h pl => Sys2Proof.Machine.execDpdTableRead h pl s
  | .dpdReset h pl => Sys2Proof.Machine.execDpdReset h pl s
  | .dpdCapture h pl => Sys2Proof.Machine.execDpdCapture h pl s
  | .dpdStat h pl => Sys2Proof.Machine.execDpdStat h pl s
  | .trimWrite r addr v => Sys2Proof.Machine.execTrimWrite r addr v s
  | .calCommit t => Sys2Proof.Machine.execCalCommit t s
  | .calAbort t => Sys2Proof.Machine.execCalAbort t s
  | .statsBlock p blk => Sys2Proof.Machine.execStatsBlock p blk s
  | .engineUpdate t => Sys2Proof.Machine.execEngineUpdate t s
  | .starveExpiry p tie => Sys2Proof.Machine.execStarveExpiry p tie s
  | .dacFit p => Sys2Proof.Machine.execDacFit p s
  | .dacStarve p => Sys2Proof.Machine.execDacStarve p s
  | .recipMeasureStart => Sys2Proof.Machine.execRecipMeasureStart s
  | .recipBurst meas epochInside => Sys2Proof.Machine.execRecipBurst meas epochInside s
  | .recipSwapRequest => Sys2Proof.Machine.execRecipSwapRequest s
  | .monCalStart cv => Sys2Proof.Machine.execMonCalStart cv s
  | .monCalDone cv => Sys2Proof.Machine.execMonCalDone cv s
  | .calMode h pl => Sys2Proof.Machine.execCalMode h pl s
  | .calRead h pl => Sys2Proof.Machine.execCalRead h pl s
  | .calReset h pl => Sys2Proof.Machine.execCalReset h pl s
  | .recipRun h pl => Sys2Proof.Machine.execRecipRun h pl s
  | .recipRead h pl => Sys2Proof.Machine.execRecipRead h pl s
  | .recipHost h pl => Sys2Proof.Machine.execRecipHost h pl s
  | .monCal h pl => Sys2Proof.Machine.execMonCal h pl s
  | .calStat h pl => Sys2Proof.Machine.execCalStat h pl s
  | .timeBaseTick => Sys2Proof.Machine.execTimeBaseTick s
  | .ppsOutFall => Sys2Proof.Machine.execPpsOutFall s
  | .timeStepCommit r ns => Sys2Proof.Machine.execTimeStepCommit r ns s
  | .timeStep => Sys2Proof.Machine.execTimeStep s
  | .slewStart r lo => Sys2Proof.Machine.execSlewStart r lo s
  | .slewEnd => Sys2Proof.Machine.execSlewEnd s
  | .measCommit r lo => Sys2Proof.Machine.execMeasCommit r lo s
  | .ppsInEdge tie => Sys2Proof.Machine.execPpsInEdge tie s
  | .ppsMiss tie => Sys2Proof.Machine.execPpsMiss tie s
  | .servoEval tie => Sys2Proof.Machine.execServoEval tie s
  | .holdExp => Sys2Proof.Machine.execHoldExp s
  | .incrCommit r lo => Sys2Proof.Machine.execIncrCommit r lo s
  | .clkSrcChange refclk agree => Sys2Proof.Machine.execClkSrcChange refclk agree s
  | .ttblCommit => Sys2Proof.Machine.execTtblCommit s
  | .ttblCopy => Sys2Proof.Machine.execTtblCopy s
  | .ttEntryFire e => Sys2Proof.Machine.execTtEntryFire e s
  | .ttPulseEnd target => Sys2Proof.Machine.execTtPulseEnd target s
  | .ttInEdge land rising tooClose => Sys2Proof.Machine.execTtInEdge land rising tooClose s
  | .ttInRead r land => Sys2Proof.Machine.execTtInRead r land s
  | .mb3ScriptRun sc => Sys2Proof.Machine.execMb3ScriptRun sc s
  | .ptpExchange theta replayed => Sys2Proof.Machine.execPtpExchange theta replayed s
  | .timeCfg h pl => Sys2Proof.Machine.execTimeCfg h pl s
  | .timeSet h pl => Sys2Proof.Machine.execTimeSet h pl s
  | .timeSlew h pl => Sys2Proof.Machine.execTimeSlew h pl s
  | .timeGet h pl => Sys2Proof.Machine.execTimeGet h pl s
  | .ptpCfg h pl => Sys2Proof.Machine.execPtpCfg h pl s
  | .ttWrite h pl => Sys2Proof.Machine.execTtWrite h pl s
  | .ttCommit h pl => Sys2Proof.Machine.execTtCommit h pl s
  | .ttRead h pl => Sys2Proof.Machine.execTtRead h pl s
  | .ttScript h pl => Sys2Proof.Machine.execTtScript h pl s
  | .rmbWindowOpen => Sys2Proof.Machine.execRmbWindowOpen s
  | .rmbWindowClose rx => Sys2Proof.Machine.execRmbWindowClose rx s
  | .rmbTxqPush desc => Sys2Proof.Machine.execRmbTxqPush desc s
  | .burstStart gnt tie => Sys2Proof.Machine.execBurstStart gnt tie s
  | .burstEnd => Sys2Proof.Machine.execBurstEnd s
  | .synthHoldExpiry tie => Sys2Proof.Machine.execSynthHoldExpiry tie s
  | .txdoneRead r => Sys2Proof.Machine.execTxdoneRead r s
  | .preambleDetect pre rx => Sys2Proof.Machine.execPreambleDetect pre rx s
  | .syncFound ts => Sys2Proof.Machine.execSyncFound ts s
  | .syncTimeout => Sys2Proof.Machine.execSyncTimeout s
  | .headerReceive hdr => Sys2Proof.Machine.execHeaderReceive hdr s
  | .payloadReceive rx tie => Sys2Proof.Machine.execPayloadReceive rx tie s
  | .rxSlotFree slot => Sys2Proof.Machine.execRxSlotFree slot s
  | .rxqRead r => Sys2Proof.Machine.execRxqRead r s
  | .ackTimeout seq tie => Sys2Proof.Machine.execAckTimeout seq tie s
  | .ttTimeout tie => Sys2Proof.Machine.execTtTimeout tie s
  | .timeReqInterval => Sys2Proof.Machine.execTimeReqInterval s
  | .coexRequest => Sys2Proof.Machine.execCoexRequest s
  | .coexReqInEdge high => Sys2Proof.Machine.execCoexReqInEdge high s
  | .rmbCfg h pl => Sys2Proof.Machine.execRmbCfg h pl s
  | .rmbSend h pl => Sys2Proof.Machine.execRmbSend h pl s
  | .rmbTt h pl => Sys2Proof.Machine.execRmbTt h pl s
  | .coexCfg h pl => Sys2Proof.Machine.execCoexCfg h pl s
  | .rmbStat h pl => Sys2Proof.Machine.execRmbStat h pl s
  | .auxdQueuePush ch entry => Sys2Proof.Machine.execAuxdQueuePush ch entry s
  | .auxdTick => Sys2Proof.Machine.execAuxdTick s
  | .deglitchHoldEnd ch => Sys2Proof.Machine.execDeglitchHoldEnd ch s
  | .forceHiz => Sys2Proof.Machine.execForceHiz s
  | .monInjectRequest cv input => Sys2Proof.Machine.execMonInjectRequest cv input s
  | .conversionDone cv delay code => Sys2Proof.Machine.execConversionDone cv delay code s
  | .muteRelease addr v => Sys2Proof.Machine.execMuteRelease addr v s
  | .txmuteFall => Sys2Proof.Machine.execTxmuteFall s
  | .txmuteRise => Sys2Proof.Machine.execTxmuteRise s
  | .fespiStart r ctl cmd => Sys2Proof.Machine.execFespiStart r ctl cmd s
  | .fespiDone ctl miso => Sys2Proof.Machine.execFespiDone ctl miso s
  | .fei2cStart => Sys2Proof.Machine.execFei2cStart s
  | .fei2cDone result rx done => Sys2Proof.Machine.execFei2cDone result rx done s
  | .fei2cStretchTimeout tie => Sys2Proof.Machine.execFei2cStretchTimeout tie s
  | .auxdCfg h pl => Sys2Proof.Machine.execAuxdCfg h pl s
  | .auxdPush h pl => Sys2Proof.Machine.execAuxdPush h pl s
  | .auxdHiz h pl => Sys2Proof.Machine.execAuxdHiz h pl s
  | .monSeq h pl => Sys2Proof.Machine.execMonSeq h pl s
  | .monTrig h pl => Sys2Proof.Machine.execMonTrig h pl s
  | .monInject h pl => Sys2Proof.Machine.execMonInject h pl s
  | .monRead h pl => Sys2Proof.Machine.execMonRead h pl s
  | .monWindow h pl => Sys2Proof.Machine.execMonWindow h pl s
  | .monUnmute h pl => Sys2Proof.Machine.execMonUnmute h pl s
  | .fespiXfer h pl => Sys2Proof.Machine.execFespiXfer h pl s
  | .fei2cXfer h pl => Sys2Proof.Machine.execFei2cXfer h pl s
  | .feStat h pl => Sys2Proof.Machine.execFeStat h pl s
  | .sensorSample temps => Sys2Proof.Machine.execSensorSample temps s
  | .graceExpiry z tie => Sys2Proof.Machine.execGraceExpiry z tie s
  | .novalidGraceExpiry z tie => Sys2Proof.Machine.execNovalidGraceExpiry z tie s
  | .sensorClear sn => Sys2Proof.Machine.execSensorClear sn s
  | .powerSample vin10mV iinMa pinMw => Sys2Proof.Machine.execPowerSample vin10mV iinMa pinMw s
  | .thermCfg h pl => Sys2Proof.Machine.execThermCfg h pl s
  | .shedOrder h pl => Sys2Proof.Machine.execShedOrder h pl s
  | .sensClear h pl => Sys2Proof.Machine.execSensClear h pl s
  | .pwrCfg h pl => Sys2Proof.Machine.execPwrCfg h pl s
  | .thermStat h pl => Sys2Proof.Machine.execThermStat h pl s
  | .stateWrite st => Sys2Proof.Machine.execStateWrite st s
  | .safeCauseClear v => Sys2Proof.Machine.execSafeCauseClear v s
  | .frameWrite bytes => Sys2Proof.Machine.execFrameWrite bytes s
  | .frameRead => Sys2Proof.Machine.execFrameRead s
  | .statRead => Sys2Proof.Machine.execStatRead s
  | .regRead addr => Sys2Proof.Machine.execRegRead addr s
  | .regWrite addr v => Sys2Proof.Machine.execRegWrite addr v s
  | .executionLimit mb seq tie => Sys2Proof.Machine.execExecutionLimit mb seq tie s
  | .wdogKick key tie => Sys2Proof.Machine.execWdogKick key tie s
  | .wdogExpiry tie => Sys2Proof.Machine.execWdogExpiry tie s
  | .mboxInPop m => Sys2Proof.Machine.execMboxInPop m s
  | .mboxOutPush m v => Sys2Proof.Machine.execMboxOutPush m v s
  | .warmReset => Sys2Proof.Machine.execWarmReset s
  | .bootLoaderStart img => Sys2Proof.Machine.execBootLoaderStart img s
  | .runtimeStart prof => Sys2Proof.Machine.execRuntimeStart prof s
  | .sysInfo h pl => Sys2Proof.Machine.execSysInfo h pl s
  | .sysStateSet h pl => Sys2Proof.Machine.execSysStateSet h pl s
  | .safeClear h pl => Sys2Proof.Machine.execSafeClear h pl s
  | .sysReboot h pl => Sys2Proof.Machine.execSysReboot h pl s
  | .wdogCfg h pl => Sys2Proof.Machine.execWdogCfg h pl s
  | .fwStage h pl => Sys2Proof.Machine.execFwStage h pl s
  | .fwActivate h pl => Sys2Proof.Machine.execFwActivate h pl s
  | .fwStat h pl => Sys2Proof.Machine.execFwStat h pl s
  | .pinLoopback h pl => Sys2Proof.Machine.execPinLoopback h pl s
  | .verifyImage ups => Sys2Proof.Machine.execVerifyImage ups s
  | .verifyKernel ups => Sys2Proof.Machine.execVerifyKernel ups s
  | .verifyAuthorisation ups => Sys2Proof.Machine.execVerifyAuthorisation ups s
  | .attestationReport ups => Sys2Proof.Machine.execAttestationReport ups s
  | .engineJobDone => Sys2Proof.Machine.execEngineJobDone s
  | .lcStat h pl => Sys2Proof.Machine.execLcStat h pl s
  | .lcNonce h pl => Sys2Proof.Machine.execLcNonce h pl s
  | .lcAuth h pl => Sys2Proof.Machine.execLcAuth h pl s
  | .ownerKeySet h pl => Sys2Proof.Machine.execOwnerKeySet h pl s
  | .attest h pl => Sys2Proof.Machine.execAttest h pl s
  | .svnCommit h pl => Sys2Proof.Machine.execSvnCommit h pl s
  | .partCommit => Sys2Proof.Machine.execPartCommit s
  | .hamperWriteback word => Sys2Proof.Machine.execHamperWriteback word s
  | .scrubRead ups => Sys2Proof.Machine.execScrubRead ups s
  | .logRead r => Sys2Proof.Machine.execLogRead r s
  | .retireStart page => Sys2Proof.Machine.execRetireStart page s
  | .retireDone => Sys2Proof.Machine.execRetireDone s
  | .bistStart => Sys2Proof.Machine.execBistStart s
  | .bistStop => Sys2Proof.Machine.execBistStop s
  | .bistDone faultyRows => Sys2Proof.Machine.execBistDone faultyRows s
  | .bistPace => Sys2Proof.Machine.execBistPace s
  | .bistFuseCommit => Sys2Proof.Machine.execBistFuseCommit s
  | .lbStart => Sys2Proof.Machine.execLbStart s
  | .loopbackDone meas => Sys2Proof.Machine.execLoopbackDone meas s
  | .bulkWrite x => Sys2Proof.Machine.execBulkWrite x s
  | .weightWrite x => Sys2Proof.Machine.execWeightWrite x s
  | .bulkMark x => Sys2Proof.Machine.execBulkMark x s
  | .dmaStart c => Sys2Proof.Machine.execDmaStart c s
  | .dmaStop c => Sys2Proof.Machine.execDmaStop c s
  | .dmaResume c => Sys2Proof.Machine.execDmaResume c s
  | .dmaBurstDone c ups => Sys2Proof.Machine.execDmaBurstDone c ups s
  | .dmaWdogExpiry c tie => Sys2Proof.Machine.execDmaWdogExpiry c tie s
  | .cluPwrWrite on => Sys2Proof.Machine.execCluPwrWrite on s
  | .drainTimeout c tie => Sys2Proof.Machine.execDrainTimeout c tie s
  | .hamperDeepSleep => Sys2Proof.Machine.execHamperDeepSleep s
  | .memPartition h pl => Sys2Proof.Machine.execMemPartition h pl s
  | .memRead h pl => Sys2Proof.Machine.execMemRead h pl s
  | .memLog h pl => Sys2Proof.Machine.execMemLog h pl s
  | .pageRetire h pl => Sys2Proof.Machine.execPageRetire h pl s
  | .bistCfg h pl => Sys2Proof.Machine.execBistCfg h pl s
  | .bistStat h pl => Sys2Proof.Machine.execBistStat h pl s
  | .fuseRepair h pl => Sys2Proof.Machine.execFuseRepair h pl s
  | .loopback h pl => Sys2Proof.Machine.execLoopback h pl s
  | .hardFault bit => Sys2Proof.Machine.execHardFault bit s
  | .tbPllRelock => Sys2Proof.Machine.execTbPllRelock s
  | .faultClear addr v => Sys2Proof.Machine.execFaultClear addr v s
  | .traceSync => Sys2Proof.Machine.execTraceSync s
  | .obsRead h pl => Sys2Proof.Machine.execObsRead h pl s
  | .obsFaults h pl => Sys2Proof.Machine.execObsFaults h pl s
  | .obsFaultClear h pl => Sys2Proof.Machine.execObsFaultClear h pl s
  | .faultnCfg h pl => Sys2Proof.Machine.execFaultnCfg h pl s
  | .traceCfg h pl => Sys2Proof.Machine.execTraceCfg h pl s
  | .vinUvRise => Sys2Proof.Machine.execVinUvRise s
  | .vinUvFall => Sys2Proof.Machine.execVinUvFall s
  | .vinOvRise => Sys2Proof.Machine.execVinOvRise s
  | .vinOvFall => Sys2Proof.Machine.execVinOvFall s
  | .railFault rail => Sys2Proof.Machine.execRailFault rail s
  | .railTimeout => Sys2Proof.Machine.execRailTimeout s
  | .pwrGoodRise bist => Sys2Proof.Machine.execPwrGoodRise bist s
  | .resetNFall width => Sys2Proof.Machine.execResetNFall width s
  | .resetNRise => Sys2Proof.Machine.execResetNRise s
  | .tileColdStart t => Sys2Proof.Machine.execTileColdStart t s
  | .eqFreeze n m => Sys2Proof.Machine.execEqFreeze n m s
  | .feedEngineFill c line => Sys2Proof.Machine.execFeedEngineFill c line s
  | .drainEngineEmpty c => Sys2Proof.Machine.execDrainEngineEmpty c s
  | .railRecovery rail => Sys2Proof.Machine.execRailRecovery rail s
  | .ramblerPllLock => Sys2Proof.Machine.execRamblerPllLock s
  | .functionReady fn => Sys2Proof.Machine.execFunctionReady fn s

end Sys2Proof.Machine
end

