-- ==== Sys2Proof/Safety.lean ====
section
/-! DEFINITION. What counts as a safe run of the block, in the terms the statements use. -/

namespace Sys2Proof.Machine

/-- The invariant of the memories: their table of bytes is in its one canonical form. -/
def State.Inv (s : State) : Prop := Memory.wf s.mem = true

/-- The rows of the power stage, which act whatever the module's state (R405, R506 to R511). -/
def powerRow : Instr → Bool
  | .vinUvRise => true
  | .vinUvFall => true
  | .vinOvRise => true
  | .vinOvFall => true
  | .railFault _ => true
  | .railRecovery _ => true
  | .railTimeout => true
  | .resetNFall _ => true
  | .resetNRise => true
  | .pwrGoodRise _ => true
  | _ => false

/-- The register access a row makes, where it makes one: its address. -/
def busAddress (s : State) : Instr → Option Nat
  | .registerWrite _ a _ => some a.toNat
  | .stagedWordWrite _ a _ => some a.toNat
  | .snapshotRead _ a => some a.toNat
  | .rcRead _ a => some a.toNat
  | .regWrite a _ => if s.dev.lcOpen then some a.toNat else none
  | _ => none

/-- A command completes: it answers a next state, of which `P` holds. -/
def Completes (c : Instr) (s : State) (P : State → Prop) : Prop := ∃ t, exec c s = .next t ∧ P t

/-- The outbound frames of a mailbox that have not been taken: those in its ring, then those that wait for it (R418). -/
def Dev.outs (d : Dev) (m : Nat) : List (List Byte) := (d.mbx m).outRing ++ (d.mbx m).outWait

/-- A mailbox command that the firmware runs (R411 to R418): the module has power, the mailbox is served and is not
MB3, the SEQ is the one expected and has not been answered, and the command is legal in the present state. -/
structure CmdOk (s : State) (h : CmdHdr) (opcode : Nat) (pl : List Byte) : Prop where
  alive : s.dev.alive = true
  box : h.mb.val ≠ 3
  served : s.dev.serves h.mb.val (frameOf opcode h.tag 0 h.seq.toNat [] pl) = true
  seq : (s.dev.mbx h.mb.val).expSeq = none ∨ (s.dev.mbx h.mb.val).expSeq = some h.seq.toNat
  fresh : ∀ r, (s.dev.mbx h.mb.val).lastResp ≠ some (h.seq.toNat, r)
  legal : s.dev.cmdAllowed h.mb.val opcode = true

/-- The immediate response of a command with a status and data (R414, R415) has been added to its mailbox's outbound
frames; what was there before stands before it. -/
def Answered (s t : State) (h : CmdHdr) (opcode status : Nat) (data : List Byte) : Prop :=
  ∃ l r, t.dev.outs h.mb.val =
    s.dev.outs h.mb.val ++ l ++ frameOf opcode h.tag 1 h.seq.toNat (statusWord status 0 0) data :: r

/-- Two blocks that differ at most in the mailboxes' outbound side and in the trace port: its queue and lost count, and
the two registers the port counts in. -/
structure Dev.OutSame (d e : Dev) : Prop where
  free : e.free = d.free
  rdata : e.rdata = d.rdata
  rbytes : e.rbytes = d.rbytes
  reg : ∀ a, a ≠ A.OBS_TRC_DROP → a ≠ A.OBS_INT_STAT → e.reg a = d.reg a
  latch : e.latch = d.latch
  staged : e.staged = d.staged
  mod : e.mod = d.mod
  time : e.time = d.time
  ttbl : e.ttbl = d.ttbl
  fw : e.fw = d.fw
  memi : e.memi = d.memi
  power : e.power = d.power
  fuse : e.fuse = d.fuse
  lcs : e.lcs = d.lcs
  fe : e.fe = d.fe
  therm : e.therm = d.therm
  link : e.link = d.link
  fhp : e.fhp = d.fhp
  tiles : e.tiles = d.tiles
  beam : e.beam = d.beam
  clu : e.clu = d.clu
  rf : e.rf = d.rf
  dpd : e.dpd = d.dpd
  cal : e.cal = d.cal
  rmb : e.rmb = d.rmb
  /-- Frames move from the waiting list to the ring in their order; the inbound side stays. -/
  out : ∀ m, (e.mbx m).outRing ++ (e.mbx m).outWait = (d.mbx m).outRing ++ (d.mbx m).outWait
  inRing : ∀ m, (e.mbx m).inRing = (d.mbx m).inRing
  inHead : ∀ m, (e.mbx m).inHead = (d.mbx m).inHead
  expSeq : ∀ m, (e.mbx m).expSeq = (d.mbx m).expSeq
  lastResp : ∀ m, (e.mbx m).lastResp = (d.mbx m).lastResp
  waiting : ∀ m, (e.mbx m).waiting = (d.mbx m).waiting
  notifySeq : ∀ m, (e.mbx m).notifySeq = (d.mbx m).notifySeq
  hardCond : e.obs.hardCond = d.obs.hardCond
  lanes : e.obs.lanes = d.obs.lanes
  scr : e.obs.scr = d.obs.scr
  sent : e.obs.sent = d.obs.sent

/-- The registers that the handling of mailbox frames may change: the MBOX block and two of the trace port. -/
def mailReg (a : Nat) : Prop := (0x40020000 ≤ a ∧ a < 0x40030000) ∨ a = A.OBS_TRC_DROP ∨ a = A.OBS_INT_STAT

/-- Two blocks that differ at most in the mailboxes, in the credits of the link, in the trace port and in the registers
of both; outbound frames are only added. -/
structure Dev.MailSame (d e : Dev) : Prop where
  rdata : e.rdata = d.rdata
  rbytes : e.rbytes = d.rbytes
  reg : ∀ a, ¬ mailReg a → e.reg a = d.reg a
  latch : e.latch = d.latch
  staged : e.staged = d.staged
  mod : e.mod = d.mod
  time : e.time = d.time
  ttbl : e.ttbl = d.ttbl
  fw : e.fw = d.fw
  memi : e.memi = d.memi
  power : e.power = d.power
  fuse : e.fuse = d.fuse
  lcs : e.lcs = d.lcs
  fe : e.fe = d.fe
  therm : e.therm = d.therm
  fhp : e.fhp = d.fhp
  tiles : e.tiles = d.tiles
  beam : e.beam = d.beam
  clu : e.clu = d.clu
  rf : e.rf = d.rf
  dpd : e.dpd = d.dpd
  cal : e.cal = d.cal
  rmb : e.rmb = d.rmb
  lanes : e.link.lanes = d.link.lanes
  roles : e.link.roles = d.link.roles
  bond : e.link.bond = d.link.bond
  hardCond : e.obs.hardCond = d.obs.hardCond
  lanesOn : e.obs.lanes = d.obs.lanes
  outs : ∀ m, ∃ r, e.outs m = d.outs m ++ r

/-- A mailbox command that runs to its end with an OK response holding `data`, in a next state of which `P` holds. -/
def Answers (c : Instr) (s : State) (h : CmdHdr) (opcode : Nat) (data : List Byte) (P : State → Prop) : Prop :=
  ∃ t, exec c s = .next t ∧ Answered s t h opcode 0x00 data ∧ P t

/-- A mailbox command that the firmware has taken and will finish later: PENDING has been sent, and `P` holds of the next
state. -/
def Pends (c : Instr) (s : State) (h : CmdHdr) (opcode : Nat) (P : State → Prop) : Prop :=
  ∃ t, exec c s = .next t ∧ Answered s t h opcode 0x01 [] ∧ P t

/-- A mailbox command that the firmware has taken and whose answer waits for the hardware (R419), and `P` holds of the next
state. -/
def Waits (c : Instr) (s : State) (h : CmdHdr) (opcode : Nat) (args : List Nat) (P : State → Prop) : Prop :=
  ∃ t, exec c s = .next t ∧ (t.dev.mbx h.mb.val).waiting = some ⟨h.mb.val, h.tag.toNat, h.seq.toNat, opcode, args⟩ ∧
    t.dev.outs h.mb.val = s.dev.outs h.mb.val ∧ P t

/-- The rows that can store bytes to the memories beside the frames of the mailboxes: accesses of the register space, what
zeroes the Hamper, what moves data to it, and the bundles of a cluster. -/
def storingRow : Instr → Bool
  | .registerWrite _ _ _ | .snapshotRead _ _ | .rcRead _ _ | .stagedWordWrite _ _ _ | .regWrite _ _
  | .wdogExpiry _ | .warmReset | .runtimeStart _ | .vinUvRise | .vinUvFall | .vinOvRise | .vinOvFall
  | .railFault _ | .railTimeout | .pwrGoodRise _ | .resetNFall _ | .resetNRise | .railRecovery _
  | .attestationReport _ | .bulkWrite _ | .captureRecordDone _ | .dpdLoadDone _ | .dmaBurstDone _ _
  | .engineJobDone | .externalAccess _ _ _ _ _ | .frameWrite _ | .hcopyDone _ _ | .mb3ScriptRun _
  | .packetReceive _ _ | .payloadReceive _ _ | .preambleDetect _ _ | .rmbWindowClose _ | .srsDone _
  | .verifyAuthorisation _ | .verifyImage _ | .verifyKernel _ | .weightJobDone _ | .weightWrite _
  | .weightWriteRelease _ | .wmemCfg _ _ | .wsetCfg _ _ | .wsetWrite _ _ | .fallbackSet _ _ | .beamSet _ _
  | .attest _ _ | .opAdd _ | .opAgoff _ | .opAgptr _ | .opAgset _ | .opAgstep _ | .opAnd _ | .opAnop _ | .opBr _
  | .opBrnz _ | .opBrz _ | .opCfld _ | .opCfwait _ | .opCmac _ | .opCqpush _ | .opFault _ | .opHalt _
  | .opHcopy _ | .opHwait _ | .opLd _ _ | .opLoop _ | .opMfag _ | .opMfnorm _ | .opMfvr _ | .opMul _ | .opOr _
  | .opSar _ | .opSext16 _ | .opShl _ | .opShr _ | .opSlt _ | .opSnop _ | .opSt _ | .opSub _ | .opVadd _
  | .opVcfcol _ | .opVmov _ | .opVmule _ | .opVnop _ | .opVnorm _ | .opVout _ | .opVrcp _ | .opVrsq _ | .opVtr _
  | .opVzero _ | .opWqpop _ | .opXor _ => true
  | _ => false

/-- The parts of the block beside its registers, its mailboxes, its observation unit and the count of free values. -/
inductive Part where
  | rdata | rbytes | latch | staged | mod | time | ttbl | fw | memi | power | fuse | lcs | fe | therm | link | fhp | tiles | beam | clu | rf | dpd | cal | rmb
  deriving DecidableEq, Repr

/-- A part is the same in two blocks. -/
def Dev.SamePart (d e : Dev) : Part → Prop
  | .rdata => e.rdata = d.rdata
  | .rbytes => e.rbytes = d.rbytes
  | .latch => e.latch = d.latch
  | .staged => e.staged = d.staged
  | .mod => e.mod = d.mod
  | .time => e.time = d.time
  | .ttbl => e.ttbl = d.ttbl
  | .fw => e.fw = d.fw
  | .memi => e.memi = d.memi
  | .power => e.power = d.power
  | .fuse => e.fuse = d.fuse
  | .lcs => e.lcs = d.lcs
  | .fe => e.fe = d.fe
  | .therm => e.therm = d.therm
  | .link => e.link = d.link
  | .fhp => e.fhp = d.fhp
  | .tiles => e.tiles = d.tiles
  | .beam => e.beam = d.beam
  | .clu => e.clu = d.clu
  | .rf => e.rf = d.rf
  | .dpd => e.dpd = d.dpd
  | .cal => e.cal = d.cal
  | .rmb => e.rmb = d.rmb

/-- For events of one unit, the parts that they may change. -/
def footprint : Instr → Option (List Part)
  | .frtDone _ _ | .eqResume _ _ | .beamWsUsed _ _ | .beamWsCommit _ _ _ | .beamWsAbort _ | .contextAgeTick
    | .userContextCfgWrite _ _ | .cluClear _ | .chainStop _ _ | .chainDrained _ _ | .coefWrite _ _ _
    | .vtWarn _ _ | .trimWrite _ _ _ | .calAbort _ | .ppsMiss _ | .holdExp | .ttblCommit | .ttblCopy
    | .coexRequest | .sensorClear _ | .safeCauseClear _ | .mboxOutPush _ _ | .lbStart | .faultClear _ _
    | .traceSync => some []
  | .calCommit _ | .statsBlock _ _ | .recipMeasureStart => some [.cal]
  | .localWriteback _ | .cluLoad _ | .cluStart _ | .cluStop _ | .cluStopDone _ | .cluWdogExpiry _ _
    | .feedEngineFill _ _ | .drainEngineEmpty _ => some [.clu]
  | .captureHead _ | .captureWindowOpen _ | .captureWindowClose _ _ | .dpdUpdateTimer _ | .capgenRecapture _ => some [.dpd]
  | .monCalStart _ | .auxdQueuePush _ _ | .auxdTick | .deglitchHoldEnd _ | .forceHiz | .monInjectRequest _ _
    | .muteRelease _ _ | .txmuteRise | .fei2cStart => some [.fe]
  | .sectionDeadline _ _ => some [.fhp]
  | .bootLoaderStart _ | .loopbackDone _ => some [.fw]
  | .laneReinitDone _ | .frtReq _ _ | .eqSnapshot _ _ | .eqRollback _ _ | .ulDropExpiry _ | .eqFreeze _ _ => some [.link]
  | .partCommit | .hamperWriteback _ | .retireStart _ | .bistStart | .bistStop | .bistDone _ | .dmaStart _
    | .dmaStop _ | .dmaResume _ | .dmaWdogExpiry _ _ | .cluPwrWrite _ | .drainTimeout _ _ | .hamperDeepSleep => some [.memi]
  | .wdogKick _ _ => some [.power]
  | .frameRead | .statRead => some [.rbytes]
  | .splitWrite _ => some [.rf]
  | .syncFound _ | .syncTimeout | .headerReceive _ | .rxSlotFree _ | .ttTimeout _ | .coexReqInEdge _ => some [.rmb]
  | .chainStart _ _ | .sleepSet _ | .pathWake _ | .tileColdStart _ => some [.tiles]
  | .timeBaseTick | .ppsOutFall | .ppsInEdge _ | .tbPllRelock => some [.time]
  | .ttInEdge _ _ _ => some [.ttbl]
  | .wsetCutoff _ => some [.fw, .beam]
  | .fespiDone _ _ | .fei2cDone _ _ _ | .fei2cStretchTimeout _ => some [.fw, .fe]
  | .scrubRead _ | .retireDone | .bistPace => some [.fw, .memi]
  | .burstEnd | .synthHoldExpiry _ | .ackTimeout _ _ | .timeReqInterval => some [.fw, .rmb]
  | .timingMessage _ _ _ _ => some [.link, .fhp]
  | .bistFuseCommit => some [.memi, .fuse]
  | .bulkMark _ => some [.memi, .link]
  | .wakeStart _ => some [.memi, .tiles]
  | .externalAccess _ _ _ _ _ => some [.rbytes, .clu]
  | .rxqRead _ => some [.rdata, .rmb]
  | .cluWqPush _ _ _ => some [.staged, .clu]
  | .dpdLoad _ _ | .captureRequest _ _ _ => some [.staged, .dpd]
  | .fespiStart _ _ _ => some [.staged, .fe]
  | .ncoWordCommit _ _ _ => some [.staged, .rf]
  | .measCommit _ _ | .incrCommit _ _ => some [.staged, .time]
  | .pllPowerUp _ | .pllLockDetect _ | .pllUnlockTimeout _ | .pllCal _ => some [.tiles, .dpd]
  | .rmbWindowOpen => some [.tiles, .rmb]
  | .ttPulseEnd _ => some [.ttbl, .cal]
  | .monCalDone _ => some [.fw, .fe, .cal]
  | .cluCqPop _ _ => some [.rdata, .latch, .clu]
  | .tsFifoRead _ => some [.rdata, .latch, .fhp]
  | .logRead _ => some [.rdata, .latch, .memi]
  | .txdoneRead _ => some [.rdata, .latch, .rmb]
  | .ttInRead _ _ => some [.rdata, .latch, .ttbl]
  | _ => none

/-- Runs of bytes that lie at slots of the mailboxes' rings, eight to a ring and 0x1040 bytes apart from its base (R421). -/
def RingSlots (d : Dev) (ws : Writes) : Prop :=
  ∀ w ∈ ws, ∃ m, m < 4 ∧ ∃ k, k < 8 ∧ (w.1 = (d.reg (A.MBOX_m_IN_BASE m)).toNat + 0x1040 * k ∨
    w.1 = (d.reg (A.MBOX_m_OUT_BASE m)).toNat + 0x1040 * k)

/-- The bytes stored between two states: these runs, in order, and after them frames in slots of the mailboxes' rings. -/
def StoredAt (s t : State) (ws : Writes) : Prop :=
  ∃ frames, RingSlots t.dev frames ∧ t.mem = memWrites s.mem (ws ++ frames)

/-- A mailbox command that runs to its end: it answers a next state in which its OK response with `data` has been sent and
the block is `d`, but for the mailboxes' own handling of the frames; nothing is stored but frames. -/
def RunsTo (c : Instr) (s : State) (h : CmdHdr) (opcode : Nat) (data : List Byte) (d : Dev) : Prop :=
  ∃ t, exec c s = .next t ∧ Answered s t h opcode 0x00 data ∧ d.MailSame t.dev ∧ StoredAt s t []

/-- A mailbox command that the firmware has taken and will finish later: PENDING has been sent, the operation is noted, and
the block is `d` but for the mailboxes' own handling of the frames; nothing is stored but frames. -/
def Starts (c : Instr) (s : State) (h : CmdHdr) (opcode : Nat) (args : List Nat) (d : Dev) : Prop :=
  ∃ t, exec c s = .next t ∧ Answered s t h opcode 0x01 [] ∧
    (d.modFw (fun f => { f with pendingOps := f.pendingOps ++ [⟨h.mb.val, h.tag.toNat, h.seq.toNat, opcode, args⟩] })).MailSame
      t.dev ∧ StoredAt s t []

/-- A saturating 32-bit counter has counted up by `n`. -/
def Counted (d e : Dev) (a n : Nat) : Prop := (e.reg a).toNat = min 0xFFFFFFFF ((d.reg a).toNat + n)

/-- The bundle `b` comes up on cluster `c` outside a loop and issues: the cluster runs, its PC stands at `b`, nothing in it
faults and nothing it needs is missing (R184, R185, R203). -/
structure Issues (s : State) (c : Nat) (b : BitVec 256) : Prop where
  alive : s.dev.alive = true
  running : s.dev.cluState c = 3
  going : (s.dev.clus c).ending = 0
  here : s.dev.cluBun c = b
  sound : (s.dev.clus c).bundleFault (s.dev.cluPc c) = none
  ready : (s.dev.clus c).waits b = 0
  flat : (s.dev.clus c).loops = []
  last : s.dev.cluPc c < 2047

/-- Two blocks that differ at most in cluster `c`, its registers, the beam saturation counter and its interrupt, the count of
free values, and the mailboxes' outbound side and the trace port. -/
def Dev.OnlyCluster (d e : Dev) (c : Nat) : Prop :=
  ∃ f : Dev, f.OutSame e ∧ f = { d with regs := f.regs, clu := f.clu, free := f.free } ∧ (∀ k, k ≠ c → f.clus k = d.clus k) ∧
    ∀ a, (a < 0x40080000 + 0x1000 * c ∨ 0x40081000 + 0x1000 * c ≤ a) → a ≠ A.BEAM_SAT_LO → a ≠ A.BEAM_SAT_HI →
      a ≠ A.BEAM_INT_STAT → f.reg a = d.reg a

/-- A bundle of cluster `c` has issued and the run goes on with the bundle at `pc`; nothing is stored but `ws`, and
nothing but the cluster and what counts for it changes. -/
def Ran (s t : State) (c pc : Nat) (ws : Writes) : Prop :=
  t.dev.cluPc c = pc ∧ t.dev.cluState c = 3 ∧ StoredAt s t ws ∧ s.dev.OnlyCluster t.dev c

/-- The Rambler's ring of records (R354) is empty, its next slot lies in the Hamper, and the runtime firmware does not take
the records at once. -/
structure RingReady (s : State) : Prop where
  host : s.dev.fw.running = false
  free : s.dev.rmb.slots = 0
  lies : inHamper ((s.dev.reg A.RMB_RX_BASE).toNat + 2112 * (s.dev.rmb.nextSlot % 16)) 2112 = true

/-- A record has been written to the next slot of the Rambler's ring, and nothing else to memory; its completion is queued. -/
def Recorded (s t : State) (x : RmbRx) (status : Nat) (dup : Bool) (hdr : BitVec 64) (bytes : List Byte) (rx : RxPayload) : Prop :=
  StoredAt s t [((s.dev.reg A.RMB_RX_BASE).toNat + 2112 * (s.dev.rmb.nextSlot % 16), recordHead x status dup hdr rx ++ bytes)] ∧
  t.dev.rmb.rxq = s.dev.rmb.rxq ++ [(status, s.dev.rmb.nextSlot % 16)] ∧
  t.dev.rmb.slots.testBit (s.dev.rmb.nextSlot % 16) = true ∧ t.dev.flag F.RMB_INT_STAT_RX_DONE = true

/-- A frame that has a descriptor has completed with a code (R348), and nothing else has. -/
def TxDone (s t : State) (x : RmbTx) (code : Nat) : Prop :=
  t.dev.rmb.done = s.dev.rmb.done ++ [(code, x.seq, x.desc)] ∧ t.dev.flag F.RMB_INT_STAT_TX_DONE = true ∧
  (1 < code → t.dev.flag F.RMB_INT_STAT_TX_FAIL = true)

/-- The bytes of an authorisation (R451): its fields in order, a block signed by the kind of signer its OP needs, and for
RETURN the vendor's block after the owner's. -/
structure AuthObject (o : List Byte) (n op slot : Nat) : Prop where
  magic : leAt o 0 4 = 0x41555448
  opByte : byteAt o 4 = op
  opRange : 1 ≤ op ∧ op ≤ 7
  zeros : zeroAt o 5 3 = true ∧ zeroAt o 41 7 = true
  slotByte : byteAt o 40 = slot
  slotRange : if 3 ≤ op ∧ op ≤ 5 then slot < (if op = 5 then 3 else 4) else slot = 0
  hash : op = 3 ∨ zeroAt o 48 48 = true
  length : n = 96 + sigLen * (if op = 6 then 2 else 1)
  block : blockForm ((o.drop 96).take sigLen) "SKB-AUT1" = true
  signer : byteAt ((o.drop 96).take sigLen) 6 = authSigner op
  other : op = 5 → byteAt ((o.drop 96).take sigLen) 7 ≠ slot
  second : op = 6 → blockForm (o.drop (96 + sigLen)) "SKB-AUT1" = true ∧ byteAt (o.drop (96 + sigLen)) 6 = 0

/-- Every signature block of an authorisation verifies (R445, R451). -/
def AuthSigned (d : Dev) (o : List Byte) (op : Nat) : Prop :=
  d.blockCheck (o.take 96) ((o.drop 96).take sigLen) = 0 ∧
    (op = 6 → d.blockCheck (o.take 96) (o.drop (96 + sigLen)) = 0)

/-- The engine's check of its job has ended with a RESULT (R445). -/
def Judged (t : State) (r : Nat) : Prop := ∃ v, t.dev.lcs.outcome = some v ∧ v.1 = r

/-- Words whose writes have no behaviour of their own: identification, interrupt status and interrupt enables of the
blocks (R5). -/
def plainWords : List Nat :=
  [A.SYS_ID, A.SYS_INT_STAT, A.SYS_INT_EN,
  A.LCS_ID, A.LCS_INT_STAT, A.LCS_INT_EN,
  A.MBOX_ID, A.MBOX_INT_STAT, A.MBOX_INT_EN,
  A.TIME_ID, A.TIME_INT_STAT, A.TIME_INT_EN,
  A.TTBL_ID, A.TTBL_INT_STAT, A.TTBL_INT_EN,
  A.LINK_ID, A.LINK_INT_STAT, A.LINK_INT_EN,
  A.FHP_ID, A.FHP_INT_STAT, A.FHP_INT_EN,
  A.BEAM_ID, A.BEAM_INT_STAT, A.BEAM_INT_EN,
  A.DPD_ID, A.DPD_INT_STAT, A.DPD_INT_EN,
  A.CAL_ID, A.CAL_INT_STAT, A.CAL_INT_EN,
  A.RMB_ID, A.RMB_INT_STAT, A.RMB_INT_EN,
  A.AUXD_ID, A.AUXD_INT_STAT, A.AUXD_INT_EN,
  A.MON_ID, A.MON_INT_STAT, A.MON_INT_EN,
  A.THRM_ID, A.THRM_INT_STAT, A.THRM_INT_EN,
  A.MEMI_ID, A.MEMI_INT_STAT, A.MEMI_INT_EN,
  A.BIST_ID, A.BIST_INT_STAT, A.BIST_INT_EN,
  A.DMA_ID, A.DMA_INT_STAT, A.DMA_INT_EN]

/-- Whether a read of a word removes the head of a queue (R130, R200, R269, R326, R348, R354, R464). -/
def queueHead (a : Nat) : Bool :=
  a == A.MEMI_LOG_INFO || a == A.FHP_TS_INFO || a == A.RMB_TXDONE_LO || a == A.RMB_RXQ ||
  (List.range 16).any (fun c => a == A.CLU_CQ_LO c) || (List.range 8).any (fun o => a == A.DPD_ORXr_DONE_LO o) ||
  (List.range 8).any (fun i => a == A.TTBL_INn_INFO i)

/-- Whether a word counts time that the model brings up to the present when it is read (R237, R360). -/
def timedWord (a : Nat) : Bool :=
  a == A.COEX_YIELD_US || (List.range 4).any (fun t => a == A.TILE_SHUT_US_LO t)

/-- The registers agree, but for the two that the trace port counts in. -/
def RegsSame (d e : Dev) : Prop := ∀ b, b ≠ A.OBS_TRC_DROP → b ≠ A.OBS_INT_STAT → e.reg b = d.reg b

/-- No register with RC fields holds less than before: nothing has cleared one (R5). -/
def RcKept (d e : Dev) : Prop :=
  ∀ b row, regRow b = some row → row.rc ≠ 0 → (d.reg b).toNat ≤ (e.reg b).toNat

/-- A run is safe where no step stops: each command of the queue has been answered by a next state. -/
def SafeStep (s : State) : Prop := ∃ t, step s = .next t

end Sys2Proof.Machine
end

