-- ==== Sys2Proof/Certificates/Slice0/Obligations.lean ====
section
/-! DEFINITION. The statements for the provers. -/

open Sys2Proof Sys2Proof.Machine

/-- The block takes the command at the front of its queue: a step of a state with command `c` in front is `exec` of `c` on
the state with the rest of the queue. -/
def Obligations.StepRunsFront : Prop :=
  ∀ (c : Instr) (rest : List Instr) (s : State), step { s with pending := c :: rest } = exec c { s with pending := rest }

/-- The queue of commands. With no command waiting the block idles (log entry 1, the model's choice): memory and queue stay, and
of the block only what the trace port and a slice test change. A step that answers a next state leaves exactly the rest of the
queue. -/
def Obligations.QueueInOrder : Prop :=
  (∀ s : State, s.pending = [] → step s = .next { s with dev := s.dev.idleStep }) ∧
  (∀ s t : State, step s = .next t → t.pending = s.pending.tail)


/-- Every step keeps the memories' canonical form, whatever the command. -/
def Obligations.StepKeepsMemoryCanonical : Prop :=
  ∀ s t : State, s.Inv → step s = .next t → t.Inv

/-- The machine right after reset (R405, R406, R510, R511): in BOOT, with no command waiting and no byte listed in the
memories, so that their canonical form holds; no function ready, the mask of FAULT_N at its reset
value (R491), time at zero, and the module powered and out of RESET_N. -/
def Obligations.ResetState : Prop :=
  State.reset.Inv ∧ State.reset.pending = [] ∧ State.reset.mem = [] ∧ State.reset.dev.mod = .boot ∧
    State.reset.dev.reg A.SYS_FUNC_READY = 0 ∧ State.reset.dev.getF F.OBS_FAULTN_MASK_MASK = 0x040D ∧
    State.reset.dev.time.now.toFrac = 0 ∧ State.reset.dev.alive = true

/-- While the module is off or RESET_N is low, no command but those of the power stage changes anything (R405, R511). -/
def Obligations.DeadBlockKeepsState : Prop :=
  ∀ (c : Instr) (s : State), s.dev.alive = false → powerRow c = false → exec c s = .next s

/-- No command is refused, and a command stops with a fault exactly when it is a register access of a module with power to
an address outside the register space (log entry 17, the model's choice). -/
def Obligations.StopsAreOutsideTheRegisters : Prop :=
  ∀ (c : Instr) (s : State),
    (∀ r, exec c s ≠ .refused r) ∧
    ∀ a, exec c s = .fault (.noSuchRegister a) ↔
      s.dev.alive = true ∧ busAddress s c = some a ∧ (a < 0x40000000 ∨ 0x402C0000 ≤ a)

/-! Link lanes (02_link_lanes.md). -/

/-- A full training has just started on a port of the bond in force (R60, R70, R73): stage 1, the request cleared, the role
taken from its register, and every lane at its first attempt of stage 1. -/
def TrainingStarted (d : Dev) (x : Nat) (t : State) : Prop :=
  t.dev.getF (F.LINK_Px_STAT_STAGE x) = 1 ∧ t.dev.flag (F.LINK_Px_CTRL_RETRAIN x) = false ∧
  t.dev.role x = d.getF (F.LINK_Px_CTRL_ROLE x) ∧
  ∀ n ∈ d.lanesOf x, (t.dev.lane n).stage = 1 ∧ (t.dev.lane n).excluded = false ∧ (t.dev.lane n).tries = [(1, 1)]

/-- What starts a full training does so, on a port that is the lowest of its bond while LINK_BOND stands as in force
(R72, R73): EN set by firmware, RETRAIN written, the retry period gone by in LINK_DOWN, and a lane's signal coming up in
LINK_DOWN. -/
def Obligations.TrainingStarts : Prop :=
  ∀ (s : State) (x : Fin 4), s.dev.alive = true → s.dev.getF F.LINK_BOND_BOND = s.dev.link.bond → s.dev.lead x.val = x.val →
    (s.dev.flag (F.LINK_Px_CTRL_EN x.val) = false →
      Completes (.portEnable x) s (fun t => TrainingStarted s.dev x.val t ∧ t.dev.flag (F.LINK_Px_CTRL_EN x.val) = true)) ∧
    (s.dev.flag (F.LINK_Px_CTRL_EN x.val) = true → Completes (.portRetrain x) s (TrainingStarted s.dev x.val)) ∧
    (s.dev.flag (F.LINK_Px_CTRL_EN x.val) = true → s.dev.stage x.val = 0 →
      Completes (.linkRetryExpiry x) s (TrainingStarted s.dev x.val)) ∧
    (∀ n : Fin 16, s.dev.flag (F.LINK_Px_CTRL_EN x.val) = true → s.dev.stage x.val = 0 → s.dev.lead (n.val / 4) = x.val →
      s.dev.flag (F.LINK_Ln_STAT_SIGNAL n.val) = false →
      Completes (.laneSignalDetect n) s
        (fun t => TrainingStarted s.dev x.val t ∧ t.dev.flag (F.LINK_Ln_STAT_SIGNAL n.val) = true))

/-- What takes a port down or into a fast retrain (R71, R74, R75, R77, R546): EN cleared; the deadline of a fast retrain
gone by, or PORT_ABORT in one, after which a full training begins at once; a working lane lost; FRT_REQ from the partner.
A deadline that falls together with the completion only counts the tie (R13, R76), and FRT_DONE changes nothing here. -/
def Obligations.PortsLeaveUp : Prop :=
  ∀ (s : State) (x : Fin 4), s.dev.alive = true → s.dev.getF F.LINK_BOND_BOND = s.dev.link.bond → s.dev.lead x.val = x.val →
    s.dev.flag (F.LINK_Px_CTRL_EN x.val) = true →
    (s.dev.stage x.val ≠ 0 → Completes (.portDisable x) s (fun t =>
      t.dev.getF (F.LINK_Px_STAT_STAGE x.val) = 0 ∧ t.dev.getF (F.LINK_Px_STAT_REASON x.val) = 1 ∧
      t.dev.flag (F.LINK_Px_CTRL_EN x.val) = false ∧ t.dev.flag (linkInt x.val 1) = true ∧
      (t.dev.reg (A.LINK_Px_DOWN_CNT x.val)).toNat = min 0xFFFFFFFF ((s.dev.reg (A.LINK_Px_DOWN_CNT x.val)).toNat + 1))) ∧
    (∀ m, s.dev.stage x.val = 9 → Completes (.portAbort x m) s (fun t =>
      TrainingStarted s.dev x.val t ∧ t.dev.getF (F.LINK_Px_STAT_REASON x.val) = 12 ∧ t.dev.flag (linkInt x.val 4) = true ∧
      (t.dev.reg (A.LINK_Px_FRT_FAIL_CNT x.val)).toNat =
        min 0xFFFFFFFF ((s.dev.reg (A.LINK_Px_FRT_FAIL_CNT x.val)).toNat + 1))) ∧
    (s.dev.stage x.val = 9 → Completes (.frtDeadline x false) s (fun t =>
      TrainingStarted s.dev x.val t ∧ t.dev.getF (F.LINK_Px_STAT_REASON x.val) = 12 ∧ t.dev.flag (linkInt x.val 4) = true)) ∧
    (∀ n : Fin 16, s.dev.lead (n.val / 4) = x.val → s.dev.flag (F.LINK_Ln_STAT_IN_SET n.val) = true → s.dev.stage x.val = 8 →
      s.dev.flag (F.LINK_Px_CTRL_FRT_EN x.val) = true →
      Completes (.laneLossOfSignal n) s (fun t =>
        t.dev.getF (F.LINK_Px_STAT_STAGE x.val) = 9 ∧ t.dev.flag (linkInt x.val 3) = true ∧
        t.dev.flag (F.LINK_Ln_STAT_LOS n.val) = true ∧ t.dev.flag (F.LINK_Ln_STAT_SIGNAL n.val) = false ∧
        (t.dev.lane n.val).down = true)) ∧
    (∀ m, s.dev.stage x.val = 8 → Completes (.frtReq x m) s (fun t =>
      t.dev.getF (F.LINK_Px_STAT_STAGE x.val) = 9 ∧ t.dev.flag (linkInt x.val 3) = true ∧
      (t.dev.port x.val).frtReplying = true)) ∧
    exec (.frtDeadline x true) s = .next (settle s [] (s.dev.count A.LINK_TIE)) ∧
    (∀ m, exec (.frtDone x m) s = .next (settle s [] s.dev))

/-- The stages of a training (R60, R61, R67): a lane that locks its clock at stage 1 moves to stage 2 with SIGNAL and CDR_LOCK;
DESKEW passed moves every remaining lane on to EQ; a lane's first timeout puts it into re-initialisation at stage 1 with the
failed stage's attempts counted; the re-initialisation ends; a tie only counts. -/
def Obligations.TrainingStages : Prop :=
  ∀ (s : State) (n : Fin 16), s.dev.alive = true → (s.dev.lane n.val).reinit = false → (s.dev.lane n.val).excluded = false →
    1 ≤ s.dev.stage (s.dev.lead (n.val / 4)) → s.dev.stage (s.dev.lead (n.val / 4)) ≤ 7 →
    (∀ m, (s.dev.lane n.val).stage = 1 → n.val ∈ s.dev.lanesOf (s.dev.lead (n.val / 4)) →
      Completes (.laneStagePass n m) s (fun t =>
        (t.dev.lane n.val).stage = 2 ∧ t.dev.flag (F.LINK_Ln_STAT_SIGNAL n.val) = true ∧
        t.dev.flag (F.LINK_Ln_STAT_CDR_LOCK n.val) = true ∧ t.dev.flag (F.LINK_Ln_STAT_LOS n.val) = false)) ∧
    (∀ x : Fin 4, s.dev.stage x.val = 5 → s.dev.remaining x.val ≠ [] → (∀ k ∈ s.dev.remaining x.val, (s.dev.lane k).stage = 5) →
      Completes (.portStagePass x) s (fun t => t.dev.getF (F.LINK_Px_STAT_STAGE x.val) = 6 ∧ (t.dev.port x.val).mapSet = true ∧
        ∀ k ∈ s.dev.remaining x.val, (t.dev.lane k).stage = 6)) ∧
    (∀ x, (s.dev.lane n.val).stage = 1 → Tab.get (fun _ => 0) 1 (s.dev.lane n.val).tries < 4 →
      n.val ∈ s.dev.lanesOf (s.dev.lead (n.val / 4)) →
      Completes (.stageTimeout x (some n) false) s (fun t =>
        (t.dev.lane n.val).stage = 1 ∧ (t.dev.lane n.val).reinit = true ∧
        Tab.get (fun _ => 0) 1 (t.dev.lane n.val).tries = Tab.get (fun _ => 0) 1 (s.dev.lane n.val).tries + 1 ∧
        t.dev.flag (F.LINK_Ln_STAT_CDR_LOCK n.val) = false ∧ t.dev.flag (F.LINK_Ln_STAT_BLOCK_LOCK n.val) = false)) ∧
    (∀ x lane, exec (.stageTimeout x lane true) s = .next (settle s [] (s.dev.count A.LINK_TIE))) ∧
    exec (.laneReinitDone n) s = .next (settle s [] (s.dev.modLane n.val (fun l => { l with reinit := false })))

/-- The equaliser of a running lane (R55 to R58): a freeze, the resumption, a good snapshot, one that the millisecond does not
allow, and a rollback. The lane has diverged when, while not frozen, its eye margin is below the snapshot's × DIVERGE / 256 or it
has seen 4 header errors in the millisecond: then the last good snapshot is loaded, ROLLBACK_CNT counts and EQ_ROLLBACK is set for
its port, and no snapshot is taken; otherwise nothing is rolled back. -/
def Obligations.EqualiserHolds : Prop :=
  ∀ (s : State) (n : Fin 16) (m : EqMeas) (low : Bool), s.dev.alive = true →
    low = decide (256 * m.eye.toNat < s.dev.getF (F.LINK_Ln_EYE_SNAP_EYE n.val) * s.dev.getF F.LINK_EQ_CFG_DIVERGE) →
    (s.dev.mustFreeze n.val m = true → Completes (.eqFreeze n m) s (fun t =>
      t.dev.flag (F.LINK_Ln_STAT_EQ_FROZEN n.val) = true ∧ (t.dev.lane n.val).msFrozen = true ∧
      t.dev.getF (F.LINK_Ln_EYE_EYE_MARGIN n.val) = m.eye.toNat)) ∧
    (s.dev.mustFreeze n.val m = false → Completes (.eqResume n m) s (fun t =>
      t.dev.flag (F.LINK_Ln_STAT_EQ_FROZEN n.val) = false ∧ t.dev.getF (F.LINK_Ln_EYE_DENSITY n.val) = m.density.toNat)) ∧
    (s.dev.flag (F.LINK_Ln_STAT_EQ_FROZEN n.val) = false → (s.dev.lane n.val).msFrozen = false → (s.dev.lane n.val).msErrs = 0 →
      (s.dev.lane n.val).msRoll = false → s.dev.getF F.LINK_EQ_CFG_EYE_TARGET ≤ m.eye.toNat → low = false →
      Completes (.eqSnapshot n m) s (fun t =>
        t.dev.getF (F.LINK_Ln_EYE_SNAP_EYE n.val) = m.eye.toNat ∧ (t.dev.lane n.val).snap = clampCoef m.coef)) ∧
    ((s.dev.lane n.val).msFrozen = true ∨ (s.dev.lane n.val).msErrs ≠ 0 ∨ (s.dev.lane n.val).msRoll = true ∨
        m.eye.toNat < s.dev.getF F.LINK_EQ_CFG_EYE_TARGET ∨ low = true → Completes (.eqSnapshot n m) s (fun t =>
      t.dev.getF (F.LINK_Ln_EYE_SNAP_EYE n.val) = s.dev.getF (F.LINK_Ln_EYE_SNAP_EYE n.val) ∧
      (t.dev.lane n.val).snap = (s.dev.lane n.val).snap)) ∧
    (s.dev.flag (F.LINK_Ln_STAT_EQ_FROZEN n.val) = false → 4 ≤ (s.dev.lane n.val).msErrs ∨ low = true →
      Completes (.eqRollback n m) s (fun t =>
        t.dev.coef n.val = clampCoef (s.dev.lane n.val).snap ∧ (t.dev.lane n.val).snap = (s.dev.lane n.val).snap ∧
        (t.dev.reg (A.LINK_Ln_ROLLBACK_CNT n.val)).toNat =
          min 0xFFFFFFFF ((s.dev.reg (A.LINK_Ln_ROLLBACK_CNT n.val)).toNat + 1) ∧
        t.dev.flag (linkInt (s.dev.lead (n.val / 4)) 5) = true ∧ (t.dev.lane n.val).msRoll = true)) ∧
    (s.dev.flag (F.LINK_Ln_STAT_EQ_FROZEN n.val) = true ∨ ((s.dev.lane n.val).msErrs < 4 ∧ low = false) →
      exec (.eqRollback n m) s = .next (settle s [] s.dev))

/-- Blocks received (R51, R59, R72): symbols that form no block count a header error; a TRAIN block whose check fails breaks
the lane's run of consistent blocks; and one that passes with a stage from 1 to 7 pulls a port in LINK_DOWN into training. -/
def Obligations.BlocksReceived : Prop :=
  ∀ (s : State) (n : Fin 16), s.dev.alive = true →
    (∀ symbols, (destuffing (s.dev.lane n.val).rxRun symbols).1.length ≠ 264 → s.dev.portUp (s.dev.lead (n.val / 4)) = false →
      Completes (.blockReceive n symbols) s (fun t =>
        (t.dev.reg (A.LINK_Ln_HDR_ERR n.val)).toNat = min 0xFFFFFFFF ((s.dev.reg (A.LINK_Ln_HDR_ERR n.val)).toNat + 1))) ∧
    (∀ pl, pl.length = 64 → crc16 (pl.take 14) ≠ beAt pl 14 2 →
      Completes (.trainBlockReceive n pl) s (fun t =>
        (t.dev.lane n.val).trainRun = 0 ∧ (t.dev.port (s.dev.lead (n.val / 4))).agreeRun = 0)) ∧
    (∀ pl, pl.length = 64 → crc16 (pl.take 14) = beAt pl 14 2 → 1 ≤ byteAt pl 4 % 16 → byteAt pl 4 % 16 ≤ 7 →
      s.dev.stage (s.dev.lead (n.val / 4)) = 0 → s.dev.getF F.LINK_BOND_BOND = s.dev.link.bond →
      s.dev.flag (F.LINK_Px_CTRL_EN (s.dev.lead (n.val / 4))) = true →
      Completes (.trainBlockReceive n pl) s (TrainingStarted s.dev (s.dev.lead (n.val / 4))))

/-! Register accesses (00_scope.md). -/

/-- Writes and reads of registers (R5, R6, R8 to R12): a plain word stores its RW bits, clears the W1C bits written with 1 and
keeps the others; a higher word of a writable group is staged for its requester alone; the lowest word of a group answers its live
value, latches the others for its requester and clears the RC bits of the group; another word answers the requester's latch, or its
reset value before the first, and clears nothing; an address with no register reads zero; the two rows of each kind are one
access; and the management SPI writes in MAKER and OWNER_OPEN alone. -/
def Obligations.RegisterAccess : Prop :=
  ∀ (s : State) (r : Requester) (a v : BitVec 32), s.dev.alive = true →
    exec (.stagedWordWrite r a v) s = exec (.registerWrite r a v) s ∧
    exec (.rcRead r a) s = exec (.snapshotRead r a) s ∧
    (∀ row, a.toNat ∈ plainWords → regRow a.toNat = some row → Completes (.registerWrite r a v) s (fun t => StoredAt s t [] ∧
      (∀ i, i < 32 → (t.dev.reg a.toNat).getLsbD i = (if row.rw.testBit i then v.getLsbD i
        else (s.dev.reg a.toNat).getLsbD i && !(row.w1c.testBit i && v.getLsbD i))) ∧
      ∀ b, b ≠ a.toNat → b ≠ A.OBS_TRC_DROP → b ≠ A.OBS_INT_STAT → t.dev.reg b = s.dev.reg b)) ∧
    (isStagedWord a.toNat = true → inRegs a.toNat = true → Completes (.registerWrite r a v) s (fun t => StoredAt s t [] ∧
      RegsSame s.dev t.dev ∧ Tab.get (fun _ => none) (reqKey r a.toNat) t.dev.staged = some v ∧
      ∀ k, k ≠ reqKey r a.toNat → Tab.get (fun _ => none) k t.dev.staged = Tab.get (fun _ => none) k s.dev.staged)) ∧
    (a.toNat = A.MEMI_LOG_INFO → exec (.snapshotRead r a) s = exec (.logRead r) s) ∧
    (timedWord a.toNat = true → Completes (.snapshotRead r a) s (fun t => t.dev.rdata = s.dev.live a.toNat ∧ StoredAt s t [])) ∧
    (inRegs a.toNat = true → queueHead a.toNat = false → timedWord a.toNat = false →
      (regRow a.toNat = none → Completes (.snapshotRead r a) s (fun t => StoredAt s t [] ∧ t.dev.rdata = 0 ∧
        t.dev.latch = s.dev.latch ∧ RegsSame s.dev t.dev)) ∧
      (∀ row, regRow a.toNat = some row → row.gi ≠ 0 → Completes (.snapshotRead r a) s (fun t => StoredAt s t [] ∧
        t.dev.rdata = (s.dev.getLatch r a.toNat).getD (regReset a.toNat) ∧ t.dev.latch = s.dev.latch ∧
        RegsSame s.dev t.dev)) ∧
      (∀ row, regRow a.toNat = some row → row.gi = 0 → s.dev.obs.lanes = 0 ∨ (a.toNat ≠ A.OBS_TRC_DROP ∧ a.toNat ≠ A.OBS_INT_STAT) →
        Completes (.snapshotRead r a) s (fun t => StoredAt s t [] ∧ t.dev.rdata = s.dev.live a.toNat ∧
          (∀ i, 1 ≤ i → i < row.gl → t.dev.getLatch r (a.toNat + 4 * i) = some (s.dev.live (a.toNat + 4 * i))) ∧
          (∀ k, (∀ i, 1 ≤ i → i < row.gl → k ≠ reqKey r (a.toNat + 4 * i)) →
            Tab.get (fun _ => none) k t.dev.latch = Tab.get (fun _ => none) k s.dev.latch) ∧
          (∀ i row', i < row.gl → regRow (a.toNat + 4 * i) = some row' → ∀ k, k < 32 →
            (t.dev.reg (a.toNat + 4 * i)).getLsbD k = ((s.dev.reg (a.toNat + 4 * i)).getLsbD k && !row'.rc.testBit k)) ∧
          (∀ b, (∀ i, i < row.gl → b ≠ a.toNat + 4 * i) → b ≠ A.OBS_TRC_DROP → b ≠ A.OBS_INT_STAT →
            t.dev.reg b = s.dev.reg b)))) ∧
    (s.dev.lcOpen = true → exec (.regWrite a v) s = exec (.registerWrite .mspi a v) s) ∧
    (s.dev.lcOpen = false → exec (.regWrite a v) s = .next (settle s [] s.dev.cmdErr))

/-- Reads through the observation path (R7, R440, R492): what the life-cycle state grants is answered live, anything else
zero with a count; no RC field is cleared, and no latch, no register but that count and no byte of memory changes. -/
def Obligations.ObservationOnlyReads : Prop :=
  ∀ (s : State) (a : BitVec 32), s.dev.alive = true →
    (∀ ok, ok = (inRegs a.toNat && (s.dev.devAccess || (s.dev.lc == .returned && isIdentity a.toNat))) →
      Completes (.regRead a) s (fun t => StoredAt s t [] ∧ t.dev.latch = s.dev.latch ∧ t.dev.staged = s.dev.staged ∧
        t.dev.fuse = s.dev.fuse ∧ t.dev.rdata = (if ok then s.dev.live a.toNat else 0) ∧
        (t.dev.rbytes = word4 t.dev.rdata ∨ t.dev.rbytes = (word4 t.dev.rdata).reverse) ∧
        Counted s.dev t.dev A.OBS_DENY (if ok then 0 else 1) ∧
        RcKept s.dev t.dev ∧
        ∀ b, b ≠ A.OBS_DENY → b ≠ A.OBS_TRC_DROP → b ≠ A.OBS_INT_STAT → t.dev.reg b = s.dev.reg b)) ∧
    (∀ (h : CmdHdr) (pl : List Byte) (n : Nat), CmdOk s h 0xB001 pl → pl.length = 8 → leAt pl 0 4 = a.toNat → leAt pl 4 2 = n →
      a.toNat % 4 = 0 → 1 ≤ n → n ≤ 256 → inRegs a.toNat = true → inRegs (a.toNat + 4 * n - 4) = true → s.dev.lc ≠ .returned →
      Answers (.obsRead h pl) s h 0xB001 ((List.range n).flatMap (fun i => word4 ((s.dev.popIn h.mb.val).live (a.toNat + 4 * i)))) (fun t =>
        s.dev.MailSame t.dev ∧ RcKept s.dev t.dev ∧ StoredAt s t []))

/-! Packets, sections and timing messages (03_link_messages.md). -/

/-- How far a SEQ lies beyond the one a port expects, modulo 2^24 (R93). -/
def SeqAhead (d : Dev) (x : Nat) (b : List Byte) : Nat := ((parsePkt b).2 + 2 ^ 24 - (d.port x).rxExp) % 2 ^ 24

/-- Packets on a port that is UP (R86, R90, R93, R114): a packet that fails a check is counted and makes a NAK due; one that
is ahead makes a NAK due and is not delivered; a duplicate is counted and makes an acknowledgement due; one in order advances
the expected SEQ and, where it is a U packet for this module, waits in the U queue; a link control packet with ACK_VALID
releases what it covers, sets every limit, and counts its NAK. -/
def Obligations.PacketsReceived : Prop :=
  ∀ (s : State) (x : Fin 4) (b : List Byte), s.dev.alive = true → s.dev.stage x.val = 8 → b ≠ [] →
    ((headerGood b && packetGood b) = false →
      exec (.packetReceive x b) s = .next (settle s [] ((s.dev.count (A.FHP_Px_CRC_ERR x.val)).modPort x.val
        (fun p => { p with nakDue := p.nakDue || !p.nakSent, scanning := true })))) ∧
    ((headerGood b && packetGood b) = true → (parsePkt b).1.vc ≠ 7 →
      (1 ≤ SeqAhead s.dev x.val b → SeqAhead s.dev x.val b < 2 ^ 23 → Completes (.packetReceive x b) s (fun t =>
        (t.dev.port x.val).nakDue = ((s.dev.port x.val).nakDue || !(s.dev.port x.val).nakSent) ∧
        (t.dev.port x.val).rxExp = (s.dev.port x.val).rxExp ∧ (t.dev.port x.val).vcs = (s.dev.port x.val).vcs)) ∧
      (2 ^ 23 ≤ SeqAhead s.dev x.val b → Completes (.packetReceive x b) s (fun t =>
        (t.dev.reg (A.FHP_Px_DUP_CNT x.val)).toNat = min 0xFFFFFFFF ((s.dev.reg (A.FHP_Px_DUP_CNT x.val)).toNat + 1) ∧
        (t.dev.port x.val).ackDue = true ∧ (t.dev.port x.val).rxExp = (s.dev.port x.val).rxExp ∧
        (t.dev.port x.val).vcs = (s.dev.port x.val).vcs)) ∧
      (SeqAhead s.dev x.val b = 0 → s.dev.role x.val = 1 → (parsePkt b).1.vc = 0 → (parsePkt b).1.bcast = false →
        (parsePkt b).1.mod = s.dev.getF F.FHP_CTRL_POS → Completes (.packetReceive x b) s (fun t =>
          (t.dev.port x.val).rxExp = ((s.dev.port x.val).rxExp + 1) % 2 ^ 24 ∧
          t.dev.getF (F.FHP_Px_RX_SEQ_SEQ x.val) = ((s.dev.port x.val).rxExp + 1) % 2 ^ 24 ∧
          (t.dev.port x.val).ackValid = true ∧
          ((t.dev.port x.val).vc 0).rxq =
            ((s.dev.port x.val).vc 0).rxq ++ [{ pkt := (parsePkt b).1, at_ := s.dev.time.now }]))) ∧
    ((headerGood b && packetGood b) = true → (parsePkt b).1.vc = 7 → (byteAt (parsePkt b).1.payload 3).testBit 0 = true →
      Completes (.linkControlReceive x b) s (fun t =>
        t.dev.getF (F.FHP_Px_ACK_SEQ_SEQ x.val) = beAt (parsePkt b).1.payload 0 3 ∧
        (t.dev.port x.val).replay = (s.dev.port x.val).replay.filter (fun h =>
          decide (2 ^ 23 ≤ (beAt (parsePkt b).1.payload 0 3 + 2 ^ 24 - h.seq) % 2 ^ 24)) ∧
        (∀ v, v < 5 → ((t.dev.port x.val).vc v).limit = some (beAt (parsePkt b).1.payload (4 + 2 * v) 2)) ∧
        ((byteAt (parsePkt b).1.payload 3).testBit 1 = true →
          (t.dev.reg (A.FHP_Px_NAK_CNT x.val)).toNat = min 0xFFFFFFFF ((s.dev.reg (A.FHP_Px_NAK_CNT x.val)).toNat + 1))))

/-- What a port that is UP sends (R89, R91, R94, R95): a link control packet leaves no acknowledgement and no NAK due; the
replay timer starts a replay of every held packet in order and counts it, and at the limit of timer replays raises STALL; a
tie only counts; and at a packet start with no replay to make, a T packet that may be sent leaves before all others. -/
def Obligations.PacketsSent : Prop :=
  ∀ (s : State) (x : Fin 4), s.dev.alive = true → s.dev.stage x.val = 8 →
    Completes (.linkControlSend x) s (fun t =>
      (t.dev.port x.val).ackDue = false ∧ (t.dev.port x.val).nakDue = false ∧
      (t.dev.port x.val).nakSent = ((s.dev.port x.val).nakSent || (s.dev.port x.val).nakDue) ∧
      (t.dev.port x.val).txSeq = (s.dev.port x.val).txSeq ∧ (t.dev.port x.val).replay = (s.dev.port x.val).replay) ∧
    ((s.dev.port x.val).replay ≠ [] →
      exec (.replayTimeout x true) s = .next (settle s [] (s.dev.count A.FHP_TIE)) ∧
      ((s.dev.port x.val).timerReplays + 1 < max 1 (s.dev.getF F.FHP_REPLAY_STALL_LIMIT) →
        Completes (.replayTimeout x false) s (fun t =>
          (t.dev.port x.val).replayTodo = (s.dev.port x.val).replay.map (·.seq) ∧
          (t.dev.port x.val).timerReplays = (s.dev.port x.val).timerReplays + 1 ∧
          (t.dev.port x.val).replay = (s.dev.port x.val).replay ∧
          (t.dev.reg (A.FHP_Px_REPLAY_CNT x.val)).toNat =
            min 0xFFFFFFFF ((s.dev.reg (A.FHP_Px_REPLAY_CNT x.val)).toNat + 1))) ∧
      ((s.dev.port x.val).timerReplays + 1 = max 1 (s.dev.getF F.FHP_REPLAY_STALL_LIMIT) → s.dev.fw.running = false →
        Completes (.replayTimeout x false) s (fun t =>
          t.dev.flag ⟨A.FHP_INT_STAT, x.val, 1⟩ = true ∧
          (t.dev.port x.val).replayTodo = (s.dev.port x.val).replay.map (·.seq) ∧
          (t.dev.reg (A.FHP_Px_STALL_CNT x.val)).toNat =
            min 0xFFFFFFFF ((s.dev.reg (A.FHP_Px_STALL_CNT x.val)).toNat + 1)))) ∧
    (∀ (p : Pkt) (q : List Pkt), (s.dev.port x.val).replayTodo = [] → (s.dev.port x.val).starts ≠ 63 → p.vc = 2 →
      ((s.dev.port x.val).vc 2).txq = p :: q → s.dev.maySend x.val p = true →
      Completes (.packetStart x) s (fun t =>
        ((t.dev.port x.val).vc 2).txq = q ∧
        (t.dev.port x.val).replay =
          (s.dev.port x.val).replay ++ [{ seq := (s.dev.port x.val).txSeq, pkt := { p with owe := false }, sent := 1 }] ∧
        (t.dev.port x.val).txSeq = ((s.dev.port x.val).txSeq + 1) % 2 ^ 24 ∧
        ((t.dev.port x.val).vc 2).used = (((s.dev.port x.val).vc 2).used + pktUnits p.payload.length) % 65536))

/-- The oldest U packet of the UPSTREAM port (R98, R99, R106): of a stream that is not mapped it is counted as an orphan, too late
or too early it is counted as such, and within the window its data joins the jitter buffer. The oldest C packet while its
direction is not enabled is counted as an orphan (R98). In each case it leaves its queue. A control-plane message of one data
descriptor that arrives in its window (R102, R103, R106): the descriptor is in force behind those accepted before it. -/
def Obligations.SectionsAndDescriptors : Prop :=
  (∀ (s : State) (x : Fin 4) (i : Ingress) (r : List Ingress), s.dev.alive = true →
       (∀ tie, s.dev.role x.val = 1 → ((s.dev.port x.val).vc 0).rxq = i :: r →
         (s.dev.strm i.pkt.stream false = none → Completes (.userPlaneSection x tie) s (fun t =>
           ((t.dev.port x.val).vc 0).rxq = r ∧ t.dev.fhp = s.dev.fhp ∧ t.dev.flag ⟨A.FHP_INT_STAT, 6, 1⟩ = true ∧
           (t.dev.reg A.FHP_ORPHAN).toNat = min 0xFFFFFFFF ((s.dev.reg A.FHP_ORPHAN).toNat + 1))) ∧
         (∀ k layer comp, s.dev.strm i.pkt.stream false = some (k, layer, comp) → s.dev.flag F.FHP_CTRL_DL_EN = true →
           (secHead i.pkt.payload).comp ≤ 4 → compRank (secHead i.pkt.payload).comp ≤ compRank comp →
           s.dev.secFits k (secHead i.pkt.payload) i.pkt.payload.length = true →
           (s.dev.airTime k false (secHead i.pkt.payload).pos - i.at_.air < s.dev.fhp.lead * (airNs : Int) →
             Completes (.userPlaneSection x false) s (fun t =>
               ((t.dev.port x.val).vc 0).rxq = r ∧ t.dev.fhp = s.dev.fhp ∧ t.dev.flag ⟨A.FHP_INT_STAT, 4, 1⟩ = true ∧
               t.dev.pair A.FHP_LATE_LO A.FHP_LATE_HI = min (2 ^ 64 - 1) (s.dev.pair A.FHP_LATE_LO A.FHP_LATE_HI + 1))) ∧
           (s.dev.fhp.lead ≤ s.dev.fhp.early →
             s.dev.fhp.early * (airNs : Int) < s.dev.airTime k false (secHead i.pkt.payload).pos - i.at_.air →
             Completes (.userPlaneSection x false) s (fun t =>
               ((t.dev.port x.val).vc 0).rxq = r ∧ t.dev.fhp = s.dev.fhp ∧ t.dev.flag ⟨A.FHP_INT_STAT, 5, 1⟩ = true ∧
               (t.dev.reg A.FHP_EARLY).toNat = min 0xFFFFFFFF ((s.dev.reg A.FHP_EARLY).toNat + 1))) ∧
           (s.dev.fhp.lead * (airNs : Int) ≤ s.dev.airTime k false (secHead i.pkt.payload).pos - i.at_.air →
             s.dev.airTime k false (secHead i.pkt.payload).pos - i.at_.air ≤ s.dev.fhp.early * (airNs : Int) →
             Completes (.userPlaneSection x false) s (fun t =>
               ((t.dev.port x.val).vc 0).rxq = r ∧
               t.dev.fhp.secs = s.dev.fhp.secs ++ [{
                 stream := i.pkt.stream, carrier := k, layer := layer, pos := (secHead i.pkt.payload).pos,
                 start := (secHead i.pkt.payload).start, nprb := (secHead i.pkt.payload).nprb,
                 comp := (secHead i.pkt.payload).comp, data := i.pkt.payload.drop 8 }])))) ∧
       (∀ tie, ((s.dev.port x.val).vc 1).rxq = i :: r →
         s.dev.flag (if (beAt i.pkt.payload 0 4).testBit 8 then F.FHP_CTRL_UL_EN else F.FHP_CTRL_DL_EN) = false →
         Completes (.controlPlaneSection x tie) s (fun t =>
           ((t.dev.port x.val).vc 1).rxq = r ∧ t.dev.fhp = s.dev.fhp ∧ t.dev.flag ⟨A.FHP_INT_STAT, 6, 1⟩ = true ∧
           (t.dev.reg A.FHP_ORPHAN).toNat = min 0xFFFFFFFF ((s.dev.reg A.FHP_ORPHAN).toNat + 1)))) ∧
  (∀ (s : State) (x : Fin 4) (i : Ingress) (r : List Ingress) (e : Desc) (nprb : Nat), s.dev.alive = true →
       ((s.dev.port x.val).vc 1).rxq = i :: r →
       s.dev.flag (if e.ul then F.FHP_CTRL_UL_EN else F.FHP_CTRL_DL_EN) = true → s.dev.flag (F.CARk_CFG_EN e.carrier) = true →
       posOk (s.dev.getF (F.CARk_CFG_MU e.carrier)) e.pos = true → s.dev.getF (F.CARk_CFG_NPRB e.carrier) = nprb →
       i.pkt.payload = beBytes 4 (posWord e.pos + e.numSym * 2 ^ 9 + b2n e.ul * 2 ^ 8 + e.carrier * 2 ^ 5) ++
         beBytes 4 (e.start * 2 ^ 23 + e.nprb * 2 ^ 14 + e.comp * 2 ^ 10 + e.wsrc * 2 ^ 8) ++ beBytes 4 e.layers ++
         beBytes 2 e.wsel ++ [0, 0] ++ beBytes 2 e.sectionId ++ [0, 0] →
       e.judged = none → e.kind = 0 → e.carrier < 8 → 1 ≤ e.numSym → e.pos.symbol + e.numSym ≤ 14 → 1 ≤ e.nprb → e.nprb ≤ 273 →
       e.start + e.nprb ≤ nprb → nprb ≤ 511 → e.comp < 16 → e.wsrc < 4 → e.layers < 2 ^ 32 → e.wsel < 2 ^ 16 → e.sectionId < 2 ^ 16 →
       e.pos.slot < 2 →
       s.dev.fhp.lead * (airNs : Int) ≤ s.dev.airTime e.carrier e.ul e.pos - i.at_.air →
       s.dev.airTime e.carrier e.ul e.pos - i.at_.air ≤ s.dev.fhp.early * (airNs : Int) →
       Completes (.controlPlaneSection x false) s (fun t =>
         ((t.dev.port x.val).vc 1).rxq = r ∧ t.dev.fhp.descs = s.dev.fhp.descs ++ [e]))


/-- Deadlines and uplink emission (R107, R111, R112, R117, R118): at the deadline of a symbol the PRBs that no data fills are
counted; an uplink section of the last module is queued at once, and one of a module above others waits for its partial sum; a U
packet that cannot leave is dropped and counted; the end of the wait sends the section alone and counts it, and a tie only
counts. Timestamps (R121, R123, R130): an event message sent or received enters the FIFO with its port, direction, messageType
and sequenceId and a time within 0.5 ns of the time base; with the FIFO full it is lost and TS_OVF set; a message that is no
event enters nothing; and a read of FHP_TS_INFO returns the head and removes it. -/
def Obligations.UplinkAndTimestamps : Prop :=
  (∀ s : State, s.dev.alive = true →
       (∀ (k : Fin 8) (pos : AirPos), Completes (.sectionDeadline k pos) s (fun t =>
         t.dev.pair A.FHP_ZERO_PRB_LO A.FHP_ZERO_PRB_HI =
           min (2 ^ 64 - 1) (s.dev.pair A.FHP_ZERO_PRB_LO A.FHP_ZERO_PRB_HI + s.dev.zeroPrbs k.val pos) ∧
         t.dev.fhp.descs = s.dev.fhp.descs)) ∧
       (∀ (u : UlSection) (k layer comp x : Nat), s.dev.strm u.stream.val true = some (k, layer, comp) →
         s.dev.flag F.FHP_CTRL_UL_EN = true → s.dev.flag F.FHP_CTRL_LAST = true → s.dev.upstream = some x →
         s.dev.portUp x = true → ((s.dev.port x).vc 0).short = false → s.dev.getF F.FHP_CTRL_POS = 0 →
         Completes (.uplinkSectionProduced u) s (fun t =>
           ((t.dev.port x).vc 0).txq = ((s.dev.port x).vc 0).txq ++ [{
             vc := 0, stream := u.stream.val,
             payload := beBytes 4 (posWord u.pos + 1) ++ beBytes 4 (u.start * 2 ^ 23 + u.nprb * 2 ^ 14 + comp * 2 ^ 10) ++
               (s.dev.secEncode u.nprb comp u.vals).1 }])) ∧
       (∀ (u : UlSection) (k layer comp y : Nat), s.dev.strm u.stream.val true = some (k, layer, comp) →
         s.dev.flag F.FHP_CTRL_UL_EN = true → s.dev.flag F.FHP_CTRL_LAST = false → s.dev.downstream = some y →
         s.dev.portUp y = true → s.dev.fhp.psums = [] →
         exec (.uplinkSectionProduced u) s = .next (settle s [] (s.dev.modFhp (fun f => { f with ulWait := f.ulWait ++
           [{ stream := u.stream.val, pos := u.pos, start := u.start, nprb := u.nprb, comp := comp,
              contrib := 2 ^ s.dev.getF F.FHP_CTRL_POS, vals := u.vals }] })))) ∧
       (∀ (x : Fin 4) (p : Pkt), s.dev.role x.val = 1 →
         ((s.dev.port x.val).vc 0).txq.find? (fun p => p.mod == s.dev.getF F.FHP_CTRL_POS) = some p →
         s.dev.maySend x.val p = false → Completes (.ulDropExpiry x) s (fun t =>
           ((t.dev.port x.val).vc 0).txq = ((s.dev.port x.val).vc 0).txq.erase p ∧ t.dev.flag ⟨A.FHP_INT_STAT, 9, 1⟩ = true ∧
           (t.dev.reg A.FHP_UL_DROP_CNT).toNat = min 0xFFFFFFFF ((s.dev.reg A.FHP_UL_DROP_CNT).toNat + 1))) ∧
       (∀ (n : Nat) (u : UlSec), s.dev.fhp.ulWait[n]? = some u →
         exec (.psumWaitExpiry n true) s = .next (settle s [] (s.dev.count A.FHP_TIE)) ∧
         (s.dev.waitsPsum = true → Completes (.psumWaitExpiry n false) s (fun t =>
           t.dev.fhp.ulWait = s.dev.fhp.ulWait.eraseIdx n ∧ t.dev.fhp.ulLeft = s.dev.fhp.ulLeft ++ [{ u with vals := [] }] ∧
           t.dev.flag ⟨A.FHP_INT_STAT, 10, 1⟩ = true ∧
           (t.dev.reg A.FHP_PSUM_MISS).toNat = min 0xFFFFFFFF ((s.dev.reg A.FHP_PSUM_MISS).toNat + 1))))) ∧
  (∀ (s : State), s.dev.alive = true →
       (∀ (x : Fin 4) (replayed : Bool) (msg : List Byte), isEvent msg = true →
         (s.dev.fhp.ts.length < 64 → s.dev.time.now.toFrac + 2 ^ 32 < 2 ^ 96 * 1000000000 →
           Completes (.timingMessage x true replayed msg) s (fun t => t.dev.flag ⟨A.FHP_INT_STAT, 15, 1⟩ = true ∧
             ∃ e : TsEntry, t.dev.fhp.ts = s.dev.fhp.ts ++ [e] ∧ e.replayed = replayed ∧ e.egress = true ∧ e.port = x.val ∧
               e.msgType = byteAt msg 0 % 16 ∧ e.seqId = beAt msg 30 2 ∧ e.ns < 1000000000 ∧ e.frac < 8 ∧
               (e.sec * 1000000000 + e.ns) * 8 + e.frac ≤ s.dev.time.now.toFrac / 2 ^ 29 + 4 ∧
               s.dev.time.now.toFrac / 2 ^ 29 ≤ (e.sec * 1000000000 + e.ns) * 8 + e.frac + 4)) ∧
         (64 ≤ s.dev.fhp.ts.length → Completes (.timingMessage x true replayed msg) s (fun t =>
           t.dev.flag ⟨A.FHP_INT_STAT, 14, 1⟩ = true ∧ t.dev.fhp.ts = s.dev.fhp.ts))) ∧
       (∀ (x : Fin 4) (replayed : Bool) (msg : List Byte), isEvent msg = false →
         exec (.timingMessage x true replayed msg) s = .next (settle s [] s.dev)) ∧
       (∀ (r : Requester), Completes (.tsFifoRead r) s (fun t =>
         t.dev.fhp.ts = s.dev.fhp.ts.drop 1 ∧ (s.dev.fhp.ts = [] → t.dev.rdata = 0) ∧
         (∀ e l, s.dev.fhp.ts = e :: l → t.dev.rdata =
           wordOf [(31, 1), (30, b2n e.replayed), (29, b2n e.egress), (27, e.port), (20, e.msgType), (0, e.seqId)] ∧
           t.dev.getLatch r A.FHP_TS_SEC_LO = some (BitVec.ofNat 32 e.sec) ∧
           t.dev.getLatch r A.FHP_TS_NS = some (BitVec.ofNat 32 e.ns)))))


/-! Weight sets, contexts and weight jobs (04_beamforming.md). -/

/-- The states of a set's shadow (R142, R144 to R146): USED opens and frees the set while nothing is applied; COMMIT in time commits
an OPEN shadow with its group tag, COMMIT late only counts, and COMMIT in another state is ignored and counted; a tie counts as
in time; ABORT withdraws a commit and is ignored in any other state; the cutoff locks a committed shadow; and a HELD shadow opens
with its byte count clear. A weight write from the B channel (R147, R148, R473): for an OPEN shadow of a HOST set its bytes are
stored from its entry on, counted in WCNT and nothing else is stored; for a shadow that is not OPEN it is held where it is. A
release of a held write does the same. -/
def Obligations.WeightSets : Prop :=
  (∀ (s : State) (w : Fin 64), s.dev.alive = true →
       (∀ used, s.dev.beamOn = true → exec (.beamWsUsed w used) s = .next (settle s [] s.dev.beamCmdErr)) ∧
       (s.dev.beamOn = false → s.dev.flag (F.BEAM_WSn_CFG_USED w.val) = false → Completes (.beamWsUsed w true) s (fun t =>
         t.dev.flag (F.BEAM_WSn_CFG_USED w.val) = true ∧ t.dev.getF (F.BEAM_WSn_STAT_STATE w.val) = 1 ∧
         t.dev.flag (F.BEAM_WSn_STAT_PRIMED w.val) = false ∧ t.dev.reg (A.BEAM_WSn_WCNT w.val) = 0 ∧
         t.dev.getF (F.BEAM_WSn_CFG_CARRIER w.val) = s.dev.getF (F.BEAM_WSn_CFG_CARRIER w.val))) ∧
       (s.dev.beamOn = false → s.dev.flag (F.BEAM_WSn_CFG_USED w.val) = true → Completes (.beamWsUsed w false) s (fun t =>
         t.dev.flag (F.BEAM_WSn_CFG_USED w.val) = false ∧ t.dev.getF (F.BEAM_WSn_STAT_STATE w.val) = 0)) ∧
       (∀ (grp : Byte) (tie : Bool), s.dev.getF (F.BEAM_WSn_STAT_STATE w.val) ≠ 1 →
         Completes (.beamWsCommit w grp tie) s (fun t => Counted s.dev t.dev A.BEAM_CMD_ERR 1 ∧
           t.dev.reg (A.BEAM_WSn_STAT w.val) = s.dev.reg (A.BEAM_WSn_STAT w.val) ∧
           t.dev.flag F.BEAM_INT_STAT_CMD_ERR = true)) ∧
       (∀ (grp : Byte) (tie : Bool), s.dev.getF (F.BEAM_WSn_STAT_STATE w.val) = 1 →
         s.dev.flag (F.BEAM_WSn_TARGET_NEXT w.val) = false →
         (tie = true ∨ s.dev.nowAir ≤ s.dev.cutoff w.val (s.dev.wsTarget w.val) → Completes (.beamWsCommit w grp tie) s (fun t =>
           t.dev.getF (F.BEAM_WSn_STAT_STATE w.val) = 3 ∧ t.dev.getF (F.BEAM_WSn_STAT_GRP_SHD w.val) = grp.toNat ∧
           t.dev.flag (F.BEAM_WSn_CMD_COMMIT w.val) = true ∧ Counted s.dev t.dev A.BEAM_TIE (b2n tie) ∧
           t.dev.getF (F.BEAM_WSn_STAT_GRP_ACT w.val) = s.dev.getF (F.BEAM_WSn_STAT_GRP_ACT w.val) ∧
           t.dev.getF (F.BEAM_WSn_STAT_ACT w.val) = s.dev.getF (F.BEAM_WSn_STAT_ACT w.val))) ∧
         (tie = false → s.dev.cutoff w.val (s.dev.wsTarget w.val) < s.dev.nowAir → Completes (.beamWsCommit w grp tie) s (fun t =>
           t.dev.reg (A.BEAM_WSn_STAT w.val) = s.dev.reg (A.BEAM_WSn_STAT w.val) ∧ Counted s.dev t.dev A.BEAM_LATE_COMMIT 1 ∧
           t.dev.flag F.BEAM_INT_STAT_LATE_COMMIT = true))) ∧
       (s.dev.getF (F.BEAM_WSn_STAT_STATE w.val) = 3 → Completes (.beamWsAbort w) s (fun t =>
         t.dev.getF (F.BEAM_WSn_STAT_STATE w.val) = 1 ∧ t.dev.flag (F.BEAM_WSn_CMD_COMMIT w.val) = false)) ∧
       (s.dev.getF (F.BEAM_WSn_STAT_STATE w.val) ≠ 3 →
         exec (.beamWsAbort w) s = .next (settle s [] s.dev.beamCmdErr)) ∧
       (s.dev.getF (F.BEAM_WSn_STAT_STATE w.val) = 3 → (∀ c ∈ s.dev.beam.commits, c.set ≠ w.val) →
         (∀ j ∈ s.dev.beam.jobs, w.val ∉ j.sets) →
         exec (.wsetCutoff w) s = .next (settle s [] (s.dev.setF (F.BEAM_WSn_STAT_STATE w.val) 4))) ∧
       (s.dev.getF (F.BEAM_WSn_STAT_STATE w.val) = 2 → s.dev.beam.commits = [] →
         exec (.wsetHoldExpiry w) s =
           .next (settle s [] ((s.dev.setReg (A.BEAM_WSn_WCNT w.val) 0).setF (F.BEAM_WSn_STAT_STATE w.val) 1)))) ∧
  (∀ (s : State) (x : Fin 4) (i : Ingress) (c : Instr), s.dev.alive = true →
       (c = .weightWrite x ∨ (c = .weightWriteRelease x ∧ s.dev.beam.held.testBit x.val = true)) →
       ((s.dev.port x.val).vc 4).rxq = [i] → i.pkt.kind = 2 → byteAt i.pkt.payload 0 < 64 → 8 < i.pkt.payload.length →
       i.pkt.payload.length ≤ 16360 → i.pkt.payload.length % 4 = 0 →
       (s.dev.wsUsed (byteAt i.pkt.payload 0) = true →
         s.dev.flag (F.BEAM_WSn_CFG_SRC (byteAt i.pkt.payload 0)) = false → s.dev.beam.commits = [] →
         s.dev.getF (F.BEAM_WSn_STAT_STATE (byteAt i.pkt.payload 0)) = 1 →
         leAt i.pkt.payload 2 3 + (i.pkt.payload.length - 8) / 4 ≤ s.dev.wsEntries (s.dev.wset (byteAt i.pkt.payload 0)) →
         Completes c s (fun t => StoredAt s t [(s.dev.entryAddr (s.dev.wsShadow (byteAt i.pkt.payload 0) + leAt i.pkt.payload 2 3),
             i.pkt.payload.drop 8)] ∧
           (t.dev.reg (A.BEAM_WSn_WCNT (byteAt i.pkt.payload 0))).toNat =
             ((s.dev.reg (A.BEAM_WSn_WCNT (byteAt i.pkt.payload 0))).toNat + (i.pkt.payload.length - 8)) % 2 ^ 32 ∧
           ((t.dev.port x.val).vc 4).rxq = [])) ∧
       (s.dev.wsUsed (byteAt i.pkt.payload 0) = false ∨ s.dev.flag (F.BEAM_WSn_CFG_SRC (byteAt i.pkt.payload 0)) = false →
         s.dev.getF (F.BEAM_WSn_STAT_STATE (byteAt i.pkt.payload 0)) ≠ 1 →
         exec c s = .next (settle s [] (s.dev.modBeam (fun b => { b with held := setBitN b.held x.val true })))))


/-- User contexts (R155, R159): every 0.5 ms the age of each context with an estimate advances and stays at 255; a write of a
context's CFG clears VALID; the end of an SRS occasion sets VALID, clears AGE, counts the update and raises SRS_DONE. -/
def Obligations.UserContexts : Prop :=
  ∀ s : State, s.dev.alive = true →
    Completes .contextAgeTick s (fun t => ∀ u, u < 512 → t.dev.getF (F.BEAM_UCn_STAT_AGE u) =
      if s.dev.flag (F.BEAM_UCn_STAT_VALID u) = true then min 255 (s.dev.getF (F.BEAM_UCn_STAT_AGE u) + 1)
      else s.dev.getF (F.BEAM_UCn_STAT_AGE u)) ∧
    (∀ (u : Fin 512) (v : BitVec 32), Completes (.userContextCfgWrite u v) s (fun t =>
      (t.dev.reg (A.BEAM_UCn_CFG u.val)).toNat = v.toNat / 256 * 256 ∧ t.dev.flag (F.BEAM_UCn_STAT_VALID u.val) = false ∧
      t.dev.reg (A.BEAM_UCn_EXP u.val) = s.dev.reg (A.BEAM_UCn_EXP u.val) ∧
      t.dev.getF (F.BEAM_UCn_STAT_AGE u.val) = s.dev.getF (F.BEAM_UCn_STAT_AGE u.val))) ∧
    (∀ (e : Desc) (est : SrsEstimate), s.dev.flag F.BEAM_CTRL_SRS_EN = true →
      s.dev.fhp.descs.find? (fun e => e.kind == 1 && e.wsel == est.ctx.val) = some e →
      Completes (.srsDone est) s (fun t =>
        t.dev.flag (F.BEAM_UCn_STAT_VALID est.ctx.val) = true ∧ t.dev.getF (F.BEAM_UCn_STAT_AGE est.ctx.val) = 0 ∧
        t.dev.getF (F.BEAM_UCn_STAT_UPDATES est.ctx.val) = (s.dev.getF (F.BEAM_UCn_STAT_UPDATES est.ctx.val) + 1) % 2 ^ 16 ∧
        t.dev.flag F.BEAM_INT_STAT_SRS_DONE = true ∧ t.dev.fhp.descs = s.dev.fhp.descs.erase e))

/-- Weight jobs (R162, R163): a job starts with the layers of its group as they stand, those stale and the dark antennas noted;
and the end of a running job of one set whose shadow is OPEN commits that shadow for the job's target with the group's tag. -/
def Obligations.WeightJobs : Prop :=
  ∀ (s : State) (n : Nat) (j : WJob), s.dev.alive = true → s.dev.beam.jobs[n]? = some j →
    (∀ g, j.running = false → Tab.get (fun _ => none) j.grp s.dev.beam.groups = some g →
      Completes (.weightJobStart n) s (fun t => ∃ stale, t.dev.beam.jobs = s.dev.beam.jobs.set n
          { j with running := true, layers := g.layers, stale := stale, dark := s.dev.darkAntennas } ∧
        (∀ l, l ∈ stale ↔ l < g.layers.length ∧ s.dev.staleLayer g.maxAge j.carriers (g.layers.getD l (0, 0)) = true) ∧
        t.dev.beam.staleLayer = s.dev.beam.staleLayer + stale.length)) ∧
    (∀ w, j.running = true → j.sets = [w] → s.dev.beam.commits = [] → w < 64 → j.grp < 256 → j.target.symbol = 0 →
      j.target.sfn < 1024 → j.target.subframe < 10 → j.target.slot < 2 →
      s.dev.getF (F.BEAM_WSn_STAT_STATE w) = 1 → s.dev.nowAir ≤ s.dev.cutoff w j.target →
      Completes (.weightJobDone n) s (fun t => t.dev.beam.jobs = s.dev.beam.jobs.eraseIdx n ∧
        t.dev.getF (F.BEAM_WSn_STAT_STATE w) = 3 ∧ t.dev.getF (F.BEAM_WSn_STAT_GRP_SHD w) = j.grp ∧
        t.dev.wsTarget w = j.target))

/-- The beam commands (R138, R142, R149, R154, R168, R542), each with its effect where its checks pass: WMEM_CFG, CLU_MAP, WSET_CFG
of one set, WSET_FREE, and the writes of entries by WSET_WRITE, FALLBACK_SET and BEAM_SET; then WSET_COMMIT before BCOUNT has
arrived, WSET_STAT, CTX_CFG, USER_CFG, USER_READ, GROUP_CFG with no job waiting, GROUP_CALC and BEAM_STAT, which clears what it
reads. -/
def Obligations.BeamClassCommands : Prop :=
  (∀ (s : State) (h : CmdHdr) (pl : List Byte),
       (CmdOk s h 0x3001 pl → pl.length = 4 → leAt pl 0 2 ≤ 4096 → s.dev.wmemFits s.dev.wsets (leAt pl 0 2) = true →
         Answers (.wmemCfg h pl) s h 0x3001 [] (fun t => t.dev.getF F.BEAM_NBEAM_NBEAM = leAt pl 0 2)) ∧
       (CmdOk s h 0x3002 pl → pl.length = 4 → s.dev.loadFits s.dev.wsets (s.dev.applyClusters (leAt pl 0 2)) = true →
         RunsTo (.cluMap h pl) s h 0x3002 [] (s.dev.setF F.BEAM_CLU_MAP_CALC (leAt pl 0 2))) ∧
       (∀ w : WSet, CmdOk s h 0x3010 pl → w.n < 64 → w.carrier < 8 → w.g ∈ [1, 2, 4, 8, 16] → 1 ≤ w.layers → w.layers ≤ 32 →
         w.scale < 8 → pl = [BitVec.ofNat 8 w.n, BitVec.ofNat 8 w.carrier, BitVec.ofNat 8 (b2n w.ul), BitVec.ofNat 8 w.g,
           BitVec.ofNat 8 w.layers, BitVec.ofNat 8 (b2n w.computed), BitVec.ofNat 8 w.scale, 1] →
         s.dev.beamOn = false → s.dev.wsUsed w.n = false →
         (w.computed = true → ∀ v ∈ s.dev.wsets, v.computed = true → v.carrier = w.carrier → v.ul ≠ w.ul) →
         s.dev.setsCheck (s.dev.wsets ++ [w]) [w.n] = none →
         Answers (.wsetCfg h pl) s h 0x3010 [] (fun t => t.dev.wset w.n = w ∧ t.dev.flag (F.BEAM_WSn_CFG_USED w.n) = true ∧
           t.dev.getF (F.BEAM_WSn_STAT_STATE w.n) = 1 ∧ t.dev.beam.order = s.dev.beam.order.erase w.n ++ [w.n])) ∧
       (CmdOk s h 0x3011 pl → pl.length = 4 → s.dev.wsUsed (byteAt pl 0) = true →
         Answers (.wsetFree h pl) s h 0x3011 [] (fun t => t.dev.flag (F.BEAM_WSn_CFG_USED (byteAt pl 0)) = false ∧
           t.dev.getF (F.BEAM_WSn_STAT_STATE (byteAt pl 0)) = 0 ∧ t.dev.beam.order = s.dev.beam.order.erase (byteAt pl 0))) ∧
       (CmdOk s h 0x3013 pl → 12 ≤ pl.length → pl.length ≤ 4096 → pl.length % 4 = 0 → s.dev.wsUsed (byteAt pl 0) = true →
         leAt pl 2 3 + (pl.length - 8) / 4 ≤ s.dev.wsEntries (s.dev.wset (byteAt pl 0)) →
         s.dev.flag (F.BEAM_WSn_CFG_SRC (byteAt pl 0)) = false → s.dev.getF (F.BEAM_WSn_STAT_STATE (byteAt pl 0)) = 1 →
         s.dev.beam.commits = [] →
         Answers (.wsetWrite h pl) s h 0x3013 [] (fun t =>
           StoredAt s t [(s.dev.entryAddr (s.dev.wsShadow (byteAt pl 0) + leAt pl 2 3), pl.drop 8)] ∧
           (t.dev.reg (A.BEAM_WSn_WCNT (byteAt pl 0))).toNat =
             ((s.dev.reg (A.BEAM_WSn_WCNT (byteAt pl 0))).toNat + (pl.length - 8)) % 2 ^ 32)) ∧
       (CmdOk s h 0x3020 pl → byteAt pl 0 ≤ 7 → byteAt pl 1 ≤ 1 → 1 ≤ byteAt pl 3 → byteAt pl 3 ≤ 15 →
         byteAt pl 2 + byteAt pl 3 ≤ 32 → pl.length = 4 + 256 * byteAt pl 3 → s.dev.beamOn = false → s.dev.beam.commits = [] →
         Answers (.fallbackSet h pl) s h 0x3020 [] (fun t =>
           StoredAt s t [(s.dev.entryAddr ((2 * byteAt pl 0 + byteAt pl 1) * 2048 + byteAt pl 2 * 64), pl.drop 4)])) ∧
       (CmdOk s h 0x3021 pl → 1 ≤ leAt pl 2 2 → leAt pl 2 2 ≤ 15 → leAt pl 0 2 + leAt pl 2 2 ≤ s.dev.nbeam →
         pl.length = 8 + 256 * leAt pl 2 2 → s.dev.beamOn = false → s.dev.beam.commits = [] →
         Answers (.beamSet h pl) s h 0x3021 [] (fun t =>
           StoredAt s t [(s.dev.entryAddr (32768 + leAt pl 0 2 * 64), pl.drop 8)]))) ∧
  (∀ (s : State) (h : CmdHdr) (pl : List Byte),
       (CmdOk s h 0x3012 pl → pl.length = 12 → s.dev.wsUsed (byteAt pl 0) = true → (byteAt pl 1).testBit 0 = true →
         s.dev.getF (F.BEAM_WSn_STAT_STATE (byteAt pl 0)) = 1 → s.dev.beam.commits = [] →
         (s.dev.reg (A.BEAM_WSn_WCNT (byteAt pl 0))).toNat < leAt pl 8 4 →
         s.dev.nowAir ≤ s.dev.cutoff (byteAt pl 0) (s.dev.nextTarget (byteAt pl 0)) →
         Starts (.wsetCommit h pl) s h 0x3012 [byteAt pl 0] (s.dev.modBeam (fun b => { b with commits := [{
           set := byteAt pl 0, mb := h.mb.val, tag := h.tag.toNat, target := s.dev.nextTarget (byteAt pl 0), bcount := leAt pl 8 4,
           grp := s.dev.getF (F.BEAM_WSn_CMD_GRP (byteAt pl 0)),
           op := some ⟨h.mb.val, h.tag.toNat, h.seq.toNat, 0x3012, [byteAt pl 0]⟩ }] }))) ∧
       (CmdOk s h 0x3014 pl → pl.length = 4 → byteAt pl 0 < 64 →
         RunsTo (.wsetStat h pl) s h 0x3014 (s.dev.regsBytes (A.BEAM_WSn_CFG (byteAt pl 0)) 7) s.dev) ∧
       (CmdOk s h 0x3030 pl → pl.length = 8 → 1 ≤ leAt pl 0 2 → leAt pl 0 2 ≤ 512 → byteAt pl 2 ∈ [1, 2] →
         byteAt pl 3 ∈ [4, 8, 16] → 1 ≤ leAt pl 4 2 → leAt pl 4 2 ≤ 1023 →
         s.dev.storeFits (leAt pl 0 2) (byteAt pl 2) (byteAt pl 3) (leAt pl 4 2) (s.dev.regionSize 1) = true →
         Answers (.ctxCfg h pl) s h 0x3030 [] (fun t => t.dev.nUser = leAt pl 0 2 ∧ t.dev.ctxPorts = byteAt pl 2 ∧
           t.dev.ctxSb = byteAt pl 3 ∧ t.dev.ctxNsb = leAt pl 4 2)) ∧
       (CmdOk s h 0x3031 pl → pl.length = 8 → leAt pl 0 2 < s.dev.nUser → ucOk (leAt pl 4 4) = true →
         ((leAt pl 4 4).testBit 30 = true → s.dev.ctxPorts = 2) →
         Answers (.userCfg h pl) s h 0x3031 [] (fun t =>
           (t.dev.reg (A.BEAM_UCn_CFG (leAt pl 0 2))).toNat = leAt pl 4 4 / 256 * 256 ∧
           t.dev.flag (F.BEAM_UCn_STAT_VALID (leAt pl 0 2)) = false)) ∧
       (CmdOk s h 0x3032 pl → pl.length = 8 → leAt pl 0 2 < s.dev.nUser → byteAt pl 2 < s.dev.ctxPorts → 1 ≤ leAt pl 6 2 →
         leAt pl 6 2 ≤ 15 → leAt pl 4 2 + leAt pl 6 2 ≤ s.dev.ctxNsb →
         Answers (.userRead h pl) s h 0x3032 (s.dev.regsBytes (A.BEAM_UCn_CFG (leAt pl 0 2)) 4 ++
           s.dev.eccBytes s.mem (s.dev.estAddr (leAt pl 0 2) (byteAt pl 2) (leAt pl 4 2) 0) (256 * leAt pl 6 2))
           (fun t => t.dev.beam = s.dev.beam)) ∧
       (CmdOk s h 0x3040 pl → 1 ≤ byteAt pl 1 → byteAt pl 1 ≤ 32 → pl.length = 4 + 2 * byteAt pl 1 → s.dev.beam.jobs = [] →
         (∀ l ∈ groupLayers pl, l.1 < s.dev.nUser ∧ l.2 < s.dev.ctxPorts) →
         RunsTo (.groupCfg h pl) s h 0x3040 [] (s.dev.modBeam (fun b => { b with
           groups := Tab.set (fun _ => none) (byteAt pl 0)
             (some { reg := byteAt pl 2, maxAge := byteAt pl 3, layers := groupLayers pl }) b.groups }))) ∧
       (∀ (k n : Nat), CmdOk s h 0x3041 pl → pl.length = 8 → (Tab.get (fun _ => none) (byteAt pl 0) s.dev.beam.groups).isSome = true →
         bitsOf 8 (byteAt pl 1) = [k] → byteAt pl 2 = 1 → s.dev.computedSet k false = some n →
         posOk (s.dev.getF (F.CARk_CFG_MU k)) (slotAt pl 4) = true → s.dev.beam.jobs = [] → s.dev.beam.commits = [] →
         s.dev.getF (F.BEAM_WSn_STAT_STATE n) = 1 →
         s.dev.jobsFit [(s.dev.jobGroups [k] true false, s.dev.groupL (byteAt pl 0))] = true →
         Starts (.groupCalc h pl) s h 0x3041 [byteAt pl 0] (s.dev.modBeam (fun b => { b with jobs := [{
           op := ⟨h.mb.val, h.tag.toNat, h.seq.toNat, 0x3041, [byteAt pl 0]⟩, grp := byteAt pl 0, carriers := [k], dl := true,
           ul := false, target := slotAt pl 4, sets := [n] }] }))) ∧
       (CmdOk s h 0x3050 pl → pl = [] →
         Answers (.beamStat h pl) s h 0x3050
           (s.dev.regsBytes A.BEAM_TIE 1 ++ s.dev.regsBytes A.BEAM_SWAP_CNT 9 ++ s.dev.regsBytes A.BEAM_SAT_LO 2 ++
             le4 s.dev.beam.calcLate ++ le4 s.dev.beam.staleLayer)
           (fun t => t.dev.reg A.BEAM_TIE = 0 ∧ t.dev.reg A.BEAM_SAT_LO = 0 ∧ t.dev.reg A.BEAM_SAT_HI = 0 ∧
             ∀ n, n < 9 → t.dev.reg (A.BEAM_SWAP_CNT + 4 * n) = 0)))


/-! Beam clusters (05_beam_clusters.md). -/

/-- The scalar slot of a bundle whose other slots are no-ops (R184, R189 to R191, R196, R203). The scalar operations: SD receives the
result of the operation on SA and the second operand (a write to S0 is ignored), nothing else of the cluster changes, and the
next bundle follows. Branches, loops, queues, transfers and the end of a run. A bundle that faults has no effect, its code and PC
are recorded, and with no transfer under way the cluster enters FAULT; a FAULT operation faults with its code in SWCODE. -/
def Obligations.ScalarSlot : Prop :=
  (∀ (s : State) (c : Fin 16) (b : BitVec 256) (p : CluSt) (a x : W32), Issues s c.val b → bunV b = 0 → bunA0 b = 0 →
       bunA1 b = 0 → s.dev.clus c.val = p → p.srcA (bunS b) = a → p.srcB (bunS b) = x →
       let gives := fun (i : Instr) (v : W32) => Completes i s (fun t =>
         t.dev.clus c.val = p.putS (sSd (bunS b)) v ∧ Ran s t c.val (s.dev.cluPc c.val + 1) [])
       (sop (bunS b) = 0x00 → Completes (.opSnop c) s (fun t => t.dev.clus c.val = p ∧ Ran s t c.val (s.dev.cluPc c.val + 1) [])) ∧
       (sop (bunS b) = 0x01 → gives (.opAdd c) (a + x)) ∧
       (sop (bunS b) = 0x02 → gives (.opSub c) (a - x)) ∧
       (sop (bunS b) = 0x03 → gives (.opAnd c) (a &&& x)) ∧
       (sop (bunS b) = 0x04 → gives (.opOr c) (a ||| x)) ∧
       (sop (bunS b) = 0x05 → gives (.opXor c) (a ^^^ x)) ∧
       (sop (bunS b) = 0x06 → gives (.opShl c) (a <<< (x.toNat % 32))) ∧
       (sop (bunS b) = 0x07 → gives (.opShr c) (a >>> (x.toNat % 32))) ∧
       (sop (bunS b) = 0x08 → gives (.opSar c) (a.sshiftRight (x.toNat % 32))) ∧
       (sop (bunS b) = 0x09 → gives (.opMul c) (BitVec.ofNat 32 (a.toNat * x.toNat))) ∧
       (sop (bunS b) = 0x0A → gives (.opSlt c) (if a.toInt < x.toInt then 1 else 0)) ∧
       (sop (bunS b) = 0x0B → gives (.opSext16 c) ((a.setWidth 16).signExtend 32)) ∧
       (sop (bunS b) = 0x1B → gives (.opCfwait c) (BitVec.ofNat 32 (p.stat (sImm (bunS b) % 2)))) ∧
       (sop (bunS b) = 0x1E → gives (.opMfvr c) (p.vreg (bitsN (bunS b) 6 4) (bitsN (bunS b) 0 6))) ∧
       (sop (bunS b) = 0x1F → gives (.opMfnorm c) (BitVec.ofNat 32 p.norm)) ∧
       (sop (bunS b) = 0x20 → gives (.opMfag c) (BitVec.ofInt 32 (p.agen (sImm (bunS b) % 8)).ptr))) ∧
  ((∀ (s : State) (c : Fin 16) (b : BitVec 256) (p : CluSt) (a x : W32), Issues s c.val b → bunV b = 0 → bunA0 b = 0 →
          bunA1 b = 0 → s.dev.clus c.val = p → p.srcA (bunS b) = a → p.srcB (bunS b) = x →
          let goes := fun (i : Instr) (pc : Nat) (q : CluSt) => Completes i s (fun t => t.dev.clus c.val = q ∧ Ran s t c.val pc [])
          (sop (bunS b) = 0x10 → goes (.opBr c) (sImm (bunS b) % 2048) p) ∧
          (sop (bunS b) = 0x11 → goes (.opBrz c) (if a = 0 then sImm (bunS b) % 2048 else s.dev.cluPc c.val + 1) p) ∧
          (sop (bunS b) = 0x12 → goes (.opBrnz c) (if a = 0 then s.dev.cluPc c.val + 1 else sImm (bunS b) % 2048) p) ∧
          (sop (bunS b) = 0x13 → a ≠ 0 → goes (.opLoop c) (s.dev.cluPc c.val + 1)
            { p with loops := [{ first := s.dev.cluPc c.val + 1, last := sImm (bunS b) % 2048, left := a.toNat }] }) ∧
          (sop (bunS b) = 0x13 → a = 0 → sImm (bunS b) % 2048 < 2047 → goes (.opLoop c) (sImm (bunS b) % 2048 + 1) p) ∧
          (∀ (e : BitVec 64) (q : List (BitVec 64)), sop (bunS b) = 0x18 → p.wq = e :: q →
            goes (.opWqpop c) (s.dev.cluPc c.val + 1)
              (({ p with wq := q }.putS (sSd (bunS b)) (e.setWidth 32)).putS (sSd (bunS b) + 1) (e.extractLsb' 32 32))) ∧
          (sop (bunS b) = 0x19 → Completes (.opCqpush c) s (fun t =>
            t.dev.clus c.val = { p with cq := p.cq ++ [x ++ a] } ∧ t.dev.flag (F.CLU_INT_STAT_DONE c.val) = true ∧
            Ran s t c.val (s.dev.cluPc c.val + 1) [])) ∧
          (sop (bunS b) = 0x1A → goes (.opCfld c) (s.dev.cluPc c.val + 1)
            (p.setLoad (sImm (bunS b) % 2) (some (a.toNat, bitsN (bunS b) 8 6)))) ∧
          (sop (bunS b) = 0x1C → goes (.opHcopy c) (s.dev.cluPc c.val + 1) { p with copies := p.copies ++
            [{ out := (bunS b).testBit 31, addr := a.toNat, line := x.toNat % 8192, n := bitsN (bunS b) 0 14 }] }) ∧
          (sop (bunS b) = 0x1D → (p.copyUe && p.copyDrop) = false → goes (.opHwait c) (s.dev.cluPc c.val + 1)
            ({ p with copyUe := false, copyDrop := false }.putS (sSd (bunS b))
              (if p.copyUe then 1 else if p.copyDrop then 2 else 0))) ∧
          (sop (bunS b) = 0x3E → Completes (.opHalt c) s (fun t => t.dev.clus c.val = p ∧ t.dev.cluState c.val = 2 ∧
            t.dev.cluPc c.val = s.dev.cluPc c.val ∧ t.dev.flag (F.CLU_INT_STAT_HALTED c.val) = true ∧ StoredAt s t [] ∧ s.dev.OnlyCluster t.dev c.val))) ∧
     (∀ (s : State) (c : Fin 16) (p : CluSt), s.dev.alive = true → s.dev.cluState c.val = 3 → s.dev.clus c.val = p → p.ending = 0 →
          p.busy = false → bunLegal (s.dev.cluBun c.val) = true → bunConflict (s.dev.cluBun c.val) = false →
          sop (bunS (s.dev.cluBun c.val)) = 0x3F → p.agOut (bunA0 (s.dev.cluBun c.val)) = false →
          p.agOut (bunA1 (s.dev.cluBun c.val)) = false →
          Completes (.opFault c) s (fun t => t.dev.cluState c.val = 4 ∧ t.dev.getF (F.CLU_FAULT_CODE c.val) = 7 ∧
            t.dev.getF (F.CLU_FAULT_SWCODE c.val) = sImm (bunS (s.dev.cluBun c.val)) % 256 ∧
            t.dev.getF (F.CLU_FAULT_PC c.val) = s.dev.cluPc c.val ∧ t.dev.cluPc c.val = s.dev.cluPc c.val ∧
            t.dev.flag (F.CLU_INT_STAT_FAULT c.val) = true ∧ t.dev.clus c.val = p ∧ StoredAt s t [])))


/-- The vector operations (R172, R180, R181, R186, R187), in a bundle whose other slots are no-ops: what the target receives,
element by element, while the scalar and narrow registers, the coefficient file, the generators and the queues stay. -/
def Obligations.VectorOperations : Prop :=
  ∀ (s : State) (c : Fin 16) (b : BitVec 256) (p : CluSt) (v : Nat), Issues s c.val b → bunV b = v → bunA0 b = 0 → bunA1 b = 0 →
    bunS b = 0 → s.dev.clus c.val = p →
    let does := fun (i : Instr) (P : CluSt → Prop) => Completes i s (fun t => P (t.dev.clus c.val) ∧
      { t.dev.clus c.val with v := p.v, acc := p.acc, ob := p.ob, obLine0 := p.obLine0, obLine1 := p.obLine1, norm := p.norm } = p ∧
      Ran s t c.val (s.dev.cluPc c.val + 1) [])
    (vop v = 0x00 → does (.opVnop c) (fun q => q = p)) ∧
    (vop v = 0x01 → does (.opCmac c) (fun q => q.v = p.v ∧ q.ob = p.ob ∧ ∀ k u, u < 256 → q.accu k u =
      if k ≠ vAcc v then p.accu k u
      else
        let m := cmul (p.opA v (u / shapeC v)) (p.opB v [] (u % shapeC v))
        let put := fun (old y : Int) =>
          let z := (if v.testBit 49 then 0 else old) + (if v.testBit 48 then -y else y)
          if v.testBit 57 then clampI (-(2 ^ 47)) (2 ^ 47 - 1) z else sgn 48 (unsgn 48 z)
        (put (p.accu k u).1 m.1, put (p.accu k u).2 m.2))) ∧
    (vop v = 0x02 → does (.opVout c) (fun q => q.acc = p.acc ∧ ∀ n, n < 256 →
      let u := if v.testBit 14 then n % shapeR v * shapeC v + n / shapeR v else n
      let y := conjIf (v.testBit 13) (p.accu (vAcc v) u)
      let w := elemWord (narrow (p.shift v) (v.testBit 57) y.1).1 (narrow (p.shift v) (v.testBit 57) y.2).1
      (vDst v < 16 → q.vreg (vDst v) n = w ∧ q.ob = p.ob) ∧
      (16 ≤ vDst v → q.obuf (vDst v - 16) n = w ∧ q.obLine (vDst v - 16) = 0 ∧ q.v = p.v))) ∧
    (vop v = 0x03 → does (.opVmule c) (fun q => q.acc = p.acc ∧ ∀ i, i < 64 →
      let m := cmul (conjIf (v.testBit 51) (elemOf (p.vreg (vAidx v) i)))
        (conjIf (v.testBit 50) (elemOf (if vBsrc v = 2 then p.vreg (vBreg v) i else p.sreg (vBreg v))))
      q.vreg (vDst v) i = elemWord (narrow (p.shift v) (v.testBit 57) m.1).1 (narrow (p.shift v) (v.testBit 57) m.2).1)) ∧
    (vop v = 0x04 → does (.opVadd c) (fun q => q.acc = p.acc ∧ ∀ i, i < 64 →
      let x := elemOf (p.vreg (vAidx v) i)
      let y := elemOf (p.vreg (vBreg v) i)
      let z := if v.testBit 48 then (x.1 - y.1, x.2 - y.2) else (x.1 + y.1, x.2 + y.2)
      q.vreg (vDst v) i = elemWord (narrow (p.shift v) (v.testBit 57) z.1).1 (narrow (p.shift v) (v.testBit 57) z.2).1)) ∧
    (vop v = 0x05 → does (.opVrsq c) (fun q => q.acc = p.acc ∧ ∀ i, i < 64 → (elemOf (p.vreg (vAidx v) i)).1 ≤ 0 →
      q.vreg (vDst v) i = 0x7FFF7FFF)) ∧
    (vop v = 0x06 → does (.opVrcp c) (fun q => q.acc = p.acc ∧ ∀ i, i < 64 → (elemOf (p.vreg (vAidx v) i)).1 ≤ 0 →
      q.vreg (vDst v) i = 0x7FFF7FFF)) ∧
    (vop v = 0x07 → does (.opVnorm c) (fun q => q.v = p.v ∧ q.acc = p.acc ∧ q.norm ≤ 47 ∧
      (∀ u, u < 256 → q.norm ≤ redundant (p.accu (vAcc v) u).1 ∧ q.norm ≤ redundant (p.accu (vAcc v) u).2) ∧
      (q.norm = 47 ∨ ∃ u, u < 256 ∧
        (q.norm = redundant (p.accu (vAcc v) u).1 ∨ q.norm = redundant (p.accu (vAcc v) u).2)))) ∧
    (vop v = 0x08 → does (.opVtr c) (fun q => ∀ i j, i < 16 → j < 16 →
      q.vreg (vDst v) (16 * i + j) = p.vreg (vAidx v) (16 * j + i))) ∧
    (vop v = 0x09 → does (.opVcfcol c) (fun q => ∀ i, i < 32 →
      q.vreg (vDst v) i = p.coef (vAsrc v - 1) i (vAidx v) ∧
      q.vreg (vDst v) (32 + i) = p.coef (vAsrc v - 1) i (vAidx v + 1))) ∧
    (vop v = 0x0A → does (.opVmov c) (fun q => ∀ i, i < 64 →
      (v.testBit 51 = false → q.vreg (vDst v) i = p.vreg (vAidx v) i) ∧
      (v.testBit 51 = true → (elemOf (p.vreg (vAidx v) i)).2 ≠ -32768 →
        elemOf (q.vreg (vDst v) i) = ((elemOf (p.vreg (vAidx v) i)).1, -(elemOf (p.vreg (vAidx v) i)).2)))) ∧
    (vop v = 0x0B → does (.opVzero c) (fun q => q.v = p.v ∧ ∀ k u, u < 256 →
      q.accu k u = if k = vAcc v then (0, 0) else p.accu k u))

/-- VRSQ and VRCP of one element (R187): of a positive x they leave I = y and Q = e with y in [2^14, 2^15) and y × 2^(-15-e)
within a relative 2^-15 of x^(-1/2) or of x^-1, and DOMAIN stays; of any other x both components are 0x7FFF, with DOMAIN. -/
def Obligations.ReciprocalsWithinTolerance : Prop :=
  ∀ (root : Bool) (d e : Dev) (x : Int) (w : W32) (o : Bool), x < 32768 → d.recipElem root x = (w, o, e) →
    (x ≤ 0 → w = 0x7FFF7FFF ∧ o = true ∧ e = d) ∧
    (0 < x → o = false ∧ ∃ y z : Int, w = elemWord y z ∧ 16384 ≤ y ∧ y < 32768 ∧ -2 ≤ z ∧ z < 16 ∧
      (root = true → ((32767 : Rat) / 32768) ^ 2 ≤ y ^ 2 * x * pow2 (-30 - 2 * z) ∧
        y ^ 2 * x * pow2 (-30 - 2 * z) ≤ ((32769 : Rat) / 32768) ^ 2) ∧
      (root = false → (32767 : Rat) / 32768 ≤ y * x * pow2 (-15 - z) ∧
        y * x * pow2 (-15 - z) ≤ (32769 : Rat) / 32768))

/-- The address slots (R176 to R179, R188), in a bundle whose other slots are no-ops: LD takes the next line of the input FIFO
or a line of local memory to its register, ST stores a line, and the generator operations set what they name. -/
def Obligations.AddressOperations : Prop :=
  ∀ (s : State) (c : Fin 16) (b : BitVec 256) (p : CluSt) (a : Nat), Issues s c.val b → bunV b = 0 → bunS b = 0 →
    s.dev.clus c.val = p →
    let goes := fun (i : Instr) (q : CluSt) (ws : Writes) =>
      Completes i s (fun t => t.dev.clus c.val = q ∧ Ran s t c.val (s.dev.cluPc c.val + 1) ws)
    (bunA0 b = a → bunA1 b = 0 →
      (aop a = 0 → goes (.opAnop c) p []) ∧
      (aop a = 1 → aPort a = true → goes (.opLd c []) ({ p with inq := p.inq.drop 1 }.opLd a (bitsLine (p.inq.headD 0))) []) ∧
      (aop a = 1 → aPort a = true → aReg a < 16 → ∀ (l : BitVec 512) (q : List (BitVec 512)), p.inq = l :: q →
        Completes (.opLd c []) s (fun t => (t.dev.clus c.val).inq = q ∧ ∀ k, k < 16 →
          (t.dev.clus c.val).vreg (aReg a) (16 * bitsN a 49 2 + k) = l.extractLsb' (32 * k) 32)) ∧
      (aop a = 1 → aPort a = false → p.ecc = [] → goes (.opLd c [])
        ((p.opLd a ((List.range 16).map (fun k =>
          BitVec.ofNat 32 (memNat s.mem (cluLine c.val (p.agen (aAg a)).line + 4 * k) 4)))).postStep a) []) ∧
      (aop a = 3 → goes (.opAgset c) (p.putAg (aAg a) (fun _ => {
        base := bitsN a 35 13, len := if bitsN a 21 14 = 0 then 8192 else bitsN a 21 14, off := sgn 14 (bitsN a 7 14),
        post := a.testBit 6, ptr := 0 })) []) ∧
      (aop a = 4 → goes (.opAgptr c) (p.putAg (aAg a) (fun g => { g with
        ptr := if g.post then sgn 14 a else sgn 14 a % (g.len : Int) })) []) ∧
      (aop a = 5 → goes (.opAgoff c) (p.putAg (aAg a) (fun g => { g with off := sgn 14 a })) []) ∧
      (aop a = 6 → goes (.opAgstep c) (p.putAg (aAg a) (fun g => { g with
        ptr := if g.post then g.ptr + g.off else (g.ptr + g.off) % (g.len : Int) })) [])) ∧
    (bunA0 b = 0 → bunA1 b = a → aop a = 2 → aReg a < 24 →
      (aPort a = true → goes (.opSt c) { p with outq := p.outq ++ [lineBits (p.stElems a)] } []) ∧
      (aPort a = false → p.ecc = [] → p.wback = [] → goes (.opSt c) (p.postStep a)
        [(cluLine c.val (p.agen (aAg a)).line, elemBytes (p.stElems a))]))

/-- The states of a cluster (R195 to R201): LOAD empties the queues, START sets the run up, STOP ends it once its transfers are
complete, CLEAR leaves FAULT; each is ignored and counted in any other state or under the guard; the loader's outcome; the
watchdog. -/
def Obligations.ClusterStates : Prop :=
  ∀ (s : State) (c : Fin 16) (p : CluSt), s.dev.alive = true → s.dev.clus c.val = p →
    let ignored := fun (i : Instr) => exec i s = .next (settle s [] (s.dev.count (A.CLU_CMD_ERR c.val)))
    let held := s.dev.flag (F.CLU_CTRL_LOCK c.val) && s.dev.beamOn
    (held = true ∨ s.dev.cluState c.val = 1 ∨ s.dev.cluState c.val = 3 → ignored (.cluLoad c)) ∧
    (held = true ∨ s.dev.cluState c.val ≠ 2 → ignored (.cluStart c)) ∧
    (held = true ∨ s.dev.cluState c.val ≠ 3 → ignored (.cluStop c)) ∧
    (held = true ∨ s.dev.cluState c.val ≠ 4 → ignored (.cluClear c)) ∧
    (held = false → s.dev.cluState c.val ∈ [0, 2, 4] → Completes (.cluLoad c) s (fun t =>
      t.dev.cluState c.val = 1 ∧ t.dev.clus c.val = { p with wq := [], cq := [] })) ∧
    (held = false → s.dev.cluState c.val = 2 → Completes (.cluStart c) s (fun t =>
      t.dev.cluState c.val = 3 ∧ t.dev.cluPc c.val = p.entry % 2048 ∧
      (∀ n, n < 16 → (t.dev.clus c.val).sreg (16 + n) = s.dev.reg (A.CLU_ARGn c.val n)) ∧
      (∀ n, n < 16 → (t.dev.clus c.val).sreg n = 0) ∧ (∀ r i, (t.dev.clus c.val).vreg r i = 0) ∧
      (∀ k u, (t.dev.clus c.val).accu k u = (0, 0)) ∧
      (∀ g, (t.dev.clus c.val).agen g = { base := 0, len := 8192, off := 1, post := false, ptr := 0 }) ∧
      t.dev.flag (F.CLU_STAT_DOMAIN c.val) = false ∧ t.dev.flag (F.CLU_STAT_ACC_WRAP c.val) = false ∧
      (t.dev.clus c.val).wq = p.wq ∧ (t.dev.clus c.val).cq = p.cq ∧ (t.dev.clus c.val).inq = p.inq ∧
      (t.dev.clus c.val).outq = p.outq)) ∧
    (held = false → s.dev.cluState c.val = 3 → p.ending = 0 →
      exec (.cluStop c) s = .next (settle s [] (s.dev.modClu c.val (fun q => { q with ending := 1 })))) ∧
    (p.ending = 1 → p.busy = false → Completes (.cluStopDone c) s (fun t =>
      t.dev.cluState c.val = 2 ∧ t.dev.flag (F.CLU_INT_STAT_HALTED c.val) = true ∧
      t.dev.clus c.val = { p with ending := 0 })) ∧
    (held = false → s.dev.cluState c.val = 4 →
      exec (.cluClear c) s = .next (settle s [] (s.dev.setF (F.CLU_STAT_STATE c.val) 2))) ∧
    (s.dev.cluState c.val = 1 → (s.dev.reg (A.CLU_LOAD_ADDR c.val)).toNat % 32 ≠ 0 → Completes (.cluLoadDone c []) s (fun t =>
      t.dev.cluState c.val = 0 ∧ t.dev.getF (F.CLU_FAULT_LOAD_ERR c.val) = 4 ∧ t.dev.reg (A.CLU_KERNEL c.val) = 0 ∧
      t.dev.flag (F.CLU_INT_STAT_LOAD_FAIL c.val) = true ∧ (t.dev.clus c.val).store = [])) ∧
    (∀ h bs d, s.dev.cluState c.val = 1 → Dev.loadCheck s.mem s.dev c.val = (0, h, bs, d) →
      Completes (.cluLoadDone c []) s (fun t => t.dev.cluState c.val = 2 ∧ (t.dev.clus c.val).store = bundles bs ∧
        (t.dev.clus c.val).entry = leAt h 0x12 2 ∧ (t.dev.reg (A.CLU_KERNEL c.val)).toNat = leAt h 8 4 ∧
        (t.dev.reg (A.CLU_KVER c.val)).toNat = leAt h 0xC 4 ∧ t.dev.flag (F.CLU_INT_STAT_LOAD_DONE c.val) = true)) ∧
    (s.dev.cluState c.val = 3 → p.ending = 0 → s.dev.getF (F.CLU_WDOG_PERIOD c.val) ≠ 0 →
      s.dev.getF (F.CLU_STAT_WAIT_CAUSE c.val) ≠ 1 →
      exec (.cluWdogExpiry c true) s = .next (settle s [] (s.dev.count (A.CLU_TIE c.val))) ∧
      (p.busy = false → Completes (.cluWdogExpiry c false) s (fun t =>
        t.dev.cluState c.val = 4 ∧ t.dev.getF (F.CLU_FAULT_CODE c.val) = 6 ∧
        t.dev.getF (F.CLU_FAULT_PC c.val) = s.dev.cluPc c.val ∧ t.dev.flag (F.CLU_INT_STAT_FAULT c.val) = true)))

/-- A cluster's queues, FIFOs and transfers (R174, R175, R191, R192, R200): pushes and reads of the queues, lines in and out, a
bank load and copies with no bit errors, external accesses, and the write-back of a corrected word. -/
def Obligations.ClusterTraffic : Prop :=
  ∀ (s : State) (c : Fin 16) (p : CluSt), s.dev.alive = true → s.dev.clus c.val = p →
    (∀ (r : Requester) (lo : BitVec 32), p.wq.length < 64 → Completes (.cluWqPush r c lo) s (fun t =>
      t.dev.clus c.val = { p with wq := p.wq ++ [(s.dev.takeStaged r (A.CLU_WQ_HI c.val)).1 ++ lo] })) ∧
    (∀ (r : Requester) (lo : BitVec 32), 64 ≤ p.wq.length →
      exec (.cluWqPush r c lo) s = .next (settle s [] (s.dev.count (A.CLU_CMD_ERR c.val)))) ∧
    (∀ r : Requester, Completes (.cluCqPop r c) s (fun t => t.dev.clus c.val = { p with cq := p.cq.drop 1 } ∧
      t.dev.rdata = (p.cq.headD 0).setWidth 32 ∧
      t.dev.getLatch r (A.CLU_CQ_HI c.val) = some ((p.cq.headD 0).extractLsb' 32 32))) ∧
    (∀ line : BitVec 512, p.inq.length < 64 →
      exec (.feedEngineFill c line) s = .next (settle s [] (s.dev.modClu c.val (fun q => { q with inq := p.inq ++ [line] })))) ∧
    exec (.drainEngineEmpty c) s = .next (settle s [] (s.dev.modClu c.val (fun q => { q with outq := p.outq.drop 1 }))) ∧
    (∀ (bank : Fin 2) (a n : Nat), p.load bank.val = some (a, n) → p.ending = 0 → s.dev.memi.ecc = [] →
      (a + 256 * n ≤ s.dev.regionBase 0 ∨ s.dev.regionBase 0 + s.dev.regionSize 0 ≤ a) → 1 ≤ n → n ≤ 32 →
      Completes (.cfldDone c bank []) s (fun t =>
        (∀ e k, e < n → k < 64 → ((t.dev.clus c.val).coef bank.val e k).toNat = memNat s.mem (a + 256 * e + 4 * k) 4) ∧
        (t.dev.clus c.val).load bank.val = none ∧ (t.dev.clus c.val).stat bank.val = 0 ∧ StoredAt s t [])) ∧
    (∀ (h : HCopy) (r : List HCopy), p.copies = h :: r → p.ending = 0 → s.dev.memi.ecc = [] → p.ecc = [] →
      (h.out = false → Completes (.hcopyDone c []) s (fun t => (t.dev.clus c.val).copies = r ∧ StoredAt s t
        ((List.range h.n).map (fun k => (cluLine c.val (h.line + k), memRead s.mem (h.addr + 64 * k) 64))))) ∧
      (h.out = true → h.line + h.n ≤ 8192 → s.dev.beam.commits = [] → (∀ k, k < 64 * h.n → s.dev.mayWrite (h.addr + k) = true) →
        Completes (.hcopyDone c []) s (fun t => (t.dev.clus c.val).copies = r ∧
          StoredAt s t [(h.addr, memRead s.mem (cluLine c.val h.line) (64 * h.n))]))) ∧
    (∀ (w : Nat) (l : List Nat), p.wback = w :: l → Completes (.localWriteback c) s (fun t =>
      w ∉ (t.dev.clus c.val).wback ∧ Tab.get (fun _ => ErrClass.clean) w (t.dev.clus c.val).ecc = .clean ∧ StoredAt s t [])) ∧
    (∀ (r : Requester) (off n : Nat), r ≠ .mspi → off + n ≤ 0x80000 → p.ecc = [] →
      Completes (.externalAccess c r (.read off n) false []) s (fun t =>
        t.dev.rbytes = memRead s.mem (cluWindow c.val + off) n ∧ StoredAt s t [])) ∧
    (∀ (r : Requester) (off : Nat) (bytes : List (Option Byte)), r ≠ .mspi → off + bytes.length ≤ 0x80000 →
      Completes (.externalAccess c r (.write off bytes) false []) s (fun t => StoredAt s t
        (bytes.zipIdx.filterMap (fun b => b.1.map (fun v => (cluWindow c.val + off + b.2, [v])))))) 

/-- The commands of the link class (R110, R126 to R128): STREAM_CFG that passes the check maps its words outside READY, with the
enables clear; FH_TIMING, CASCADE_CFG and FH_CHECK do what their table says. The cluster commands (R204, R205): CLU_ASSIGN gives
clusters back to the runtime, CLU_WORK pushes entries, CLU_POLL removes records, and CLU_STAT answers the registers, with zero
for those of the queues' words, and clears the counters it reads. -/
def Obligations.LinkAndClusterCommands : Prop :=
  (∀ (s : State) (h : CmdHdr) (pl : List Byte),
       (CmdOk s h 0x1010 pl → 8 ≤ pl.length → pl.length ≤ 2052 → streamCfgOk pl = true →
         s.dev.checkStreams (leAt pl 0 2) (streamWords pl) = none → s.dev.mod = .standby →
         ∃ t, exec (.streamCfg h pl) s = .next t ∧ Answered s t h 0x1010 0x00 [] ∧
           (∀ i, i < leAt pl 2 2 → (t.dev.reg (A.FHP_STRMn (leAt pl 0 2 + i))).toNat = leAt pl (4 + 4 * i) 4 / 2 ^ 18 * 2 ^ 18) ∧
           (∀ n, n < 4096 → (n < leAt pl 0 2 ∨ leAt pl 0 2 + leAt pl 2 2 ≤ n) →
             t.dev.reg (A.FHP_STRMn n) = s.dev.reg (A.FHP_STRMn n))) ∧
       (CmdOk s h 0x1011 pl → pl.length = 12 → 50000 ≤ leAt pl 0 4 → leAt pl 0 4 ≤ 1000000 → leAt pl 0 4 ≤ leAt pl 4 4 →
         leAt pl 4 4 < 2 ^ 21 → 50 ≤ leAt pl 8 2 → leAt pl 8 2 ≤ 1000 →
         s.dev.earlyFits (s.dev.streams 0 []) (leAt pl 0 4) (leAt pl 4 4) = true →
         s.dev.jitterFits (s.dev.streams 0 []) (leAt pl 4 4) (s.dev.regionSize 2) = true →
         RunsTo (.fhTiming h pl) s h 0x1011 [] (((s.dev.setF F.FHP_DL_LEAD_NS (leAt pl 0 4)).setF F.FHP_DL_EARLY_NS
           (leAt pl 4 4)).setF F.FHP_UL_DROP_US (leAt pl 8 2))) ∧
       (CmdOk s h 0x1012 pl → pl.length = 4 → byteAt pl 0 ≤ 3 → byteAt pl 1 ≤ 1 → byteAt pl 2 ≤ 4 → 1 ≤ byteAt pl 3 →
         byteAt pl 3 ≤ 50 →
         RunsTo (.cascadeCfg h pl) s h 0x1012 [] ((((s.dev.setF F.FHP_CTRL_POS (byteAt pl 0)).setF F.FHP_CTRL_LAST
           (byteAt pl 1)).setF F.FHP_PSUM_COMP (byteAt pl 2)).setF F.FHP_PSUM_WAIT_US (byteAt pl 3))) ∧
       (CmdOk s h 0x1013 pl → 8 ≤ pl.length → pl.length ≤ 2052 → streamCfgOk pl = true →
         s.dev.checkStreams (leAt pl 0 2) (streamWords pl) = none → RunsTo (.fhCheck h pl) s h 0x1013 [] s.dev)) ∧
  (∀ (s : State) (h : CmdHdr) (pl : List Byte),
       (CmdOk s h 0x3061 pl → pl.length = 8 → leAt pl 4 4 = 0 → (∀ c ∈ bitsOf 16 (leAt pl 0 2), s.dev.cluJob c = false) →
         Answers (.cluAssign h pl) s h 0x3061 [] (fun t => ∀ c ∈ bitsOf 16 (leAt pl 0 2),
           t.dev.cluState c = 0 ∧ t.dev.reg (A.CLU_KERNEL c) = 0 ∧ t.dev.flag (F.CLU_CTRL_LOCK c) = true ∧
           t.dev.fw.ownerClu.testBit c = false)) ∧
       (CmdOk s h 0x3062 pl → 16 ≤ pl.length → pl.length ≤ 520 → pl.length % 8 = 0 → byteAt pl 0 < 16 →
         s.dev.fw.ownerClu.testBit (byteAt pl 0) = true → (s.dev.clus (byteAt pl 0)).wq.length + (pl.length - 8) / 8 ≤ 64 →
         RunsTo (.cluWork h pl) s h 0x3062 [] (s.dev.modClu (byteAt pl 0) (fun q => { q with
           wq := q.wq ++ (List.range ((pl.length - 8) / 8)).map (fun k => BitVec.ofNat 64 (leAt pl (8 + 8 * k) 8)) }))) ∧
       (CmdOk s h 0x3063 pl → pl.length = 4 → byteAt pl 0 < 16 → 1 ≤ byteAt pl 1 → byteAt pl 1 ≤ 64 →
         RunsTo (.cluPoll h pl) s h 0x3063
           (BitVec.ofNat 8 (min (byteAt pl 1) (s.dev.clus (byteAt pl 0)).cq.length) ::
             ((s.dev.clus (byteAt pl 0)).cq.take (byteAt pl 1)).flatMap (fun e => leBytes 8 e.toNat))
           (s.dev.modClu (byteAt pl 0) (fun q => { q with cq := q.cq.drop (byteAt pl 1) }))) ∧
       (CmdOk s h 0x3064 pl → pl.length = 4 → byteAt pl 0 < 16 →
         Answers (.cluStat h pl) s h 0x3064 ((List.range 50).flatMap (fun k =>
           if k = 32 ∨ k = 33 ∨ k = 36 ∨ k = 37 then le4 0 else word4 (s.dev.live (A.CLU_ID (byteAt pl 0) + 4 * k))))
           (fun t => (∀ a ∈ cluRc (byteAt pl 0), t.dev.reg a = 0) ∧ t.dev.clu = s.dev.clu)))

/-! Tiles and RF paths (06_rf_paths.md). -/

/-- Frequency words, chains, filter stages, SPLIT and the carrier table (R209, R214, R222 to R225, R239, R244): a low word
commits with the staged high word and waits for its boundary, and takes effect on every tile of the band group; RUN and
STOPPED; a stage register takes a write only while its chain has stopped; SPLIT only while every chain has; and BG, MU, TAO
and NPRB of an enabled carrier stay. -/
def Obligations.OscillatorsAndChains : Prop :=
  ∀ s : State, s.dev.alive = true →
    (∀ (r : Requester) (n : Nco) (lo : BitVec 32), s.dev.ncoOpen n = true → (∀ dir, n ≠ .rambler dir) →
      Completes (.ncoWordCommit r n lo) s (fun t =>
        t.dev.ncoPend n = some ((s.dev.takeStaged r (ncoRegs n).2).1.toNat % 65536 * 2 ^ 32 + lo.toNat) ∧
        t.dev.ncoWord n = s.dev.ncoWord n ∧ ∀ f, pendF n = some f → t.dev.flag f = true)) ∧
    (∀ (r : Requester) (n : Nco) (lo : BitVec 32), s.dev.ncoOpen n = false →
      exec (.ncoWordCommit r n lo) s = .next (settle s [] s.dev)) ∧
    (∀ (r : Requester) (dir : Dir) (lo : BitVec 32), Completes (.ncoWordCommit r (.rambler dir) lo) s (fun t =>
      t.dev.ncoWord (.rambler dir) =
        (s.dev.takeStaged r (ncoRegs (.rambler dir)).2).1.toNat % 65536 * 2 ^ 32 + lo.toNat)) ∧
    (∀ (n : Nco) (w : Nat), s.dev.ncoPend n = some w → w < 2 ^ 48 → Completes (.ncoWordApply n) s (fun t =>
      t.dev.ncoWord n = w ∧ t.dev.ncoPend n = none ∧ (∀ f, pendF n = some f → t.dev.flag f = false) ∧
      ∀ u, n = .band u .tx → t.dev.getF (F.TILE_DROOP_DROOP u.val) = droopReg w)) ∧
    (∀ n : Nco, s.dev.ncoPend n = none → exec (.ncoWordApply n) s = .next (settle s [] s.dev)) ∧
    (∀ (t : Fin 4) (dir : Dir),
      Completes (.chainStop t dir) s (fun u => u.dev.flag (runF t.val dir) = false ∧
        u.dev.flag (stoppedF t.val dir) = s.dev.flag (stoppedF t.val dir)) ∧
      (s.dev.flag (runF t.val dir) = false → Completes (.chainDrained t dir) s (fun u =>
        u.dev.flag (stoppedF t.val dir) = true ∧ (s.dev.flag (stoppedF t.val dir) = false →
          u.dev.flag (match dir with | .tx => F.TILE_INT_STAT_TX_STOPPED t.val | .rx => F.TILE_INT_STAT_RX_STOPPED t.val) = true))) ∧
      (s.dev.flag (F.TILE_CTRL_SLEEP t.val) = false → Completes (.chainStart t dir) s (fun u =>
        u.dev.flag (runF t.val dir) = true ∧ u.dev.flag (stoppedF t.val dir) = false ∧
        (match dir with | .tx => (u.dev.tile t.val).txFrom | .rx => (u.dev.tile t.val).rxFrom) =
          (((s.dev.time.now.toFrac + 5000 * 2 ^ 32) * 3 : Nat) : Int))) ∧
      (s.dev.flag (F.TILE_CTRL_SLEEP t.val) = true → exec (.chainStart t dir) s = .next (settle s [] s.dev)) ∧
      ∀ (r : Requester) (a v : BitVec 32) (o : Nat), o < 0x40000 → a.toNat = 0x40100000 + 0x40000 * t.val + o →
        stageDir o = some dir →
        (s.dev.flag (stoppedF t.val dir) = true →
          exec (.coefWrite r a v) s = .next (settle s [] (s.dev.storeRw a.toNat v.toNat))) ∧
        (s.dev.flag (stoppedF t.val dir) = false → Completes (.coefWrite r a v) s (fun u =>
          u.dev.reg a.toNat = s.dev.reg a.toNat ∧ Counted s.dev u.dev (A.TILE_COEF_ERR t.val) 1 ∧
          u.dev.flag (F.TILE_INT_STAT_COEF_WHILE_RUN t.val) = true))) ∧
    (∀ b : Bool,
      (s.dev.allStopped = true → Completes (.splitWrite b) s (fun u => u.dev.flag F.TILE_GROUP_SPLIT = b)) ∧
      (s.dev.allStopped = false → Completes (.splitWrite b) s (fun u =>
        u.dev.flag F.TILE_GROUP_SPLIT = s.dev.flag F.TILE_GROUP_SPLIT ∧ Counted s.dev u.dev (A.TILE_CAR_ERR 0) 1 ∧
        u.dev.flag (F.TILE_INT_STAT_CAR_ERR 0) = true))) ∧
    (∀ (r : Requester) (k : Fin 8) (a v : BitVec 32),
      (a.toNat = A.CARk_CFG k.val → (s.dev.carOn k.val = false ∨ (s.dev.reg (A.CARk_CFG k.val)).toNat &&& lockedBits = v.toNat &&& lockedBits) →
        exec (.carrierTableWrite r a v) s = .next (settle s [] (s.dev.storeRw (A.CARk_CFG k.val) v.toNat))) ∧
      (a.toNat = A.CARk_CFG k.val → s.dev.carOn k.val = true →
        (s.dev.reg (A.CARk_CFG k.val)).toNat &&& lockedBits ≠ v.toNat &&& lockedBits →
        Completes (.carrierTableWrite r a v) s (fun u => Counted s.dev u.dev (A.TILE_CAR_ERR 0) 1 ∧
          u.dev.flag (F.TILE_INT_STAT_CAR_ERR 0) = true ∧
          u.dev.getF (F.CARk_CFG_MU k.val) = s.dev.getF (F.CARk_CFG_MU k.val) ∧
          u.dev.getF (F.CARk_CFG_BG k.val) = s.dev.getF (F.CARk_CFG_BG k.val) ∧
          u.dev.getF (F.CARk_CFG_TAO k.val) = s.dev.getF (F.CARk_CFG_TAO k.val) ∧
          u.dev.getF (F.CARk_CFG_NPRB k.val) = s.dev.getF (F.CARk_CFG_NPRB k.val) ∧
          u.dev.getF (F.CARk_CFG_EN k.val) = bitsN v.toNat 31 1)) ∧
      (a.toNat = A.CARk_DL_FTW_LO k.val → exec (.carrierTableWrite r a v) s = exec (.ncoWordCommit r (.carrier k .tx) v) s) ∧
      (a.toNat = A.CARk_UL_FTW_LO k.val → exec (.carrierTableWrite r a v) s = exec (.ncoWordCommit r (.carrier k .rx) v) s) ∧
      (a.toNat = A.CARk_DL_FTW_HI k.val ∨ a.toNat = A.CARk_UL_FTW_HI k.val →
        exec (.carrierTableWrite r a v) s = .next (settle s [] (s.dev.setStaged r a.toNat v))) ∧
      (a.toNat = A.CARk_GAIN k.val ∨ a.toNat = A.CARk_UL_WIN k.val →
        exec (.carrierTableWrite r a v) s = .next (settle s [] (s.dev.storeRw a.toNat v.toNat))))

/-- The tile PLL (R231, R232, R234, R235, R518): every transition of its table with the flags, the counter and the function bit it
sets, and no effect in the other states; a tile that leaves LOCKED counts the symbols it loses. Sleep and power-down (R237, R239,
R240, R518): SLEEP stops the chains and turns the PLL off; the end of it sets ASLEEP, STOPPED and SLEEP_DONE and clears the
function bit; clearing SLEEP starts the wake, which ends, with the PLL locked, with WAKE_DONE and the function bit; a cold start;
and a path woken. -/
def Obligations.TilePllsAndSleep : Prop :=
  (∀ (s : State) (t : Fin 4), s.dev.alive = true →
       let goes := fun (c : Instr) (st : Nat) (P : Dev → Prop) =>
         Completes c s (fun u => u.dev.pll t.val = st ∧ (∀ v, v < 4 → v ≠ t.val → u.dev.pll v = s.dev.pll v) ∧ P u.dev)
       let stays := fun (c : Instr) => exec c s = .next (settle s [] s.dev)
       (s.dev.pll t.val = 0 → s.dev.awake t.val = true → (s.dev.tile t.val).refsOk = true → s.dev.time.held = false →
         goes (.pllPowerUp t) 1 (fun _ => True)) ∧
       (s.dev.pll t.val ≠ 0 → stays (.pllPowerUp t)) ∧
       (s.dev.pll t.val = 1 ∨ s.dev.pll t.val = 4 → goes (.pllLockDetect t) 2 (fun d => d.flag (F.TILE_STAT_LOCK t.val) = true)) ∧
       (s.dev.pll t.val ≠ 1 → s.dev.pll t.val ≠ 4 → stays (.pllLockDetect t)) ∧
       (s.dev.pll t.val = 1 → goes (.pllCalTimeout t) 5 (fun d => d.flag (F.TILE_INT_STAT_CAL_FAIL t.val) = true ∧
         d.ready (7 + t.val) = false ∧ (d.getF F.OBS_DEGR_STAT_DEGR).testBit 2 = true)) ∧
       (s.dev.pll t.val ≠ 1 → stays (.pllCalTimeout t)) ∧
       (s.dev.pll t.val = 2 → s.dev.rmb.hold = none → goes (.pllSettleDone t) 3 (fun d =>
         d.flag (F.TILE_INT_STAT_RELOCKED t.val) = true ∧ ((s.dev.tile t.val).waking = false → d.ready (7 + t.val) = true) ∧
         (d.tile t.val).lost = false)) ∧
       (s.dev.pll t.val ≠ 2 → stays (.pllSettleDone t)) ∧
       (s.dev.pll t.val = 2 ∨ s.dev.pll t.val = 3 → goes (.pllLockLost t) 4 (fun d =>
         d.flag (F.TILE_STAT_LOCK t.val) = false ∧ Counted s.dev d (A.TILE_UNLOCK_CNT t.val) 1 ∧
         d.flag (F.TILE_INT_STAT_LOCK_LOST t.val) = true ∧ d.ready (7 + t.val) = s.dev.ready (7 + t.val) ∧
         (s.dev.pll t.val = 3 →
           Counted s.dev d (A.TILE_TX_UNLOCK_SYM t.val) (freshStarts (s.dev.tile t.val).txSyms).length ∧
           Counted s.dev d (A.TILE_RX_UNLOCK_SYM t.val) (freshStarts (s.dev.tile t.val).rxSyms).length ∧
           ∀ x ∈ (d.tile t.val).txSyms, x.counted = true))) ∧
       (s.dev.pll t.val ≠ 2 → s.dev.pll t.val ≠ 3 → stays (.pllLockLost t)) ∧
       (s.dev.pll t.val = 4 → goes (.pllUnlockTimeout t) 1 (fun _ => True)) ∧
       (s.dev.pll t.val ≠ 4 → stays (.pllUnlockTimeout t)) ∧
       (s.dev.pll t.val ≠ 0 → goes (.pllCal t) 1 (fun d => d.flag (F.TILE_STAT_LOCK t.val) = false)) ∧
       (s.dev.pll t.val = 0 → stays (.pllCal t)) ∧
       (∀ code : Byte, s.dev.pll t.val ≠ 0 → goes (.vtWarn t code) (s.dev.pll t.val) (fun d =>
         d.flag (F.TILE_STAT_VT_WARN t.val) = true ∧ d.getF (F.TILE_STAT_VT_CODE t.val) = code.toNat ∧
         d.flag (F.TILE_INT_STAT_VT_WARN t.val) = true))) ∧
  (∀ (s : State) (t : Fin 4), s.dev.alive = true →
       (s.dev.flag (F.TILE_CTRL_SLEEP t.val) = false → Completes (.sleepSet t) s (fun u =>
         u.dev.flag (F.TILE_CTRL_SLEEP t.val) = true ∧ u.dev.pll t.val = 0 ∧ u.dev.flag (F.TILE_STAT_LOCK t.val) = false ∧
         u.dev.flag (F.TILE_CTRL_TX_RUN t.val) = false ∧ u.dev.flag (F.TILE_CTRL_RX_RUN t.val) = false ∧
         u.dev.reg (A.TILE_DUC_S1_CFG t.val) = s.dev.reg (A.TILE_DUC_S1_CFG t.val))) ∧
       (s.dev.flag (F.TILE_CTRL_SLEEP t.val) = true → exec (.sleepSet t) s = .next (settle s [] s.dev)) ∧
       (s.dev.flag (F.TILE_CTRL_SLEEP t.val) = true → s.dev.flag (F.TILE_STAT_ASLEEP t.val) = false →
         s.dev.flag (F.TILE_CTRL_TX_RUN t.val) = false → s.dev.flag (F.TILE_CTRL_RX_RUN t.val) = false →
         Completes (.sleepDone t) s (fun u => u.dev.flag (F.TILE_STAT_ASLEEP t.val) = true ∧
           u.dev.flag (F.TILE_STAT_TX_STOPPED t.val) = true ∧ u.dev.flag (F.TILE_STAT_RX_STOPPED t.val) = true ∧
           u.dev.flag (F.TILE_INT_STAT_SLEEP_DONE t.val) = true ∧ u.dev.ready (7 + t.val) = false)) ∧
       (s.dev.flag (F.TILE_CTRL_SLEEP t.val) = true → Completes (.wakeStart t) s (fun u =>
         u.dev.flag (F.TILE_CTRL_SLEEP t.val) = false ∧ u.dev.flag (F.TILE_STAT_ASLEEP t.val) = false ∧
         (u.dev.tile t.val).waking = true ∧ (u.dev.tile t.val).cold = !(s.dev.tile t.val).refsOk)) ∧
       (s.dev.flag (F.TILE_CTRL_SLEEP t.val) = false → exec (.wakeStart t) s = .next (settle s [] s.dev)) ∧
       ((s.dev.tile t.val).waking = true → s.dev.pll t.val = 3 → Completes (.wakeDone t) s (fun u =>
         (u.dev.tile t.val).waking = false ∧ u.dev.flag (F.TILE_INT_STAT_WAKE_DONE t.val) = true ∧
         u.dev.ready (7 + t.val) = true ∧ u.dev.pll t.val = 3)) ∧
       ((s.dev.tile t.val).waking = false ∨ s.dev.pll t.val ≠ 3 → exec (.wakeDone t) s = .next (settle s [] s.dev)) ∧
       (s.dev.power.booted = true → s.dev.awake t.val = true → (s.dev.tile t.val).refsOk = false → s.dev.pll t.val = 0 →
         Completes (.tileColdStart t) s (fun u => (u.dev.tile t.val).cold = true ∧ u.dev.pll t.val = 0)) ∧
       (s.dev.awake t.val = false → exec (.tileColdStart t) s = .next (settle s [] s.dev)) ∧
       (∀ p : Fin 64, (s.dev.tile (tileOf p.val)).down.testBit (p.val % 16) = true → Completes (.pathWake p) s (fun u =>
         (u.dev.tile (tileOf p.val)).down = setBitN (s.dev.tile (tileOf p.val)).down (p.val % 16) false ∧
         (u.dev.tile (tileOf p.val)).downAt = s.dev.nowAir)) ∧
       (∀ p : Fin 64, (s.dev.tile (tileOf p.val)).down.testBit (p.val % 16) = false →
         exec (.pathWake p) s = .next (settle s [] s.dev)))


/-- The boundaries (R214, R229, R232, R233, R236, R242, R244, R406): at a carrier's symbol its committed words and its table take
effect, and each tile of its band group carries the symbol exactly where it is transmitted (received), counted lost where the
tile is not LOCKED; at a slot in ACTIVE a tile told to sleep does so; at a subframe EN takes effect; at a frame the frame
adjustments and a waiting ACTIVE do. A carrier not in force changes nothing. -/
def Obligations.Boundaries : Prop :=
  ∀ (s : State) (k : Fin 8) (env : SymEnv), s.dev.alive = true →
    let g := s.dev.carGroup k.val
    (s.dev.flag (F.CARk_STAT_ACTIVE k.val) = false →
      exec (.symbolBoundary k env) s = .next (settle s [] s.dev) ∧ exec (.ulSymbolBoundary k env) s = .next (settle s [] s.dev) ∧
      exec (.slotBoundary k) s = .next (settle s [] s.dev)) ∧
    (s.dev.flag (F.CARk_STAT_ACTIVE k.val) = true → env.ups = [] → env.jitter = [] → env.tableUe = [] → s.dev.memi.ecc = [] →
      s.dev.rf.retunes = [] → s.dev.rf.recals = [] → (∀ t : Fin 4, (s.dev.tile t.val).txSyms = [] ∧ (s.dev.tile t.val).rxSyms = []) →
      Completes (.symbolBoundary k env) s (fun u =>
        (∀ dir, u.dev.ncoWord (.carrier k dir) % 2 ^ 48 = s.dev.ncoLast (.carrier k dir) % 2 ^ 48 ∧
          u.dev.ncoPend (.carrier k dir) = none) ∧
        Tab.get (fun _ => {}) k.val u.dev.rf.cars =
          ⟨s.dev.reg (A.CARk_CFG k.val), s.dev.reg (A.CARk_GAIN k.val), s.dev.reg (A.CARk_UL_WIN k.val)⟩ ∧
        ∀ t, t < 4 → (u.dev.tile t).txSyms =
          if s.dev.bandGroup t = g ∧ s.dev.mod = .active ∧ s.dev.txOn g = true ∧
              s.dev.chainOn t .tx (s.dev.posNow k.val false).2 = true
          then [⟨k.val, (s.dev.posNow k.val false).2, s.dev.pll t != 3⟩] else [])) ∧
    (s.dev.flag (F.CARk_STAT_ACTIVE k.val) = true → env.ups = [] →
      (∀ t : Fin 4, (s.dev.tile t.val).rxSyms = []) →
      Completes (.ulSymbolBoundary k env) s (fun u => ∀ t, t < 4 → (u.dev.tile t).rxSyms =
        if s.dev.bandGroup t = g ∧ (s.dev.mod = .ready ∨ s.dev.mod = .active ∨ s.dev.mod = .safe) ∧ s.dev.rxOn g = true ∧
            s.dev.chainOn t .rx (s.dev.posNow k.val true).2 = true
        then [⟨k.val, (s.dev.posNow k.val true).2, s.dev.pll t != 3⟩] else [])) ∧
    (∀ (t : Fin 4) (o : TileOp), s.dev.flag (F.CARk_STAT_ACTIVE k.val) = true → s.dev.rf.sleeps = [o] → o.wake = false →
      o.todo = [t.val] → s.dev.lowCar (s.dev.bandGroup t.val) = some k.val → s.dev.flag (F.TILE_CTRL_SLEEP t.val) = false →
      Completes (.slotBoundary k) s (fun u => u.dev.flag (F.TILE_CTRL_SLEEP t.val) = true ∧ u.dev.pll t.val = 0)) ∧
    Completes .subframeBoundary s (fun u => ∀ j, j < 8 → u.dev.flag (F.CARk_STAT_ACTIVE j) = s.dev.carOn j ∧
      u.dev.reg (A.CARk_CFG j) = s.dev.reg (A.CARk_CFG j)) ∧
    Completes .frameBoundary s (fun u => (∀ t, t < 4 → (u.dev.tile t).adj = s.dev.reg (A.TILE_FRAME_ADJ t)) ∧
      u.dev.time.stepMute = false ∧
      (s.dev.flag F.SYS_STATE_ACT_PEND = true → s.dev.mod = .ready → u.dev.mod = .active ∧ u.dev.flag F.SYS_STATE_ACT_PEND = false) ∧
      (s.dev.flag F.SYS_STATE_ACT_PEND = false → u.dev.mod = s.dev.mod))


/-! Predistortion (07_predistortion.md). -/

/-- The capture engine (R265 to R270): a legal push joins the queue and any other is ignored and counted; the head sets FBSEL;
the window opens with the generation, the flags and the header of its instant; its close decides the flags and leaves a
record of a header and seven streams, the output equal to the input on a bypassed path; the record is stored at its
destination and its completion queued and counted; a trigger that does not come ends the request, or in a tie counts as
come; a read of DONE takes the oldest entry. -/
def Obligations.Captures : Prop :=
  ∀ (s : State) (o : Fin 8) (x : OrxSt), s.dev.alive = true → s.dev.orx o.val = x →
    (∀ (r : Requester) (lo : BitVec 32) (q : CapReq),
      q = { owner := lo.toNat.testBit 31, sel := bitsN lo.toNat 28 3, trig := bitsN lo.toNat 26 2, tag := bitsN lo.toNat 16 8,
            delay := bitsN lo.toNat 0 16, dest := (s.dev.takeStaged r (A.DPD_ORXr_REQ_HI o.val)).1.toNat } →
      (x.queue.length < 16 → q.dest % 64 = 0 → inHamper q.dest 458816 = true → q.trig ≤ 1 →
        Completes (.captureRequest r o lo) s (fun t => t.dev.orx o.val = { x with queue := x.queue ++ [q] })) ∧
      (16 ≤ x.queue.length ∨ q.dest % 64 ≠ 0 ∨ inHamper q.dest 458816 = false ∨ 1 < q.trig →
        Completes (.captureRequest r o lo) s (fun t => t.dev.orx o.val = x ∧ Counted s.dev t.dev A.DPD_CMD_ERR 1 ∧
          t.dev.flag F.DPD_INT_STAT_CMD_ERR = true))) ∧
    (∀ q l, x.queue = q :: l → s.dev.flag (F.DPD_ORXr_CTRL_EN o.val) = true → x.atHead = false → x.win = none → q.sel < 8 →
      Completes (.captureHead o) s (fun t => t.dev.getF (F.DPD_ORXr_STAT_SEL o.val) = q.sel ∧
        t.dev.orx o.val = { x with atHead := true, trig := q.trig == 1 })) ∧
    (∀ q l, x.queue = q :: l → s.dev.flag (F.DPD_ORXr_CTRL_EN o.val) = true → x.atHead = true → x.trig = true → x.win = none →
      x.done.length < 16 → x.held = [] →
      exec (.captureWindowOpen o) s = .next (settle s [] (s.dev.modOrx o.val (fun _ => { x with
        queue := l, atHead := false, trig := false,
        win := some { req := q, t0 := s.dev.time.now, gen := s.dev.getF (capGenF (tileOf (8 * o.val + q.sel))),
                      flags := s.dev.capNow (8 * o.val + q.sel), head := (s.dev.actTab (8 * o.val + q.sel)).take 16 } })))) ∧
    (∀ (c : CaptureData) (w : CapWin), x.win = some w → Completes (.captureWindowClose o c) s (fun t =>
      ∃ e : CapRec, t.dev.orx o.val = { x with win := none, drains := x.drains ++ [e] } ∧ e.req = w.req ∧ e.gen = w.gen ∧
        e.head.length = 64 ∧ e.streams.length = 7 ∧ (∀ l ∈ e.streams, l.length = 16384) ∧
        (w.changed = false → s.dev.bypassed (8 * o.val + w.req.sel) = true →
          e.streams.getD 2 [] = e.streams.getD 1 []) ∧
        ∀ i, i ≠ 5 → e.flags.testBit i = (w.flags.testBit i || (s.dev.capNow (8 * o.val + w.req.sel)).testBit i ||
          (i == 3 && w.gen != s.dev.getF (capGenF (tileOf (8 * o.val + w.req.sel)))) || (i == 1 && c.clips != 0)))) ∧
    (∀ c l, x.drains = c :: l → c.req.who = 0 → x.done = [] → x.held = [] → s.dev.beam.commits = [] → s.dev.memi.ecc = [] →
      (∀ k, k < 458816 → s.dev.mayWrite (c.req.dest + k) = true) → (c.head ++ c.streams.flatMap imgBytes).length = 458816 →
      Completes (.captureRecordDone o) s (fun t => StoredAt s t [(c.req.dest, c.head ++ c.streams.flatMap imgBytes)] ∧
        t.dev.orx o.val = { x with drains := l, done := [{ req := c.req, flags := c.flags, gen := c.gen, head := c.head }] } ∧
        Counted s.dev t.dev A.DPD_CAP_CNT 1)) ∧
    (∀ q l, x.queue = q :: l → x.atHead = true → x.trig = false →
      Completes (.captureTimeout o true) s (fun t => t.dev.orx o.val = { x with trig := true } ∧
        Counted s.dev t.dev A.DPD_TIE 1) ∧
      (q.who = 0 → x.done = [] → x.held = [] → Completes (.captureTimeout o false) s (fun t =>
        t.dev.orx o.val = { x with queue := l, atHead := false, done := [{ req := q, flags := 128, gen := 0, head := [] }] } ∧
        Counted s.dev t.dev A.DPD_CAP_CNT 1 ∧ t.dev.flag F.DPD_INT_STAT_CAP_TIMEOUT = true))) ∧
    (∀ (r : Requester) e l, x.done = e :: l → x.held = [] → (s.dev.fw.running = false ∨ ∀ f ∈ l, f.req.who = 0) → Completes (.captureDoneRead r o) s (fun t =>
      t.dev.rdata = e.word ∧ t.dev.getLatch r (A.DPD_ORXr_DONE_HI o.val) = some (BitVec.ofNat 32 e.req.dest) ∧
      t.dev.orx o.val = { x with done := l })) ∧
    (∀ r : Requester, x.done = [] → Completes (.captureDoneRead r o) s (fun t => t.dev.rdata = 0 ∧ t.dev.orx o.val = x))

/-- Tables of the actuator (R245 to R247, R254 to R258, R273 to R275): the identity table leaves every sample as it is; a commit
sets PEND on the paths it names and is ignored where one has it or the loader is busy; a path whose band group has no
carrier switches at once; at a boundary with one table of another generation no path switches; the loader fills a shadow
with a legal image, stores a copy, and refuses a transfer from a base that is not aligned; and the runtime firmware turns a clean
capture into an update of the next TAG under the capture's generation, and asks for captures again. -/
def Obligations.PredistortionTables : Prop :=
  (∀ x nb k, actuate identityTable x nb k = x k) ∧
  (∀ (d : Dev) (g : Nat), d.pendPaths g ≠ [] → (d.pendPaths g).all d.genFits = false →
    (∀ n, n < 64 → (d.dpdBoundary g).actCopy n = d.actCopy n ∧ (d.dpdBoundary g).shdTab n = d.shdTab n) ∧
    Counted d (d.dpdBoundary g) A.DPD_STALE_CNT 1 ∧ (d.dpdBoundary g).flag F.DPD_INT_STAT_STALE = true) ∧
  ∀ s : State, s.dev.alive = true →
    (∀ (r : Requester) (lo : BitVec 32) (mask : Nat),
      mask = lo.toNat + (s.dev.takeStaged r A.DPD_COMMIT_HI).1.toNat * 2 ^ 32 →
      (s.dev.flag F.DPD_LOAD_STAT_BUSY = true ∨ (∃ n ∈ bitsOf 64 mask, s.dev.flag (F.DPD_Pn_STAT_PEND n) = true) →
        Completes (.dpdCommit r lo) s (fun t => Counted s.dev t.dev A.DPD_CMD_ERR 1 ∧
          ∀ n, n < 64 → t.dev.reg (A.DPD_Pn_STAT n) = s.dev.reg (A.DPD_Pn_STAT n))) ∧
      (s.dev.flag F.DPD_LOAD_STAT_BUSY = false → (∀ n ∈ bitsOf 64 mask, s.dev.flag (F.DPD_Pn_STAT_PEND n) = false) →
        s.dev.idleGroups = [] → Completes (.dpdCommit r lo) s (fun t => ∀ n, n < 64 →
          t.dev.flag (F.DPD_Pn_STAT_PEND n) = (mask.testBit n || s.dev.flag (F.DPD_Pn_STAT_PEND n)) ∧
          t.dev.actCopy n = s.dev.actCopy n)) ∧
      (∀ n, bitsOf 64 mask = [n] → s.dev.flag F.DPD_LOAD_STAT_BUSY = false → s.dev.idleGroups = [0] →
        s.dev.flag F.TILE_GROUP_SPLIT = false → (∀ p, p < 64 → s.dev.flag (F.DPD_Pn_STAT_PEND p) = false) →
        s.dev.genFits n = true → Completes (.dpdCommit r lo) s (fun t => t.dev.actCopy n = 1 - s.dev.actCopy n ∧
          t.dev.actTab n = s.dev.shdTab n ∧ t.dev.shdTab n = s.dev.actTab n ∧
          t.dev.flag (F.DPD_Pn_STAT_PEND n) = false ∧ t.dev.flag F.DPD_INT_STAT_SWITCHED = true))) ∧
    (∀ (r : Requester) (lo : BitVec 32),
      (s.dev.flag F.DPD_LOAD_STAT_BUSY = true → exec (.dpdLoad r lo) s = .next (settle s [] s.dev.dpdCmdErr)) ∧
      (s.dev.flag F.DPD_LOAD_STAT_BUSY = false → Completes (.dpdLoad r lo) s (fun t =>
        t.dev.flag F.DPD_LOAD_STAT_BUSY = true ∧ t.dev.dpd.load = some {
          mask := lo.toNat + (s.dev.takeStaged r A.DPD_LOAD_MASK_HI).1.toNat * 2 ^ 32, dir := s.dev.flag F.DPD_LOAD_CTRL_DIR,
          copy := s.dev.flag F.DPD_LOAD_CTRL_COPY, addr := (s.dev.reg A.DPD_LOAD_ADDR).toNat }))) ∧
    (∀ (j : LoadJob) (n : Nat), s.dev.dpd.load = some j → bitsOf 64 j.mask = [n] → s.dev.memi.ecc = [] →
      let ends := fun (P : State → Prop) => Completes (.dpdLoadDone []) s (fun t =>
        t.dev.flag F.DPD_LOAD_STAT_BUSY = false ∧ t.dev.dpd.load = none ∧ t.dev.flag F.DPD_INT_STAT_LOAD_DONE = true ∧ P t)
      (j.addr % 64 ≠ 0 → ends (fun t => t.dev.dpd.tables = s.dev.dpd.tables ∧ Counted s.dev t.dev A.DPD_LOAD_ERR 1 ∧
        t.dev.getF F.DPD_LOAD_STAT_ERR_CODE = 1 ∧ t.dev.getF F.DPD_LOAD_STAT_ERR_PATH = n ∧ StoredAt s t [])) ∧
      (j.addr % 64 = 0 → inHamper (j.addr + 0x1000 * n) 3136 = true → j.dir = false → s.dev.flag (F.DPD_Pn_STAT_PEND n) = false →
        s.dev.imgOk n (imgOf (memRead s.mem (j.addr + 0x1000 * n) 3136)) = true → ends (fun t =>
          t.dev.shdTab n = imgOf (memRead s.mem (j.addr + 0x1000 * n) 3136) ∧ t.dev.actTab n = s.dev.actTab n ∧
          t.dev.getF (F.DPD_Pn_STAT_SHD_TAG n) = imgTag (t.dev.shdTab n) ∧ StoredAt s t [])) ∧
      (j.addr % 64 = 0 → inHamper (j.addr + 0x1000 * n) 3136 = true → j.dir = true → s.dev.beam.commits = [] →
        (∀ k, k < 3136 → s.dev.mayWrite (j.addr + 0x1000 * n + k) = true) →
        (s.dev.dpdTab n (s.dev.actCopy n)).length = 784 → j.copy = false → ends (fun t =>
          StoredAt s t [(j.addr + 0x1000 * n, imgBytes (s.dev.actTab n))] ∧ t.dev.dpd.tables = s.dev.dpd.tables))) ∧
    (∀ (p : Fin 64) (gen : Nat), (s.dev.dfw p.val).clean = some gen → s.dev.fw.running = true → (s.dev.dfw p.val).mode = 2 →
      gen = s.dev.getF (capGenF (tileOf p.val)) → (s.dev.dfw p.val).converged = false → (s.dev.dfw p.val).tag < 256 →
      (s.dev.lowCar (s.dev.pathGroup p.val)).isSome = true → s.dev.dpd.slotDone.testBit (s.dev.pathGroup p.val) = true →
      Completes (.adaptUpdate p) s (fun t => (t.dev.dfw p.val).clean = none ∧
        (t.dev.dfw p.val).updates = ((s.dev.dfw p.val).updates + 1) % 65536 ∧ ∃ tab, (t.dev.dfw p.val).ready = some tab ∧
          tab.length = 784 ∧ imgTag tab = ((s.dev.dfw p.val).tag + 1) % 256 ∧ imgGen tab = gen ∧ imgChk tab = true ∧
          imgWord tab 1 = 0x32100210 ∧ imgWord tab 2 = 0x30021210)) ∧
    (∀ p : Fin 64, (s.dev.dfw p.val).clean = none → exec (.adaptUpdate p) s = .next (settle s [] s.dev)) ∧
    (∀ p : Fin 64, (s.dev.dfw p.val).frozen = true ∨ (s.dev.dfw p.val).converged = true → s.dev.fw.running = true →
      (s.dev.dfw p.val).mode = 2 → (s.dev.dfw p.val).asked = false → (s.dev.dfw p.val).clean = none →
      (s.dev.dfw p.val).ready = none → s.dev.flag (F.DPD_Pn_STAT_PEND p.val) = false → s.dev.genCalm (tileOf p.val) = true →
      (s.dev.orx (p.val / 8)).queue.length < 16 → Completes (.dpdUpdateTimer p) s (fun t => (t.dev.dfw p.val).asked = true ∧
        ∃ q, (t.dev.orx (p.val / 8)).queue = (s.dev.orx (p.val / 8)).queue ++ [q] ∧ q.sel = p.val % 8 ∧ q.trig = 1)) ∧
    (∀ p : Fin 64, (s.dev.dfw p.val).frozen = false → (s.dev.dfw p.val).converged = false →
      exec (.dpdUpdateTimer p) s = .next (settle s [] s.dev)) ∧
    (∀ t : Fin 4, s.dev.fw.running = true → Completes (.capgenRecapture t) s (fun u => u.dev.genCalm t.val = true))


/-! Calibration (08_calibration.md). -/

/-- Banks and epochs (R286 to R290): the staged bank takes a trim while OPEN and ignores it, with a count, while ARMED or where the
tracking engine owns the field; COMMIT arms it and clears HOLD; ABORT opens it; the epoch of an armed bank makes the active
bank the staged one in one step, advances VER and counts; a Rambler window on the tile's paths only defers it; and the epoch
of an OPEN bank changes nothing. -/
def Obligations.TrimBanks : Prop :=
  ∀ (s : State) (t : Fin 4), s.dev.alive = true →
    (∀ (r : Requester) (a v : BitVec 32) (o : Nat), o < 0x520 → o % 4 = 0 → a.toNat = 0x40215000 + 0x1000 * t.val + o →
      (s.dev.armed t.val = false → (o < 0x400 → s.dev.engOn t.val = false) → Completes (.trimWrite r a v) s (fun u =>
        (u.dev.reg a.toNat).toNat = v.toNat % 2 ^ trimBits o ∧
        ∀ b, b ≠ a.toNat → b < 0x40280000 → u.dev.reg b = s.dev.reg b)) ∧
      (s.dev.armed t.val = true ∨ (o < 0x400 ∧ s.dev.engOn t.val = true) →
        exec (.trimWrite r a v) s = .next (settle s [] s.dev.calCmdErr))) ∧
    (s.dev.armed t.val = false → Completes (.calCommit t) s (fun u => u.dev.armed t.val = true ∧
      u.dev.flag (F.CAL_Tt_STAT_BY_ENG t.val) = false ∧ u.dev.flag (F.CAL_Tt_CMD_HOLD t.val) = false)) ∧
    (s.dev.armed t.val = true → Completes (.calCommit t) s (fun u => u.dev.armed t.val = true ∧
      Counted s.dev u.dev A.CAL_CMD_ERR 1 ∧ u.dev.flag F.CAL_INT_STAT_CMD_ERR = true)) ∧
    (s.dev.armed t.val = true → Completes (.calAbort t) s (fun u => u.dev.armed t.val = false ∧
      ∀ o, o < 0x520 → u.dev.reg (trimPage 1 t.val + o) = s.dev.reg (trimPage 1 t.val + o))) ∧
    (s.dev.armed t.val = false → exec (.calAbort t) s = .next (settle s [] s.dev)) ∧
    (s.dev.armed t.val = false → s.dev.calEpoch t.val = s.dev) ∧
    (s.dev.armed t.val = true → s.dev.rmbPaths.any (fun p => tileOf p == t.val) = true →
      (s.dev.calEpoch t.val).armed t.val = true ∧ Counted s.dev (s.dev.calEpoch t.val) (A.CAL_Tt_DEFER_CNT t.val) 1 ∧
      (s.dev.calEpoch t.val).flag F.CAL_INT_STAT_DEFERRED = true ∧
      ∀ o, o < 0x520 → (s.dev.calEpoch t.val).reg (trimPage 0 t.val + o) = s.dev.reg (trimPage 0 t.val + o)) ∧
    (s.dev.armed t.val = true → s.dev.rmbPaths.any (fun p => tileOf p == t.val) = false →
      (s.dev.calEpoch t.val).armed t.val = false ∧ Counted s.dev (s.dev.calEpoch t.val) (A.CAL_Tt_EPOCH_CNT t.val) 1 ∧
      (s.dev.calEpoch t.val).getF (F.CAL_Tt_VER_VER t.val) = (s.dev.getF (F.CAL_Tt_VER_VER t.val) + 1) % 65536 ∧
      (s.dev.calEpoch t.val).flag F.CAL_INT_STAT_APPLIED = true ∧
      (∀ k, k < 328 → (s.dev.calEpoch t.val).reg (trimPage 0 t.val + 4 * k) = s.dev.reg (trimPage 1 t.val + 4 * k) ∧
        (s.dev.calEpoch t.val).reg (trimPage 1 t.val + 4 * k) = s.dev.reg (trimPage 1 t.val + 4 * k)) ∧
      ∀ u, u < 4 → u ≠ t.val → ∀ k, k < 328 →
        (s.dev.calEpoch t.val).reg (trimPage 0 u + 4 * k) = s.dev.reg (trimPage 0 u + 4 * k))

/-- The tracking engine, the DAC fit, reciprocity and the monitoring converters (R291 to R303): a block is offered only where the
engine gathers, and counts by its power; an update of adequate paths arms the bank and clears their sums; a starving
path is marked, or in a tie goes on; a DAC fit arms its tile's bank; a measurement begins, its bursts are counted, one with an
epoch inside is run again, and the last writes c of the reference path as 1; a swap waits for its slot; and a monitoring
converter calibrates once its injected conversions are done. -/
def Obligations.CalibrationEngines : Prop :=
  ∀ s : State, s.dev.alive = true →
    (∀ (p : Fin 64) (b : StatsBlock),
      (s.dev.gathers p.val = false → exec (.statsBlock p b) s = .next (settle s [] s.dev)) ∧
      (s.dev.gathers p.val = true → Completes (.statsBlock p b) s (fun t =>
        (t.dev.calStat p.val).offered = (s.dev.calStat p.val).offered + 1 ∧
        (t.dev.calStat p.val).counted = (s.dev.calStat p.val).counted +
          b2n (powerOk ((b.s2.take 16).foldl (· + ·) 0).toNat (s.dev.getF F.CAL_ADEQ_PWR_MIN) (s.dev.getF F.CAL_ADEQ_PWR_MAX))))) ∧
    (∀ t : Fin 4, s.dev.engOn t.val = true → s.dev.armed t.val = false → s.dev.flag (F.CAL_Tt_CMD_HOLD t.val) = false →
      (∃ i, i < 16 ∧ s.dev.adequate (16 * t.val + i) = true) → Completes (.engineUpdate t) s (fun u =>
        u.dev.armed t.val = true ∧ u.dev.flag (F.CAL_Tt_STAT_BY_ENG t.val) = true ∧
        ∀ i, i < 16 → s.dev.adequate (16 * t.val + i) = true →
          u.dev.calStat (16 * t.val + i) = { since := s.dev.nowAir, starve := s.dev.nowAir } ∧
          u.dev.getF (F.CAL_Pp_STAT_UPDATES (16 * t.val + i)) = (s.dev.getF (F.CAL_Pp_STAT_UPDATES (16 * t.val + i)) + 1) % 65536 ∧
          u.dev.flag (F.CAL_Pp_STAT_STARVED (16 * t.val + i)) = false)) ∧
    (∀ t : Fin 4, s.dev.engOn t.val = false ∨ s.dev.armed t.val = true ∨ s.dev.flag (F.CAL_Tt_CMD_HOLD t.val) = true →
      exec (.engineUpdate t) s = .next (settle s [] s.dev)) ∧
    (∀ p : Fin 64, s.dev.engOn (tileOf p.val) = true → s.dev.flag (F.CAL_Pp_STAT_STARVED p.val) = false →
      Completes (.starveExpiry p true) s (fun t => Counted s.dev t.dev A.CAL_TIE 1 ∧
        t.dev.flag (F.CAL_Pp_STAT_STARVED p.val) = false) ∧
      Completes (.starveExpiry p false) s (fun t => t.dev.flag (F.CAL_Pp_STAT_STARVED p.val) = true ∧
        (t.dev.getF (F.CAL_Tt_STAT_STARVED (tileOf p.val))).testBit (p.val % 16) = true ∧
        t.dev.getF (F.CAL_Pp_STAT_WHY p.val) = (if (s.dev.calStat p.val).counted = 0 then 3
          else if (s.dev.calStat p.val).n < s.dev.sampleFloor then 1 else 2) ∧
        t.dev.flag F.CAL_INT_STAT_STARVED = true ∧ (t.dev.calStat p.val).counted = 0 ∧
        ∀ m, m < 16 → t.dev.reg (A.CAL_STG_ADC (tileOf p.val) (p.val % 16) m) = s.dev.reg (A.CAL_STG_ADC (tileOf p.val) (p.val % 16) m))) ∧
    (∀ p : Fin 64, s.dev.fw.running = true → s.dev.cal.dacOn.testBit (tileOf p.val) = true →
      (p.val ∈ s.dev.cal.dacClean → s.dev.armed (tileOf p.val) = false → Tab.get (fun _ => none) p.val s.dev.cal.dacLast = none →
        Completes (.dacFit p) s (fun t => t.dev.armed (tileOf p.val) = true ∧
          t.dev.flag (F.CAL_Tt_CMD_HOLD (tileOf p.val)) = false ∧
          Tab.get (fun _ => none) p.val t.dev.cal.dacLast = some s.dev.nowAir)) ∧
      (p.val ∉ s.dev.cal.dacClean → exec (.dacFit p) s = .next (settle s [] s.dev) ∧
        Completes (.dacStarve p) s (fun t => t.dev.cal.dacStarved.testBit p.val = true))) ∧
    (s.dev.flag F.CAL_RECIP_CFG_BUSY = true → Completes .recipMeasureStart s (fun t => Counted s.dev t.dev A.CAL_CMD_ERR 1 ∧
      t.dev.cal.recip = s.dev.cal.recip)) ∧
    (s.dev.flag F.CAL_RECIP_CFG_BUSY = false → Completes .recipMeasureStart s (fun t => t.dev.flag F.CAL_RECIP_CFG_BUSY = true ∧
      t.dev.getF F.CAL_RECIP_STAT_BURSTS = 0 ∧ t.dev.getF F.CAL_RECIP_STAT_WINDOWS = 0)) ∧
    (∀ (meas : List (Int × Int)) (w : Int), s.dev.cal.recip.win = some w → s.dev.flag F.CAL_RECIP_CFG_BUSY = true → s.dev.rmbPaths = [] →
      s.dev.nowAir - w ≤ 1000 * (airNs : Int) * (max 6 (s.dev.getF F.CAL_RECIP_CFG_WIN_US) : Nat) →
      (s.dev.getF F.CAL_RECIP_STAT_BURSTS < 17 → Completes (.recipBurst meas true) s (fun t =>
        t.dev.getF F.CAL_RECIP_STAT_BURSTS = s.dev.getF F.CAL_RECIP_STAT_BURSTS ∧ t.dev.flag F.CAL_RECIP_CFG_BUSY = true)) ∧
      (s.dev.getF F.CAL_RECIP_STAT_BURSTS < 16 → Completes (.recipBurst meas false) s (fun t =>
        t.dev.getF F.CAL_RECIP_STAT_BURSTS = s.dev.getF F.CAL_RECIP_STAT_BURSTS + 1 ∧
        ∀ i, i < 64 → Tab.get (fun _ => ((0 : Int), (0 : Int))) (64 * s.dev.getF F.CAL_RECIP_STAT_BURSTS + i) t.dev.cal.recip.mt =
          meas.getD i (0, 0))) ∧
      (s.dev.getF F.CAL_RECIP_STAT_BURSTS = 16 → s.dev.cal.recipOps = [] → Completes (.recipBurst meas false) s (fun t =>
        t.dev.getF F.CAL_RECIP_STAT_BURSTS = 17 ∧ t.dev.flag F.CAL_RECIP_CFG_BUSY = false ∧
        Counted s.dev t.dev A.CAL_RECIP_CNT 1 ∧ t.dev.flag F.CAL_INT_STAT_RECIP_DONE = true ∧
        ∀ b, b < 16 → t.dev.reg (A.CAL_RECIP_STG (s.dev.getF F.CAL_RECIP_CFG_REF) b) = 0x20000000))) ∧
    (s.dev.firstCar ≠ none → Completes .recipSwapRequest s (fun t => t.dev.flag F.CAL_RECIP_CFG_SWAP_PEND = true ∧
      ∀ n b, n < 64 → b < 16 → t.dev.reg (A.CAL_RECIP_ACT n b) = s.dev.reg (A.CAL_RECIP_ACT n b))) ∧
    (s.dev.firstCar = none → Completes .recipSwapRequest s (fun t => t.dev.flag F.CAL_RECIP_CFG_SWAP_PEND = false ∧
      ∀ n b, n < 64 → b < 16 → t.dev.reg (A.CAL_RECIP_ACT n b) = s.dev.reg (A.CAL_RECIP_STG n b))) ∧
    (∀ c : Fin 2,
      (s.dev.monCal c.val = false → (s.dev.getF F.CAL_MON_PEND).testBit c.val = false →
        ((s.dev.monc c.val).inj = [] → Completes (.monCalStart c) s (fun t => t.dev.monCal c.val = true ∧ (t.dev.monc c.val).cur = none)) ∧
        ((s.dev.monc c.val).inj ≠ [] → Completes (.monCalStart c) s (fun t => t.dev.monCal c.val = false ∧
          (t.dev.getF F.CAL_MON_PEND).testBit c.val = true ∧ t.dev.monc c.val = s.dev.monc c.val))) ∧
      (s.dev.monCal c.val = true → Completes (.monCalDone c) s (fun t => t.dev.monCal c.val = false ∧
        t.dev.flag F.CAL_INT_STAT_MON_DONE = true ∧
        ((s.dev.monc c.val).inj ≠ [] → (t.dev.monc c.val).cur = some 2)) ∧
        exec (.monCalStart c) s = .next (settle s [] s.dev)))

/-- The predistortion and calibration commands (R279, R304), each with its effect where its checks pass. -/
def Obligations.PredistortionAndCalibrationCommands : Prop :=
  (∀ (s : State) (h : CmdHdr) (pl : List Byte),
       (CmdOk s h 0x4001 pl → pl.length = 12 → byteAt pl 8 ≤ 2 → 1 ≤ byteAt pl 9 → byteAt pl 9 ≤ 16 → 1 ≤ leAt pl 10 2 →
         leAt pl 10 2 ≤ 1000 → Answers (.dpdMode h pl) s h 0x4001 [] (fun t => ∀ n, n < 64 →
           ((leAt pl 0 8).testBit n = true → (t.dev.dfw n).mode = byteAt pl 8 ∧ (t.dev.dfw n).step = byteAt pl 9 ∧
             (t.dev.dfw n).updateMs = leAt pl 10 2) ∧
           ((leAt pl 0 8).testBit n = false → t.dev.dfw n = s.dev.dfw n) ∧
           (t.dev.pair A.DPD_PATH_EN_LO A.DPD_PATH_EN_HI).testBit n = if (leAt pl 0 8).testBit n then byteAt pl 8 != 0
             else (s.dev.pair A.DPD_PATH_EN_LO A.DPD_PATH_EN_HI).testBit n)) ∧
       (CmdOk s h 0x4002 pl → byteAt pl 0 < 64 → byteAt pl 1 ≤ 4 → pl.length = 4 + 2 * byteAt pl 1 →
         (∀ i, i < byteAt pl 1 → byteAt pl (4 + 2 * i) < 64 ∧ byteAt pl (5 + 2 * i) ≤ 7) →
         s.dev.nbrsOk (byteAt pl 0) ((List.range (byteAt pl 1)).map (fun i => byteAt pl (4 + 2 * i))) = true →
         RunsTo (.dpdNeighbour h pl) s h 0x4002 [] (s.dev.modDfw (byteAt pl 0) (fun f => { f with
           nbrs := (List.range (byteAt pl 1)).map (fun i => (byteAt pl (4 + 2 * i), byteAt pl (5 + 2 * i))) }))) ∧
       (CmdOk s h 0x4003 pl → pl.length = 3140 → byteAt pl 0 < 64 → s.dev.imgOk (byteAt pl 0) (imgOf (pl.drop 4)) = true →
         s.dev.flag (F.DPD_Pn_STAT_PEND (byteAt pl 0)) = false → (s.dev.dfw (byteAt pl 0)).mode ≠ 2 → s.dev.idleGroups = [] →
         ((byteAt pl 1).testBit 0 = false → Answers (.dpdTableLoad h pl) s h 0x4003 [] (fun t =>
           t.dev.shdTab (byteAt pl 0) = imgOf (pl.drop 4) ∧ t.dev.actTab (byteAt pl 0) = s.dev.actTab (byteAt pl 0) ∧
           t.dev.flag (F.DPD_Pn_STAT_PEND (byteAt pl 0)) = false)) ∧
         ((byteAt pl 1).testBit 0 = true → Pends (.dpdTableLoad h pl) s h 0x4003 (fun t =>
           t.dev.shdTab (byteAt pl 0) = imgOf (pl.drop 4) ∧ t.dev.flag (F.DPD_Pn_STAT_PEND (byteAt pl 0)) = true))) ∧
       (CmdOk s h 0x4004 pl → pl.length = 4 → byteAt pl 0 < 64 → byteAt pl 1 ≤ 1 →
         RunsTo (.dpdTableRead h pl) s h 0x4004
           (imgBytes (if byteAt pl 1 = 0 then s.dev.actTab (byteAt pl 0) else s.dev.shdTab (byteAt pl 0))) s.dev) ∧
       (CmdOk s h 0x4005 pl → pl.length = 8 → leAt pl 0 8 ≠ 0 → s.dev.idleGroups = [] →
         (∀ n ∈ bitsOf 64 (leAt pl 0 8), s.dev.flag (F.DPD_Pn_STAT_PEND n) = false) →
         Pends (.dpdReset h pl) s h 0x4005 (fun t => ∀ n ∈ bitsOf 64 (leAt pl 0 8), t.dev.shdTab n = identityTable ∧
           t.dev.flag (F.DPD_Pn_STAT_PEND n) = true)) ∧
       (CmdOk s h 0x4006 pl → pl.length = 8 → byteAt pl 0 < 64 → byteAt pl 1 ≤ 1 → byteAt pl 4 ≤ 31 →
         (s.dev.orx (byteAt pl 0 / 8)).queue.length < 16 → Pends (.dpdCapture h pl) s h 0x4006 (fun t =>
           t.dev.getF (F.DPD_ORXr_CTRL_ATT (byteAt pl 0 / 8)) = byteAt pl 4 ∧
           t.dev.flag (F.DPD_ORXr_CTRL_EN (byteAt pl 0 / 8)) = true ∧ ∃ q : CapReq,
             (t.dev.orx (byteAt pl 0 / 8)).queue = (s.dev.orx (byteAt pl 0 / 8)).queue ++ [q] ∧ q.sel = byteAt pl 0 % 8 ∧
             q.trig = byteAt pl 1 ∧ q.delay = leAt pl 2 2)) ∧
       (CmdOk s h 0x4007 pl → pl.length = 8 →
         Answers (.dpdStat h pl) s h 0x4007 ((bitsOf 64 (leAt pl 0 8)).flatMap (fun n =>
           word4 (s.dev.reg (A.DPD_Pn_STAT n)) ++ word4 (s.dev.reg (A.DPD_Pn_QUAL n)) ++ word4 (s.dev.reg (A.DPD_Pn_SAT n)) ++
           word4 (s.dev.reg (A.DPD_Pn_PEAK n)) ++ word4 (wordOf [(30, (s.dev.dfw n).mode), (29, b2n (s.dev.dfw n).frozen),
             (28, b2n (s.dev.dfw n).converged), (0, (s.dev.dfw n).updates)])))
           (fun t => ∀ n ∈ bitsOf 64 (leAt pl 0 8), t.dev.reg (A.DPD_Pn_SAT n) = 0 ∧ t.dev.reg (A.DPD_Pn_PEAK n) = 0))) ∧
  (∀ (s : State) (h : CmdHdr) (pl : List Byte),
       (CmdOk s h 0x4010 pl → pl.length = 4 → byteAt pl 0 < 16 → Answers (.calMode h pl) s h 0x4010 [] (fun t =>
         t.dev.flag F.CAL_CTRL_RECIP_EN = (byteAt pl 1).testBit 3 ∧ ∀ u, u < 4 →
           t.dev.engOn u = (if (byteAt pl 0).testBit u then (byteAt pl 1).testBit 0 else s.dev.engOn u) ∧
           (t.dev.getF F.CAL_CTRL_SKEW_EN).testBit u =
             (if (byteAt pl 0).testBit u then (byteAt pl 1).testBit 1 else (s.dev.getF F.CAL_CTRL_SKEW_EN).testBit u) ∧
           t.dev.cal.dacOn.testBit u = if (byteAt pl 0).testBit u then (byteAt pl 1).testBit 2 else s.dev.cal.dacOn.testBit u)) ∧
       (CmdOk s h 0x4011 pl → pl.length = 4 → byteAt pl 0 < 4 → byteAt pl 1 < 3 →
         RunsTo (.calRead h pl) s h 0x4011 (leBytes 2 (s.dev.getF (F.CAL_Tt_VER_VER (byteAt pl 0))) ++ [0, 0] ++
           s.dev.regsBytes (trimPage (byteAt pl 1) (byteAt pl 0)) 328) s.dev) ∧
       (CmdOk s h 0x4012 pl → pl.length = 4 → 0 < byteAt pl 0 → byteAt pl 0 < 16 →
         (∀ u ∈ bitsOf 4 (byteAt pl 0), s.dev.armed u = false) → Pends (.calReset h pl) s h 0x4012 (fun t =>
           t.dev.getF F.CAL_CTRL_ENG_EN = s.dev.getF F.CAL_CTRL_ENG_EN ∧
           ∀ u ∈ bitsOf 4 (byteAt pl 0), t.dev.armed u = true ∧ ∀ k, k < 328 →
             t.dev.reg (trimPage 1 u + 4 * k) = s.dev.reg (trimPage 2 u + 4 * k) ∧
             t.dev.reg (trimPage 0 u + 4 * k) = s.dev.reg (trimPage 0 u + 4 * k))) ∧
       (CmdOk s h 0x4013 pl → pl.length = 4 → byteAt pl 0 < 64 → s.dev.recipProgrammed = true →
         s.dev.flag F.CAL_RECIP_CFG_BUSY = false → s.dev.cal.recipOps = [] → Pends (.recipRun h pl) s h 0x4013 (fun t =>
           t.dev.flag F.CAL_RECIP_CFG_BUSY = true ∧ t.dev.getF F.CAL_RECIP_CFG_REF = byteAt pl 0 ∧
           t.dev.getF F.CAL_RECIP_STAT_BURSTS = 0)) ∧
       (CmdOk s h 0x4014 pl → pl.length = 4 → pathRun pl = true → byteAt pl 2 ≤ 1 →
         RunsTo (.recipRead h pl) s h 0x4014 (s.dev.regsBytes
           (if byteAt pl 2 = 0 then A.CAL_RECIP_ACT (byteAt pl 0) 0 else A.CAL_RECIP_STG (byteAt pl 0) 0) (16 * byteAt pl 1)) s.dev) ∧
       (CmdOk s h 0x4015 pl → pathRun pl = true → pl.length = 4 + 64 * byteAt pl 1 →
         Answers (.recipHost h pl) s h 0x4015 [] (fun t => ∀ i, i < 16 * byteAt pl 1 →
           Tab.get (fun _ => (0x20000000 : W32)) (16 * byteAt pl 0 + i) t.dev.cal.host = BitVec.ofNat 32 (leAt pl (4 + 4 * i) 4))) ∧
       (CmdOk s h 0x4016 pl → pl.length = 4 → 0 < byteAt pl 0 → byteAt pl 0 < 4 →
         (∀ c ∈ bitsOf 2 (byteAt pl 0), (s.dev.monc c).inj = [] ∧ (s.dev.getF F.CAL_MON_PEND).testBit c = false) →
         Pends (.monCal h pl) s h 0x4016 (fun t => ∀ c ∈ bitsOf 2 (byteAt pl 0), t.dev.monCal c = true)) ∧
       (CmdOk s h 0x4017 pl → pl = [] → Answers (.calStat h pl) s h 0x4017 (s.dev.regsBytes (A.CAL_Pp_STAT 0) 64 ++
           (List.range 4).flatMap (fun u => word4 (s.dev.reg (A.CAL_Tt_STAT u)) ++ word4 (s.dev.reg (A.CAL_Tt_EPOCH_CNT u)) ++
             word4 (s.dev.reg (A.CAL_Tt_DEFER_CNT u))))
           (fun t => ∀ u, u < 4 → t.dev.reg (A.CAL_Tt_EPOCH_CNT u) = 0 ∧ t.dev.reg (A.CAL_Tt_DEFER_CNT u) = 0)))

/-! Time and the Timetable (09_time.md). -/

/-- The time base (R307 to R320): a tick adds INCR and, at a slew's end, exactly what is left of it; PPS_OUT rises as NS passes
zero and falls; an offset is committed, discarded in a period with a step, or dropped for its source; a PPS edge is latched with
the time and its offset committed; a miss is counted, or only a tie; HOLDOVER expires; an increment is set in MANUAL and refused
elsewhere; the reference changes only while the tiles are quiet, and where it does not agree the counter holds with a hard fault;
and a slew starts, replaces the one before and ends. Steps, the servo and PTP (R310, R311, R316, R318, R329): a load waits for
the whole second or steps at once; a step that does not go forward puts the counter at its target, is recorded and counted, ends
the slew and mutes air time; the one that waits applies at its second; an evaluation with no measurement counts towards
HOLDOVER, enters it at HOLD_TO or, in a tie, does not; one fresh offset takes the servo from FREERUN to ACQUIRE by its control
law; and an exchange of PTP, where it is on, commits its offset. -/
def Obligations.TimeBaseAndServo : Prop :=
  (∀ (s : State) (r : Requester) (v : BitVec 32) (tie : Bool), s.dev.alive = true →
       (s.dev.time.held = true → exec .timeBaseTick s = .next (settle s [] s.dev)) ∧
       (s.dev.time.held = false → s.dev.time.slewRem = 0 → Completes .timeBaseTick s (fun t =>
         t.dev.time.now = TimeVal.ofFrac (s.dev.time.now.toFrac + s.dev.pair A.TIME_INCR_LO A.TIME_INCR_HI) ∧
         t.dev.time.slewRem = 0 ∧ t.dev.time.ppsAge = s.dev.time.ppsAge.map (· + 1) ∧
         t.dev.time.ppsOut = (s.dev.time.ppsOut || (decide (t.dev.time.now.sec ≠ s.dev.time.now.sec) &&
           s.dev.flag F.TIME_PPS_CFG_OUT_EN && !s.dev.ppsGated)) ∧
         ∀ a, a ≠ A.OBS_TRC_DROP → a ≠ A.OBS_INT_STAT → t.dev.reg a = s.dev.reg a)) ∧
       (s.dev.time.held = false → s.dev.time.slewTick ≠ 0 → s.dev.time.slewTick.natAbs < s.dev.time.slewRem.natAbs →
         Completes .timeBaseTick s (fun t => t.dev.time.slewRem = s.dev.time.slewRem - s.dev.time.slewTick ∧
           t.dev.time.now = TimeVal.ofFrac (s.dev.time.now.toFrac + s.dev.pair A.TIME_INCR_LO A.TIME_INCR_HI))) ∧
       (s.dev.time.held = false → s.dev.time.slewRem ≠ 0 → s.dev.time.slewRem.natAbs ≤ s.dev.time.slewTick.natAbs →
         Completes .timeBaseTick s (fun t => t.dev.time.slewRem = 0 ∧ t.dev.flag F.TIME_STATUS_SLEWING = false ∧
           t.dev.time.now = TimeVal.ofFrac ((s.dev.time.now.toFrac : Int) + (s.dev.pair A.TIME_INCR_LO A.TIME_INCR_HI : Nat) -
             s.dev.time.slewTick + s.dev.time.slewRem).toNat)) ∧
       exec .ppsOutFall s = .next (settle s [] (s.dev.modTime (fun t => { t with ppsOut := false }))) ∧
       (∀ w : Nat, w = v.toNat + (s.dev.takeStaged r A.TIME_MEAS_HI).1.toNat % 65536 * 2 ^ 32 →
         ∀ src : Nat, src = (s.dev.takeStaged r A.TIME_MEAS_HI).1.toNat / 65536 % 4 →
         (src ≠ 1 → s.dev.time.dropMeas = false → Completes (.measCommit r v) s (fun t =>
           t.dev.time = { s.dev.time with meas := s.dev.time.meas ++ [(src, sgn 48 w)] })) ∧
         (src = 1 ∨ s.dev.time.dropMeas = true → Completes (.measCommit r v) s (fun t =>
           t.dev.time = s.dev.time ∧ Counted s.dev t.dev A.TIME_MEAS_DROP 1))) ∧
       (s.dev.flag F.TIME_PPS_CFG_IN_EN = false ∨ s.dev.time.held = true ∨ (∃ n, s.dev.time.ppsAge = some n ∧ n < ppsMin) →
         exec (.ppsInEdge tie) s = .next (settle s [] s.dev)) ∧
       (s.dev.flag F.TIME_PPS_CFG_IN_EN = true → s.dev.time.held = false → (∀ n, s.dev.time.ppsAge = some n → ppsMin ≤ n) →
         Completes (.ppsInEdge tie) s (fun t => t.dev.time.ppsAge = some 0 ∧ t.dev.time.now = s.dev.time.now ∧
           t.dev.reg A.TIME_PPS_NS = BitVec.ofNat 32 s.dev.nowNs ∧
           t.dev.reg A.TIME_PPS_FRAC = wordOf [(29, s.dev.nowEighths % 8)] ∧
           t.dev.reg A.TIME_PPS_SEC_LO = BitVec.ofNat 32 s.dev.nowSecLo ∧
           (tie = true → s.dev.time.ppsAge ≠ none → Counted s.dev t.dev A.TIME_TIE 1) ∧
           (s.dev.time.dropMeas = false → s.dev.nowEighths % 8000000000 < 4000000000 →
             t.dev.time.meas = s.dev.time.meas ++ [(1, ((s.dev.nowEighths % 8000000000 : Nat) -
               8 * sgn 16 (s.dev.getF F.TIME_PPS_CFG_DELAY)) * 8192)]) ∧
           (s.dev.time.dropMeas = false → 4000000000 < s.dev.nowEighths % 8000000000 →
             t.dev.time.meas = s.dev.time.meas ++ [(1, ((s.dev.nowEighths % 8000000000 : Nat) - 8000000000 -
               8 * sgn 16 (s.dev.getF F.TIME_PPS_CFG_DELAY)) * 8192)]))) ∧
       (s.dev.flag F.TIME_PPS_CFG_IN_EN = false ∨ s.dev.time.ppsAge = none → exec (.ppsMiss tie) s = .next (settle s [] s.dev)) ∧
       (s.dev.flag F.TIME_PPS_CFG_IN_EN = true → s.dev.time.ppsAge ≠ none →
         Completes (.ppsMiss true) s (fun t => Counted s.dev t.dev A.TIME_TIE 1 ∧ t.dev.reg A.TIME_PPS_MISS = s.dev.reg A.TIME_PPS_MISS) ∧
         Completes (.ppsMiss false) s (fun t => Counted s.dev t.dev A.TIME_PPS_MISS 1 ∧
           t.dev.flag F.TIME_INT_STAT_PPS_MISS = true)) ∧
       (s.dev.servo = 4 → s.dev.flag F.TIME_MIX_HOLD_MAX = true → s.dev.flag F.TIME_STATUS_HOLD_EXP = false →
         Completes .holdExp s (fun t => t.dev.flag F.TIME_STATUS_HOLD_EXP = true ∧ t.dev.flag F.TIME_INT_STAT_HOLD_EXP = true ∧
           t.dev.servo = 4)) ∧
       (s.dev.servo ≠ 4 ∨ s.dev.flag F.TIME_MIX_HOLD_MAX = false ∨ s.dev.flag F.TIME_STATUS_HOLD_EXP = true →
         exec .holdExp s = .next (settle s [] s.dev)) ∧
       (s.dev.servo ≠ 0 → exec (.incrCommit r v) s = .next (settle s [] (s.dev.count A.TIME_CMD_ERR))) ∧
       (s.dev.servo = 0 → s.dev.time.slewRem = 0 → s.dev.time.yServo = 0 → s.dev.time.yXo = 0 →
         ∀ w : Nat, w = v.toNat + (s.dev.takeStaged r A.TIME_INCR_HI).1.toNat % 256 * 2 ^ 32 → 0x1FFE5C91E ≤ w → w ≤ 0x2001A36E2 →
         Completes (.incrCommit r v) s (fun t => t.dev.pair A.TIME_INCR_LO A.TIME_INCR_HI = w ∧ t.dev.time.now = s.dev.time.now)) ∧
       (∀ refclk agree : Bool,
         (s.dev.flag F.TIME_CTRL_CLK_SRC = refclk → exec (.clkSrcChange refclk agree) s = .next (settle s [] s.dev)) ∧
         (s.dev.flag F.TIME_CTRL_CLK_SRC ≠ refclk → s.dev.tilesQuiet = false →
           exec (.clkSrcChange refclk agree) s = .next (settle s [] (s.dev.count A.TIME_CMD_ERR))) ∧
         (s.dev.flag F.TIME_CTRL_CLK_SRC ≠ refclk → s.dev.tilesQuiet = true →
           Completes (.clkSrcChange refclk true) s (fun t => t.dev.flag F.TIME_CTRL_CLK_SRC = refclk ∧
             t.dev.time.held = s.dev.time.held) ∧
           Completes (.clkSrcChange refclk false) s (fun t => t.dev.time.held = true ∧ t.dev.obs.hardCond.testBit 2 = true ∧
             (t.dev.getF F.OBS_FAULT_STAT_HARD).testBit 2 = true))) ∧
       (∀ w : Nat, w = v.toNat + (s.dev.takeStaged r A.TIME_SLEW_HI).1.toNat % 65536 * 2 ^ 32 →
         (w ≠ 0 → Completes (.slewStart r v) s (fun t => t.dev.time.slewRem = sgn 48 w * 65536 ∧ t.dev.time.slewOn = true ∧
           t.dev.flag F.TIME_STATUS_SLEWING = true ∧ t.dev.time.now = s.dev.time.now)) ∧
         (w = 0 → Completes (.slewStart r v) s (fun t => t.dev.time.slewRem = 0 ∧ t.dev.time.slewOn = false ∧
           t.dev.flag F.TIME_STATUS_SLEWING = false ∧ t.dev.flag F.TIME_INT_STAT_SLEW_DONE = true))) ∧
       (s.dev.time.slewOn = true → s.dev.time.slewRem.natAbs ≤ s.dev.time.slewTick.natAbs → Completes .slewEnd s (fun t =>
         t.dev.time.now = TimeVal.ofFrac ((s.dev.time.now.toFrac : Int) + s.dev.time.slewRem).toNat ∧ t.dev.time.slewRem = 0 ∧
         t.dev.time.slewOn = false ∧ t.dev.flag F.TIME_STATUS_SLEWING = false ∧ t.dev.flag F.TIME_INT_STAT_SLEW_DONE = true)) ∧
       (s.dev.time.slewOn = false ∨ s.dev.time.slewTick.natAbs < s.dev.time.slewRem.natAbs →
         exec .slewEnd s = .next (settle s [] s.dev))) ∧
  (∀ s : State, s.dev.alive = true →
       (∀ (r : Requester) (v : BitVec 32) (q : StepReq),
         q = { rel := s.dev.flag F.TIME_CTRL_LOAD_REL, ns := v.toNat, frac := (s.dev.takeStaged r A.TIME_LOAD_FRAC).1.toNat,
               sec := (s.dev.takeStaged r A.TIME_LOAD_SEC_LO).1.toNat + (s.dev.takeStaged r A.TIME_LOAD_SEC_HI).1.toNat * 2 ^ 32 } →
         (s.dev.flag F.TIME_CTRL_STEP_AT = true → Completes (.timeStepCommit r v) s (fun t =>
           t.dev.time = { s.dev.time with stepPend := some q } ∧ t.dev.flag F.TIME_STATUS_STEP_PEND = true)) ∧
         (∀ n : TimeVal, s.dev.flag F.TIME_CTRL_STEP_AT = false →
           n = TimeVal.ofFrac (s.dev.stepTarget q % (2 ^ 64 * 1000000000 * 2 ^ 32)).toNat → n.air ≤ s.dev.nowAir →
           Completes (.timeStepCommit r v) s (fun t => t.dev.time.now = n ∧ t.dev.time.slewRem = 0 ∧ t.dev.time.slewOn = false ∧
             t.dev.time.stepMute = true ∧ t.dev.time.dropMeas = true ∧ t.dev.time.meas = [] ∧
             t.dev.flag F.TIME_STATUS_STEPPED = true ∧ t.dev.flag F.TIME_STATUS_SLEWING = false ∧
             t.dev.reg A.TIME_STEPREC_NS = BitVec.ofNat 32 n.ns ∧ t.dev.pair A.TIME_STEPREC_SEC_LO A.TIME_STEPREC_SEC_HI = n.sec ∧
             Counted s.dev t.dev A.TIME_STEP_CNT 1 ∧ Counted s.dev t.dev A.TIME_MEAS_DROP s.dev.time.meas.length))) ∧
       (s.dev.time.stepPend = none → exec .timeStep s = .next (settle s [] s.dev)) ∧
       (∀ (q : StepReq) (n : TimeVal), s.dev.time.stepPend = some q →
         n = TimeVal.ofFrac (s.dev.stepTarget q % (2 ^ 64 * 1000000000 * 2 ^ 32)).toNat → n.air ≤ s.dev.nowAir →
         Completes .timeStep s (fun t => t.dev.time.now = n ∧ t.dev.time.stepPend = none ∧
           t.dev.flag F.TIME_STATUS_STEP_PEND = false ∧ t.dev.flag F.TIME_INT_STAT_STEPPED = true ∧
           Counted s.dev t.dev A.TIME_STEP_CNT 1)) ∧
       (∀ tie : Bool, s.dev.time.meas = [] →
         (s.dev.servo ≠ 2 ∧ s.dev.servo ≠ 3 → Completes (.servoEval tie) s (fun t => t.dev.servo = s.dev.servo ∧
           t.dev.time.noUpd = 0 ∧ t.dev.getF F.TIME_STATUS_FRESH = 0 ∧ t.dev.flag F.TIME_INT_STAT_EVAL = true)) ∧
         (s.dev.servo = 2 ∨ s.dev.servo = 3 →
           (s.dev.time.noUpd + 1 < max 1 (s.dev.getF F.TIME_LOCK_HOLD_TO) → Completes (.servoEval tie) s (fun t =>
             t.dev.servo = s.dev.servo ∧ t.dev.time.noUpd = s.dev.time.noUpd + 1)) ∧
           (max 1 (s.dev.getF F.TIME_LOCK_HOLD_TO) ≤ s.dev.time.noUpd + 1 →
             Completes (.servoEval true) s (fun t => t.dev.servo = s.dev.servo ∧ Counted s.dev t.dev A.TIME_TIE 1) ∧
             Completes (.servoEval false) s (fun t => t.dev.servo = 4 ∧ t.dev.flag F.TIME_INT_STAT_STATE = true)))) ∧
       (∀ (tie : Bool) (θ : Int) (y : Rat), s.dev.time.meas = [(0, θ)] → s.dev.getF F.TIME_MIX_W_PTP ≠ 0 → s.dev.servo = 1 →
         s.dev.flag F.TIME_CTRL_AUTO = true → s.dev.flag F.TIME_CTRL_HOLD_FORCE = false → 2 ≤ s.dev.getF F.TIME_LOCK_LOCK_CNT →
         s.dev.fw.running = false →
         y = -((θ : Rat) / 65536 / (2 ^ s.dev.getF F.TIME_SERVO_KP_ACQ : Nat) +
           (s.dev.time.integ + (θ : Rat) / 65536 / (2 ^ s.dev.getF F.TIME_SERVO_KI_ACQ : Nat))) / s.dev.servoNs →
         -yLim ≤ y + (s.dev.time.yManual + s.dev.ySlew) → y + (s.dev.time.yManual + s.dev.ySlew) ≤ yLim →
         Completes (.servoEval tie) s (fun t => t.dev.servo = 2 ∧ t.dev.time.yServo = y ∧ t.dev.getF F.TIME_STATUS_FRESH = 1 ∧
           t.dev.time.integ = s.dev.time.integ + (θ : Rat) / 65536 / (2 ^ s.dev.getF F.TIME_SERVO_KI_ACQ : Nat) ∧
           t.dev.pair A.TIME_OFS_LO A.TIME_OFS_HI = unsgn 48 θ ∧ t.dev.time.meas = [])) ∧
       (∀ (θ : Int) (replayed : Bool),
         (s.dev.fw.running = false ∨ s.dev.fw.ptpCfg.testBit 0 = false ∨ replayed = true →
           exec (.ptpExchange θ replayed) s = .next (settle s [] s.dev)) ∧
         (s.dev.fw.running = true → s.dev.fw.ptpCfg.testBit 0 = true → s.dev.fw.autoStep = false →
           (fitsBits 48 θ = true → s.dev.time.dropMeas = false → exec (.ptpExchange θ false) s =
             .next (settle s [] (s.dev.modTime (fun t => { t with meas := t.meas ++ [(0, θ)] })))) ∧
           (fitsBits 48 θ = false → exec (.ptpExchange θ false) s = .next (settle s [] s.dev)))))


/-- The Timetable (R321 to R328): a bank with a bad entry is refused and any other waits for the frame; COPY stages the active
bank; an entry acts only when its instant has come, gives its level target the level of its action, clears its EN if it is a
one-shot, and rings its script once; a pulse ends; an edge of TT_IN is not selected, lost or queued, and a read takes the oldest. -/
def Obligations.Timetable : Prop :=
  ∀ s : State, s.dev.alive = true →
    (s.dev.ttRefused = true → Completes .ttblCommit s (fun t => t.dev.flag F.TTBL_INT_STAT_CMD_ERR = true ∧
      Counted s.dev t.dev A.TTBL_CMD_ERR 1 ∧ t.dev.flag F.TTBL_STAT_PEND = s.dev.flag F.TTBL_STAT_PEND)) ∧
    (s.dev.ttRefused = false → Completes .ttblCommit s (fun t => t.dev.flag F.TTBL_STAT_PEND = true ∧
      ∀ e, e < 256 → t.dev.ttActive e = s.dev.ttActive e)) ∧
    Completes .ttblCopy s (fun t => ∀ e, e < 256 → t.dev.ttStaged e = s.dev.ttActive e ∧ t.dev.ttActive e = s.dev.ttActive e) ∧
    (∀ (e : Fin 256) (w : Nat × Nat), w = s.dev.ttActive e.val →
      (s.dev.flag F.TTBL_CTRL_EN = false ∨ ttIn w s.dev.frameNow = false ∨
          s.dev.nowAir < s.dev.frameStart s.dev.frameNow + (ttOffset w * airNs : Nat) →
        exec (.ttEntryFire e) s = .next (settle s [] s.dev)) ∧
      (s.dev.flag F.TTBL_CTRL_EN = true → ttIn w s.dev.frameNow = true →
          s.dev.frameStart s.dev.frameNow + (ttOffset w * airNs : Nat) ≤ s.dev.nowAir →
        (ttIsLevel (ttTarget w) = true → (s.dev.mod ≠ .safe ∨ (ttTarget w ≠ 32 ∧ ttTarget w ≠ 33)) →
          Completes (.ttEntryFire e) s (fun t =>
            t.dev.ttLevel (ttTarget w) = [true, false, !s.dev.ttLevel (ttTarget w), true].getD (ttAction w) true ∧
            (t.dev.ttbl.pulses.contains (ttTarget w) = decide (ttAction w = 3)) ∧
            (∀ u, u < 46 → u ≠ ttTarget w → t.dev.ttLevel u = s.dev.ttLevel u) ∧
            (ttMode w = 1 → ttEn (t.dev.ttActive e.val) = false) ∧ (ttMode w ≠ 1 → t.dev.ttActive e.val = w))) ∧
        (s.dev.mod = .safe → ttTarget w = 32 ∨ ttTarget w = 33 → Completes (.ttEntryFire e) s (fun t =>
          t.dev.ttLevel (ttTarget w) = s.dev.ttLevel (ttTarget w) ∧ t.dev.ttbl = s.dev.ttbl)) ∧
        (∀ n, n < 8 → ttTarget w = 52 + n → s.dev.fw.running = true →
          (n ∉ s.dev.fw.bells → (∀ x ∈ s.dev.fw.scriptsRunning, x.1 ≠ n) → Completes (.ttEntryFire e) s (fun t =>
            t.dev.fw.bells = s.dev.fw.bells ++ [n] ∧ (ttMode w = 1 → ttEn (t.dev.ttActive e.val) = false))) ∧
          (n ∈ s.dev.fw.bells → Completes (.ttEntryFire e) s (fun t => t.dev.fw.bells = s.dev.fw.bells ∧
            Counted s.dev t.dev (A.MBOX_m_DROP 3) 1))))) ∧
    (∀ p : Fin 64,
      (p.val ∉ s.dev.ttbl.pulses → exec (.ttPulseEnd p) s = .next (settle s [] s.dev)) ∧
      (p.val ∈ s.dev.ttbl.pulses → ttIsLevel p.val = true → Completes (.ttPulseEnd p) s (fun t =>
        t.dev.ttLevel p.val = false ∧ t.dev.ttbl.pulses = s.dev.ttbl.pulses.filter (· != p.val)))) ∧
    (∀ (i : Fin 8) (rising close : Bool),
      ((bitsN (s.dev.reg A.TTBL_IN_CFG).toNat (2 * i.val) 2).testBit (if rising then 0 else 1) = false →
        exec (.ttInEdge i rising close) s = .next (settle s [] s.dev)) ∧
      ((bitsN (s.dev.reg A.TTBL_IN_CFG).toNat (2 * i.val) 2).testBit (if rising then 0 else 1) = true →
        (close = true ∨ 8 ≤ (s.dev.ttFifo i.val).length → Completes (.ttInEdge i rising close) s (fun t =>
          Counted s.dev t.dev A.TTBL_IN_LOST 1 ∧ t.dev.flag F.TTBL_INT_STAT_IN_OVF = true ∧ t.dev.ttbl = s.dev.ttbl)) ∧
        (close = false → (s.dev.ttFifo i.val).length < 8 → Completes (.ttInEdge i rising close) s (fun t =>
          t.dev.ttFifo i.val = s.dev.ttFifo i.val ++ [⟨rising, s.dev.nowNs, s.dev.time.now.frac / 2 ^ 29, s.dev.nowSecLo⟩] ∧
          (∀ j, j ≠ i.val → t.dev.ttFifo j = s.dev.ttFifo j) ∧ (t.dev.getF F.TTBL_INT_STAT_IN_AVAIL).testBit i.val = true)))) ∧
    (∀ (r : Requester) (i : Fin 8), Completes (.ttInRead r i) s (fun t =>
      t.dev.ttFifo i.val = (s.dev.ttFifo i.val).drop 1 ∧
      (∀ x l, s.dev.ttFifo i.val = x :: l → t.dev.rdata = wordOf [(31, 1), (30, b2n x.rising), (0, l.length + 1)]) ∧
      (s.dev.ttFifo i.val = [] → t.dev.rdata = 0)))


/-! The Rambler (10_rambler.md). -/

/-- Windows and the receiver (R334 to R336, R349 to R354): a window opens with the words in force and its direction by the SFN,
and closes, aborting a reception with a record; a preamble starts a packet, replaces one that is no stronger before sync and, at the
capture threshold, one after it; a sync word and its absence, a header that fails, one for another unit and one to receive; a
payload with a good and with a bad CRC leaves its record; a slot is freed and a completion read. -/
def Obligations.RamblerReceives : Prop :=
  ∀ (s : State) (rx : RxPayload), s.dev.alive = true →
    (s.dev.flag F.TTBL_STAT_RMB_WIN = false ∨ s.dev.rmb.opened ≠ none → exec .rmbWindowOpen s = .next (settle s [] s.dev)) ∧
    (s.dev.flag F.TTBL_STAT_RMB_WIN = true → s.dev.rmb.opened = none → Completes .rmbWindowOpen s (fun t =>
      t.dev.rmb = { s.dev.rmb with opened := some s.dev.nowAir, sent := false, gone := false, path := s.dev.reg A.RMB_PATH,
                                   txcfg := s.dev.reg A.RMB_TXCFG, txFtw := s.dev.ncoWord (.rambler .tx),
                                   rxFtw := s.dev.ncoWord (.rambler .rx) } ∧
      t.dev.flag F.RMB_STATUS_WIN = true ∧
      t.dev.flag F.RMB_STATUS_TXWIN = (s.dev.getF F.RMB_WIN_CFG_TXPAT).testBit (s.dev.frameNow % 16).toNat)) ∧
    (s.dev.flag F.TTBL_STAT_RMB_WIN = true ∨ s.dev.rmb.opened = none →
      exec (.rmbWindowClose rx) s = .next (settle s [] s.dev)) ∧
    (s.dev.flag F.TTBL_STAT_RMB_WIN = false → s.dev.rmb.opened ≠ none → Completes (.rmbWindowClose rx) s (fun t =>
      t.dev.rmb.opened = none ∧ t.dev.rmb.burst = none ∧ t.dev.rmb.rx = none ∧ t.dev.flag F.RMB_STATUS_WIN = false ∧
      t.dev.flag F.RMB_STATUS_TXWIN = false ∧
      (∀ x, s.dev.rmb.rx = some x → t.dev.rxState = 0 ∧ Counted s.dev t.dev A.RMB_WIN_ABORT 1 ∧
        (s.dev.rxState = 3 → s.dev.rmb.burst = none → RingReady s →
          Recorded s t x 3 false x.hdr (rx.bytes.take (hdrLen x.hdr)) rx) ∧
        (s.dev.rxState = 2 → s.dev.rmb.burst = none → RingReady s → Recorded s t x 3 false rx.hdr [] rx) ∧
        (s.dev.rxState = 1 → t.dev.rmb.rxq = s.dev.rmb.rxq)))) ∧
    (∀ p : Preamble,
      (s.dev.rmbHears = false → exec (.preambleDetect p rx) s = .next (settle s [] s.dev)) ∧
      (s.dev.rmbHears = true → s.dev.rmb.rx = none → Completes (.preambleDetect p rx) s (fun t => t.dev.rxState = 1 ∧
        ∃ b, t.dev.rmb.rx = some { level := if p.at0 < p.at1 then p.at1 else p.at0, branch := b, lev0 := p.lev0, lev1 := p.lev1 } ∧
          (p.at0 < p.at1 → b = true) ∧ (p.at1 < p.at0 → b = false))) ∧
      (∀ x, s.dev.rmbHears = true → s.dev.rmb.rx = some x →
        (s.dev.rxState = 1 → x.level ≤ p.at0 → p.at1 < p.at0 → Completes (.preambleDetect p rx) s (fun t => t.dev.rxState = 1 ∧
          t.dev.rmb.rx = some { level := p.at0, branch := false, lev0 := p.lev0, lev1 := p.lev1 } ∧
          Counted s.dev t.dev A.RMB_PRE_CAPTURE 1)) ∧
        (s.dev.rxState = 1 → p.at0 < x.level → p.at1 < x.level → p.at0 ≠ p.at1 →
          exec (.preambleDetect p rx) s = .next (settle s [] s.dev)) ∧
        (s.dev.rxState = 2 ∨ s.dev.rxState = 3 → p.at0 ≠ p.at1 →
          p.at0 < x.level + (clampN 3 15 (s.dev.getF F.RMB_RXCFG_CAPTURE_DB) : Nat) →
          p.at1 < x.level + (clampN 3 15 (s.dev.getF F.RMB_RXCFG_CAPTURE_DB) : Nat) →
          exec (.preambleDetect p rx) s = .next (settle s [] s.dev)) ∧
        (s.dev.rxState = 2 ∨ s.dev.rxState = 3 → p.at0 < p.at1 → RingReady s →
          x.level + (clampN 3 15 (s.dev.getF F.RMB_RXCFG_CAPTURE_DB) : Nat) ≤ p.at1 → Completes (.preambleDetect p rx) s (fun t =>
          t.dev.rxState = 1 ∧ t.dev.rmb.rx = some { level := p.at1, branch := true, lev0 := p.lev0, lev1 := p.lev1 } ∧
          Counted s.dev t.dev A.RMB_ABORT_CAP 1 ∧ t.dev.flag F.RMB_INT_STAT_CAPTURE = true ∧
          (s.dev.rxState = 2 → Recorded s t x 2 false rx.hdr [] rx) ∧
          (s.dev.rxState = 3 → Recorded s t x 2 false x.hdr (rx.bytes.take (hdrLen x.hdr)) rx))))) ∧
    (∀ (x : RmbRx) (ts : Int), s.dev.rmb.rx = some x →
      (s.dev.rxState = 1 → Completes (.syncFound ts) s (fun t => t.dev.rxState = 2 ∧ t.dev.rmb.rx = some { x with ts := ts })) ∧
      (s.dev.rxState ≠ 1 → exec (.syncFound ts) s = .next (settle s [] s.dev))) ∧
    (s.dev.rxState = 1 → Completes .syncTimeout s (fun t => t.dev.rxState = 0 ∧ t.dev.rmb.rx = none ∧
      Counted s.dev t.dev A.RMB_FALSE_DETECT 1)) ∧
    (s.dev.rxState ≠ 1 → exec .syncTimeout s = .next (settle s [] s.dev)) ∧
    (∀ (x : RmbRx) (h : BitVec 64), s.dev.rmb.rx = some x →
      (s.dev.rxState ≠ 2 → exec (.headerReceive h) s = .next (settle s [] s.dev)) ∧
      (s.dev.rxState = 2 → hdrOk h = false → Completes (.headerReceive h) s (fun t => t.dev.rxState = 0 ∧ t.dev.rmb.rx = none ∧
        Counted s.dev t.dev A.RMB_HDR_ERR 1)) ∧
      (s.dev.rxState = 2 → hdrOk h = true → hdrDst h ≠ s.dev.unitId → hdrDst h ≠ 0xFFF → Completes (.headerReceive h) s (fun t =>
        t.dev.rxState = 0 ∧ t.dev.rmb = { s.dev.rmb with rx := none } ∧ t.dev.reg A.RMB_HDR_ERR = s.dev.reg A.RMB_HDR_ERR)) ∧
      (s.dev.rxState = 2 → hdrOk h = true → hdrDst h = s.dev.unitId ∨ hdrDst h = 0xFFF → Completes (.headerReceive h) s (fun t =>
        t.dev.rxState = 3 ∧ t.dev.rmb = { s.dev.rmb with rx := some { x with hdr := h } }))) ∧
    (∀ (x : RmbRx) (tie : Bool) (n : Nat), s.dev.rmb.rx = some x → s.dev.rxState = 3 → n = hdrLen x.hdr → rx.bytes.length = n + 4 →
      RingReady s →
      (crc32 (rx.bytes.take n) ≠ beAt rx.bytes n 4 → Completes (.payloadReceive rx tie) s (fun t => t.dev.rxState = 0 ∧
        Counted s.dev t.dev A.RMB_PAY_ERR 1 ∧ Recorded s t x 1 false x.hdr (rx.bytes.take n) rx ∧ t.dev.rmb.txq = s.dev.rmb.txq)) ∧
      (crc32 (rx.bytes.take n) = beAt rx.bytes n 4 → hdrDst x.hdr ≠ s.dev.unitId ∨ hdrType x.hdr = 5 →
        Completes (.payloadReceive rx tie) s (fun t => t.dev.rxState = 0 ∧ Counted s.dev t.dev A.RMB_RX_OK 1 ∧
          t.dev.rmb.txq = s.dev.rmb.txq ∧ Recorded s t x 0 (s.dev.rmb.seen.contains (hdrSrc x.hdr, hdrSeq x.hdr)) x.hdr
            (rx.bytes.take n) rx))) ∧
    (∀ slot : Fin 16, exec (.rxSlotFree slot) s = .next (settle s [] { s.dev with rmb := { s.dev.rmb with
      slots := setBitN s.dev.rmb.slots slot.val false } })) ∧
    (∀ r : Requester,
      (s.dev.rmb.rxq = [] → Completes (.rxqRead r) s (fun t => t.dev.rdata = 0 ∧ t.dev.rmb = s.dev.rmb)) ∧
      (∀ st n l, s.dev.rmb.rxq = (st, n) :: l → Completes (.rxqRead r) s (fun t =>
        t.dev.rdata = wordOf [(31, 1), (27, st), (0, n)] ∧ t.dev.rmb = { s.dev.rmb with rxq := l })))

/-- Acknowledgements, time exchanges and the queue (R344, R348, R355 to R357): a DATA frame that asks for it, and a time request, are
answered by frames before every descriptor; an acknowledgement completes its frame; a response gives θ; a timer ends in a tie, a
copy or ACK_FAIL, and an exchange in a tie or a drop; a descriptor is refused, ignored when the queue is full, or queued with its
number; a completion is read with its descriptor; and the firmware asks for the time once no exchange is outstanding. -/
def Obligations.RamblerFrames : Prop :=
  ∀ s : State, s.dev.alive = true →
    (∀ (x : RmbRx) (rx : RxPayload) (tie : Bool) (n : Nat), s.dev.rmb.rx = some x → s.dev.rxState = 3 → n = hdrLen x.hdr →
      rx.bytes.length = n + 4 → RingReady s → crc32 (rx.bytes.take n) = beAt rx.bytes n 4 → hdrDst x.hdr = s.dev.unitId →
      (hdrType x.hdr = 1 → x.hdr.toNat.testBit 59 = true → Completes (.payloadReceive rx tie) s (fun t =>
        t.dev.rmb.txq = rmbInsert s.dev.rmb.txq
          { type := 2, dst := hdrSrc x.hdr, n := 1, ref := hdrSeq x.hdr, hw := true, seq := s.dev.rmb.seq } ∧
        t.dev.rmb.seq = (s.dev.rmb.seq + 1) % 64)) ∧
      (hdrType x.hdr = 1 → x.hdr.toNat.testBit 59 = false → Completes (.payloadReceive rx tie) s (fun t =>
        t.dev.rmb.txq = s.dev.rmb.txq ∧ (hdrSrc x.hdr, hdrSeq x.hdr) ∈ t.dev.rmb.seen)) ∧
      (hdrType x.hdr = 3 → rx.evm ≤ -80 → Completes (.payloadReceive rx tie) s (fun t =>
        t.dev.rmb.txq = rmbInsert s.dev.rmb.txq { type := 4, dst := hdrSrc x.hdr, n := 11, ref := hdrSeq x.hdr,
                                                  t2 := (x.ts % 2 ^ 40).toNat, hw := true, seq := s.dev.rmb.seq })) ∧
      (∀ a, hdrType x.hdr = 2 → s.dev.rmb.acks = [a] → a.tx.seq = byteAt rx.bytes 0 % 64 → a.tx.dst = hdrSrc x.hdr →
        a.tx.hw = false → a.tx.fw = false → a.timing = true → Completes (.payloadReceive rx tie) s (fun t =>
          TxDone s t a.tx 1 ∧ t.dev.rmb.acks = [] ∧ t.dev.rmb.txq = s.dev.rmb.txq ∧
          (tie = true → Counted s.dev t.dev A.RMB_TIE 1))) ∧
      (∀ (e : RmbExch) (t1 t2 t3 : Int), hdrType x.hdr = 4 → n = 11 → s.dev.rmb.exch = some e → e.t1 = some t1 →
        e.seq = byteAt rx.bytes 0 % 64 → hdrSrc x.hdr = s.dev.getF F.RMB_TT_PEER →
        (rx.evm ≤ -80 → e.stepped = false → t2 % 2 ^ 40 = (beAt rx.bytes 1 5 : Nat) →
          t3 % 2 ^ 40 = (beAt rx.bytes 6 5 : Nat) → (t2 - t1).natAbs < 2 ^ 39 → (t3 - x.ts).natAbs < 2 ^ 39 →
          Completes (.payloadReceive rx tie) s (fun t => t.dev.rmb.exch = none ∧ t.dev.flag F.RMB_INT_STAT_TT_DONE = true ∧
            t.dev.pair A.RMB_TT_OFS_LO A.RMB_TT_OFS_HI =
              unsgn 48 (((t1 - t2) + (x.ts - t3)) * 4096 - sgn 32 (s.dev.reg A.RMB_TT_ASYM).toNat))) ∧
        (-80 < rx.evm ∨ e.stepped = true → Completes (.payloadReceive rx tie) s (fun t => t.dev.rmb.exch = none ∧
          Counted s.dev t.dev A.RMB_TT_DROP 1 ∧
          t.dev.pair A.RMB_TT_OFS_LO A.RMB_TT_OFS_HI = s.dev.pair A.RMB_TT_OFS_LO A.RMB_TT_OFS_HI)))) ∧
    (∀ (seq : BitVec 6) (tie : Bool),
      (s.dev.rmb.acks = [] → exec (.ackTimeout seq tie) s = .next (settle s [] s.dev)) ∧
      (∀ a, s.dev.rmb.acks = [a] → a.tx.seq = seq.toNat → a.timing = true →
        Completes (.ackTimeout seq true) s (fun t => Counted s.dev t.dev A.RMB_TIE 1 ∧ t.dev.rmb = s.dev.rmb) ∧
        (a.tx.tries ≤ s.dev.getF F.RMB_ACK_RETRY → Completes (.ackTimeout seq false) s (fun t =>
          t.dev.rmb.txq = rmbInsert s.dev.rmb.txq { a.tx with at_ := none } ∧ t.dev.rmb.acks = [{ a with timing := false }])) ∧
        (s.dev.getF F.RMB_ACK_RETRY < a.tx.tries → a.tx.hw = false → a.tx.fw = false →
          Completes (.ackTimeout seq false) s (fun t => TxDone s t a.tx 2 ∧ t.dev.rmb.acks = [] ∧
            Counted s.dev t.dev A.RMB_ACK_FAIL 1)))) ∧
    (∀ tie : Bool,
      (s.dev.rmb.exch = none → exec (.ttTimeout tie) s = .next (settle s [] s.dev)) ∧
      (∀ (e : RmbExch) (t1 : Int), s.dev.rmb.exch = some e → e.t1 = some t1 →
        Completes (.ttTimeout true) s (fun t => Counted s.dev t.dev A.RMB_TIE 1 ∧ t.dev.rmb = s.dev.rmb) ∧
        Completes (.ttTimeout false) s (fun t => Counted s.dev t.dev A.RMB_TT_DROP 1 ∧ t.dev.rmb.exch = none ∧
          t.dev.flag F.RMB_INT_STAT_TT_TIMEOUT = true))) ∧
    (∀ (desc : BitVec 32) (b : List Byte), b = memRead s.mem desc.toNat 32 →
      (16 ≤ s.dev.rmbQueued → Completes (.rmbTxqPush desc) s (fun t => t.dev.flag F.RMB_INT_STAT_CMD_ERR = true ∧
        t.dev.rmb = s.dev.rmb)) ∧
      (s.dev.rmbQueued < 16 → inHamper desc.toNat 32 = true → s.dev.memi.ecc = [] →
        (leAt b 0 4 / 2 ^ 28 ∉ [1, 3, 5] ∨ (leAt b 0 4).testBit 24 = true ∨ (leAt b 0 4).testBit 11 = true ∨ zeroAt b 16 16 = false →
          Completes (.rmbTxqPush desc) s (fun t => t.dev.rmb.txq = s.dev.rmb.txq ∧
            t.dev.rmb.done = s.dev.rmb.done ++ [(9, s.dev.rmb.seq, desc.toNat)])) ∧
        (leAt b 0 4 / 2 ^ 28 ∈ [1, 5] → (leAt b 0 4).testBit 24 = false → (leAt b 0 4).testBit 11 = false → zeroAt b 16 16 = true →
          Completes (.rmbTxqPush desc) s (fun t => t.dev.rmb.done = s.dev.rmb.done ∧ t.dev.rmb.seq = (s.dev.rmb.seq + 1) % 64 ∧
            t.dev.rmb.txq = s.dev.rmb.txq ++ [{
              type := leAt b 0 4 / 2 ^ 28, dst := leAt b 0 4 / 4096 % 4096, n := leAt b 0 4 % 2048 + 1, pri := (leAt b 0 4).testBit 26,
              ackReq := (leAt b 0 4).testBit 27 && leAt b 0 4 / 4096 % 4096 != 0xFFF, seq := s.dev.rmb.seq, desc := desc.toNat,
              at_ := if (leAt b 0 4).testBit 25 then some (leAt b 8 4, leAt b 12 4) else none, pay := leAt b 4 4 }])))) ∧
    (∀ r : Requester,
      (s.dev.rmb.done = [] → Completes (.txdoneRead r) s (fun t => t.dev.rdata = 0 ∧ t.dev.rmb = s.dev.rmb)) ∧
      (∀ code seq desc l, s.dev.rmb.done = (code, seq, desc) :: l → Completes (.txdoneRead r) s (fun t =>
        t.dev.rdata = wordOf [(31, 1), (27, code), (21, seq)] ∧ t.dev.rmb = { s.dev.rmb with done := l } ∧
        Tab.get (fun _ => none) (reqKey r A.RMB_TXDONE_HI) t.dev.latch = some (BitVec.ofNat 32 desc)))) ∧
    (s.dev.fw.running = false ∨ s.dev.rmb.interval = 0 ∨ s.dev.flag F.RMB_TT_REQ_EN = false ∨ 16 ≤ s.dev.rmbQueued →
      exec .timeReqInterval s = .next (settle s [] s.dev)) ∧
    (s.dev.fw.running = true → s.dev.rmb.interval ≠ 0 → s.dev.flag F.RMB_TT_REQ_EN = true → s.dev.rmbQueued < 16 →
      (s.dev.rmb.exch = none → Completes .timeReqInterval s (fun t => t.dev.rmb.exch = some { seq := s.dev.rmb.seq } ∧
        t.dev.rmb.txq = s.dev.rmb.txq ++
          [{ type := 3, dst := s.dev.getF F.RMB_TT_PEER, n := 1, fw := true, seq := s.dev.rmb.seq }])) ∧
      (∀ e, s.dev.rmb.exch = some e → Completes .timeReqInterval s (fun t => t.dev.rmb.txq = s.dev.rmb.txq ∧
        t.dev.flag F.RMB_INT_STAT_TX_FAIL = true)))

/-- Bursts and the coexistence wires (R345, R346, R348, R355, R359, R360): the head burst waits for its window, completes as
TOO_LONG, MISSED or BLOCKED, is held for a lock, is denied, or goes on the air at its instant; a lock releases it and the end of
the hold refuses it; a burst that ends completes or awaits its acknowledgement; and the wires rise and fall. -/
def Obligations.RamblerBursts : Prop :=
  ∀ s : State, s.dev.alive = true →
    (s.dev.rmb.txq = [] → ∀ gnt tie : Bool, exec (.burstStart gnt tie) s = .next (settle s [] s.dev)) ∧
    (∀ (x : RmbTx) (l : List RmbTx) (gnt tie : Bool), s.dev.rmb.txq = x :: l → s.dev.rmb.burst = none → s.dev.rmb.hold = none →
      (∀ w, x.at_ = some w →
        (s.dev.nowAir < s.dev.atAir w → exec (.burstStart gnt tie) s = .next (settle s [] s.dev)) ∧
        (s.dev.atAir w + (airSample : Int) ≤ s.dev.nowAir → x.hw = false → x.fw = false →
          Completes (.burstStart gnt tie) s (fun t => TxDone s t x 7 ∧ t.dev.rmb.txq = l))) ∧
      (x.at_ = none → s.dev.rmbTooLong x.n = true → x.hw = false → x.fw = false →
        Completes (.burstStart gnt tie) s (fun t => TxDone s t x 8 ∧ t.dev.rmb.txq = l)) ∧
      (x.at_ = none → s.dev.rmbTooLong x.n = false →
        (s.dev.txWindow = false ∨ s.dev.rmb.gone = true → exec (.burstStart gnt tie) s = .next (settle s [] s.dev)) ∧
        (s.dev.txWindow = true → s.dev.rmb.gone = false →
          (s.dev.rmbBlocked = true → x.hw = false → x.fw = false →
            Completes (.burstStart gnt tie) s (fun t => TxDone s t x 5 ∧ t.dev.rmb.txq = l ∧ t.dev.rmb.gone = true)) ∧
          (s.dev.rmbBlocked = false → s.dev.rmbLocked = false → Completes (.burstStart gnt tie) s (fun t =>
            t.dev.rmb = { s.dev.rmb with txq := l, hold := some x, gone := true })) ∧
          (s.dev.rmbBlocked = false → s.dev.rmbLocked = true →
            ((s.dev.flag F.COEX_CTRL_YIELD_EN = true ∧ s.dev.flag F.COEX_STAT_REQ_IN = true) ∨
                (s.dev.flag F.COEX_CTRL_REQ_EN = true ∧ gnt = false ∧ tie = false) →
              (x.denials + 1 < max 1 (s.dev.getF F.COEX_CTRL_MAX_DEFER) → Completes (.burstStart gnt tie) s (fun t =>
                t.dev.rmb = { s.dev.rmb with txq := { x with denials := x.denials + 1 } :: l, gone := true } ∧
                Counted s.dev t.dev A.COEX_DEFER_CNT 1 ∧ t.dev.flag F.COEX_STAT_REQ_OUT = false)) ∧
              (max 1 (s.dev.getF F.COEX_CTRL_MAX_DEFER) ≤ x.denials + 1 → x.hw = false → x.fw = false →
                Completes (.burstStart gnt tie) s (fun t => TxDone s t x 4 ∧ t.dev.rmb.txq = l ∧
                  Counted s.dev t.dev A.COEX_DENIED_CNT 1))) ∧
            ((s.dev.flag F.COEX_CTRL_YIELD_EN = false ∨ s.dev.flag F.COEX_STAT_REQ_IN = false) →
              (s.dev.flag F.COEX_CTRL_REQ_EN = false ∨ gnt = true ∨ tie = true) → s.dev.rmbMuted = false → s.dev.memi.ecc = [] →
              Completes (.burstStart gnt tie) s (fun t => t.dev.rmb.txq = l ∧ t.dev.rmb.sent = true ∧ t.dev.rmb.gone = true ∧
                t.dev.rmb.burst = some ({ x with denials := 0 }, s.dev.rmb.opened.getD 0 + s.dev.rmbOfs) ∧
                Counted s.dev t.dev A.RMB_DL_DISPLACED (s.dev.tile (tileOf s.dev.rmbTxPath)).txSyms.length ∧
                (s.dev.flag F.COEX_CTRL_REQ_EN = true → tie = true → Counted s.dev t.dev A.RMB_TIE 1))))))) ∧
    (s.dev.rmb.hold = none → Completes .ramblerPllLock s (fun t => t.dev.rmb = { s.dev.rmb with locked := true } ∧
      t.dev.ready 14 = true)) ∧
    (∀ x, s.dev.rmb.hold = some x → s.dev.getF (F.TILE_STAT_PLL_STATE (tileOf s.dev.rmbTxPath)) = 3 → s.dev.rmbBlocked = false →
      s.dev.rmb.opened ≠ none → s.dev.rmbFits x.n s.dev.nowAir = true → s.dev.flag F.COEX_CTRL_YIELD_EN = false →
      s.dev.flag F.COEX_CTRL_REQ_EN = false → s.dev.rmbMuted = false → s.dev.memi.ecc = [] → Completes .ramblerPllLock s (fun t =>
        t.dev.rmb.burst = some ({ x with denials := 0 }, s.dev.nowAir) ∧ t.dev.rmb.hold = none ∧ t.dev.rmb.locked = true)) ∧
    (s.dev.rmb.hold = none → ∀ tie : Bool, exec (.synthHoldExpiry tie) s = .next (settle s [] s.dev)) ∧
    (∀ x, s.dev.rmb.hold = some x →
      Completes (.synthHoldExpiry true) s (fun t => t.dev.rmb = s.dev.rmb ∧ Counted s.dev t.dev A.RMB_TIE 1) ∧
      (x.hw = false → x.fw = false → Completes (.synthHoldExpiry false) s (fun t => TxDone s t x 3 ∧ t.dev.rmb.hold = none ∧
        Counted s.dev t.dev A.RMB_SYNTH_BUSY 1))) ∧
    (s.dev.rmb.burst = none → exec .burstEnd s = .next (settle s [] s.dev)) ∧
    (∀ x at_, s.dev.rmb.burst = some (x, at_) →
      (x.acked = false → x.ackReq = true → Completes .burstEnd s (fun t => t.dev.rmb.burst = none ∧
        Counted s.dev t.dev A.RMB_TX_CNT 1 ∧ t.dev.rmb.done = s.dev.rmb.done ∧
        t.dev.rmb.acks = s.dev.rmb.acks.filter (fun a => a.tx.seq != x.seq) ++ [⟨{ x with tries := x.tries + 1 }, true⟩])) ∧
      (x.acked = false → x.ackReq = false → x.hw = false → x.fw = false → Completes .burstEnd s (fun t => TxDone s t x 0 ∧
        t.dev.rmb.burst = none ∧ Counted s.dev t.dev A.RMB_TX_CNT 1 ∧ t.dev.flag F.COEX_STAT_REQ_OUT = false)) ∧
      (x.acked = true → Completes .burstEnd s (fun t => t.dev.rmb.burst = none ∧ t.dev.rmb.done = s.dev.rmb.done ∧
        Counted s.dev t.dev A.RMB_TX_CNT 1))) ∧
    (∀ x l, s.dev.rmb.txq = x :: l → s.dev.flag F.COEX_CTRL_REQ_EN = true → s.dev.mod ≠ .safe → s.dev.rmb.burst = none →
      Completes .coexRequest s (fun t => t.dev.flag F.COEX_STAT_REQ_OUT = true ∧ t.dev.flag F.COEX_STAT_PRI_OUT = x.pri)) ∧
    (s.dev.rmb.txq = [] ∨ s.dev.flag F.COEX_CTRL_REQ_EN = false ∨ s.dev.mod = .safe ∨ s.dev.rmb.burst ≠ none →
      exec .coexRequest s = .next (settle s [] s.dev)) ∧
    Completes (.coexReqInEdge false) s (fun t => t.dev.flag F.COEX_STAT_REQ_IN = false ∧ t.dev.flag F.COEX_STAT_GNT_OUT = false) ∧
    (s.dev.flag F.COEX_CTRL_YIELD_EN = true → s.dev.rmb.burst = none → s.dev.mod ≠ .safe → Completes (.coexReqInEdge true) s (fun t =>
      t.dev.flag F.COEX_STAT_REQ_IN = true ∧ t.dev.flag F.COEX_STAT_GNT_OUT = true)) ∧
    (s.dev.flag F.COEX_CTRL_YIELD_EN = false ∨ s.dev.rmb.burst ≠ none → Completes (.coexReqInEdge true) s (fun t =>
      t.dev.flag F.COEX_STAT_REQ_IN = true ∧ t.dev.flag F.COEX_STAT_GNT_OUT = s.dev.flag F.COEX_STAT_GNT_OUT))

/-- The time, Timetable and Rambler commands (R330, R361), each with its effect where its checks pass. -/
def Obligations.TimeAndRamblerCommands : Prop :=
  (∀ (s : State) (h : CmdHdr) (pl : List Byte),
       (CmdOk s h 0x5001 pl → pl.length = 24 → byteAt pl 0 ≤ 1 → byteAt pl 1 ≤ 7 → byteAt pl 2 ≤ 6 → byteAt pl 3 = 0 →
         leAt pl 4 4 &&& 0xF0000FF8 = 0 → leAt pl 16 4 &&& 0xFC = 0 →
         (byteAt pl 0 = s.dev.getF F.TIME_CTRL_CLK_SRC ∨ s.dev.tilesQuiet = true) →
         Answers (.timeCfg h pl) s h 0x5001 [] (fun t => t.dev.getF F.TIME_CTRL_CLK_SRC = byteAt pl 0 ∧
           t.dev.flag F.TIME_CTRL_SYNT_EN = (byteAt pl 1).testBit 0 ∧ t.dev.flag F.TIME_CTRL_PPS_GATE = (byteAt pl 1).testBit 1 ∧
           t.dev.fw.autoStep = (byteAt pl 1).testBit 2 ∧ t.dev.fw.stepUs = leAt pl 20 4 ∧
           t.dev.getF F.TIME_SERVO_PERIOD = byteAt pl 2 ∧ (t.dev.reg A.TIME_SERVO).toNat / 8 = leAt pl 4 4 / 8 ∧
           (t.dev.reg A.TIME_LOCK).toNat = leAt pl 8 4 ∧ (t.dev.reg A.TIME_MIX).toNat = leAt pl 12 4 ∧
           (t.dev.reg A.TIME_PPS_CFG).toNat / 256 = leAt pl 16 4 / 256 ∧ (t.dev.reg A.TIME_PPS_CFG).toNat % 4 = leAt pl 16 4 % 4)) ∧
       (CmdOk s h 0x5002 pl → pl.length = 20 → leAt pl 12 4 < 1000000000 →
         ((byteAt pl 0).testBit 1 = true → Pends (.timeSet h pl) s h 0x5002 (fun t => t.dev.time.now = s.dev.time.now ∧
           t.dev.flag F.TIME_STATUS_STEP_PEND = true ∧
           t.dev.time.stepPend = some ⟨(byteAt pl 0).testBit 0, leAt pl 4 8, leAt pl 12 4, leAt pl 16 4⟩)) ∧
         (byteAt pl 0 % 4 = 0 → (TimeVal.mk (leAt pl 4 8) (leAt pl 12 4) (leAt pl 16 4)).air ≤ s.dev.nowAir →
           ∃ t, exec (.timeSet h pl) s = .next t ∧ Answered s t h 0x5002 0 (t.dev.liveBytes A.TIME_STEPREC_NS 5) ∧
             t.dev.time.now = ⟨leAt pl 4 8, leAt pl 12 4, leAt pl 16 4⟩ ∧ t.dev.time.stepMute = true ∧
             Counted s.dev t.dev A.TIME_STEP_CNT 1)) ∧
       (CmdOk s h 0x5003 pl → pl.length = 9 → fitsBits 48 (sgn 64 (leAt pl 0 8)) = true → 1 ≤ byteAt pl 8 → byteAt pl 8 ≤ 200 →
         Pends (.timeSlew h pl) s h 0x5003 (fun t => t.dev.time.slewRem = sgn 64 (leAt pl 0 8) * 65536 ∧ t.dev.time.slewOn = true ∧
           t.dev.flag F.TIME_STATUS_SLEWING = decide (leAt pl 0 8 ≠ 0) ∧ t.dev.slewPpm = byteAt pl 8 ∧
           t.dev.time.now = s.dev.time.now)) ∧
       (CmdOk s h 0x5004 pl → pl = [] → RunsTo (.timeGet h pl) s h 0x5004 (s.dev.liveBytes A.TIME_NS 4 ++
         s.dev.liveBytes A.TIME_STATUS 1 ++ s.dev.liveBytes A.TIME_OFS_LO 2 ++ s.dev.liveBytes A.TIME_FREQ 1) s.dev) ∧
       (CmdOk s h 0x5005 pl → pl.length = 4 → RunsTo (.ptpCfg h pl) s h 0x5005 [] (s.dev.modFw (fun f => { f with
         ptpCfg := byteAt pl 0 % 4, ptpDomain := byteAt pl 1, ptpInterval := byteAt pl 2 }))) ∧
       (CmdOk s h 0x5010 pl → 1 ≤ byteAt pl 1 → byteAt pl 1 ≤ 64 → byteAt pl 0 + byteAt pl 1 ≤ 256 → pl.length = 4 + 8 * byteAt pl 1 →
         Answers (.ttWrite h pl) s h 0x5010 [] (fun t => (∀ e, e < 256 → t.dev.ttActive e = s.dev.ttActive e) ∧
           (∀ i, i < byteAt pl 1 → t.dev.ttStaged (byteAt pl 0 + i) = (leAt pl (4 + 8 * i) 4, leAt pl (8 + 8 * i) 4)) ∧
           ∀ e, e < 256 → e < byteAt pl 0 ∨ byteAt pl 0 + byteAt pl 1 ≤ e → t.dev.ttStaged e = s.dev.ttStaged e)) ∧
       (CmdOk s h 0x5011 pl → pl = [] → s.dev.ttRefused = false → Pends (.ttCommit h pl) s h 0x5011 (fun t =>
         t.dev.flag F.TTBL_STAT_PEND = true ∧ ∀ e, e < 256 → t.dev.ttActive e = s.dev.ttActive e)) ∧
       (CmdOk s h 0x5012 pl → pl.length = 4 → 1 ≤ byteAt pl 1 → byteAt pl 1 ≤ 64 → byteAt pl 0 + byteAt pl 1 ≤ 256 → byteAt pl 2 ≤ 1 →
         RunsTo (.ttRead h pl) s h 0x5012 (s.dev.regsBytes
           (if byteAt pl 2 = 0 then A.TTBL_ACTV_W0 (byteAt pl 0) else A.TTBL_STGD_W0 (byteAt pl 0)) (2 * byteAt pl 1)) s.dev) ∧
       (∀ fs, CmdOk s h 0x5013 pl → 4 ≤ pl.length → pl.length ≤ 4096 → byteAt pl 0 ≤ 5 → byteAt pl 1 ≤ 16 →
         scriptFrames (byteAt pl 1) (pl.drop 4) = some fs → (∀ x ∈ s.dev.fw.scriptsRunning, x.1 ≠ byteAt pl 0) →
         RunsTo (.ttScript h pl) s h 0x5013 [] (s.dev.modFw (fun f => { f with
           scripts := Tab.set (fun _ => []) (byteAt pl 0) fs f.scripts })))) ∧
  (∀ (s : State) (h : CmdHdr) (pl : List Byte),
       (∀ f gt gr wt wr : Nat, CmdOk s h 0x6001 pl → pl.length = 20 → byteAt pl 0 ≤ 63 → byteAt pl 1 ≤ 63 → byteAt pl 2 ≤ 63 →
         byteAt pl 3 ≤ 63 → leAt pl 12 2 ≤ 0xFFF → byteAt pl 18 ≤ 15 → f = leAt pl 4 8 → gt = s.dev.bandGroup (tileOf (byteAt pl 0)) →
         gr = s.dev.bandGroup (tileOf (byteAt pl 1)) → gr = s.dev.bandGroup (tileOf (byteAt pl 2)) →
         s.dev.rmbChannelOk f gt .tx = true → s.dev.rmbChannelOk f gr .rx = true →
         carWord ((f : Rat) - s.dev.bandFreq gt .tx) = some wt → carWord ((f : Rat) - s.dev.bandFreq gr .rx) = some wr →
         Answers (.rmbCfg h pl) s h 0x6001 [] (fun t =>
           t.dev.reg A.RMB_PATH = wordOf [(16, byteAt pl 2), (8, byteAt pl 1), (0, byteAt pl 0)] ∧
           t.dev.getF F.RMB_TXCFG_ATT = byteAt pl 3 ∧ t.dev.pair A.RMB_TX_FTW_LO A.RMB_TX_FTW_HI = wt ∧
           t.dev.pair A.RMB_RX_FTW_LO A.RMB_RX_FTW_HI = wr ∧ t.dev.unitId = leAt pl 12 2 ∧
           t.dev.getF F.RMB_WIN_CFG_TXPAT = leAt pl 14 2 ∧ t.dev.getF F.RMB_WIN_CFG_WIN_US = byteAt pl 16 ∧
           t.dev.getF F.RMB_WIN_CFG_RANGE_US = byteAt pl 17 ∧ t.dev.getF F.RMB_RXCFG_CAPTURE_DB = byteAt pl 18 ∧
           t.dev.rmb = s.dev.rmb)) ∧
       (CmdOk s h 0x6002 pl → s.dev.ready 14 = true → byteAt pl 0 ∈ [1, 5] → leAt pl 2 2 ≤ 0xFFF → 1 ≤ leAt pl 12 2 →
         leAt pl 12 2 ≤ 2048 → pl.length = 16 + (if byteAt pl 0 = 1 then leAt pl 12 2 else 0) →
         ((byteAt pl 1).testBit 2 = true → leAt pl 8 4 < 1000000000) → leAt pl 12 2 ≤ s.dev.rmbLargest → s.dev.rmbQueued < 16 →
         Pends (.rmbSend h pl) s h 0x6002 (fun t => t.dev.rmb.seq = (s.dev.rmb.seq + 1) % 64 ∧
           t.dev.rmb.txq = s.dev.rmb.txq ++ [{
             type := byteAt pl 0, ackReq := (byteAt pl 1).testBit 0 && leAt pl 2 2 != 0xFFF, pri := (byteAt pl 1).testBit 1,
             dst := leAt pl 2 2, at_ := if (byteAt pl 1).testBit 2 then some (leAt pl 8 4, leAt pl 4 4) else none,
             n := leAt pl 12 2, fw := true, seq := s.dev.rmb.seq,
             op := some ⟨h.mb.val, h.tag.toNat, h.seq.toNat, 0x6002, [leAt pl 12 2]⟩ }])) ∧
       (CmdOk s h 0x6003 pl → pl.length = 12 → 1 ≤ byteAt pl 1 → leAt pl 2 2 ≤ 0xFFF → Answers (.rmbTt h pl) s h 0x6003 [] (fun t =>
         t.dev.flag F.RMB_TT_REQ_EN = (byteAt pl 0).testBit 0 ∧ t.dev.flag F.RMB_TT_TT_SERVO = (byteAt pl 0).testBit 1 ∧
         t.dev.getF F.RMB_TT_PEER = leAt pl 2 2 ∧ t.dev.getF F.RMB_TT_MAX_MS = leAt pl 4 2 ∧
         (t.dev.reg A.RMB_TT_ASYM).toNat = leAt pl 8 4 ∧ t.dev.rmb = { s.dev.rmb with interval := byteAt pl 1 })) ∧
       (CmdOk s h 0x6004 pl → pl.length = 4 → byteAt pl 2 ≤ 15 → Answers (.coexCfg h pl) s h 0x6004 [] (fun t =>
         t.dev.flag F.COEX_CTRL_REQ_EN = (byteAt pl 0).testBit 0 ∧ t.dev.flag F.COEX_CTRL_YIELD_EN = (byteAt pl 0).testBit 1 ∧
         t.dev.getF F.COEX_CTRL_LEAD_US = byteAt pl 1 ∧ t.dev.getF F.COEX_CTRL_MAX_DEFER = byteAt pl 2 ∧
         (byteAt pl 0 % 4 = 0 → t.dev.flag F.COEX_STAT_REQ_OUT = false ∧ t.dev.flag F.COEX_STAT_GNT_OUT = false))) ∧
       (CmdOk s h 0x6005 pl → pl = [] → Answers (.rmbStat h pl) s h 0x6005
         (s.dev.liveBytes A.RMB_STATUS 1 ++ s.dev.liveBytes A.RMB_TT_OFS_LO 2 ++ s.dev.regsBytes A.RMB_TX_CNT 13)
         (fun t => ∀ i, i < 13 → t.dev.reg (A.RMB_TX_CNT + 4 * i) = 0)))

/-! Front-end control (11_front_end_control.md). -/

/-- Bias DACs (R365 to R371): a push joins a queue with room; at a tick a cleared channel goes to high impedance, an enabled one of
GROUP 0 pops, straight, clamped to its limits or, on a major change or a change of range, into a hold, and a held, disabled or
unmarked one pops nothing; a hold's end drives its entry; FORCE_HIZ returns every channel to high impedance. The front-end buses
(R379, R380): a command starts a transfer of an idle controller that is on and is ignored and counted otherwise; its end stores
what was read; a stretched clock ends the transfer with STRETCH_TO or, in a tie, only counts. -/
def Obligations.BiasDacsAndBuses : Prop :=
  (∀ (s : State) (ch : Fin 96) (n : Nat), s.dev.alive = true → n = ch.val →
       (∀ e : BitVec 13,
         ((s.dev.auxQ n).length < 16 → Completes (.auxdQueuePush ch e) s (fun t => t.dev.auxQ n = s.dev.auxQ n ++ [e.toNat] ∧
           ∀ m, m ≠ n → t.dev.auxQ m = s.dev.auxQ m)) ∧
         (16 ≤ (s.dev.auxQ n).length → exec (.auxdQueuePush ch e) s = .next (settle s [] (s.dev.count A.AUXD_CMD_ERR)))) ∧
       Completes .auxdTick s (fun t =>
         (n ∈ s.dev.fe.aux.clearing → t.dev.flag (F.AUXD_CHn_STAT_DRIVEN n) = false ∧
           t.dev.flag (F.AUXD_CHn_STAT_HOLDING n) = false ∧ t.dev.auxQ n = s.dev.auxQ n) ∧
         (n ∉ s.dev.fe.aux.clearing → s.dev.flag (F.AUXD_CHn_STAT_HOLDING n) = true ∨ s.dev.flag (F.AUXD_CHn_CFG_EN n) = false ∨
             (s.dev.getF (F.AUXD_CHn_CFG_GROUP n) ≠ 0 ∧ n ∉ s.dev.fe.aux.marked ∧ n ∉ s.dev.fe.aux.deferred) →
           t.dev.auxQ n = s.dev.auxQ n) ∧
         (∀ (e : Nat) (q : List Nat) (gain code lo hi : Nat), n ∉ s.dev.fe.aux.clearing →
           s.dev.flag (F.AUXD_CHn_STAT_HOLDING n) = false → s.dev.flag (F.AUXD_CHn_CFG_EN n) = true →
           s.dev.getF (F.AUXD_CHn_CFG_GROUP n) = 0 ∨ n ∈ s.dev.fe.aux.marked ∨ n ∈ s.dev.fe.aux.deferred →
           s.dev.auxQ n = e :: q → gain = e / 4096 → gain ≤ 1 → code = e % 4096 → (lo, hi) = s.dev.auxLimits n →
           t.dev.auxQ n = (if s.dev.flag (F.AUXD_CHn_CFG_RECIRC n) then q ++ [e] else q) ∧
           (s.dev.flag (F.AUXD_CHn_STAT_DRIVEN n) = false → lo ≤ code * (1 + gain) → code * (1 + gain) ≤ hi →
             t.dev.flag (F.AUXD_CHn_STAT_DRIVEN n) = true ∧ t.dev.getF (F.AUXD_CHn_STAT_GAIN n) = gain ∧
             t.dev.getF (F.AUXD_CHn_STAT_CODE n) = code ∧ t.dev.flag (F.AUXD_CHn_STAT_HOLDING n) = false) ∧
           (s.dev.flag (F.AUXD_CHn_STAT_DRIVEN n) = false → hi < code * (1 + gain) → lo ≤ hi / (1 + gain) * (1 + gain) →
             t.dev.flag (F.AUXD_CHn_STAT_DRIVEN n) = true ∧ t.dev.getF (F.AUXD_CHn_STAT_CODE n) = hi / (1 + gain) ∧
             t.dev.flag F.AUXD_INT_STAT_LIM_HIT = true) ∧
           (s.dev.flag (F.AUXD_CHn_STAT_DRIVEN n) = true → lo ≤ code * (1 + gain) → code * (1 + gain) ≤ hi →
             lo ≤ auxValue (s.dev.getF (F.AUXD_CHn_STAT_GAIN n)) (s.dev.getF (F.AUXD_CHn_STAT_CODE n)) →
             auxValue (s.dev.getF (F.AUXD_CHn_STAT_GAIN n)) (s.dev.getF (F.AUXD_CHn_STAT_CODE n)) ≤ hi →
             (code / 256 ≠ s.dev.getF (F.AUXD_CHn_STAT_CODE n) / 256 ∨ gain ≠ s.dev.getF (F.AUXD_CHn_STAT_GAIN n) →
               t.dev.flag (F.AUXD_CHn_STAT_HOLDING n) = true ∧ Tab.get (fun _ => none) n t.dev.fe.aux.holds = some e ∧
               t.dev.getF (F.AUXD_CHn_STAT_CODE n) = s.dev.getF (F.AUXD_CHn_STAT_CODE n)) ∧
             (code / 256 = s.dev.getF (F.AUXD_CHn_STAT_CODE n) / 256 → gain = s.dev.getF (F.AUXD_CHn_STAT_GAIN n) →
               t.dev.flag (F.AUXD_CHn_STAT_HOLDING n) = false ∧ t.dev.getF (F.AUXD_CHn_STAT_CODE n) = code)))) ∧
       (Tab.get (fun _ => none) n s.dev.fe.aux.holds = none → exec (.deglitchHoldEnd ch) s = .next (settle s [] s.dev)) ∧
       (∀ e, e < 8192 → Tab.get (fun _ => none) n s.dev.fe.aux.holds = some e → Completes (.deglitchHoldEnd ch) s (fun t =>
         t.dev.flag (F.AUXD_CHn_STAT_DRIVEN n) = true ∧ t.dev.getF (F.AUXD_CHn_STAT_GAIN n) = e / 4096 ∧
         t.dev.getF (F.AUXD_CHn_STAT_CODE n) = e % 4096 ∧ t.dev.flag (F.AUXD_CHn_STAT_HOLDING n) = false ∧ t.dev.auxQ n = s.dev.auxQ n)) ∧
       Completes .forceHiz s (fun t => t.dev.flag (F.AUXD_CHn_CFG_EN n) = false ∧ t.dev.flag (F.AUXD_CHn_STAT_DRIVEN n) = false ∧
         t.dev.flag (F.AUXD_CHn_STAT_HOLDING n) = false ∧ t.dev.auxQ n = [] ∧ t.dev.getF F.AUXD_STAT_HIZ_CAUSE = 3 ∧
         t.dev.flag F.AUXD_INT_STAT_HIZ = true)) ∧
  (∀ (s : State) (r : Requester) (k : Fin 4) (v : BitVec 32), s.dev.alive = true →
       (s.dev.flag (F.FESPIk_STAT_BUSY k.val) = true ∨ s.dev.flag (F.FESPIk_CFG_EN k.val) = false →
         exec (.fespiStart r k v) s = .next (settle s [] (s.dev.count A.AUXD_CMD_ERR))) ∧
       (s.dev.flag (F.FESPIk_STAT_BUSY k.val) = false → s.dev.flag (F.FESPIk_CFG_EN k.val) = true →
         Completes (.fespiStart r k v) s (fun t => t.dev.flag (F.FESPIk_STAT_BUSY k.val) = true ∧
           Tab.get (fun _ => none) k.val t.dev.fe.spi = some ⟨v.toNat % 64 + 1, v.toNat / 256 % 4, v.toNat.testBit 10,
             (s.dev.takeStaged r (A.FESPIk_TX_LO k.val)).1.toNat + (s.dev.takeStaged r (A.FESPIk_TX_HI k.val)).1.toNat * 2 ^ 32⟩ ∧
           ∀ j, j ≠ k.val → Tab.get (fun _ => none) j t.dev.fe.spi = Tab.get (fun _ => none) j s.dev.fe.spi)) ∧
       (∀ miso : BitVec 64,
         (Tab.get (fun _ => none) k.val s.dev.fe.spi = none → exec (.fespiDone k miso) s = .next (settle s [] s.dev)) ∧
         (∀ x, Tab.get (fun _ => none) k.val s.dev.fe.spi = some x → Completes (.fespiDone k miso) s (fun t =>
           t.dev.flag (F.FESPIk_STAT_BUSY k.val) = false ∧ Tab.get (fun _ => none) k.val t.dev.fe.spi = none ∧
           t.dev.flag F.AUXD_INT_STAT_SPI_DONE = true ∧
           t.dev.pair (A.FESPIk_RX_LO k.val) (A.FESPIk_RX_HI k.val) = if x.read then miso.toNat % 2 ^ x.bits
             else s.dev.pair (A.FESPIk_RX_LO k.val) (A.FESPIk_RX_HI k.val)))) ∧
       (s.dev.flag F.FEI2C_STAT_BUSY = true ∨ s.dev.flag F.FEI2C_CFG_EN = false →
         exec .fei2cStart s = .next (settle s [] (s.dev.count A.AUXD_CMD_ERR))) ∧
       (s.dev.flag F.FEI2C_STAT_BUSY = false → s.dev.flag F.FEI2C_CFG_EN = true → Completes .fei2cStart s (fun t =>
         t.dev.flag F.FEI2C_STAT_BUSY = true ∧ t.dev.fe.i2c = some ⟨s.dev.flag F.FEI2C_CMD_READ, s.dev.flag F.FEI2C_CMD_NOSTOP,
           s.dev.getF F.FEI2C_CMD_ADDR, s.dev.getF F.FEI2C_CMD_COUNT_M1 + 1, s.dev.i2cBytes (s.dev.getF F.FEI2C_CMD_COUNT_M1 + 1)⟩)) ∧
       (∀ (result : Fin 5) (rx : List Byte) (done : Nat),
         (s.dev.fe.i2c = none → exec (.fei2cDone result rx done) s = .next (settle s [] s.dev)) ∧
         (∀ x, s.dev.fe.i2c = some x → x.count ≤ 16 → Completes (.fei2cDone result rx done) s (fun t => t.dev.fe.i2c = none ∧
           t.dev.flag F.FEI2C_STAT_BUSY = false ∧ t.dev.getF F.FEI2C_STAT_RESULT = result.val ∧
           t.dev.getF F.FEI2C_STAT_DONE = min done x.count ∧ t.dev.flag F.AUXD_INT_STAT_I2C_DONE = true ∧
           (x.read = true → t.dev.i2cBytes (rx.take (min done x.count)).length = rx.take (min done x.count)) ∧
           (x.read = false → t.dev.i2cBytes 16 = s.dev.i2cBytes 16)))) ∧
       (∀ tie : Bool, s.dev.fe.i2c = none → exec (.fei2cStretchTimeout tie) s = .next (settle s [] s.dev)) ∧
       (∀ x, s.dev.fe.i2c = some x →
         Completes (.fei2cStretchTimeout true) s (fun t => Counted s.dev t.dev A.AUXD_TIE 1 ∧ t.dev.fe = s.dev.fe) ∧
         Completes (.fei2cStretchTimeout false) s (fun t => t.dev.fe.i2c = none ∧ t.dev.flag F.FEI2C_STAT_BUSY = false ∧
           t.dev.getF F.FEI2C_STAT_RESULT = 3)))

/-- Monitoring and mutes (R372 to R378): an injected request joins a queue with room and preempts at once but for a triggered
list; a conversion writes the result group of its input, by source, and nothing while the converter calibrates; its comparator
goes out of band after CNT results, takes its action and clears in band; a mute is released only when no comparator that covers
the path is out of band; and TXMUTE_N mutes as it falls and counts once. -/
def Obligations.Monitoring : Prop :=
  ∀ (s : State) (c : Fin 2) (m : MonSt), s.dev.alive = true → s.dev.monc c.val = m →
    (∀ i : Byte,
      (4 ≤ m.inj.length → exec (.monInjectRequest c i) s = .next (settle s [] (s.dev.count A.MON_CMD_ERR))) ∧
      (m.inj.length < 4 → Completes (.monInjectRequest c i) s (fun t => (t.dev.monc c.val).inj = m.inj ++ [(i.toNat, false)] ∧
        (t.dev.monc c.val).trig = m.trig ∧
        (t.dev.monc c.val).cur = if m.cur = some 1 ∨ s.dev.monCal c.val = true then m.cur else some 2))) ∧
    (∀ (delay : Bool) (code : BitVec 12) (w : Nat → Nat → Nat → W32), s.dev.time.now.ns < 1000000000 →
      w = (fun n src slip => wordOf [(24, (s.dev.getF (F.MON_RESn_LO_TAG n) + 1) % 256), (22, src), (21, slip), (20, c.val),
        (0, if 151 ≤ n then 0 else code.toNat)]) →
      (s.dev.monCal c.val = true → exec (.conversionDone c delay code) s = .next (settle s [] s.dev)) ∧
      (s.dev.monCal c.val = false → (m.trig = some 0 → delay = true) →
        (m.cur = none → exec (.conversionDone c delay code) s = .next (settle s [] s.dev)) ∧
        (∀ n, m.cur = some 0 → n = s.dev.getF (F.MON_CLIST_INPUT c.val m.cont) → n < 160 →
          Completes (.conversionDone c delay code) s (fun t => t.dev.reg (A.MON_RESn_LO n) = w n 0 0 ∧
            (t.dev.reg (A.MON_RESn_TS n)).toNat = (s.dev.nowNs + 1000000000 - 72) % 1000000000 / 8 * 8 ∧
            (t.dev.monc c.val).cont =
              (if clampN 1 160 (s.dev.getF (F.MON_SEQc_CFG_LEN c.val)) ≤ m.cont + 1 then 0 else m.cont + 1))) ∧
        (∀ n l, m.cur = some 2 → m.inj = (n, false) :: l → n < 160 → Completes (.conversionDone c delay code) s (fun t =>
          t.dev.reg (A.MON_RESn_LO n) = w n 2 0 ∧ t.dev.flag F.MON_INT_STAT_INJ_DONE = true ∧ (t.dev.monc c.val).inj = l)) ∧
        (∀ n i, m.cur = some 1 → m.trig = some i → n = s.dev.getF (F.MON_TLIST_INPUT c.val i) → n < 160 → i < 16 →
          Completes (.conversionDone c delay code) s (fun t => t.dev.reg (A.MON_RESn_LO n) = w n 1 (b2n m.slip) ∧
            (t.dev.monc c.val).trig =
              (if max 1 (s.dev.getF (F.MON_TRGc_CFG_LEN c.val)) ≤ i + 1 ∨ 16 ≤ i + 1 then none else some (i + 1))))) ∧
      (s.dev.monCal c.val = false → m.trig = some 0 → m.inj = [] → s.dev.getF (F.MON_TLIST_INPUT c.val 0) < 160 →
        Completes (.conversionDone c false code) s (fun t => t.dev.reg (A.MON_RESn_LO (s.dev.getF (F.MON_TLIST_INPUT c.val 0))) =
          w (s.dev.getF (F.MON_TLIST_INPUT c.val 0)) 1 (b2n m.slip))) ∧
      (∀ n, s.dev.monCal c.val = false → (m.trig = some 0 → delay = true) → m.cur = some 0 →
        n = s.dev.getF (F.MON_CLIST_INPUT c.val m.cont) → n < 144 → s.dev.flag (F.MON_WACTn_EN n) = true →
        (s.dev.getF (F.MON_WINn_LOW n) ≤ code.toNat → code.toNat ≤ s.dev.getF (F.MON_WINn_HIGH n) →
          Completes (.conversionDone c delay code) s (fun t => t.dev.flag (F.MON_WACTn_OUT n) = false ∧
            t.dev.muteMask = s.dev.muteMask ∧ t.dev.reg A.MON_TRIP_CNT = s.dev.reg A.MON_TRIP_CNT)) ∧
        (code.toNat < s.dev.getF (F.MON_WINn_LOW n) ∨ s.dev.getF (F.MON_WINn_HIGH n) < code.toNat →
          s.dev.flag (F.MON_WACTn_OUT n) = false →
          (Tab.get (fun _ => 0) n s.dev.fe.outCnt + 1 < max 1 (s.dev.getF (F.MON_WACTn_CNT n)) →
            Completes (.conversionDone c delay code) s (fun t => t.dev.flag (F.MON_WACTn_OUT n) = false ∧
              t.dev.muteMask = s.dev.muteMask)) ∧
          (max 1 (s.dev.getF (F.MON_WACTn_CNT n)) ≤ Tab.get (fun _ => 0) n s.dev.fe.outCnt + 1 →
            Completes (.conversionDone c delay code) s (fun t => t.dev.flag (F.MON_WACTn_OUT n) = true ∧
              Counted s.dev t.dev A.MON_TRIP_CNT 1 ∧ t.dev.flag F.MON_INT_STAT_TRIP = true ∧
              (s.dev.getF (F.MON_WACTn_ACTION n) = 0 → t.dev.muteMask = s.dev.muteMask) ∧
              (1 ≤ s.dev.getF (F.MON_WACTn_ACTION n) → Counted s.dev t.dev A.MON_MUTE_CNT 1 ∧
                t.dev.flag F.MON_INT_STAT_MUTE = true ∧ ∀ p, p < 64 → p ∈ winPaths (s.dev.getF (F.MON_WACTn_ACTION n))
                  (s.dev.getF (F.MON_WACTn_PATH n)) → t.dev.pathMuted p = true)))))) ∧
    (∀ (v : BitVec 32) (half p : Nat), half < 2 → p < 32 →
      Completes (.muteRelease (BitVec.ofNat 32 (A.MON_MUTE_LO + 4 * half)) v) s (fun t =>
        t.dev.muteMask.testBit (32 * half + p) = (s.dev.muteMask.testBit (32 * half + p) &&
          !(v.toNat.testBit p && s.dev.muteFree (fun a q => (winPaths a q).contains (32 * half + p)))) ∧
        t.dev.muteMask.testBit (32 * (1 - half) + p) = s.dev.muteMask.testBit (32 * (1 - half) + p) ∧
        (v.toNat.testBit p = true → s.dev.muteMask.testBit (32 * half + p) = true →
          s.dev.muteFree (fun a q => (winPaths a q).contains (32 * half + p)) = false → Counted s.dev t.dev A.MON_CMD_ERR 1))) ∧
    (∀ v : BitVec 32, v.toNat.testBit 0 = true → s.dev.flag F.MON_MUTE_ALL_ALL = true →
      Completes (.muteRelease (BitVec.ofNat 32 A.MON_MUTE_ALL) v) s (fun t => t.dev.muteMask = s.dev.muteMask ∧
        t.dev.flag F.MON_MUTE_ALL_ALL = !s.dev.muteFree (fun a _ => a == 3))) ∧
    (s.dev.flag F.AUXD_STAT_TXMUTE = true → exec .txmuteFall s = .next (settle s [] s.dev)) ∧
    (s.dev.flag F.AUXD_STAT_TXMUTE = false → Completes .txmuteFall s (fun t => t.dev.txMuted = true ∧
      Counted s.dev t.dev A.AUXD_TXMUTE_CNT 1 ∧ t.dev.flag F.AUXD_INT_STAT_TXMUTE = true ∧ t.dev.rmb.burst = none ∧
      ∀ k, k < 96 → t.dev.reg (A.AUXD_CHn_STAT k) = s.dev.reg (A.AUXD_CHn_STAT k))) ∧
    (s.dev.flag F.AUXD_STAT_TXMUTE = false → exec .txmuteRise s = .next (settle s [] s.dev)) ∧
    (s.dev.flag F.AUXD_STAT_TXMUTE = true → Completes .txmuteRise s (fun t => t.dev.flag F.AUXD_STAT_TXMUTE = false ∧
      t.dev.fe.muteRose = some s.dev.time.now ∧ t.dev.txMuted = true))


/-- The carrier, RF and front-end commands (R211, R241, R242, R381), each with its effect where its checks pass. -/
def Obligations.RfAndFrontEndCommands : Prop :=
  (∀ (s : State) (h : CmdHdr) (pl : List Byte),
       (∀ wtx wrx d, CmdOk s h 0x2001 pl → pl.length = 20 → byteAt pl 0 < 2 → (byteAt pl 0 = 1 → (byteAt pl 1).testBit 0 = true) →
         (byteAt pl 1).testBit 0 = s.dev.flag F.TILE_GROUP_SPLIT →
         bandWord .tx (leAt pl 4 8) = some wtx → bandWord .rx (leAt pl 12 8) = some wrx →
         (s.dev.popIn h.mb.val).bandSet (byteAt pl 0) (s.dev.flag F.TILE_GROUP_SPLIT) wtx wrx (leAt pl 4 8) (leAt pl 12 8) = d →
         planOk d.plan d.bandFreq = true → planLimit d.plan 8 1 = none → d.carChecks = none →
         Answers (.bandCfg h pl) s h 0x2001 [] (fun t => t.dev.ncoPend (groupNco (byteAt pl 0) .tx) = some wtx ∧
           t.dev.ncoPend (groupNco (byteAt pl 0) .rx) = some wrx)) ∧
       (∀ (k : Fin 8) wdl wul, CmdOk s h 0x2002 pl → pl.length = 32 → byteAt pl 0 = k.val →
         carrierCfgOk (s.dev.flag F.TILE_GROUP_SPLIT) pl = true →
         carWord ((leAt pl 8 8 : Nat) - s.dev.bandFreq (byteAt pl 1) .tx) = some wdl →
         carWord ((leAt pl 16 8 : Nat) - s.dev.bandFreq (byteAt pl 1) .rx) = some wul →
         planOk (s.dev.plan.filter (fun c => c.k != k.val) ++ [planOf pl]) s.dev.bandFreq = true →
         planLimit (s.dev.plan.filter (fun c => c.k != k.val) ++ [planOf pl]) k.val (byteAt pl 2) = none →
         ((s.dev.popIn h.mb.val).carrierSet pl wdl wul).carChecks = none →
         Answers (.carrierCfg h pl) s h 0x2002 [] (fun t => t.dev.carOn k.val = true ∧
           t.dev.getF (F.CARk_CFG_BG k.val) = byteAt pl 1 ∧ t.dev.getF (F.CARk_CFG_MU k.val) = byteAt pl 2 ∧
           t.dev.getF (F.CARk_CFG_NPRB k.val) = leAt pl 4 2 ∧ t.dev.getF (F.CARk_CFG_TAO k.val) = byteAt pl 6 ∧
           t.dev.getF (F.CARk_CFG_PHCOMP k.val) = byteAt pl 7 ∧
           t.dev.getF (F.CARk_CFG_IFFT_SHIFT k.val) = byteAt pl 26 ∧ t.dev.getF (F.CARk_CFG_FFT_SHIFT k.val) = byteAt pl 27 ∧
           t.dev.getF (F.CARk_GAIN_DL_GAIN k.val) = leAt pl 24 2 ∧ t.dev.getF (F.CARk_UL_WIN_WIN k.val) = leAt pl 28 2 ∧
           t.dev.ncoPend (.carrier k .tx) = some wdl ∧ t.dev.ncoPend (.carrier k .rx) = some wul)) ∧
       (∀ (k : Fin 8) (c : CarFw) wdl wul, CmdOk s h 0x2003 pl → pl.length = 24 → byteAt pl 0 = k.val → byteAt pl 1 = 3 →
         Tab.get (fun _ => none) k.val s.dev.rf.fwCars = some c →
         carWord ((leAt pl 8 8 : Nat) - s.dev.bandFreq (s.dev.carGroup k.val) .tx) = some wdl →
         carWord ((leAt pl 16 8 : Nat) - s.dev.bandFreq (s.dev.carGroup k.val) .rx) = some wul →
         planOk (s.dev.plan.map (fun x => if x.k = k.val then
           { s.dev.planCar k with dl := (leAt pl 8 8 : Nat), ul := (leAt pl 16 8 : Nat) } else x)) s.dev.bandFreq = true →
         planUnits s.dev.plan ≤ 4368 → s.dev.carChecks = none → s.dev.rf.retunes = [] →
         Pends (.carrierRetune h pl) s h 0x2003 (fun t => t.dev.ncoPend (.carrier k .tx) = some wdl ∧
           t.dev.ncoPend (.carrier k .rx) = some wul ∧
           Tab.get (fun _ => none) k.val t.dev.rf.fwCars = some { c with dl := leAt pl 8 8, ul := leAt pl 16 8 })) ∧
       (∀ k : Fin 8, CmdOk s h 0x2004 pl → pl.length = 4 → byteAt pl 0 = k.val →
         Answers (.carrierDel h pl) s h 0x2004 [] (fun t => t.dev.carOn k.val = false ∧
           Tab.get (fun _ => none) k.val t.dev.rf.fwCars = none ∧
           ∀ w ∈ t.dev.wsets, w.carrier ≠ k.val)) ∧
       (∀ u ∈ bitsOf 4 (byteAt pl 0), CmdOk s h 0x2010 pl → byteAt pl 0 < 16 → byteAt pl 1 < 2 → (byteAt pl 2 = 1 ∨ byteAt pl 2 = 2) →
         1 ≤ byteAt pl 4 → byteAt pl 4 ≤ 95 → byteAt pl 5 ≤ 7 → leAt pl 6 2 ≤ 4095 →
         pl.length = 8 + 4 * storedTaps ((byteAt pl 3).testBit 0) (byteAt pl 4) →
         (∀ i, i < storedTaps ((byteAt pl 3).testBit 0) (byteAt pl 4) → fitsBits 18 (sgn 32 (leAt pl (8 + 4 * i) 4)) = true) →
         Answers (.filterLoad h pl) s h 0x2010 [] (fun t =>
           t.dev.reg (stageCfg u (byteAt pl 1) (byteAt pl 2)) = wordOf [(20, leAt pl 6 2), (19, b2n ((byteAt pl 3).testBit 1)),
             (18, b2n ((byteAt pl 3).testBit 0)), (11, byteAt pl 4), (8, byteAt pl 5)] ∧
           ∀ i, i < storedTaps ((byteAt pl 3).testBit 0) (byteAt pl 4) →
             (t.dev.reg (stageCoef u (byteAt pl 1) (byteAt pl 2) + 4 * i)).toNat = leAt pl (8 + 4 * i) 4 % 2 ^ 18)) ∧
       (∀ u ∈ bitsOf 4 (byteAt pl 0), ∀ n gdly sym, CmdOk s h 0x2011 pl → pl.length = 4 → byteAt pl 0 < 16 → byteAt pl 1 < 2 →
         shipped (byteAt pl 3) = some (byteAt pl 2, n, gdly, sym) →
         Answers (.filterSelect h pl) s h 0x2011 [] (fun t =>
           t.dev.reg (stageCfg u (byteAt pl 1) (byteAt pl 2)) =
             wordOf [(20, gdly), (19, b2n !sym), (18, b2n sym), (11, n), (8, 2 + byteAt pl 1)])) ∧
       (CmdOk s h 0x2020 pl → pl.length = 8 → 0 < byteAt pl 0 → byteAt pl 0 < 16 → (byteAt pl 1).testBit 0 = false →
         (∀ u ∈ bitsOf 4 (byteAt pl 0), s.dev.awake u = true ∧ s.dev.pll u ≠ 0 ∧ s.dev.pll u ≠ 1) → s.dev.rf.recals = [] →
         Pends (.pllRecal h pl) s h 0x2020 (fun t => ∀ u ∈ bitsOf 4 (byteAt pl 0), t.dev.pll u = 1)) ∧
       (CmdOk s h 0x2021 pl → pl.length = 4 → 0 < byteAt pl 0 → byteAt pl 0 < 16 → byteAt pl 1 = 0 → s.dev.mod ≠ .active →
         s.dev.groupUsed 0 = false → s.dev.groupUsed 1 = false →
         (∀ u ∈ bitsOf 4 (byteAt pl 0), s.dev.flag (F.TILE_STAT_ASLEEP u) = false) →
         Pends (.tileSleep h pl) s h 0x2021 (fun t => ∀ u ∈ bitsOf 4 (byteAt pl 0),
           t.dev.flag (F.TILE_CTRL_SLEEP u) = true)) ∧
       (CmdOk s h 0x2022 pl → pl.length = 16 → Answers (.pathMask h pl) s h 0x2022 [] (fun t => ∀ u, u < 4 →
         t.dev.getF (F.TILE_PATH_EN_TX_EN u) = leAt pl (2 * u) 2 ∧ t.dev.getF (F.TILE_PATH_EN_RX_EN u) = leAt pl (8 + 2 * u) 2)) ∧
       (CmdOk s h 0x2030 pl → pl = [] → (∀ t : Fin 4, (s.dev.tile t.val).down = 0 ∧ (s.dev.tile t.val).downRem = 0) →
         Answers (.rfStat h pl) s h 0x2030 ((List.range 4).flatMap (fun u => word4 (s.dev.live (A.TILE_STAT u)) ++
           word4 (s.dev.live (A.TILE_DROOP u)) ++ s.dev.regsBytes (A.TILE_UNLOCK_CNT u) 12))
           (fun t => ∀ u, u < 4 → ∀ i, i < 12 → t.dev.reg (A.TILE_UNLOCK_CNT u + 4 * i) = 0))) ∧
  (∀ (s : State) (h : CmdHdr) (pl : List Byte),
       (∀ n lo hi, CmdOk s h 0x7001 pl → pl.length = 8 → n = byteAt pl 0 → n < 96 → byteAt pl 2 ≤ 4 → leAt pl 4 2 ≤ 8191 →
         leAt pl 6 2 ≤ 8191 → s.dev.mod ≠ .safe → (lo, hi) = s.dev.auxStored n (leAt pl 4 2) (leAt pl 6 2) →
         s.dev.lcOpen = true ∨ (s.dev.getF (F.AUXD_CHn_LIM_MIN n) ≤ lo ∧ hi ≤ s.dev.getF (F.AUXD_CHn_LIM_MAX n)) →
         Answers (.auxdCfg h pl) s h 0x7001 [] (fun t => t.dev.getF (F.AUXD_CHn_LIM_MIN n) = lo ∧
           t.dev.getF (F.AUXD_CHn_LIM_MAX n) = hi ∧ t.dev.flag (F.AUXD_CHn_CFG_EN n) = (byteAt pl 1).testBit 0 ∧
           t.dev.flag (F.AUXD_CHn_CFG_RECIRC n) = (byteAt pl 1).testBit 1 ∧ t.dev.getF (F.AUXD_CHn_CFG_GROUP n) = byteAt pl 2)) ∧
       (CmdOk s h 0x7002 pl → byteAt pl 0 < 96 → 1 ≤ byteAt pl 1 → byteAt pl 1 ≤ 16 → pl.length = 4 + 2 * byteAt pl 1 →
         (s.dev.auxQ (byteAt pl 0)).length + byteAt pl 1 ≤ 16 → Answers (.auxdPush h pl) s h 0x7002 [] (fun t =>
           t.dev.auxQ (byteAt pl 0) = s.dev.auxQ (byteAt pl 0) ++
             (List.range (byteAt pl 1)).map (fun i => leAt pl (4 + 2 * i) 2 % 8192))) ∧
       (CmdOk s h 0x7003 pl → pl.length = 12 → Answers (.auxdHiz h pl) s h 0x7003 [] (fun t => ∀ n, n < 96 →
         t.dev.flag (F.AUXD_CHn_CFG_EN n) = (s.dev.flag (F.AUXD_CHn_CFG_EN n) && !(leAt pl 0 12).testBit n) ∧
         ((leAt pl 0 12).testBit n = true → s.dev.flag (F.AUXD_CHn_CFG_EN n) = true → t.dev.auxQ n = [] ∧
           n ∈ t.dev.fe.aux.clearing))) ∧
       (∀ c n, CmdOk s h 0x7010 pl → c = byteAt pl 0 → n = byteAt pl 1 → c < 2 → 1 ≤ n → n ≤ 160 → pl.length = 4 + n →
         (∀ i, i < n → byteAt pl (4 + i) < 160) → Answers (.monSeq h pl) s h 0x7010 [] (fun t =>
           t.dev.getF (F.MON_SEQc_CFG_LEN c) = n ∧ (∀ i, i < n → t.dev.getF (F.MON_CLIST_INPUT c i) = byteAt pl (4 + i)) ∧
           (t.dev.getF F.MON_CTRL_CONT_EN).testBit c = true ∧ (t.dev.monc c).cont = 0 ∧
           t.dev.getF F.MON_CTRL_TRIG_EN = s.dev.getF F.MON_CTRL_TRIG_EN)) ∧
       (∀ c n, CmdOk s h 0x7011 pl → c = byteAt pl 0 → n = byteAt pl 1 → c < 2 → 1 ≤ n → n ≤ 16 → pl.length = 4 + n →
         (∀ i, i < n → byteAt pl (4 + i) < 160) → Answers (.monTrig h pl) s h 0x7011 [] (fun t =>
           t.dev.getF (F.MON_TRGc_CFG_LEN c) = n ∧ t.dev.getF (F.MON_TRGc_CFG_DELAY c) = leAt pl 2 2 ∧
           (∀ i, i < n → t.dev.getF (F.MON_TLIST_INPUT c i) = byteAt pl (4 + i)) ∧ (t.dev.monc c).trig = none ∧
           (t.dev.getF F.MON_CTRL_TRIG_EN).testBit c = true ∧ t.dev.getF F.MON_CTRL_CONT_EN = s.dev.getF F.MON_CTRL_CONT_EN)) ∧
       (CmdOk s h 0x7012 pl → pl.length = 4 → byteAt pl 0 < 2 → byteAt pl 1 < 160 → (s.dev.monc (byteAt pl 0)).inj.length < 4 →
         Waits (.monInject h pl) s h 0x7012 [byteAt pl 0, byteAt pl 1] (fun t =>
           (t.dev.monc (byteAt pl 0)).inj = (s.dev.monc (byteAt pl 0)).inj ++ [(byteAt pl 1, true)])) ∧
       (CmdOk s h 0x7013 pl → pl.length = 4 → 1 ≤ byteAt pl 1 → byteAt pl 0 + byteAt pl 1 ≤ 160 → RunsTo (.monRead h pl) s h 0x7013
         ((List.range (byteAt pl 1)).flatMap (fun i => s.dev.monGroup (byteAt pl 0 + i))) s.dev) ∧
       (∀ n, CmdOk s h 0x7014 pl → pl.length = 12 → n = byteAt pl 0 → n < 144 → byteAt pl 1 ≤ 3 → byteAt pl 2 ≤ 15 → byteAt pl 3 ≤ 63 →
         leAt pl 4 2 ≤ 4095 → leAt pl 6 2 ≤ 4095 → Answers (.monWindow h pl) s h 0x7014 [] (fun t =>
           t.dev.getF (F.MON_WINn_LOW n) = leAt pl 4 2 ∧ t.dev.getF (F.MON_WINn_HIGH n) = leAt pl 6 2 ∧
           t.dev.getF (F.MON_WACTn_ACTION n) = byteAt pl 1 ∧ t.dev.getF (F.MON_WACTn_CNT n) = byteAt pl 2 ∧
           t.dev.getF (F.MON_WACTn_PATH n) = byteAt pl 3 ∧ t.dev.flag (F.MON_WACTn_EN n) = (byteAt pl 8).testBit 0 ∧
           t.dev.flag (F.MON_WACTn_OUT n) = (s.dev.flag (F.MON_WACTn_OUT n) && (byteAt pl 8).testBit 0))) ∧
       (CmdOk s h 0x7015 pl → pl.length = 9 → ∃ t, exec (.monUnmute h pl) s = .next t ∧
         Answered s t h 0x7015 0 (leBytes 8 (if t.dev.flag F.MON_MUTE_ALL_ALL then 2 ^ 64 - 1 else t.dev.muteMask)) ∧
         ∀ p, p < 64 → t.dev.muteMask.testBit p = (s.dev.muteMask.testBit p &&
           !((leAt pl 0 8).testBit p && s.dev.muteFree (fun a q => (winPaths a q).contains p)))) ∧
       (∀ k, CmdOk s h 0x7020 pl → pl.length = 12 → k = byteAt pl 0 → k < 4 → byteAt pl 1 < 4 → 1 ≤ byteAt pl 2 → byteAt pl 2 ≤ 64 →
         s.dev.flag (F.FESPIk_STAT_BUSY k) = false → Waits (.fespiXfer h pl) s h 0x7020 [k] (fun t =>
           t.dev.flag (F.FESPIk_STAT_BUSY k) = true ∧ Tab.get (fun _ => none) k t.dev.fe.spi =
             some ⟨byteAt pl 2, byteAt pl 1, (byteAt pl 3).testBit 0, leAt pl 4 8⟩)) ∧
       (CmdOk s h 0x7021 pl → byteAt pl 1 < 128 → 1 ≤ byteAt pl 2 → byteAt pl 2 ≤ 16 → s.dev.flag F.FEI2C_STAT_BUSY = false →
         pl.length = 4 + (if (byteAt pl 0).testBit 0 then 0 else byteAt pl 2) → Waits (.fei2cXfer h pl) s h 0x7021 [] (fun t =>
           t.dev.flag F.FEI2C_STAT_BUSY = true ∧ ∃ x, t.dev.fe.i2c = some x ∧ x.read = (byteAt pl 0).testBit 0 ∧
             x.nostop = (byteAt pl 0).testBit 1 ∧ x.addr = byteAt pl 1 ∧ x.count = byteAt pl 2 ∧ (x.read = false → x.data = pl.drop 4))) ∧
       (CmdOk s h 0x7030 pl → pl = [] → Answers (.feStat h pl) s h 0x7030
         (word4 (s.dev.live A.AUXD_STAT) ++ s.dev.regsBytes A.AUXD_TIE 6 ++ word4 (s.dev.live A.MON_STAT) ++
           s.dev.regsBytes A.MON_TRIG_OVR 5)
         (fun t => (∀ i, i < 6 → t.dev.reg (A.AUXD_TIE + 4 * i) = 0) ∧ ∀ i, i < 5 → t.dev.reg (A.MON_TRIG_OVR + 4 * i) = 0)))

/-! Temperature and power (12_thermal.md). -/

/-- Thermal limits (R385 to R396): a sample of every sensor is checked, held or counted towards failure; a zone's T, SUBST and
NOVALID follow from its sensors; after DWELL samples a zone moves as the table of R391 says, SHUT first, and the caps follow; a
grace timer deepens or, in a tie, only counts; a sensor is cleared after 64 plausible samples; and the power limiter
rises, falls and counts the energy. -/
def Obligations.ThermalLimits : Prop :=
  ∀ s : State, s.dev.alive = true →
    (∀ temps : List Int, Completes (.sensorSample temps) s (fun t =>
      (∀ z n : Nat, z < 7 → n ∈ zoneSensors z →
        t.dev.getF (F.THRM_Ss_TEMP n) = unsgn 16 (s.dev.sampleOf temps n) ∧
        t.dev.flag (F.THRM_Ss_IMPL n) = s.dev.implausible temps z n ∧
        (s.dev.implausible temps z n = false → t.dev.sensOk n = s.dev.sensOk n ∧
          t.dev.sens n = { prev := some (s.dev.sampleOf temps n), held := s.dev.sampleOf temps n,
                           bad := 0, good := min 64 ((s.dev.sens n).good + 1) }) ∧
        (s.dev.implausible temps z n = true → (t.dev.sens n).held = (s.dev.sens n).held ∧ (t.dev.sens n).good = 0 ∧
          (s.dev.sensOk n = true → t.dev.sensOk n =
            decide ((s.dev.sens n).bad + 1 < max 1 (s.dev.getF F.THRM_PLAUS_FAIL_CNT))))) ∧
      (∀ z, z < 7 →
        (t.dev.zoneNow z = none → (t.dev.getF F.THRM_STAT_NOVALID).testBit z = true) ∧
        (∀ T, t.dev.zoneNow z = some T → t.dev.getF (F.THRM_Zz_STAT_TEMP z) = unsgn 16 T ∧
          (t.dev.getF F.THRM_STAT_NOVALID).testBit z = false ∧
          (t.dev.getF F.THRM_STAT_SUBST).testBit z = (zoneSensors z).any (fun n => !t.dev.sensOk n))) ∧
      (∀ (z dw st k : Nat) (T warn throt shut : Int), z < 7 → t.dev.zoneNow z ≠ none → T = t.dev.zoneT z →
        dw = max 1 (s.dev.getF (F.THRM_Zz_HYS_DWELL z)) → st = s.dev.getF (F.THRM_Zz_STAT_STATE z) → k = s.dev.zoneK z →
        warn = s.dev.zoneLevel (F.THRM_Zz_CFG_WARN z) 0 → throt = s.dev.zoneLevel (F.THRM_Zz_CFG_THROT z) 0 →
        shut = s.dev.zoneLevel (F.THRM_Zz_CFG_SHUT z) 0 → st ≠ 4 →
        (shut ≤ T → dw ≤ (s.dev.zone z).shutUp + 1 → t.dev.getF (F.THRM_Zz_STAT_STATE z) = 4 ∧ t.dev.flag F.THRM_STAT_SHUT = true ∧
          t.dev.flag F.THRM_INT_STAT_SHUT = true) ∧
        (T < shut → throt ≤ T → dw ≤ (s.dev.zone z).throtUp + 1 →
          (st ≤ 1 → (s.dev.getF F.THRM_CTRL_ASK).testBit z = false →
            t.dev.getF (F.THRM_Zz_STAT_STATE z) = 3 ∧ t.dev.zoneK z = 1 ∧ t.dev.flag F.THRM_INT_STAT_STEP = true) ∧
          (st ≤ 1 → (s.dev.getF F.THRM_CTRL_ASK).testBit z = true →
            t.dev.getF (F.THRM_Zz_STAT_STATE z) = 2 ∧ (t.dev.zone z).grace = true ∧ t.dev.flag F.THRM_INT_STAT_ASK_REQ = true) ∧
          (st = 3 → t.dev.getF (F.THRM_Zz_STAT_STATE z) = 3 ∧
            t.dev.zoneK z = if k < s.dev.deepest z then k + 1 else k)) ∧
        (T < shut → T < throt → s.dev.zoneLevel (F.THRM_Zz_CFG_THROT z) (s.dev.getF (F.THRM_Zz_HYS_HYS_T z)) ≤ T →
          st = 2 ∨ st = 3 → t.dev.getF (F.THRM_Zz_STAT_STATE z) = st ∧ t.dev.zoneK z = k) ∧
        (T < shut → T < throt → T < s.dev.zoneLevel (F.THRM_Zz_CFG_THROT z) (s.dev.getF (F.THRM_Zz_HYS_HYS_T z)) →
          ((t.dev.getF F.THRM_STAT_SUBST).testBit z = true → st = 2 ∨ st = 3 →
            t.dev.getF (F.THRM_Zz_STAT_STATE z) = st ∧ t.dev.zoneK z = k) ∧
          ((t.dev.getF F.THRM_STAT_SUBST).testBit z = false → dw ≤ (s.dev.zone z).throtDn + 1 →
            (st = 2 → t.dev.getF (F.THRM_Zz_STAT_STATE z) = 1) ∧
            (st = 3 → t.dev.getF (F.THRM_Zz_STAT_STATE z) = (if k ≤ 1 then 1 else 3) ∧ t.dev.zoneK z = k - 1 ∧
              t.dev.flag F.THRM_INT_STAT_RELAX = true))) ∧
        (T < shut → T < throt → warn ≤ T → dw ≤ (s.dev.zone z).warnUp + 1 → st = 0 →
          t.dev.getF (F.THRM_Zz_STAT_STATE z) = 1 ∧ t.dev.flag F.THRM_INT_STAT_WARN = true) ∧
        (T < shut → T < throt → T < s.dev.zoneLevel (F.THRM_Zz_CFG_WARN z) (s.dev.getF (F.THRM_Zz_HYS_HYS_W z)) →
          dw ≤ (s.dev.zone z).warnDn + 1 → st = 1 → t.dev.getF (F.THRM_Zz_STAT_STATE z) = 0)) ∧
      (∀ l, l < 4 → t.dev.getF (capF l) = t.dev.capWanted l))) ∧
    (∀ z : Fin 7,
      Completes (.graceExpiry z true) s (fun t => Counted s.dev t.dev A.THRM_TIE 1 ∧ t.dev.therm = s.dev.therm) ∧
      (s.dev.getF (F.THRM_Zz_STAT_STATE z.val) = 2 → Completes (.graceExpiry z false) s (fun t =>
        t.dev.getF (F.THRM_Zz_STAT_STATE z.val) = 3 ∧ t.dev.zoneK z.val = 1 ∧ t.dev.flag F.THRM_INT_STAT_GRACE_EXP = true ∧
        ∀ l, l < 4 → t.dev.getF (capF l) = t.dev.capWanted l)) ∧
      (s.dev.getF (F.THRM_Zz_STAT_STATE z.val) ≠ 2 → exec (.graceExpiry z false) s = .next (settle s [] s.dev)) ∧
      Completes (.novalidGraceExpiry z true) s (fun t => Counted s.dev t.dev A.THRM_TIE 1 ∧ t.dev.therm = s.dev.therm) ∧
      ((s.dev.zone z.val).nvGrace = true → s.dev.getF (F.THRM_Zz_STAT_STATE z.val) ≠ 4 →
        Completes (.novalidGraceExpiry z false) s (fun t => t.dev.getF (F.THRM_Zz_STAT_STATE z.val) = 3 ∧
          t.dev.zoneK z.val = s.dev.deepest z.val ∧ (t.dev.zone z.val).nvGrace = false)) ∧
      ((s.dev.zone z.val).nvGrace = false → exec (.novalidGraceExpiry z false) s = .next (settle s [] s.dev))) ∧
    (∀ n : Fin 124,
      (s.dev.sensOk n.val = true → exec (.sensorClear n) s = .next (settle s [] s.dev)) ∧
      (s.dev.sensOk n.val = false → (s.dev.sens n.val).good = 64 → Completes (.sensorClear n) s (fun t =>
        t.dev.sensOk n.val = true)) ∧
      (s.dev.sensOk n.val = false → (s.dev.sens n.val).good ≠ 64 →
        exec (.sensorClear n) s = .next (settle s [] (s.dev.count A.THRM_CMD_ERR)))) ∧
    (∀ vin iin mw dw p k : Nat, vin < 65536 → iin < 65536 → mw < 262144 →
      dw = max 1 (s.dev.getF (F.THRM_Zz_HYS_DWELL Config.dwellZone.val)) → p = max 1 (s.dev.getF F.PWR_LIMIT_PLIM_W) →
      k = s.dev.getF F.PWR_LIMIT_STEP → Completes (.powerSample vin iin mw) s (fun t =>
        t.dev.getF F.PWR_VIN_MV10 = vin ∧ t.dev.getF F.PWR_IIN_MA = iin ∧ t.dev.getF F.PWR_PIN_MW = mw ∧
        t.dev.getF F.PWR_PEAK_MW = max (s.dev.getF F.PWR_PEAK_MW) mw ∧
        t.dev.pair A.PWR_ENERGY_LO A.PWR_ENERGY_HI =
          min (2 ^ 64 - 1) (s.dev.pair A.PWR_ENERGY_LO A.PWR_ENERGY_HI + (s.dev.therm.energyUj + mw) / 1000) ∧
        (1000 * p ≤ mw → dw ≤ s.dev.therm.pwrHi + 1 → k < 12 → t.dev.getF F.PWR_LIMIT_STEP = k + 1 ∧
          t.dev.flag F.PWR_STAT_LIM = true ∧ Counted s.dev t.dev A.PWR_LIM_CNT 1) ∧
        (1000 * p ≤ mw → s.dev.therm.pwrHi + 1 < dw ∨ 12 ≤ k → t.dev.getF F.PWR_LIMIT_STEP = k) ∧
        (mw < 1000 * p → 95000 * p ≤ 100 * mw → t.dev.getF F.PWR_LIMIT_STEP = k) ∧
        (100 * mw < 95000 * p → dw ≤ s.dev.therm.pwrLo + 1 → t.dev.getF F.PWR_LIMIT_STEP = k - 1) ∧
        (100 * mw < 95000 * p → s.dev.therm.pwrLo + 1 < dw → t.dev.getF F.PWR_LIMIT_STEP = k)))

/-! Control processors, mailboxes and the firmware (13_control_firmware.md). -/

/-- Module states (R405 to R410): a write of STATE that R406 accepts takes effect, ACTIVE at its boundary and SAFE always with its
cause, and any other is counted; a SAFE cause clears unless it persists; a function bit is set once its condition holds, the last
one of BOOT leading to STANDBY; and the runtime firmware starts once, zeroes the fallback matrices and leaves BOOT, or stays in
SAFE. -/
def Obligations.ModuleStates : Prop :=
  ∀ s : State, s.dev.alive = true →
    (∀ st : BitVec 3,
      ((fromStates st.toNat).testBit s.dev.mod.code = false ∨ (st = 2 ∧ s.dev.mod = .safe ∧ s.dev.reg A.SYS_SAFE_CAUSE ≠ 0) ∨
          (st = 2 ∧ s.dev.mod = .boot ∧ (s.dev.ready 0 = false ∨ s.dev.ready 1 = false)) →
        exec (.stateWrite st) s = .next (settle s [] s.dev.cmdErr)) ∧
      (st = 2 → s.dev.mod = .ready ∨ s.dev.mod = .active ∨ (s.dev.mod = .safe ∧ s.dev.reg A.SYS_SAFE_CAUSE = 0) ∨
          (s.dev.mod = .boot ∧ s.dev.ready 0 = true ∧ s.dev.ready 1 = true) → Completes (.stateWrite st) s (fun t =>
        t.dev.mod = .standby ∧ t.dev.flag F.SYS_INT_STAT_STATE = true ∧ t.dev.flag F.SYS_STATE_ACT_PEND = false ∧
        (s.dev.fw.running = true → t.dev.flag F.BEAM_CTRL_DL_EN = false ∧ t.dev.flag F.FHP_CTRL_DL_EN = false ∧
          t.dev.flag F.SYS_BOOT_CONFIRM = true))) ∧
      (st = 3 → s.dev.mod = .standby ∨ s.dev.mod = .active → Completes (.stateWrite st) s (fun t => t.dev.mod = .ready ∧
        t.dev.flag F.SYS_INT_STAT_STATE = true)) ∧
      (st = 4 → s.dev.mod = .ready → Completes (.stateWrite st) s (fun t => t.dev.mod = .ready ∧
        t.dev.flag F.SYS_STATE_ACT_PEND = true)) ∧
      (st = 5 → Completes (.stateWrite st) s (fun t => t.dev.mod = .safe ∧ (t.dev.reg A.SYS_SAFE_CAUSE).toNat.testBit 4 = true ∧
        (s.dev.mod ≠ .safe → t.dev.flag F.SYS_STATE_ACT_PEND = false ∧ t.dev.flag F.SYS_INT_STAT_SAFE = true ∧
          t.dev.rmb.burst = none ∧ t.dev.flag F.COEX_STAT_REQ_OUT = false ∧ t.dev.flag F.COEX_STAT_GNT_OUT = false ∧
          t.dev.getF F.AUXD_STAT_HIZ_CAUSE = 1 ∧ t.dev.ttbl.safeHold = 0xFFFFFFFF ∧ t.dev.getF F.TTBL_STAT_ONS % 4 = 0 ∧
          ∀ n, n < 96 → t.dev.flag (F.AUXD_CHn_CFG_EN n) = false ∧ t.dev.flag (F.AUXD_CHn_STAT_DRIVEN n) = false)))) ∧
    (∀ v : BitVec 32, Completes (.safeCauseClear v) s (fun t =>
      (∀ i, i < 5 → (t.dev.reg A.SYS_SAFE_CAUSE).toNat.testBit i = ((s.dev.reg A.SYS_SAFE_CAUSE).toNat.testBit i &&
        !(v.toNat.testBit i && !((i == 0 && s.dev.thermHolds) || (i == 2 && s.dev.power.rails != 15) ||
          (i == 3 && s.dev.getF F.OBS_FAULT_STAT_HARD != 0))))) ∧
      (v.toNat.testBit 0 = true → (s.dev.reg A.SYS_SAFE_CAUSE).toNat.testBit 0 = true → s.dev.thermHolds = true →
        Counted s.dev t.dev A.SYS_CMD_ERR 1) ∧ t.dev.mod = s.dev.mod)) ∧
    (∀ fn : Fin 18,
      (fn.val ∈ [12, 15, 16, 17] ∨ (fn.val = 14 ∧ s.dev.rmb.locked = true) ∨
          (fn.val = 6 ∧ s.dev.obs.hardCond.testBit 2 = false) ∨ (fn.val = 0 ∧ s.dev.therm.sampled = true) ∨
          (fn.val = 1 ∧ s.dev.power.booted = true) ∨
          (fn.val = 11 ∧ ∀ c, c < 16 → s.dev.getF (F.CLU_STAT_STATE c) = 0) ∨
          (fn.val = 13 ∧ ∀ u, u < 4 → s.dev.awake u = true → s.dev.ready (7 + u) = true) →
        Completes (.functionReady fn) s (fun t => t.dev.ready fn.val = true ∧
          (s.dev.ready fn.val = false → (t.dev.getF F.SYS_FUNC_CHG_CHG).testBit fn.val = true ∧
            t.dev.flag F.SYS_INT_STAT_FUNC = true))) ∧
      (fn.val ∈ [2, 3, 4, 5, 7, 8, 9, 10] ∨ (fn.val = 14 ∧ s.dev.rmb.locked = false) ∨
          (fn.val = 0 ∧ s.dev.therm.sampled = false) ∨ (fn.val = 1 ∧ s.dev.power.booted = false) →
        exec (.functionReady fn) s = .next (settle s [] s.dev)) ∧
      (fn.val ≤ 1 → s.dev.ready (1 - fn.val) = true → s.dev.therm.sampled = true → s.dev.power.booted = true → s.dev.mod = .boot →
        s.dev.fw.running = true → Completes (.functionReady fn) s (fun t => t.dev.mod = .standby ∧ t.dev.flag (F.MBOX_m_CTRL_EN 0) = true ∧
          t.dev.flag (F.MBOX_m_CTRL_EN 1) = true))) ∧
    (∀ prof : Profiles,
      (s.dev.fw.loader = false ∨ s.dev.fw.running = true → exec (.runtimeStart prof) s = .next s) ∧
      (s.dev.fw.loader = true → s.dev.fw.running = false → prof.fe = none → Completes (.runtimeStart prof) s (fun t =>
        t.dev.fw.running = true ∧ t.dev.fw.loader = false ∧ t.dev.fw.warm = false ∧ t.dev.flag F.TTBL_CTRL_EN = true ∧
        (∀ c, c < 16 → t.dev.flag (F.CLU_CTRL_LOCK c) = true) ∧
        (∃ frames, RingSlots t.dev frames ∧
          t.mem = memWrites (memZero s.mem (s.dev.regionBase 0) (s.dev.regionBase 0 + 131072)) frames) ∧
        (s.dev.mod = .boot → s.dev.ready 0 = true → s.dev.ready 1 = true → t.dev.mod = .standby) ∧
        (s.dev.mod = .boot → s.dev.ready 0 = false → t.dev.mod = .boot) ∧ (s.dev.mod = .safe → t.dev.mod = .safe))))

/-- The watchdog and the warm reset (R423 to R426, R428, R512): the key restarts the watchdog and another is counted; the first
expiry warns, the second enters SAFE and resets; a kick in the cycle of the expiry only counts; a warm reset keeps the time base and the
registers, clears CONFIRM and counts the attempt; and an execution limit that is reached ends its operation with TIMEOUT. -/
def Obligations.WatchdogAndResets : Prop :=
  ∀ s : State, s.dev.alive = true →
    (∀ (key : BitVec 32) (tie : Bool),
      (key.toNat % 65536 = 0x6B1D → Completes (.wdogKick key tie) s (fun t => t.dev.power = { s.dev.power with wdogWarned := false } ∧
        (tie = true → s.dev.flag F.SYS_WDOG_CFG_PERIOD = true → Counted s.dev t.dev A.SYS_TIE 1))) ∧
      (key.toNat % 65536 ≠ 0x6B1D → exec (.wdogKick key tie) s = .next (settle s [] s.dev.cmdErr))) ∧
    (s.dev.flag F.SYS_WDOG_CFG_PERIOD = false → ∀ tie : Bool, exec (.wdogExpiry tie) s = .next (settle s [] s.dev)) ∧
    (s.dev.flag F.SYS_WDOG_CFG_PERIOD = true →
      Completes (.wdogExpiry true) s (fun t => Counted s.dev t.dev A.SYS_TIE 1 ∧ t.dev.power.wdogWarned = false ∧
        t.dev.mod = s.dev.mod) ∧
      (s.dev.power.wdogWarned = false → Completes (.wdogExpiry false) s (fun t => t.dev.power.wdogWarned = true ∧
        t.dev.flag F.SYS_INT_STAT_WDOG_WARN = true ∧ t.dev.mod = s.dev.mod)) ∧
      (s.dev.power.wdogWarned = true → Completes (.wdogExpiry false) s (fun t => t.dev.mod = .safe ∧
        t.dev.power.wdogWarned = false ∧ (t.dev.reg A.SYS_SAFE_CAUSE).toNat.testBit 1 = true ∧
        Counted s.dev t.dev A.SYS_WDOG_CNT 1 ∧ t.dev.fw.running = false))) ∧
    Completes .warmReset s (fun t => t.dev.mod = .safe ∧ t.dev.fw.running = false ∧ t.dev.flag F.SYS_BOOT_CONFIRM = false ∧
      t.dev.flag F.LCS_CTRL_LOCK = false ∧ t.dev.time = s.dev.time ∧ t.dev.fuse = (checkPairs s.dev.fuse).1 ∧
      t.dev.getF F.SYS_BOOT_ATTEMPTS = (if s.dev.flag F.SYS_BOOT_CONFIRM then s.dev.getF F.SYS_BOOT_ATTEMPTS
        else min 3 (s.dev.getF F.SYS_BOOT_ATTEMPTS + 1)) ∧
      (∀ e, e < 32 → t.dev.flag (F.LCS_KE_INFO_VALID e) = false) ∧
      (∀ m, m < 4 → (t.dev.mbx m).inRing = (s.dev.mbx m).inRing ∧ (t.dev.mbx m).expSeq = (s.dev.mbx m).expSeq ∧
        (t.dev.mbx m).lastResp = (s.dev.mbx m).lastResp) ∧
      (∀ n, n < 64 → t.dev.reg (A.BEAM_WSn_CFG n) = s.dev.reg (A.BEAM_WSn_CFG n)) ∧
      (s.dev.fuse.retA = false ∨ s.dev.fuse.retB = true → StoredAt s t [])) ∧
    (∀ (mb : Fin 4) (seq : BitVec 16) (tie : Bool),
      (s.dev.fw.running = false → exec (.executionLimit mb seq tie) s = .next (settle s [] s.dev)) ∧
      (s.dev.fw.running = true → exec (.executionLimit mb seq true) s = .next (settle s [] (s.dev.count A.MBOX_TIE))) ∧
      (s.dev.fw.running = true → (∀ p ∈ s.dev.fw.pendingOps, p.mb ≠ mb.val ∨ p.seq ≠ seq.toNat) →
        exec (.executionLimit mb seq false) s = .next (settle s [] s.dev)) ∧
      (∀ p, s.dev.fw.running = true → s.dev.fw.pendingOps = [p] → p.mb = mb.val → p.seq = seq.toNat → mb.val ≠ 3 →
        p.opcode = 0x5011 → Completes (.executionLimit mb seq false) s (fun t => t.dev.fw.pendingOps = [] ∧
          t.dev.flag F.TTBL_STAT_PEND = false ∧ t.dev.outs mb.val = s.dev.outs mb.val ++
            [frameOf 0x5011 (BitVec.ofNat 8 p.tag) 5 seq.toNat (statusWord 0x09 0 0) []])))

/-- Mailbox frames and scripts (R411, R412, R415 to R418, R422, R436): a frame over the management SPI is discarded and counted, or
held; a read takes the oldest outbound frame; the status is read; a slot is freed and a frame sent by register; a script runs
once its doorbell has rung; and a command of a wrong length, one not legal in the present state, one out of order and one repeated
are answered as R415 to R417 say, the module staying as it was. -/
def Obligations.MailboxFrames : Prop :=
  ∀ s : State, s.dev.alive = true →
    (∀ bytes : List Byte,
      (bytes.length < 8 ∨ bytes.length ≠ 8 + leAt bytes 3 2 → Completes (.frameWrite bytes) s (fun t =>
        Counted s.dev t.dev (A.MBOX_m_FRAME_ERR 1) 1 ∧ (t.dev.mbx 1).inRing = (s.dev.mbx 1).inRing)) ∧
      (s.dev.flag (F.MBOX_m_CTRL_EN 1) = false ∨ 8 ≤ (s.dev.mbx 1).inRing.length → Completes (.frameWrite bytes) s (fun t =>
        Counted s.dev t.dev (A.MBOX_m_FRAME_ERR 1) 1 ∧ Counted s.dev t.dev (A.MBOX_m_DROP 1) 1 ∧
        (t.dev.mbx 1).inRing = (s.dev.mbx 1).inRing)) ∧
      (∀ a, 8 ≤ bytes.length → bytes.length = 8 + leAt bytes 3 2 → s.dev.flag (F.MBOX_m_CTRL_EN 1) = true →
        (s.dev.mbx 1).inRing = [] → cmdLegal (leAt bytes 0 2) ≠ none →
        a = (s.dev.reg (A.MBOX_m_IN_BASE 1)).toNat + 0x1040 * ((s.dev.mbx 1).inHead % 8) → inHamper a bytes.length = true →
        Completes (.frameWrite bytes) s (fun t => (t.dev.mbx 1).inRing = [bytes] ∧ StoredAt s t [(a, bytes)] ∧
          (t.dev.getF F.MBOX_INT_STAT_IN_AVAIL).testBit 1 = true))) ∧
    ((s.dev.mbx 1).outRing = [] → Completes .frameRead s (fun t => t.dev.rbytes = List.replicate 8 0xFF ∧
      t.dev.outs 1 = s.dev.outs 1)) ∧
    (∀ f l, (s.dev.mbx 1).outRing = f :: l → Completes .frameRead s (fun t => t.dev.rbytes = f ∧
      t.dev.outs 1 = l ++ (s.dev.mbx 1).outWait ∧ (t.dev.getF F.MBOX_INT_STAT_OUT_SPACE).testBit 1 = true)) ∧
    Completes .statRead s (fun t => t.dev.rbytes = word4 (s.dev.mboxStat 1)) ∧
    (∀ (m : Fin 4) f, (s.dev.mbx m.val).inRing = [f] → s.dev.upstream = none → (∀ k, k < 4 → k ≠ m.val → (s.dev.mbx k).inRing = []) →
      Completes (.mboxInPop m) s (fun t => (t.dev.mbx m.val).inRing = [] ∧
        (t.dev.mbx m.val).inHead = ((s.dev.mbx m.val).inHead + 1) % 8)) ∧
    (∀ (m : Fin 4) (v : BitVec 32), let n := v.toNat % 8192
      (8 ≤ (s.dev.mbx m.val).outRing.length ∨ n < 8 ∨ 4108 < n → exec (.mboxOutPush m v) s = .next (settle s [] s.dev.cmdErr)) ∧
      ((s.dev.mbx m.val).outRing.length < 8 → 8 ≤ n → n ≤ 4108 → Completes (.mboxOutPush m v) s (fun t =>
        t.dev.outs m.val = (s.dev.mbx m.val).outRing ++
          [memRead s.mem ((s.dev.reg (A.MBOX_m_OUT_BASE m.val)).toNat + 0x1040 * ((s.dev.mbx m.val).outTail % 8)) n] ++
          (s.dev.mbx m.val).outWait))) ∧
    (∀ sc : Fin 8,
      (s.dev.fw.running = false ∨ (s.dev.mbx 3).waiting ≠ none ∨
          (sc.val ∉ s.dev.fw.bells ∧ ∀ x ∈ s.dev.fw.scriptsRunning, x.1 ≠ sc.val) →
        exec (.mb3ScriptRun sc) s = .next (settle s [] s.dev)) ∧
      (s.dev.fw.running = true → (s.dev.mbx 3).waiting = none → s.dev.fw.scriptsRunning = [] → sc.val ∈ s.dev.fw.bells →
        (Tab.get (fun _ => []) sc.val s.dev.fw.scripts = [] → Completes (.mb3ScriptRun sc) s (fun t =>
          t.dev.fw.bells = s.dev.fw.bells.erase sc.val ∧ t.dev.fw.scriptsRunning = [])) ∧
        (∀ f l, Tab.get (fun _ => []) sc.val s.dev.fw.scripts = f :: l → cmdLegal (leAt f 0 2) = none →
          s.dev.flag (F.MBOX_m_CTRL_EN 0) = true → Completes (.mb3ScriptRun sc) s (fun t => t.dev.fw.scriptsRunning = [] ∧
            ∃ r, t.dev.outs 0 = s.dev.outs 0 ++ r ++ [frameOf 0x0080 0 2 (s.dev.mbx 0).notifySeq []
              ([7, BitVec.ofNat 8 sc.val, 3, 0] ++ le4 0)])))) ∧
    (∀ (h : CmdHdr) (pl : List Byte), h.mb.val ≠ 3 →
      s.dev.serves h.mb.val (frameOf 0x5011 h.tag 0 h.seq.toNat [] pl) = true →
      (∀ r, (s.dev.mbx h.mb.val).lastResp = some (h.seq.toNat, r) → Completes (.ttCommit h pl) s (fun t =>
        s.dev.MailSame t.dev ∧ ∃ x, t.dev.outs h.mb.val = s.dev.outs h.mb.val ++ r :: x)) ∧
      (∀ e, (∀ r, (s.dev.mbx h.mb.val).lastResp ≠ some (h.seq.toNat, r)) → (s.dev.mbx h.mb.val).expSeq = some e → e ≠ h.seq.toNat →
        Completes (.ttCommit h pl) s (fun t => s.dev.MailSame t.dev ∧ ∃ x, t.dev.outs h.mb.val = s.dev.outs h.mb.val ++
          frameOf 0x5011 h.tag 1 h.seq.toNat (statusWord 0x03 (e % 256) (e / 256 % 256)) [] :: x)) ∧
      ((∀ r, (s.dev.mbx h.mb.val).lastResp ≠ some (h.seq.toNat, r)) →
        (s.dev.mbx h.mb.val).expSeq = none ∨ (s.dev.mbx h.mb.val).expSeq = some h.seq.toNat →
        (pl ≠ [] → Completes (.ttCommit h pl) s (fun t => s.dev.MailSame t.dev ∧
          (s.dev.upstream = none → (s.dev.mbx h.mb.val).inRing.length ≤ 1 →
            (t.dev.mbx h.mb.val).expSeq = some ((h.seq.toNat + 1) % 65536)) ∧
          ∃ x, t.dev.outs h.mb.val = s.dev.outs h.mb.val ++
            frameOf 0x5011 h.tag 1 h.seq.toNat (statusWord 0x03 0 0) [] :: x)) ∧
        (pl = [] → s.dev.fw.recovery = false → s.dev.mod = .boot ∨ s.dev.mod = .safe → Completes (.ttCommit h pl) s (fun t =>
          s.dev.MailSame t.dev ∧ ∃ x, t.dev.outs h.mb.val = s.dev.outs h.mb.val ++
            frameOf 0x5011 h.tag 1 h.seq.toNat (statusWord 0x02 s.dev.mod.code 0b011100) [] :: x))))

/-! Life cycle, signatures and attestation (14_life_cycle.md). -/

/-- The engine's checks (R443 to R445, R448, R451 to R453): an image and a kernel of the right form get the result of their
block's check, a verified kernel enters the table and another leaves it alone; a verified authorisation that is legal is carried
out, and one with another device or nonce, or not legal, or that would revoke the last key is not; the report is stored with its
block; and without a job that waits for its check nothing happens. -/
def Obligations.EngineChecks : Prop :=
  ∀ s : State, s.dev.alive = true →
    (∀ ups : List Upset, s.dev.lcs.job = none ∨ s.dev.lcs.outcome ≠ none →
      exec (.verifyImage ups) s = .next (settle s [] s.dev) ∧ exec (.verifyKernel ups) s = .next (settle s [] s.dev) ∧
      exec (.verifyAuthorisation ups) s = .next (settle s [] s.dev) ∧
      exec (.attestationReport ups) s = .next (settle s [] s.dev)) ∧
    (∀ j, s.dev.lcs.job = some j → s.dev.lcs.outcome = none → s.dev.memi.ecc = [] →
      let o := memRead s.mem j.addr j.len
      (j.op = 0 →
        (inHamper j.addr j.len = false → Completes (.verifyImage []) s (fun t => Judged t 2 ∧ StoredAt s t [])) ∧
        (inHamper j.addr j.len = true →
          (leAt o 0 4 ≠ 0x424C4452 → leAt o 0 4 ≠ 0x5254494D → Completes (.verifyImage []) s (fun t => Judged t 1)) ∧
          (∀ body b, body = leAt o 0xC 4 → b = o.drop (64 + body) → leAt o 0 4 = 0x424C4452 ∨ leAt o 0 4 = 0x5254494D →
            leAt o 4 2 = 1 → zeroAt o 6 2 = true → body % 64 = 0 → leAt o 0x10 4 < body → zeroAt o 0x14 44 = true →
            j.len = 64 + body + sigLen →
            (blockForm b "SKB-IMG1" = false → Completes (.verifyImage []) s (fun t => Judged t 1)) ∧
            (blockForm b "SKB-IMG1" = true → Completes (.verifyImage []) s (fun t => StoredAt s t [] ∧
              t.dev.lcs.outcome = some (if (if leAt o 0 4 = 0x424C4452 then 0x80000 else 0x800000) < j.len then 2
                else s.dev.blockCheck (o.take (64 + body)) b, byteAt b 6, byteAt b 7, 0)))))) ∧
      (j.op = 1 → inHamper j.addr j.len = true → ∀ nb b, nb = leAt o 0x10 2 → b = o.drop (32 + 32 * nb) →
        leAt o 0 4 = 0x4B45524E → leAt o 4 2 = 1 → leAt o 6 2 ≤ 2 → leAt o 8 4 ≠ 0 → 1 ≤ nb → nb ≤ 2048 → leAt o 0x12 2 < nb →
        zeroAt o 0x18 8 = true → j.len = 32 + 32 * nb + sigLen → blockForm b "SKB-KRN1" = true →
        (s.dev.blockCheck (o.take (32 + 32 * nb)) b ≠ 0 → Completes (.verifyKernel []) s (fun t =>
          t.dev.lcs.outcome = some (s.dev.blockCheck (o.take (32 + 32 * nb)) b, byteAt b 6, byteAt b 7, 0) ∧
          ∀ e i, e < 32 → i < 16 → t.dev.reg (A.LCS_KE_DIGEST e i) = s.dev.reg (A.LCS_KE_DIGEST e i))) ∧
        (s.dev.blockCheck (o.take (32 + 32 * nb)) b = 0 →
          (s.dev.kernelEntry (leAt o 8 4) = none → Completes (.verifyKernel []) s (fun t => Judged t 10 ∧
            ∀ e i, e < 32 → i < 16 → t.dev.reg (A.LCS_KE_DIGEST e i) = s.dev.reg (A.LCS_KE_DIGEST e i))) ∧
          (∀ e, s.dev.kernelEntry (leAt o 8 4) = some e → Completes (.verifyKernel []) s (fun t =>
            t.dev.lcs.outcome = some (0, byteAt b 6, byteAt b 7, e) ∧ t.dev.flag (F.LCS_KE_INFO_VALID e) = true ∧
            t.dev.getF (F.LCS_KE_INFO_SIGNER e) = byteAt b 6 ∧ (t.dev.reg (A.LCS_KE_ID e)).toNat = leAt o 8 4 ∧
            (∀ i, i < 12 → (t.dev.reg (A.LCS_KE_DIGEST e i)).toNat = leAt (sha384 (o.take (32 + 32 * nb))) (4 * i) 4) ∧
            (∀ e' i, e' < 32 → i < 16 → e' ≠ e → t.dev.reg (A.LCS_KE_DIGEST e' i) = s.dev.reg (A.LCS_KE_DIGEST e' i)))))) ∧
      (j.op = 2 → inHamper j.addr j.len = true → ∀ op slot, AuthObject o j.len op slot → AuthSigned s.dev o op →
        ((o.drop 8).take 16 ≠ s.dev.liveBytes (A.LCS_DEVID_i 0) 4 ∨ (o.drop 24).take 16 ≠ s.dev.liveBytes (A.LCS_NONCE_i 0) 4 →
          Completes (.verifyAuthorisation []) s (fun t => Judged t 11 ∧ t.dev.fuse = s.dev.fuse ∧ t.dev.mod = s.dev.mod)) ∧
        ((o.drop 8).take 16 = s.dev.liveBytes (A.LCS_DEVID_i 0) 4 → (o.drop 24).take 16 = s.dev.liveBytes (A.LCS_NONCE_i 0) 4 →
          (s.dev.authLegal op = false ∨ (op = 3 ∧ (s.dev.fuse.owner.getD slot {}).empty = false) →
            Completes (.verifyAuthorisation []) s (fun t => Judged t 12 ∧ t.dev.fuse = s.dev.fuse ∧ t.dev.mod = s.dev.mod)) ∧
          (op = 4 → s.dev.lc = .field → lastKey s.dev.fuse.owner slot = true → Completes (.verifyAuthorisation []) s (fun t =>
            Judged t 13 ∧ t.dev.fuse = s.dev.fuse)) ∧
          (op = 5 → lastKey s.dev.fuse.vendor slot = true → Completes (.verifyAuthorisation []) s (fun t =>
            Judged t 13 ∧ t.dev.fuse = s.dev.fuse)) ∧
          (op = 1 → s.dev.lc = .maker → Completes (.verifyAuthorisation []) s (fun t => Judged t 0 ∧ t.dev.lc ≠ .maker ∧
            t.dev.fuse = { s.dev.fuse with openA := true, openB := true })) ∧
          (op = 2 → s.dev.lc = .ownerOpen → Completes (.verifyAuthorisation []) s (fun t => Judged t 0 ∧ t.dev.lc = .field ∧
            t.dev.fuse = { s.dev.fuse with fieldA := true, fieldB := true })) ∧
          (op = 3 → s.dev.lc = .field → (s.dev.fuse.owner.getD slot {}).empty = true → Completes (.verifyAuthorisation []) s (fun t =>
            Judged t 0 ∧ t.dev.fuse = { s.dev.fuse with
              owner := modSlot s.dev.fuse.owner slot (fun k => { k with hash := (o.drop 48).take 48, valid := true }) })) ∧
          (op = 4 → s.dev.lc = .field → lastKey s.dev.fuse.owner slot = false → Completes (.verifyAuthorisation []) s (fun t =>
            Judged t 0 ∧ t.dev.fuse = { s.dev.fuse with owner := modSlot s.dev.fuse.owner slot (fun k => { k with revoked := true }) })) ∧
          (op = 5 → lastKey s.dev.fuse.vendor slot = false → Completes (.verifyAuthorisation []) s (fun t =>
            Judged t 0 ∧ t.dev.fuse = { s.dev.fuse with vendor := modSlot s.dev.fuse.vendor slot (fun k => { k with revoked := true }) })) ∧
          (op = 6 → s.dev.lc = .ownerOpen ∨ s.dev.lc = .field → Completes (.verifyAuthorisation []) s (fun t =>
            Judged t 0 ∧ t.dev.mod = .safe ∧ t.dev.lcs.returnDue = true ∧ t.dev.fuse = { s.dev.fuse with retA := true })) ∧
          (op = 7 → s.dev.lc = .returned → Completes (.verifyAuthorisation []) s (fun t =>
            Judged t 0 ∧ t.dev.lcs.unlock = true ∧ t.dev.fuse = s.dev.fuse)))) ∧
      (j.op = 3 →
        (inHamper j.addr j.len = false ∨ j.len ≠ 256 + sigLen → Completes (.attestationReport []) s (fun t => Judged t 2 ∧
          StoredAt s t [])) ∧
        (inHamper j.addr j.len = true → j.len = 256 + sigLen → Completes (.attestationReport []) s (fun t => Judged t 0 ∧
          ∃ l, l.length = sigLen ∧ StoredAt s t [(j.addr, s.dev.reportBytes (memRead s.mem (j.addr + 24) 32) ++ l)])))) ∧
    (∀ j, s.dev.lcs.job = some j → s.dev.lcs.outcome = none → j.op = 3 → inHamper j.addr j.len = true → j.len = 256 + sigLen →
      (∃ e ∈ s.dev.badWords (j.addr + 24) 32, e.2.1 = .ue) →
      Completes (.attestationReport []) s (fun t => Judged t 9 ∧ StoredAt s t []))

/-- The end of an engine job (R449, R450, R455): RESULT, DONE and FAIL, the count, a new nonce after an authorisation, BUSY clear and
the next job begun; a job the firmware had queued ends its command. -/
def Obligations.EngineJobs : Prop :=
  ∀ s : State, s.dev.alive = true →
    (s.dev.lcs.job = none → exec .engineJobDone s = .next (settle s [] s.dev)) ∧
    (∀ j v, s.dev.lcs.job = some j → s.dev.lcs.outcome = some v →
      (j.who = 0 → Completes .engineJobDone s (fun t => StoredAt s t [] ∧
        t.dev.reg A.LCS_VSTAT = wordOf [(28, v.1), (26, v.2.1), (24, v.2.2.1), (0, v.2.2.2)] ∧
        t.dev.flag F.LCS_INT_STAT_DONE = true ∧ t.dev.lcs.outcome = none ∧ t.dev.fuse = s.dev.fuse ∧
        t.dev.lcs.nonceGen = s.dev.lcs.nonceGen + (if j.op = 2 then 1 else 0) ∧
        (v.1 = 0 → t.dev.reg A.LCS_AUTH_FAIL_CNT = s.dev.reg A.LCS_AUTH_FAIL_CNT ∧
          t.dev.flag F.LCS_INT_STAT_FAIL = s.dev.flag F.LCS_INT_STAT_FAIL) ∧
        (v.1 ≠ 0 → t.dev.flag F.LCS_INT_STAT_FAIL = true ∧ Counted s.dev t.dev A.LCS_AUTH_FAIL_CNT 1) ∧
        (s.dev.lcs.queue = [] → t.dev.flag F.LCS_VCTRL_BUSY = false ∧ t.dev.lcs.job = none) ∧
        (∀ n l, s.dev.lcs.queue = n :: l → t.dev.flag F.LCS_VCTRL_BUSY = true ∧ t.dev.lcs.job = some n ∧ t.dev.lcs.queue = l))) ∧
      (∀ p l, j.who = 0x0010 → s.dev.pendingFor 0x0010 = p :: l → p.mb ≠ 3 → Completes .engineJobDone s (fun t =>
        t.dev.fw.pendingOps = s.dev.fw.pendingOps.erase p ∧
        t.dev.outs p.mb = s.dev.outs p.mb ++
          [frameOf 0x0010 (BitVec.ofNat 8 p.tag) 5 p.seq (statusWord (if v.1 = 0 then 0x00 else 0x08) v.1 0) []] ∧
        (v.1 = 0 → s.dev.flag F.SYS_BOOT_SLOT_RUN = false → t.dev.fw.slotB = ⟨some (memNat s.mem (j.addr + 8) 4)⟩ ∧
          t.dev.fw.slotA = s.dev.fw.slotA) ∧
        (v.1 = 0 → s.dev.flag F.SYS_BOOT_SLOT_RUN = true → t.dev.fw.slotA = ⟨some (memNat s.mem (j.addr + 8) 4)⟩ ∧
          t.dev.fw.slotB = s.dev.fw.slotB) ∧
        (v.1 ≠ 0 → t.dev.fw.slotA = s.dev.fw.slotA ∧ t.dev.fw.slotB = s.dev.fw.slotB))) ∧
      (∀ p l, j.who = 0xA003 → s.dev.pendingFor 0xA003 = p :: l → p.mb ≠ 3 → Completes .engineJobDone s (fun t =>
        t.dev.fw.pendingOps = s.dev.fw.pendingOps.erase p ∧
        t.dev.outs p.mb = s.dev.outs p.mb ++
          [frameOf 0xA003 (BitVec.ofNat 8 p.tag) 5 p.seq (statusWord (if v.1 = 0 then 0x00 else 0x08) v.1 0) []])) ∧
      (∀ p l, j.who = 0xA005 → s.dev.pendingFor 0xA005 = p :: l → p.mb ≠ 3 → v.1 = 0 → Completes .engineJobDone s (fun t =>
        t.dev.fw.pendingOps = s.dev.fw.pendingOps.erase p ∧
        t.dev.outs p.mb = s.dev.outs p.mb ++ [frameOf 0xA005 (BitVec.ofNat 8 p.tag) 5 p.seq (statusWord 0x00 0 0)
          (le4 (j.addr - s.dev.regionBase 4) ++ le4 17328)])))

/-! Memory integrity, self-test and DMA (15_memory_bist_dma.md). -/

/-- Regions, the scrubber, the log, retirement and bulk data (R457 to R466, R471 to R475): a commit in STANDBY of sizes within their
limits moves every base and no data, and another is counted; a write-back cleans its word unless a write has won; the scrubber
goes on by one word, and counts and logs what it finds there; a read of the log takes its head; a retirement starts where it may and
enters its page in the remap table; and a bulk write stores its data at its offset of the region or is discarded. -/
def Obligations.MemoryIntegrity : Prop :=
  ∀ s : State, s.dev.alive = true →
    (∀ l, l = (List.range 5).map (fun r => s.dev.getF (F.MEMI_PART_SIZEr_UNITS r)) →
      (s.dev.mod = .standby → sizesOk l = true → Completes .partCommit s (fun t => t.dev.memi.sizes = l ∧ StoredAt s t [] ∧
        (∀ r, r < 6 → (t.dev.reg (A.MEMI_PART_BASEr r)).toNat = 0x10000000 + 65536 * (l.take r).foldl (· + ·) 0) ∧
        (t.dev.reg A.BEAM_WMEM_BASE).toNat = 0x10000000 ∧ (t.dev.reg A.BEAM_WMEM_SIZE).toNat = l.getD 0 0 * 16384 ∧
        (t.dev.reg A.BEAM_CTX_BASE).toNat = 0x10000000 + 65536 * l.getD 0 0)) ∧
      (s.dev.mod ≠ .standby ∨ sizesOk l = false → Completes .partCommit s (fun t => t.dev.memi = s.dev.memi ∧
        t.dev.flag F.MEMI_INT_STAT_PART_ERR = true ∧ Counted s.dev t.dev A.MEMI_CMD_ERR 1))) ∧
    (∀ w : Nat, (w ∉ s.dev.memi.writeback → exec (.hamperWriteback w) s = .next (settle s [] s.dev)) ∧
      (w ∈ s.dev.memi.writeback → Completes (.hamperWriteback w) s (fun t => t.dev.ecc w = (.clean, 0) ∧
        w ∉ t.dev.memi.writeback ∧ StoredAt s t [] ∧ ∀ v, v ≠ w → t.dev.ecc v = s.dev.ecc v))) ∧
    (s.dev.flag F.MEMI_CTRL_SCRUB_EN = false ∨ s.dev.memi.hamperSleep = true →
      exec (.scrubRead []) s = .next (settle s [] s.dev)) ∧
    (∀ w, s.dev.flag F.MEMI_CTRL_SCRUB_EN = true → s.dev.memi.hamperSleep = false → s.dev.memi.scrubPtr = w →
      Completes (.scrubRead []) s (fun t => StoredAt s t [] ∧ t.dev.memi.scrubPtr = (if w + 1 = 2 ^ 24 then 0 else w + 1) ∧
        Counted s.dev t.dev A.MEMI_SCRUB_PASS (if w + 1 = 2 ^ 24 then 1 else 0) ∧
        (s.dev.badWords (hamperLo + 8 * w) 8 = [] → t.dev.memi.log = s.dev.memi.log ∧
          t.dev.memi.writeback = s.dev.memi.writeback ∧ t.dev.memi.ecc = s.dev.memi.ecc) ∧
        (∀ cls syn, s.dev.badWords (hamperLo + 8 * w) 8 = [(w, cls, syn)] → cls ≠ .clean → t.dev.memi.ecc = s.dev.memi.ecc ∧
          Counted s.dev t.dev A.MEMI_CE_CNT (if cls = .ce then 1 else 0) ∧
          Counted s.dev t.dev A.MEMI_UE_CNT (if cls = .ce then 0 else 1) ∧
          Counted s.dev t.dev A.MEMI_ADDR_CNT (if cls = .addr then 1 else 0) ∧
          t.dev.memi.writeback = s.dev.memi.writeback ++ (if cls = .ce then [w] else []) ∧
          (s.dev.memi.recent.contains (w, errCode cls) = true → t.dev.memi.log = s.dev.memi.log) ∧
          (s.dev.memi.recent.contains (w, errCode cls) = false → 1024 ≤ s.dev.memi.log.length →
            t.dev.memi.log = s.dev.memi.log ∧ Counted s.dev t.dev A.MEMI_LOG_LOST 1 ∧ t.dev.flag F.MEMI_INT_STAT_LOG_FULL = true) ∧
          (s.dev.memi.recent.contains (w, errCode cls) = false → s.dev.memi.log.length < 1024 → t.dev.memi.log = s.dev.memi.log ++
            [⟨errCode cls, 0, syn.toNat, w, s.dev.nowNs, s.dev.nowSecLo⟩])))) ∧
    (∀ r : Requester, Completes (.logRead r) s (fun t => t.dev.memi.log = s.dev.memi.log.drop 1 ∧
      (s.dev.memi.log = [] → t.dev.rdata = 0) ∧
      ∀ e l, s.dev.memi.log = e :: l → t.dev.rdata = wordOf [(31, 1), (29, e.cls), (24, e.src), (0, e.synd)] ∧
        t.dev.getLatch r A.MEMI_LOG_ADDR = some (BitVec.ofNat 32 e.word) ∧
        t.dev.getLatch r A.MEMI_LOG_NS = some (BitVec.ofNat 32 e.ns) ∧
        t.dev.getLatch r A.MEMI_LOG_SEC_LO = some (BitVec.ofNat 32 e.secLo))) ∧
    (∀ page : BitVec 15,
      (s.dev.memi.retiring ≠ none ∨ s.dev.retired.contains page.toNat = true ∨ s.dev.getF (spareF (pageDie page.toNat)) = 0 →
        exec (.retireStart page) s = .next (settle s [] (s.dev.count A.MEMI_CMD_ERR))) ∧
      (s.dev.memi.retiring = none → s.dev.retired.contains page.toNat = false → s.dev.getF (spareF (pageDie page.toNat)) ≠ 0 →
        Completes (.retireStart page) s (fun t => t.dev.memi.retiring = some page.toNat ∧ t.dev.flag F.MEMI_STAT_RETIRING = true ∧
          t.dev.retired = s.dev.retired))) ∧
    (s.dev.memi.retiring = none → exec .retireDone s = .next (settle s [] s.dev)) ∧
    (∀ page i, s.dev.memi.retiring = some page → page < 32768 → i < 128 →
      s.dev.flag (F.MEMI_REMAPi_VALID i) = false → (∀ j, j < i → s.dev.flag (F.MEMI_REMAPi_VALID j) = true) →
      Completes .retireDone s (fun t => StoredAt s t [] ∧ t.dev.flag (F.MEMI_REMAPi_VALID i) = true ∧
        t.dev.getF (F.MEMI_REMAPi_PAGE i) = page ∧
        t.dev.getF (spareF (pageDie page)) = s.dev.getF (spareF (pageDie page)) - 1 ∧
        t.dev.flag F.MEMI_INT_STAT_RETIRED = true ∧ t.dev.memi.ecc = s.dev.memi.ecc ∧
        (s.dev.fw.retireWait = [] ∨ s.dev.fw.running = false → t.dev.memi.retiring = none ∧
          t.dev.flag F.MEMI_STAT_RETIRING = false) ∧
        (s.dev.fw.running = true → t.dev.fw.retiredRec = s.dev.fw.retiredRec ++ [page]))) ∧
    (∀ x : Fin 4,
      (s.dev.bulkHead x.val 1 = none → exec (.bulkWrite x) s = .next (settle s [] s.dev)) ∧
      (s.dev.bulkHead x.val 3 = none → exec (.bulkMark x) s = .next (settle s [] s.dev)) ∧
      (∀ i, ((s.dev.port x.val).vc vcB).rxq = [i] → i.pkt.kind = 1 →
        ∀ o data, o = leAt i.pkt.payload 0 4 → data = i.pkt.payload.drop 8 →
        (data = [] ∨ 16352 < data.length ∨ o % 8 ≠ 0 ∨ o < s.dev.bulkFloor ∨ s.dev.regionSize 4 < o + data.length →
          Completes (.bulkWrite x) s (fun t => ((t.dev.port x.val).vc vcB).rxq = [] ∧ StoredAt s t [] ∧
            Counted s.dev t.dev A.MEMI_BULK_ERR 1 ∧ t.dev.flag F.MEMI_INT_STAT_BULK_ERR = true ∧
            Tab.get (fun _ => 0) x.val t.dev.memi.bulkDrops = Tab.get (fun _ => 0) x.val s.dev.memi.bulkDrops + 1)) ∧
        (data ≠ [] → data.length ≤ 16352 → o % 8 = 0 → s.dev.bulkFloor ≤ o → o + data.length ≤ s.dev.regionSize 4 →
          Completes (.bulkWrite x) s (fun t => ((t.dev.port x.val).vc vcB).rxq = [] ∧
            StoredAt s t [(s.dev.regionBase 4 + o, data)] ∧
            Tab.get (fun _ => 0) x.val t.dev.memi.bulkBytes =
              Tab.get (fun _ => 0) x.val s.dev.memi.bulkBytes + data.length))) ∧
      (∀ i, ((s.dev.port x.val).vc vcB).rxq = [i] → i.pkt.kind = 3 → Completes (.bulkMark x) s (fun t =>
        ((t.dev.port x.val).vc vcB).rxq = [] ∧ StoredAt s t [] ∧ Tab.get (fun _ => 0) x.val t.dev.memi.bulkBytes = 0 ∧
        Tab.get (fun _ => 0) x.val t.dev.memi.bulkDrops = 0 ∧
        (s.dev.fw.running = true → s.dev.flag (F.MBOX_m_CTRL_EN 0) = true → t.dev.outs 0 = s.dev.outs 0 ++
          [frameOf 0x9080 0 2 (s.dev.mbx 0).notifySeq [] ([1, BitVec.ofNat 8 x.val, 0, 0] ++ le4 (leAt i.pkt.payload 0 4) ++
            le4 (Tab.get (fun _ => 0) x.val s.dev.memi.bulkBytes) ++
            le4 (Tab.get (fun _ => 0) x.val s.dev.memi.bulkDrops))]))))

/-- Self-test and loopback (R467 to R470): a test starts in its migration, or ends NO_SPARE; STOP acts by the phase; the result
follows from the faulty rows and the spare rows of the row block; the firmware tests its slices in turn; fuses take the soft repairs in
MAKER and OWNER_OPEN alone; and a loopback gives each pair its verdict. -/
def Obligations.SelfTest : Prop :=
  ∀ s : State, s.dev.alive = true →
    (s.dev.flag F.BIST_STAT_BUSY = true → exec .bistStart s = .next (settle s [] (s.dev.count A.BIST_CMD_ERR)) ∧
      exec .bistPace s = .next (settle s [] s.dev)) ∧
    (s.dev.flag F.BIST_STAT_BUSY = false →
      exec .bistStop s = .next (settle s [] s.dev) ∧ (∀ n, exec (.bistDone n) s = .next (settle s [] s.dev)) ∧
      ((s.dev.getF F.BIST_STAT_NO_SPARE).testBit (s.dev.getF F.BIST_SLICE_SLICE / 256) = true → Completes .bistStart s (fun t =>
        t.dev.flag F.BIST_STAT_BUSY = false ∧ t.dev.getF F.BIST_STAT_RESULT = 3 ∧ t.dev.flag F.BIST_INT_STAT_DONE = true ∧
        t.dev.flag F.BIST_INT_STAT_FAIL = true ∧ t.dev.getF F.BIST_STAT_SLICE = s.dev.getF F.BIST_SLICE_SLICE)) ∧
      ((s.dev.getF F.BIST_STAT_NO_SPARE).testBit (s.dev.getF F.BIST_SLICE_SLICE / 256) = false → Completes .bistStart s (fun t =>
        t.dev.flag F.BIST_STAT_BUSY = true ∧ t.dev.getF F.BIST_STAT_PHASE = 1 ∧
        t.dev.getF F.BIST_STAT_SLICE = s.dev.getF F.BIST_SLICE_SLICE ∧ StoredAt s t [])) ∧
      (s.dev.fw.running = true → s.dev.fw.bistPace ≠ 0 → s.dev.fw.bistNext < 512 →
        (s.dev.getF F.BIST_STAT_NO_SPARE).testBit (s.dev.fw.bistNext / 256) = false → Completes .bistPace s (fun t =>
          t.dev.flag F.BIST_STAT_BUSY = true ∧ t.dev.getF F.BIST_STAT_SLICE = s.dev.fw.bistNext ∧
          t.dev.fw.bistNext = (s.dev.fw.bistNext + 1) % 512))) ∧
    (s.dev.flag F.BIST_STAT_BUSY = true →
      (s.dev.getF F.BIST_STAT_PHASE = 1 → Completes .bistStop s (fun t => t.dev.flag F.BIST_STAT_BUSY = false ∧
        t.dev.getF F.BIST_STAT_PHASE = 0 ∧ t.dev.getF F.BIST_STAT_RESULT = 4 ∧ t.dev.flag F.BIST_INT_STAT_DONE = true)) ∧
      (s.dev.getF F.BIST_STAT_PHASE = 4 → exec .bistStop s = .next (settle s [] s.dev)) ∧
      (s.dev.getF F.BIST_STAT_PHASE = 2 ∨ s.dev.getF F.BIST_STAT_PHASE = 3 → Completes .bistStop s (fun t =>
        t.dev.flag F.BIST_STAT_BUSY = true ∧ t.dev.getF F.BIST_STAT_PHASE = 4 ∧ t.dev.memi.bist.stopped = true)) ∧
      (∀ n b, b = s.dev.getF F.BIST_STAT_SLICE / 4 → Completes (.bistDone n) s (fun t => t.dev.flag F.BIST_STAT_BUSY = false ∧
        t.dev.getF F.BIST_STAT_PHASE = 0 ∧ t.dev.flag F.BIST_INT_STAT_DONE = true ∧ t.dev.memi.bist.stopped = false ∧
        (s.dev.memi.bist.stopped = true → t.dev.getF F.BIST_STAT_RESULT = 4 ∧ t.dev.rowsUsed b = s.dev.rowsUsed b) ∧
        (s.dev.memi.bist.stopped = false → n = 0 → t.dev.getF F.BIST_STAT_RESULT = 0 ∧ t.dev.rowsUsed b = s.dev.rowsUsed b) ∧
        (s.dev.memi.bist.stopped = false → n ≠ 0 → s.dev.rowsUsed b + n ≤ 8 → t.dev.getF F.BIST_STAT_RESULT = 1 ∧
          t.dev.rowsUsed b = s.dev.rowsUsed b + n ∧ Counted s.dev t.dev A.BIST_REPAIR_CNT n ∧
          t.dev.getF F.BIST_SPARE_ROWS_FREE = s.dev.getF F.BIST_SPARE_ROWS_FREE - n) ∧
        (s.dev.memi.bist.stopped = false → n ≠ 0 → 8 < s.dev.rowsUsed b + n → t.dev.getF F.BIST_STAT_RESULT = 2 ∧
          t.dev.flag F.BIST_INT_STAT_FAIL = true ∧
          (t.dev.getF F.BIST_STAT_NO_SPARE).testBit (s.dev.getF F.BIST_STAT_SLICE / 256) = true ∧
          t.dev.rowsUsed b = s.dev.rowsUsed b)))) ∧
    (s.dev.fw.running = false ∨ s.dev.fw.bistPace = 0 → exec .bistPace s = .next (settle s [] s.dev)) ∧
    (s.dev.lcOpen = false → exec .bistFuseCommit s = .next (settle s [] (s.dev.count A.BIST_CMD_ERR))) ∧
    (s.dev.lcOpen = true → Completes .bistFuseCommit s (fun t => t.dev.memi.bist.softRows = [] ∧
      (Tab.wf (fun _ => 0) s.dev.memi.bist.softRows = true → ∀ b, t.dev.rowsUsed b = s.dev.rowsUsed b))) ∧
    (s.dev.flag F.BIST_LB_CTRL_BUSY = true ∨ s.dev.flag F.CAL_RECIP_CFG_BUSY = true →
      exec .lbStart s = .next (settle s [] (s.dev.count A.BIST_CMD_ERR))) ∧
    (s.dev.flag F.BIST_LB_CTRL_BUSY = false → s.dev.flag F.CAL_RECIP_CFG_BUSY = false → Completes .lbStart s (fun t =>
      t.dev.flag F.BIST_LB_CTRL_BUSY = true)) ∧
    (∀ meas : List (Int × Nat),
      (s.dev.flag F.BIST_LB_CTRL_BUSY = false → exec (.loopbackDone meas) s = .next (settle s [] s.dev)) ∧
      (∀ gains : List Int, s.dev.flag F.BIST_LB_CTRL_BUSY = true →
        gains = sortInts (((List.range 64).filter (fun p => s.dev.tileLocked (tileOf p) && decide (p < meas.length))).map
          (fun p => (meas.getD p (0, 0)).1)) →
        Completes (.loopbackDone meas) s (fun t => t.dev.flag F.BIST_LB_CTRL_BUSY = false ∧
          t.dev.flag F.BIST_INT_STAT_LB_DONE = true ∧ ∀ p, p < 64 →
            ((t.dev.pair A.BIST_LB_FAIL_LO A.BIST_LB_FAIL_HI).testBit p = (t.dev.getF (F.BIST_LBp_VERDICT p) == 2)) ∧
            (s.dev.tileLocked (tileOf p) = false ∨ meas.length ≤ p → t.dev.getF (F.BIST_LBp_VERDICT p) = 3) ∧
            (∀ g snr, s.dev.tileLocked (tileOf p) = true → p < meas.length → meas.getD p (0, 0) = (g, snr) →
              t.dev.getF (F.BIST_LBp_SNR p) = min 255 snr ∧
              (t.dev.getF (F.BIST_LBp_VERDICT p) = 1 ↔ 30 ≤ snr ∧
                (2 * g - (gains.getD ((gains.length - 1) / 2) 0 + gains.getD (gains.length / 2) 0)).natAbs ≤
                  200 * s.dev.getF F.BIST_LB_CTRL_LB_TOL) ∧
              (t.dev.getF (F.BIST_LBp_VERDICT p) = 1 ∨ t.dev.getF (F.BIST_LBp_VERDICT p) = 2)))))

/-- The DMA channels (R476 to R480): a start is checked and counts from zero; STOP, the watchdog and the drain end a transfer with their
status; a burst moves its bytes as the mode says and advances DONE, and with it the transfer ends, stops, pauses or goes on;
RESUME goes on where the domains are up; and a domain goes down once the channels that touch it have drained. -/
def Obligations.DmaChannels : Prop :=
  ∀ (s : State) (c : Fin 16), s.dev.alive = true →
    (s.dev.dmaState c.val ≠ dmaIdle → exec (.dmaStart c) s = .next (settle s [] s.dev)) ∧
    (s.dev.dmaState c.val = dmaIdle → exec (.dmaStop c) s = .next (settle s [] s.dev) ∧
      Completes (.dmaStart c) s (fun t => StoredAt s t [] ∧ t.dev.reg (A.DMA_CHc_DONE c.val) = 0 ∧
        ((s.dev.xfer c.val).ok = false → t.dev.dmaState c.val = dmaIdle ∧ t.dev.getF (F.DMA_CHc_STAT_STATUS c.val) = 7 ∧
          (t.dev.getF F.DMA_INT_STAT_END).testBit c.val = true) ∧
        ((s.dev.xfer c.val).ok = true →
          ((s.dev.dmaDomains c.val).any (fun x => x != some 16 && s.dev.domainDown x) = true →
            t.dev.dmaState c.val = dmaIdle ∧ t.dev.getF (F.DMA_CHc_STAT_STATUS c.val) = 4) ∧
          ((s.dev.dmaDomains c.val).any (fun x => x != some 16 && s.dev.domainDown x) = false →
            ((s.dev.xfer c.val).count ≠ 0 → t.dev.dmaState c.val = dmaRun) ∧
            ((s.dev.xfer c.val).count = 0 → t.dev.dmaState c.val = dmaIdle ∧
              t.dev.getF (F.DMA_CHc_STAT_STATUS c.val) = 0 ∧ (t.dev.getF F.DMA_INT_STAT_END).testBit c.val = true))))) ∧
    (s.dev.dmaState c.val = dmaPaused → Completes (.dmaStop c) s (fun t => t.dev.dmaState c.val = dmaIdle ∧
      t.dev.getF (F.DMA_CHc_STAT_STATUS c.val) = 5 ∧ (t.dev.getF F.DMA_INT_STAT_END).testBit c.val = true)) ∧
    (s.dev.dmaState c.val = dmaRun ∨ s.dev.dmaState c.val = dmaDraining → Completes (.dmaStop c) s (fun t =>
      t.dev.dmaState c.val = s.dev.dmaState c.val ∧ (t.dev.dmaSt c.val).stopping = true)) ∧
    (s.dev.dmaState c.val ≠ dmaPaused → exec (.dmaResume c) s = .next (settle s [] s.dev)) ∧
    (s.dev.dmaState c.val = dmaPaused →
      ((s.dev.dmaDomains c.val).any s.dev.domainDown = true → Completes (.dmaResume c) s (fun t => StoredAt s t [] ∧
        t.dev.dmaState c.val = dmaIdle ∧ t.dev.getF (F.DMA_CHc_STAT_STATUS c.val) = 4)) ∧
      ((s.dev.dmaDomains c.val).any s.dev.domainDown = false → Completes (.dmaResume c) s (fun t =>
        t.dev.dmaState c.val = dmaRun ∧ t.dev.reg (A.DMA_CHc_DONE c.val) = s.dev.reg (A.DMA_CHc_DONE c.val)))) ∧
    (s.dev.dmaState c.val ≠ dmaRun → s.dev.dmaState c.val ≠ dmaDraining →
      (∀ ups, exec (.dmaBurstDone c ups) s = .next (settle s [] s.dev)) ∧
      (∀ tie, exec (.dmaWdogExpiry c tie) s = .next (settle s [] s.dev))) ∧
    (∀ x lo n, s.dev.dmaState c.val = dmaRun ∨ s.dev.dmaState c.val = dmaDraining → s.dev.xfer c.val = x →
      (s.dev.reg (A.DMA_CHc_DONE c.val)).toNat = lo → n = min 4096 (x.count - lo) → s.dev.memi.ecc = [] →
      (s.dev.dmaSt c.val).ue = false → (s.dev.dmaSt c.val).prot = false →
      (∀ ws : Writes,
        (x.mode = 0 ∧ ws = [(x.dst + lo, memRead s.mem (x.src + lo) n)] ∧ domainOf (x.dst + lo) = none ∧
            (domainOf (x.src + lo) = none ∨ domainOf (x.src + lo) = some 16)) ∨
          (x.mode = 1 ∧ (domainOf (x.src + lo) = none ∨ domainOf (x.src + lo) = some 16) ∧ n % x.esize = 0 ∧
            (∀ i, i < n / x.esize → domainOf (x.planeAddr x.dst (lo + i * x.esize)) = none) ∧
            ws = (List.range (n / x.esize)).map (fun i =>
              (x.planeAddr x.dst (lo + i * x.esize), memRead s.mem (x.src + lo + i * x.esize) x.esize))) ∨
          (x.mode = 2 ∧ domainOf (x.dst + lo) = none ∧
            (∀ i, i < n / x.esize → domainOf (x.planeAddr x.src (lo + i * x.esize)) = none) ∧
            ws = [(x.dst + lo, (List.range (n / x.esize)).flatMap (fun i =>
              memRead s.mem (x.planeAddr x.src (lo + i * x.esize)) x.esize))]) →
        Completes (.dmaBurstDone c []) s (fun t => StoredAt s t ws ∧
          (t.dev.reg (A.DMA_CHc_DONE c.val)).toNat = lo + n ∧
          (lo + n = x.count → t.dev.dmaState c.val = dmaIdle ∧ t.dev.getF (F.DMA_CHc_STAT_STATUS c.val) = 0 ∧
            (t.dev.getF F.DMA_INT_STAT_END).testBit c.val = true) ∧
          (lo + n ≠ x.count → (s.dev.dmaSt c.val).stopping = true → t.dev.dmaState c.val = dmaIdle ∧
            t.dev.getF (F.DMA_CHc_STAT_STATUS c.val) = 5 ∧ (t.dev.getF F.DMA_INT_STAT_END).testBit c.val = true) ∧
          (lo + n ≠ x.count → (s.dev.dmaSt c.val).stopping = false → s.dev.dmaState c.val = dmaDraining →
            t.dev.dmaState c.val = dmaPaused ∧ t.dev.getF (F.DMA_CHc_STAT_STATUS c.val) = 3) ∧
          (lo + n ≠ x.count → (s.dev.dmaSt c.val).stopping = false → s.dev.dmaState c.val = dmaRun →
            t.dev.dmaState c.val = dmaRun)))) ∧
    (∀ (ws : List Nat) (b j : Nat), b < 16 → j < 16 → ((bitFlip ws).getD b 0).testBit j = (ws.getD j 0).testBit b) ∧
    (s.dev.dmaState c.val = dmaRun ∨ s.dev.dmaState c.val = dmaDraining →
      (s.dev.getF (F.DMA_CHc_WDOG_US c.val) = 0 → ∀ tie, exec (.dmaWdogExpiry c tie) s = .next (settle s [] s.dev)) ∧
      (s.dev.getF (F.DMA_CHc_WDOG_US c.val) ≠ 0 →
        exec (.dmaWdogExpiry c true) s = .next (settle s [] (s.dev.count A.DMA_TIE)) ∧
        Completes (.dmaWdogExpiry c false) s (fun t => StoredAt s t [] ∧ t.dev.dmaState c.val = dmaIdle ∧
          t.dev.getF (F.DMA_CHc_STAT_STATUS c.val) = 6 ∧ (t.dev.getF F.DMA_INT_STAT_END).testBit c.val = true))) ∧
    (s.dev.dmaState c.val ≠ dmaDraining → ∀ tie, exec (.drainTimeout c tie) s = .next (settle s [] s.dev)) ∧
    (s.dev.dmaState c.val = dmaDraining →
      exec (.drainTimeout c true) s = .next (settle s [] (s.dev.count A.DMA_TIE)) ∧
      Completes (.drainTimeout c false) s (fun t => StoredAt s t [] ∧ t.dev.dmaState c.val = dmaIdle ∧
        t.dev.getF (F.DMA_CHc_STAT_STATUS c.val) = 4 ∧ t.dev.reg (A.DMA_CHc_DONE c.val) = s.dev.reg (A.DMA_CHc_DONE c.val))) ∧
    (∀ on : BitVec 16, Completes (.cluPwrWrite on) s (fun t => StoredAt s t [] ∧ ∀ k, k < 16 →
      (t.dev.getF F.MEMI_CLU_PWR_ON).testBit k = (on.toNat.testBit k ||
        ((s.dev.getF F.MEMI_CLU_PWR_ON).testBit k && (s.dev.cluState k == cluRun || s.dev.cluState k == cluLoading))) ∧
      ((s.dev.getF F.MEMI_CLU_PWR_ON).testBit k = true → (t.dev.getF F.MEMI_CLU_PWR_ON).testBit k = false →
        s.dev.dmaState c.val = dmaRun → (s.dev.dmaDomains c.val).contains (some k) = true →
        t.dev.dmaState c.val = dmaDraining))) ∧
    (s.dev.deepSleep = false → exec .hamperDeepSleep s = .next (settle s [] s.dev)) ∧
    (s.dev.deepSleep = true →
      (s.dev.dmaState c.val = dmaRun → (s.dev.dmaDomains c.val).contains (some 16) = true → Completes .hamperDeepSleep s (fun t =>
        t.dev.dmaState c.val = dmaDraining ∧ t.dev.memi.hamperSleep = s.dev.memi.hamperSleep)) ∧
      ((∀ k, k < 16 → (s.dev.dmaState k = dmaIdle ∨ s.dev.dmaState k = dmaPaused)) → Completes .hamperDeepSleep s (fun t =>
        t.dev.memi.hamperSleep = true ∧ StoredAt s t [])))

/-! Errors and observation, and the module's power (16_errors_observation.md, 17_module_power_bringup.md). -/

/-- Faults and the trace port (R487 to R490, R493, R494): a new hard fault latches its bit, enters SAFE with cause FAULT and is
recorded if it is the first; one already latched changes no register; the time base holds while its clock is lost; each bit of a
clearing write is handled on its own; and every millisecond the lanes asked for take a SYNC record each. -/
def Obligations.FaultsAndTrace : Prop :=
  ∀ s : State, s.dev.alive = true →
    (∀ b : Fin 6,
      ((s.dev.getF F.OBS_FAULT_STAT_HARD).testBit b.val = true → Completes (.hardFault b) s (fun t => RegsSame s.dev t.dev ∧
        t.dev.mod = s.dev.mod ∧ t.dev.obs.hardCond.testBit b.val = true)) ∧
      ((s.dev.getF F.OBS_FAULT_STAT_HARD).testBit b.val = false → Completes (.hardFault b) s (fun t => StoredAt s t [] ∧
        (t.dev.getF F.OBS_FAULT_STAT_HARD).testBit b.val = true ∧ t.dev.mod = .safe ∧
        (t.dev.reg A.SYS_SAFE_CAUSE).toNat.testBit 3 = true ∧ t.dev.obs.hardCond.testBit b.val = true ∧
        (s.dev.flag F.OBS_FIRST_INFO_VALID = true → t.dev.reg A.OBS_FIRST_INFO = s.dev.reg A.OBS_FIRST_INFO ∧
          t.dev.reg A.OBS_FIRST_NS = s.dev.reg A.OBS_FIRST_NS) ∧
        (s.dev.flag F.OBS_FIRST_INFO_VALID = false → t.dev.flag F.OBS_FIRST_INFO_VALID = true ∧
          t.dev.getF F.OBS_FIRST_INFO_STATE = s.dev.mod.code ∧ t.dev.getF F.OBS_FIRST_INFO_SRC = b.val ∧
          t.dev.reg A.OBS_FIRST_NS = BitVec.ofNat 32 s.dev.nowNs ∧
          t.dev.reg A.OBS_FIRST_SEC_LO = BitVec.ofNat 32 s.dev.nowSecLo))) ∧
      Completes (.hardFault b) s (fun t => t.dev.time = { s.dev.time with held := s.dev.time.held || b.val == 2 })) ∧
    Completes .tbPllRelock s (fun t => t.dev.time = { s.dev.time with held := false } ∧ RegsSame s.dev t.dev ∧
      t.dev.obs.hardCond.testBit 2 = false ∧ ∀ i, i ≠ 2 → t.dev.obs.hardCond.testBit i = s.dev.obs.hardCond.testBit i) ∧
    (∀ a v : BitVec 32,
      (a.toNat ≠ A.OBS_FAULT_STAT → a.toNat ≠ A.OBS_DEGR_STAT → exec (.faultClear a v) s = .next (settle s [] s.dev)) ∧
      (a.toNat = A.OBS_DEGR_STAT → Completes (.faultClear a v) s (fun t => StoredAt s t [] ∧
        (∀ i, i < 12 → (t.dev.getF F.OBS_DEGR_STAT_DEGR).testBit i =
          ((s.dev.getF F.OBS_DEGR_STAT_DEGR).testBit i && !(v.getLsbD i && !s.dev.degrCond i))) ∧
        ((∃ i, i < 12 ∧ (s.dev.getF F.OBS_DEGR_STAT_DEGR).testBit i = true ∧ v.getLsbD i = true ∧ s.dev.degrCond i = true) →
          Counted s.dev t.dev A.SYS_CMD_ERR 1) ∧
        ((∀ i, i < 12 → (s.dev.getF F.OBS_DEGR_STAT_DEGR).testBit i = true → v.getLsbD i = true → s.dev.degrCond i = false) →
          t.dev.reg A.SYS_CMD_ERR = s.dev.reg A.SYS_CMD_ERR))) ∧
      (a.toNat = A.OBS_FAULT_STAT → v = 4 → (s.dev.getF F.OBS_FAULT_STAT_HARD).testBit 2 = true →
        (s.dev.obs.hardCond.testBit 2 = true → exec (.faultClear a v) s = .next (settle s [] s.dev.cmdErr)) ∧
        (s.dev.obs.hardCond.testBit 2 = false → Completes (.faultClear a v) s (fun t => t.dev.mod = s.dev.mod ∧
          (∀ i, i < 6 → (t.dev.getF F.OBS_FAULT_STAT_HARD).testBit i =
            ((s.dev.getF F.OBS_FAULT_STAT_HARD).testBit i && i != 2)) ∧
          (s.dev.getF F.OBS_FAULT_STAT_HARD = 4 → t.dev.flag F.OBS_FIRST_INFO_VALID = false) ∧
          t.dev.reg A.SYS_CMD_ERR = s.dev.reg A.SYS_CMD_ERR)))) ∧
    Completes .traceSync s (fun t => t.dev.obs.lanes = s.dev.lanesAsked ∧ t.dev.obs.sent.length = 2 * s.dev.lanesAsked ∧
      (∀ b ∈ t.dev.obs.sent, b.toNat / 2 ^ 64 = 1) ∧ t.dev.mod = s.dev.mod ∧ StoredAt s t [])

/-- Input power, rails, resets and the boot loader (R428, R447, R506 to R512): a module that is OFF starts once VIN allows it; a
power-down loses everything but the fuses and the flash; a rail that fails brings SAFE with cause RAIL, and in time a power-down; PWR_GOOD
follows the rails and RESET_N, its first rise being the boot origin; a reset pulse resets all or nothing; and the boot loader
starts the slot of R428 or serves recovery. -/
def Obligations.PowerAndBoot : Prop :=
  ∀ s : State,
    (∀ c : Instr, (c = .vinUvRise ∧ s.dev.power.vinHigh = false) ∨ (c = .vinOvFall ∧ s.dev.power.vinLow = false) →
      s.dev.mod = .off → Completes c s (fun t => t.dev.mod = .boot ∧ t.dev.power.rails = 15 ∧ t.dev.power.booted = false ∧
        t.dev.power.pwrGood = false ∧ t.dev.power.vinLow = false ∧ t.dev.power.vinHigh = false ∧
        t.dev.fuse = s.dev.fuse ∧ t.dev.time = {} ∧ t.mem = s.mem ∧ ∀ a, t.dev.reg a = regReset a)) ∧
    (s.dev.mod ≠ .off ∨ s.dev.power.vinHigh = true → Completes .vinUvRise s (fun t => t.dev.mod = s.dev.mod ∧
      t.dev.power = { s.dev.power with vinLow := false } ∧ StoredAt s t [])) ∧
    (s.dev.mod ≠ .off ∨ s.dev.power.vinLow = true → Completes .vinOvFall s (fun t => t.dev.mod = s.dev.mod ∧
      t.dev.power = { s.dev.power with vinHigh := false } ∧ StoredAt s t [])) ∧
    (∀ c : Instr, c = .vinUvFall ∨ c = .vinOvRise ∨ (c = .railTimeout ∧ s.dev.mod ≠ .off ∧ s.dev.power.rails ≠ 15) →
      Completes c s (fun t => t.dev.mod = .off ∧ t.dev.power.rails = 0 ∧ t.dev.power.pwrGood = false ∧ t.mem = [] ∧
        t.dev.power.vinHigh = (s.dev.power.vinHigh || decide (c = .vinOvRise)) ∧
        t.dev.power.vinLow = (s.dev.power.vinLow || decide (c ≠ .vinOvRise)) ∧
        t.dev.fuse = s.dev.fuse ∧ t.dev.fw = bootFw s.dev.fw false ∧ ∀ a, t.dev.reg a = regReset a)) ∧
    (s.dev.mod = .off ∨ s.dev.power.rails = 15 → exec .railTimeout s = .next (settle s [] s.dev)) ∧
    (∀ r : Fin 4,
      (s.dev.mod = .off → exec (.railFault r) s = .next (settle s [] s.dev) ∧
        exec (.railRecovery r) s = .next (settle s [] s.dev)) ∧
      (s.dev.mod ≠ .off → Completes (.railFault r) s (fun t => t.dev.mod = .safe ∧ t.dev.power.rails.testBit r.val = false ∧
          t.dev.power.pwrGood = false ∧ (t.dev.reg A.SYS_SAFE_CAUSE).toNat.testBit 2 = true ∧
          t.dev.getF F.AUXD_STAT_HIZ_CAUSE = 2 ∧ StoredAt s t []) ∧
        Completes (.railRecovery r) s (fun t => t.dev.mod = s.dev.mod ∧
          t.dev.power.rails = setBitN s.dev.power.rails r.val true ∧
          t.dev.power.pwrGood = (s.dev.power.booted && s.dev.power.resetN && t.dev.power.rails == 15) ∧ StoredAt s t []))) ∧
    exec (.resetNFall .glitch) s = .next (settle s [] s.dev) ∧
    exec (.resetNFall (.between false)) s = .next (settle s [] s.dev) ∧
    exec (.resetNFall (.between true)) s = exec (.resetNFall .full) s ∧
    Completes (.resetNFall .full) s (fun t => t.dev.power.resetN = false ∧ t.dev.fuse = s.dev.fuse ∧
      (s.dev.mod = .off → t.dev.mod = .off ∧ StoredAt { s with mem := [] } t []) ∧
      (s.dev.mod ≠ .off → t.dev.mod = .boot ∧ t.mem = [] ∧ t.dev.power.rails = s.dev.power.rails ∧ t.dev.power.pwrGood = false ∧
        t.dev.power.booted = false ∧ t.dev.time = {} ∧ ∀ a, t.dev.reg a = regReset a)) ∧
    Completes .resetNRise s (fun t => t.dev.power = { s.dev.power with resetN := true } ∧ t.dev.mod = s.dev.mod ∧
      StoredAt s t []) ∧
    (∀ b : BootBist,
      (s.dev.mod = .off ∨ s.dev.power.rails ≠ 15 ∨ s.dev.power.resetN = false ∨ s.dev.power.pwrGood = true →
        exec (.pwrGoodRise b) s = .next (settle s [] s.dev)) ∧
      (s.dev.mod ≠ .off → s.dev.power.rails = 15 → s.dev.power.resetN = true → s.dev.power.pwrGood = false →
        (s.dev.power.booted = true → Completes (.pwrGoodRise b) s (fun t => t.dev.power.pwrGood = true ∧
          t.dev.mod = s.dev.mod ∧ RegsSame s.dev t.dev ∧ StoredAt s t [])) ∧
        (s.dev.power.booted = false → Completes (.pwrGoodRise b) s (fun t => t.dev.power.pwrGood = true ∧
          t.dev.power.booted = true ∧ t.dev.mod = s.dev.mod ∧ StoredAt { s with mem := [] } t [] ∧
          t.dev.fuse = (checkPairs s.dev.fuse).1 ∧ t.dev.lcs.trans = (checkPairs s.dev.fuse).2.1 ∧
          (b.faults = [] → t.dev.getF F.BIST_SPARE_ROWS_FREE =
            1024 - (s.dev.fuse.rows.map (·.2)).foldl (· + ·) 0) ∧
          (∀ k n, b.faults = [(k, n)] → t.dev.rowsUsed k.val = s.dev.rowsUsed k.val + min n (8 - s.dev.rowsUsed k.val)))))) ∧
    (∀ img : BootImages, s.dev.alive = true →
      (s.dev.fw.running = true ∨ s.dev.fw.loader = true ∨ s.dev.fw.recovery = true ∨ s.dev.power.booted = false ∨ img.loader = none →
        exec (.bootLoaderStart img) s = .next (settle s [] s.dev)) ∧
      (∀ m pref a b one, s.dev.fw.running = false → s.dev.fw.loader = false → s.dev.fw.recovery = false → s.dev.power.booted = true →
        img.loader = some m → pref = img.pref.getD false →
        a = (if pref then img.slotB else img.slotA).filter s.dev.imageOk →
        b = (if pref then img.slotA else img.slotB).filter s.dev.imageOk →
        one = (decide (3 ≤ s.dev.getF F.SYS_BOOT_ATTEMPTS) || s.dev.fw.rebootOther) →
        (a = none → b = none → Completes (.bootLoaderStart img) s (fun t => t.dev.fw.recovery = true ∧ t.dev.fw.loader = false ∧
          t.dev.flag (F.MBOX_m_CTRL_EN 1) = true ∧ t.dev.mod = s.dev.mod)) ∧
        (∀ i, (one = false ∧ a = some i) ∨ (one = true ∧ b = none ∧ a = some i) → Completes (.bootLoaderStart img) s (fun t =>
          t.dev.fw.loader = true ∧ t.dev.flag F.LCS_CTRL_LOCK = true ∧ t.dev.flag F.SYS_BOOT_SLOT_RUN = pref ∧
          t.dev.flag F.SYS_BOOT_FALLBACK = false ∧ t.dev.getF F.SYS_BOOT_CAUSE = (if one then 1 else 0) ∧
          t.dev.reg A.LCS_RT_VER = i.version ∧ t.dev.fw.runOwner = i.owner ∧ t.dev.fw.runSvn = i.svn ∧
          (∀ k, k < 12 → t.dev.reg (A.LCS_MEAS_RT_i k) = BitVec.ofNat 32 (leAt i.digest (4 * k) 4) ∧
            t.dev.reg (A.LCS_MEAS_BL_i k) = BitVec.ofNat 32 (leAt m (4 * k) 4)))) ∧
        (∀ i, (one = true ∧ b = some i) ∨ (one = false ∧ a = none ∧ b = some i) → Completes (.bootLoaderStart img) s (fun t =>
          t.dev.fw.loader = true ∧ t.dev.flag F.LCS_CTRL_LOCK = true ∧ t.dev.flag F.SYS_BOOT_SLOT_RUN = !pref ∧
          t.dev.flag F.SYS_BOOT_FALLBACK = true ∧ t.dev.reg A.LCS_RT_VER = i.version ∧
          t.dev.getF F.SYS_BOOT_CAUSE = (if 3 ≤ s.dev.getF F.SYS_BOOT_ATTEMPTS then 2 else if one then 0 else 1)))))

/-! Mailbox commands of the system, thermal, security, memory and observation classes. -/

/-- The system, thermal and security commands (R398, R433, R446, R455, R205): each, with fields in their ranges and where nothing
stands against it, is answered as its table says and has its effect. -/
def Obligations.SystemCommands : Prop :=
  ∀ (s : State) (h : CmdHdr) (pl : List Byte),
    (∀ z, CmdOk s h 0x8001 pl → pl.length = 12 → byteAt pl 0 = z → z ≤ 6 → byteAt pl 1 ≤ 1 → byteAt pl 5 ≤ 15 → byteAt pl 6 ≤ 15 →
      byteAt pl 7 ≤ 15 → byteAt pl 8 ≤ 31 → byteAt pl 9 ≤ 31 → 10 ≤ leAt pl 10 2 → leAt pl 10 2 ≤ 1000 → leAt pl 10 2 % 10 = 0 →
      s.dev.throtOk z (byteAt pl 3) = true → s.dev.shutOk z (byteAt pl 4) = true →
      Answers (.thermCfg h pl) s h 0x8001 [] (fun t => t.dev.getF (F.THRM_Zz_CFG_WARN z) = byteAt pl 2 ∧
        t.dev.getF (F.THRM_Zz_CFG_THROT z) = byteAt pl 3 ∧ t.dev.getF (F.THRM_Zz_CFG_SHUT z) = byteAt pl 4 ∧
        10 * t.dev.getF (F.THRM_Zz_CFG_GRACE z) = leAt pl 10 2 ∧ t.dev.getF (F.THRM_Zz_HYS_HYS_W z) = byteAt pl 5 ∧
        t.dev.getF (F.THRM_Zz_HYS_HYS_T z) = byteAt pl 6 ∧ t.dev.getF (F.THRM_Zz_HYS_HYS_S z) = byteAt pl 7 ∧
        t.dev.getF (F.THRM_Zz_HYS_DWELL z) = byteAt pl 8 ∧ t.dev.getF (F.THRM_Zz_HYS_OFFSET z) = byteAt pl 9 ∧
        (t.dev.getF F.THRM_CTRL_ASK).testBit z = (byteAt pl 1 == 1) ∧
        ∀ y, y ≤ 6 → y ≠ z → t.dev.reg (A.THRM_Zz_CFG y) = s.dev.reg (A.THRM_Zz_CFG y) ∧
          (t.dev.getF F.THRM_CTRL_ASK).testBit y = (s.dev.getF F.THRM_CTRL_ASK).testBit y)) ∧
    (CmdOk s h 0x8002 pl → pl.length = 32 → s.dev.anyShed = false → (∀ b ∈ pl, b.toNat < 64) →
      (∀ i, i < 16 → byteAt pl (2 * i) ≠ byteAt pl (2 * i + 1) ∧ byteAt pl (2 * i) / 16 = byteAt pl (2 * i + 1) / 16) →
      (∀ i j, i < 32 → j < 32 → i / 2 ≠ j / 2 → byteAt pl i ≠ byteAt pl j) →
      Answers (.shedOrder h pl) s h 0x8002 [] (fun t => ∀ i, i < 16 →
        t.dev.getF (F.THRM_SHEDi_PATH_A i) = byteAt pl (2 * i) ∧ t.dev.getF (F.THRM_SHEDi_PATH_B i) = byteAt pl (2 * i + 1))) ∧
    (CmdOk s h 0x8003 pl → pl.length = 16 → ∃ t, exec (.sensClear h pl) s = .next t ∧
      Answered s t h 0x8003 0 (leBytes 16 (maskOf ((List.range 124).filter (fun n => t.dev.flag (F.THRM_Ss_FAILED n))))) ∧
      ∀ n, n < 124 → t.dev.flag (F.THRM_Ss_FAILED n) = (s.dev.flag (F.THRM_Ss_FAILED n) &&
        !((leAt pl 0 16).testBit n && decide ((s.dev.sens n).good = 64)))) ∧
    (CmdOk s h 0x8004 pl → pl.length = 4 →
      RunsTo (.pwrCfg h pl) s h 0x8004 [] (s.dev.setF F.PWR_LIMIT_PLIM_W (byteAt pl 0))) ∧
    (CmdOk s h 0x8005 pl → pl = [] → Answers (.thermStat h pl) s h 0x8005
      ((List.range 7).flatMap (fun z => s.dev.liveBytes (A.THRM_Zz_CFG z) 3) ++ s.dev.liveBytes (A.THRM_Ss 0) 124 ++
        s.dev.liveBytes A.PWR_VIN 3) (fun t => ∀ a, ¬ mailReg a → t.dev.reg a = (if a ∈ [A.THRM_TIE, A.THRM_SENS_FAIL_CNT,
          A.THRM_STEP_CNT, A.THRM_SHUT_CNT, A.THRM_CMD_ERR, A.PWR_LIM_CNT] then 0 else s.dev.reg a))) ∧
    (CmdOk s h 0x0001 pl → pl = [] → RunsTo (.sysInfo h pl) s h 0x0001 (word4 (s.dev.live A.SYS_ID) ++
      word4 (s.dev.live A.SYS_BOOT) ++ word4 (s.dev.live A.LCS_RT_VER) ++ word4 (s.dev.live A.SYS_FUNC_READY)) s.dev) ∧
    (CmdOk s h 0x0002 pl → pl.length = 4 →
      (byteAt pl 0 = 2 → s.dev.mod = .ready ∨ s.dev.mod = .active ∨ (s.dev.mod = .safe ∧ s.dev.reg A.SYS_SAFE_CAUSE = 0) →
        Answers (.sysStateSet h pl) s h 0x0002 [] (fun t => t.dev.mod = .standby)) ∧
      (byteAt pl 0 = 3 → s.dev.mod = .standby ∨ s.dev.mod = .active → s.dev.missingForReady = 0 →
        Answers (.sysStateSet h pl) s h 0x0002 [] (fun t => t.dev.mod = .ready)) ∧
      (byteAt pl 0 = 4 → s.dev.mod = .ready → s.dev.flag F.FHP_CTRL_DL_EN = true → s.dev.flag F.SYS_STATE_ACT_PEND = false →
        Pends (.sysStateSet h pl) s h 0x0002 (fun t => t.dev.mod = .ready ∧ t.dev.flag F.SYS_STATE_ACT_PEND = true ∧
          t.dev.flag F.BEAM_CTRL_DL_EN = true ∧ t.dev.flag F.BEAM_CTRL_UL_EN = true)) ∧
      (byteAt pl 0 = 5 → Answers (.sysStateSet h pl) s h 0x0002 [] (fun t => t.dev.mod = .safe ∧
        (t.dev.reg A.SYS_SAFE_CAUSE).toNat.testBit 4 = true))) ∧
    (CmdOk s h 0x0003 pl → pl.length = 4 → RunsTo (.safeClear h pl) s h 0x0003
      (word4 ((s.dev.safeCauseClear (byteAt pl 0)).reg A.SYS_SAFE_CAUSE)) (s.dev.safeCauseClear (byteAt pl 0))) ∧
    (CmdOk s h 0x0004 pl → pl.length = 4 → RunsTo (.sysReboot h pl) s h 0x0004 []
      (s.dev.modFw (fun f => { f with rebootDue := true, rebootOther := (byteAt pl 0).testBit 0 }))) ∧
    (∀ p, CmdOk s h 0x0005 pl → pl.length = 4 → leAt pl 0 2 = p → (10 ≤ p ∧ p ≤ 10000) ∨ (p = 0 ∧ s.dev.lcOpen = true) →
      (s.dev.flag F.SYS_WDOG_CFG_LOCK = false → Answers (.wdogCfg h pl) s h 0x0005 [] (fun t =>
        t.dev.getF F.SYS_WDOG_CFG_PERIOD = p ∧ t.dev.flag F.SYS_WDOG_CFG_LOCK = (byteAt pl 2).testBit 0 ∧
        (p ≠ s.dev.getF F.SYS_WDOG_CFG_PERIOD → t.dev.power.wdogWarned = false))) ∧
      (s.dev.flag F.SYS_WDOG_CFG_LOCK = true → p = s.dev.getF F.SYS_WDOG_CFG_PERIOD →
        RunsTo (.wdogCfg h pl) s h 0x0005 [] s.dev)) ∧
    (∀ (c : Instr) (opcode op : Nat) (j : EngJob),
      (c = .fwStage h pl ∧ opcode = 0x0010 ∧ op = 0 ∧ s.dev.pendingFor 0x0010 = []) ∨ (c = .lcAuth h pl ∧ opcode = 0xA003 ∧ op = 2) →
      CmdOk s h opcode pl → pl.length = 8 → leAt pl 0 4 % 64 = 0 → leAt pl 4 4 ≠ 0 →
      leAt pl 0 4 + leAt pl 4 4 ≤ s.dev.regionSize 4 → j = ⟨op, s.dev.regionBase 4 + leAt pl 0 4, leAt pl 4 4, opcode⟩ →
      Pends c s h opcode (fun t =>
        (s.dev.flag F.LCS_VCTRL_BUSY = false → s.dev.lcs.queue = [] → t.dev.lcs.job = some j ∧ t.dev.lcs.outcome = none ∧
          t.dev.flag F.LCS_VCTRL_BUSY = true) ∧
        (s.dev.flag F.LCS_VCTRL_BUSY = true → t.dev.lcs.job = s.dev.lcs.job ∧ t.dev.lcs.queue = s.dev.lcs.queue ++ [j]))) ∧
    (CmdOk s h 0x0011 pl → pl.length = 4 → byteAt pl 0 ≤ 1 → (s.dev.fw.slot (byteAt pl 0)).verified ≠ none →
      Answers (.fwActivate h pl) s h 0x0011 [] (fun t => t.dev.flag F.SYS_BOOT_SLOT_PREF = (byteAt pl 0 == 1) ∧
        t.dev.fw.slotPref = (byteAt pl 0 == 1) ∧ t.dev.getF F.SYS_BOOT_SLOT_RUN = s.dev.getF F.SYS_BOOT_SLOT_RUN ∧
        t.dev.fw.slotA = s.dev.fw.slotA ∧ t.dev.fw.slotB = s.dev.fw.slotB)) ∧
    (CmdOk s h 0x0012 pl → pl = [] → RunsTo (.fwStat h pl) s h 0x0012
      (le4 (s.dev.fw.slotA.verified.getD 0) ++ le4 (b2n s.dev.fw.slotA.verified.isSome) ++
        (le4 (s.dev.fw.slotB.verified.getD 0) ++ le4 (b2n s.dev.fw.slotB.verified.isSome))) s.dev) ∧
    (∀ g mode mask, CmdOk s h 0x0020 pl → pl.length = 24 → byteAt pl 0 = g → byteAt pl 1 = mode → leAt pl 4 20 = mask →
      s.dev.lcOpen = true → loopOk g mode (byteAt pl 2) = true → mask < 2 ^ loopLands g →
      ∃ t data, exec (.pinLoopback h pl) s = .next t ∧ Answered s t h 0x0020 0 data ∧ s.dev.MailSame t.dev ∧
        data.length = (if mode = 2 ∨ g = 6 then 20 + 2 * popc 160 mask else 20) ∧
        Nat.land (leNat (data.take 20)) mask = leNat (data.take 20)) ∧
    (CmdOk s h 0xA001 pl → pl = [] → RunsTo (.lcStat h pl) s h 0xA001 (s.dev.liveBytes A.LCS_STATE 1 ++
      s.dev.liveBytes (A.LCS_DEVID_i 0) 4 ++ s.dev.liveBytes A.LCS_SVN 1 ++ s.dev.liveBytes (A.LCS_MEAS_BL_i 0) 12 ++
      s.dev.liveBytes (A.LCS_MEAS_RT_i 0) 12 ++ s.dev.liveBytes A.LCS_RT_VER 1 ++ (List.range 432).map Config.deviceKey) s.dev) ∧
    (CmdOk s h 0xA002 pl → pl = [] → RunsTo (.lcNonce h pl) s h 0xA002 (s.dev.liveBytes (A.LCS_NONCE_i 0) 4) s.dev) ∧
    (∀ i, CmdOk s h 0xA004 pl → pl.length = 52 → byteAt pl 0 = i → i ≤ 3 → s.dev.lc = .ownerOpen →
      (s.dev.fuse.owner.getD i {}).empty = true → RunsTo (.ownerKeySet h pl) s h 0xA004 [] (s.dev.modFuse (fun f => { f with
        owner := modSlot f.owner i (fun k => { k with hash := pl.drop 4, valid := true }) }))) ∧
    (∀ a, CmdOk s h 0xA005 pl → pl.length = 32 → s.dev.pendingFor 0xA005 = [] →
      a = s.dev.regionBase 4 + Config.attestOffset % ((s.dev.regionSize 4 - 17328) / 64) * 64 →
      Pends (.attest h pl) s h 0xA005 (fun t => StoredAt s t [(a + 24, pl)] ∧
        (s.dev.flag F.LCS_VCTRL_BUSY = false → s.dev.lcs.queue = [] → t.dev.lcs.job = some ⟨3, a, 17328, 0xA005⟩) ∧
        (s.dev.flag F.LCS_VCTRL_BUSY = true → t.dev.lcs.queue = s.dev.lcs.queue ++ [⟨3, a, 17328, 0xA005⟩]))) ∧
    (CmdOk s h 0xA006 pl → pl = [] → s.dev.lc = .ownerOpen ∨ s.dev.lc = .field → s.dev.flag F.SYS_BOOT_CONFIRM = true →
      ∃ t, exec (.svnCommit h pl) s = .next t ∧ Answered s t h 0xA006 0 (word4 (t.dev.live A.LCS_SVN)) ∧
        (s.dev.fw.runOwner = true → t.dev.fuse = { s.dev.fuse with svnOwner := max s.dev.fuse.svnOwner (min 32 s.dev.fw.runSvn) }) ∧
        (s.dev.fw.runOwner = false →
          t.dev.fuse = { s.dev.fuse with svnVendor := max s.dev.fuse.svnVendor (min 32 s.dev.fw.runSvn) })) ∧
    (∀ id a, CmdOk s h 0x3060 pl → pl.length = 12 → leAt pl 0 4 = id → id ≠ 0 → leAt pl 4 4 % 32 = 0 → leAt pl 8 4 ≠ 0 →
      leAt pl 4 4 + leAt pl 8 4 ≤ s.dev.regionSize 4 → a = s.dev.regionBase 4 + leAt pl 4 4 → memNat s.mem (a + 8) 4 = id →
      s.dev.kernelAssigned id = false → Waits (.kernelAdd h pl) s h 0x3060 [id] (fun t => StoredAt s t [] ∧
        (s.dev.flag F.LCS_VCTRL_BUSY = false → s.dev.lcs.queue = [] → t.dev.lcs.job = some ⟨1, a, leAt pl 8 4, 0x3060⟩) ∧
        (s.dev.flag F.LCS_VCTRL_BUSY = true → t.dev.lcs.queue = s.dev.lcs.queue ++ [⟨1, a, leAt pl 8 4, 0x3060⟩])))

/-- The memory, self-test and observation commands (R458, R475, R481, R498): each, with fields in their ranges and where nothing
stands against it, is answered as its table says and has its effect. -/
def Obligations.MemoryCommands : Prop :=
  ∀ (s : State) (h : CmdHdr) (pl : List Byte),
    (∀ l, CmdOk s h 0x9001 pl → pl.length = 20 → l = (List.range 5).map (fun r => leAt pl (4 * r) 4) → sizesOk l = true →
      (∀ r, r < 5 → s.dev.regionFits r (l.getD r 0) = true) → Answers (.memPartition h pl) s h 0x9001 [] (fun t =>
        t.dev.memi.sizes = l ∧ (∀ u, u < 512 → t.dev.flag (F.BEAM_UCn_STAT_VALID u) = false) ∧
        ∀ n, n < 64 → t.dev.flag (F.BEAM_WSn_CFG_USED n) = false)) ∧
    (∀ r n, CmdOk s h 0x9002 pl → pl.length = 12 → (byteAt pl 0 = 0 ∧ r = 4) ∨ (byteAt pl 0 = 1 ∧ r = 3) ∨ (byteAt pl 0 = 2 ∧ r = 5) →
      leAt pl 8 4 = n → n ≠ 0 → n ≤ 0x1000000 → leAt pl 4 4 + n ≤ s.dev.regionSize r → s.dev.pendingFor 0x9002 = [] →
      s.dev.memi.ecc = [] → Pends (.memRead h pl) s h 0x9002 (fun t => StoredAt s t [] ∧
        ∀ x, s.dev.upstream = some x → ((t.dev.port x).vc vcB).txq = ((s.dev.port x).vc vcB).txq ++
          (readPackets (leAt pl 2 2) (n / 16352 + 1) 0 (memRead s.mem (s.dev.regionBase r + leAt pl 4 4) n)).map
            (fun b => { vc := vcB, mod := s.dev.getF F.FHP_CTRL_POS, kind := 4, payload := b }))) ∧
    (∀ n es, CmdOk s h 0x9003 pl → pl.length = 4 → byteAt pl 0 = n → 1 ≤ n → n ≤ 64 → es = s.dev.memi.log.take n →
      RunsTo (.memLog h pl) s h 0x9003 (leBytes 1 es.length ++ [0, 0, 0] ++ es.flatMap (fun e => e.words.flatMap word4))
        (s.dev.modMemi (fun m => { m with log := m.log.drop n }))) ∧
    (∀ p, CmdOk s h 0x9004 pl → pl.length = 4 → leAt pl 0 2 = p → p < 32768 → s.dev.retired.contains p = false →
      s.dev.getF (spareF (pageDie p)) ≠ 0 → s.dev.memi.retiring = none → Pends (.pageRetire h pl) s h 0x9004 (fun t =>
        t.dev.memi.retiring = some p ∧ t.dev.flag F.MEMI_STAT_RETIRING = true)) ∧
    (CmdOk s h 0x9010 pl → pl.length = 4 →
      ((byteAt pl 2).testBit 0 = false → RunsTo (.bistCfg h pl) s h 0x9010 [] (s.dev.modFw (fun f => { f with
        bistPace := leAt pl 0 2 }))) ∧
      ((byteAt pl 2).testBit 0 = true → Answers (.bistCfg h pl) s h 0x9010 [] (fun t => t.dev.fw.bistPace = leAt pl 0 2 ∧
        t.dev.fw.bistNext = (if s.dev.flag F.BIST_STAT_BUSY then 0 else 1) ∧
        (s.dev.flag F.BIST_STAT_BUSY = false → t.dev.getF F.BIST_STAT_SLICE = 0 ∧
          t.dev.flag F.BIST_STAT_BUSY = !(s.dev.getF F.BIST_STAT_NO_SPARE).testBit 0)))) ∧
    (CmdOk s h 0x9011 pl → pl = [] → Answers (.bistStat h pl) s h 0x9011
      (s.dev.liveBytes A.BIST_ID 15 ++ s.dev.liveBytes A.MEMI_CE_CNT 7) (fun t => ∀ a, ¬ mailReg a → t.dev.reg a =
        (if a ∈ [A.BIST_REPAIR_CNT, A.BIST_CMD_ERR, A.MEMI_CE_CNT, A.MEMI_UE_CNT, A.MEMI_ADDR_CNT, A.MEMI_LOG_LOST,
          A.MEMI_SCRUB_PASS, A.MEMI_BULK_ERR, A.MEMI_CMD_ERR] then 0 else s.dev.reg a))) ∧
    (CmdOk s h 0x9012 pl → pl = [] → s.dev.lcOpen = true → RunsTo (.fuseRepair h pl) s h 0x9012
      (le4 ((s.dev.memi.bist.softRows.map (·.2)).foldl (· + ·) 0)) s.dev.fuseCommit) ∧
    (CmdOk s h 0x9013 pl → pl.length = 4 → s.dev.ttProgrammed 45 = true → byteAt pl 0 ≤ 31 →
      s.dev.flag F.BIST_LB_CTRL_BUSY = false → s.dev.flag F.CAL_RECIP_CFG_BUSY = false →
      Pends (.loopback h pl) s h 0x9013 (fun t => t.dev.flag F.BIST_LB_CTRL_BUSY = true ∧
        t.dev.getF F.BIST_LB_CTRL_LB_TOL = byteAt pl 0)) ∧
    (CmdOk s h 0xB002 pl → pl = [] → RunsTo (.obsFaults h pl) s h 0xB002
      (s.dev.regsBytes A.OBS_FAULT_STAT 2 ++ s.dev.regsBytes A.OBS_FIRST_INFO 3) s.dev) ∧
    (CmdOk s h 0xB003 pl → pl.length = 8 → ∃ t, exec (.obsFaultClear h pl) s = .next t ∧
      Answered s t h 0xB003 0 (t.dev.regsBytes A.OBS_FAULT_STAT 2) ∧ ∀ i, i < 12 →
        (t.dev.getF F.OBS_DEGR_STAT_DEGR).testBit i =
          ((s.dev.getF F.OBS_DEGR_STAT_DEGR).testBit i && !((leAt pl 4 4).testBit i && !s.dev.degrCond i))) ∧
    (CmdOk s h 0xB004 pl → pl.length = 4 → leAt pl 0 4 < 4096 →
      RunsTo (.faultnCfg h pl) s h 0xB004 [] (s.dev.setF F.OBS_FAULTN_MASK_MASK (leAt pl 0 4))) ∧
    (∀ l, CmdOk s h 0xB005 pl → pl.length = 16 → byteAt pl 0 = l → l = 0 ∨ l = 1 ∨ l = 2 ∨ l = 4 → leAt pl 4 4 < 1024 →
      leAt pl 8 4 % 4 = 0 → s.dev.devAccess = true → Answers (.traceCfg h pl) s h 0xB005 [] (fun t =>
        t.dev.getF F.OBS_TRC_CTRL_LANES = l ∧ t.dev.getF F.OBS_TRC_SRC_EN = leAt pl 4 4 ∧
        (t.dev.reg A.OBS_WATCH_BASE).toNat = leAt pl 8 4 ∧ (t.dev.reg A.OBS_WATCH_LEN).toNat = leAt pl 12 4 ∧
        t.dev.obs.lanes = s.dev.obs.lanes))

/-- No command but those of `storingRow` stores a byte anywhere except the frames of the mailboxes in the slots of their
rings (R421): every other byte of the memories reads as before. -/
def Obligations.OtherCommandsStoreNothing : Prop :=
  ∀ (c : Instr) (s t : State), storingRow c = false → exec c s = .next t → StoredAt s t []

/-- An event of one unit leaves the other units as they were: of the block's parts, it changes at most those that `footprint`
gives it. -/
def Obligations.EventsKeepOtherUnits : Prop :=
  ∀ (c : Instr) (ps : List Part) (s t : State), footprint c = some ps → exec c s = .next t →
    ∀ p, p ∉ ps → s.dev.SamePart t.dev p
end

