-- ==== Sys2Proof/Laws/Tab.lean ====
section
/-! SUPPORT. The laws of sparse tables: what a key reads as after a write, that writes keep the canonical form, and that
two tables in canonical form that read alike are equal. -/

namespace Sys2Proof.Machine

variable {β : Type}

@[simp] theorem Tab.get_nil (d : Nat → β) (k : Nat) : Tab.get d k [] = d k := rfl

/-- Dropping the entries whose keys fail a test: those keys read as unlisted, the others as before. -/
theorem Tab.get_filter_key (d : Nat → β) (q : Nat → Bool) (j : Nat) (t : Tab β) :
    Tab.get d j (t.filter (fun c => q c.1)) = if q j then Tab.get d j t else d j := by
  induction t with
  | nil => simp
  | cons e t ih =>
    obtain ⟨k, v⟩ := e
    by_cases hq : q k = true
    · rw [List.filter_cons_of_pos (by simpa using hq), Tab.get, Tab.get, ih]
      by_cases h2 : j = k
      · subst h2; simp [hq]
      · simp [h2]
    · rw [List.filter_cons_of_neg (by simpa using hq), ih, Tab.get]
      by_cases h2 : j = k
      · subst h2; simp [hq]
      · simp [h2]

/-- An entry put reads back; the other keys read as before. -/
theorem Tab.get_put (d : Nat → β) (k : Nat) (v : β) (j : Nat) (t : Tab β) :
    Tab.get d j (Tab.put k v t) = if j = k then v else Tab.get d j t := by
  induction t with
  | nil => rfl
  | cons e t ih =>
    obtain ⟨k', w⟩ := e
    unfold Tab.put
    split
    · rw [Tab.get]
    · split
      · rename_i h; subst h
        rw [Tab.get, Tab.get]
        by_cases hj : j = k <;> simp [hj]
      · rename_i h1 h2
        rw [Tab.get, Tab.get, ih]
        by_cases hj : j = k
        · subst hj; simp [h2]
        · simp [hj]

/-- What a table reads as after a write. -/
theorem Tab.get_set [DecidableEq β] (d : Nat → β) (k : Nat) (v : β) (j : Nat) (t : Tab β) :
    Tab.get d j (Tab.set d k v t) = if j = k then v else Tab.get d j t := by
  unfold Tab.set
  split
  · rename_i hv
    rw [Tab.get_filter_key d (fun i => i != k)]
    by_cases hj : j = k
    · subst hj; simp [hv]
    · simp [hj]
  · exact Tab.get_put d k v j t

/-- A key just written reads as it was written. -/
@[simp] theorem Tab.get_set_self [DecidableEq β] (d : Nat → β) (k : Nat) (v : β) (t : Tab β) :
    Tab.get d k (Tab.set d k v t) = v := by rw [Tab.get_set, if_pos rfl]

/-- A key that was not written reads as before. -/
theorem Tab.get_set_ne [DecidableEq β] (d : Nat → β) {k j : Nat} (v : β) (t : Tab β) (hj : j ≠ k) :
    Tab.get d j (Tab.set d k v t) = Tab.get d j t := by rw [Tab.get_set, if_neg hj]

/-- A canonical table stays canonical above a lower bound. -/
theorem Tab.wfFrom_mono [DecidableEq β] {d : Nat → β} {l l' : Nat} {t : Tab β} (h : Tab.wfFrom d (some l) t = true)
    (hl : l' ≤ l) : Tab.wfFrom d (some l') t = true := by
  cases t with
  | nil => rfl
  | cons e t =>
    obtain ⟨k, v⟩ := e
    simp only [Tab.wfFrom, Bool.and_eq_true, decide_eq_true_eq] at h ⊢
    exact ⟨⟨by omega, h.1.2⟩, h.2⟩

/-- A canonical table stays canonical when its bound is dropped. -/
theorem Tab.wfFrom_none [DecidableEq β] {d : Nat → β} {o : Option Nat} {t : Tab β} (h : Tab.wfFrom d o t = true) :
    Tab.wfFrom d none t = true := by
  cases t with
  | nil => rfl
  | cons e t =>
    obtain ⟨k, v⟩ := e
    simp only [Tab.wfFrom, Bool.and_eq_true] at h ⊢
    exact ⟨⟨trivial, h.1.2⟩, h.2⟩

/-- A key at or below the bound of a canonical table is unlisted. -/
theorem Tab.get_of_le [DecidableEq β] {d : Nat → β} {l k : Nat} {t : Tab β} (h : Tab.wfFrom d (some l) t = true)
    (hk : k ≤ l) : Tab.get d k t = d k := by
  induction t generalizing l with
  | nil => rfl
  | cons e t ih =>
    obtain ⟨k', v⟩ := e
    simp only [Tab.wfFrom, Bool.and_eq_true, decide_eq_true_eq] at h
    rw [Tab.get, if_neg (by omega), ih h.2 (by omega)]

/-- Putting an entry that is no default keeps a table canonical above a bound below the key. -/
theorem Tab.wfFrom_put [DecidableEq β] (d : Nat → β) (k : Nat) (v : β) (hv : v ≠ d k) (t : Tab β) (o : Option Nat)
    (ho : ∀ l, o = some l → l < k) (h : Tab.wfFrom d o t = true) : Tab.wfFrom d o (Tab.put k v t) = true := by
  induction t generalizing o with
  | nil =>
    cases o with
    | none => simp [Tab.put, Tab.wfFrom, hv]
    | some l => simp [Tab.put, Tab.wfFrom, hv, ho l rfl]
  | cons e t ih =>
    obtain ⟨k', w⟩ := e
    simp only [Tab.wfFrom, Bool.and_eq_true, decide_eq_true_eq] at h
    unfold Tab.put
    split
    · rename_i hk
      simp only [Tab.wfFrom, Bool.and_eq_true, decide_eq_true_eq]
      refine ⟨⟨?_, hv⟩, ⟨hk, h.1.2⟩, h.2⟩
      cases o with
      | none => rfl
      | some l => simpa using ho l rfl
    · split
      · rename_i hk hk2
        subst hk2
        simp only [Tab.wfFrom, Bool.and_eq_true, decide_eq_true_eq]
        exact ⟨⟨h.1.1, hv⟩, h.2⟩
      · rename_i hk hk2
        simp only [Tab.wfFrom, Bool.and_eq_true, decide_eq_true_eq]
        refine ⟨⟨h.1.1, h.1.2⟩, ih (some k') ?_ h.2⟩
        intro l hl
        cases hl
        omega

/-- Dropping entries keeps a table canonical above its bound. -/
theorem Tab.wfFrom_filter [DecidableEq β] (d : Nat → β) (p : Nat × β → Bool) (t : Tab β) (o : Option Nat)
    (h : Tab.wfFrom d o t = true) : Tab.wfFrom d o (t.filter p) = true := by
  induction t generalizing o with
  | nil => rfl
  | cons e t ih =>
    obtain ⟨k, v⟩ := e
    simp only [Tab.wfFrom, Bool.and_eq_true, decide_eq_true_eq] at h
    by_cases hp : p (k, v) = true
    · rw [List.filter_cons_of_pos hp]
      simp only [Tab.wfFrom, Bool.and_eq_true, decide_eq_true_eq]
      exact ⟨h.1, ih (some k) h.2⟩
    · rw [List.filter_cons_of_neg hp]
      cases o with
      | none => exact ih none (Tab.wfFrom_none h.2)
      | some l =>
        refine ih (some l) (Tab.wfFrom_mono h.2 ?_)
        have := h.1.1
        simp only [decide_eq_true_eq] at this
        omega

/-- Dropping entries keeps a table canonical. -/
theorem Tab.wf_filter [DecidableEq β] (d : Nat → β) (p : Nat × β → Bool) {t : Tab β} (h : Tab.wf d t = true) :
    Tab.wf d (t.filter p) = true := Tab.wfFrom_filter d p t none h

/-- Writing keeps a table canonical. -/
theorem Tab.wf_set [DecidableEq β] (d : Nat → β) (k : Nat) (v : β) {t : Tab β} (h : Tab.wf d t = true) :
    Tab.wf d (Tab.set d k v t) = true := by
  unfold Tab.set
  split
  · exact Tab.wf_filter d _ h
  · rename_i hv
    exact Tab.wfFrom_put d k v hv t none (fun _ hl => by cases hl) h

/-- Tables in canonical form that read alike at every key are the same table. -/
theorem Tab.ext_from [DecidableEq β] (d : Nat → β) (t u : Tab β) (o o' : Option Nat) (ht : Tab.wfFrom d o t = true)
    (hu : Tab.wfFrom d o' u = true) (h : ∀ k, Tab.get d k t = Tab.get d k u) : t = u := by
  induction t generalizing u o o' with
  | nil =>
    cases u with
    | nil => rfl
    | cons e u =>
      obtain ⟨k, v⟩ := e
      simp only [Tab.wfFrom, Bool.and_eq_true, decide_eq_true_eq] at hu
      have := h k
      simp [Tab.get] at this
      exact absurd this.symm hu.1.2
  | cons e t ih =>
    obtain ⟨k, v⟩ := e
    simp only [Tab.wfFrom, Bool.and_eq_true, decide_eq_true_eq] at ht
    cases u with
    | nil =>
      have := h k
      simp [Tab.get] at this
      exact absurd this ht.1.2
    | cons e' u =>
      obtain ⟨k', v'⟩ := e'
      simp only [Tab.wfFrom, Bool.and_eq_true, decide_eq_true_eq] at hu
      have hk : k = k' := by
        rcases Nat.lt_trichotomy k k' with hlt | heq | hgt
        · have := h k
          rw [Tab.get, Tab.get, if_pos rfl, if_neg (by omega), Tab.get_of_le hu.2 (by omega)] at this
          exact absurd this ht.1.2
        · exact heq
        · have := h k'
          rw [Tab.get, Tab.get, if_pos rfl, if_neg (by omega), Tab.get_of_le ht.2 (by omega)] at this
          exact absurd this.symm hu.1.2
      subst hk
      have hv : v = v' := by simpa [Tab.get] using h k
      subst hv
      congr 1
      refine ih u (some k) (some k) ht.2 hu.2 (fun j => ?_)
      by_cases h1 : j ≤ k
      · rw [Tab.get_of_le ht.2 h1, Tab.get_of_le hu.2 h1]
      · have := h j
        simpa [Tab.get, show ¬ j = k by omega] using this

end Sys2Proof.Machine
end

