-- ==== Sys2Proof/Laws/Memory.lean ====
section
/-! SUPPORT. The laws of the memories: what a byte reads as after each memory operation, and that each keeps the
canonical form. -/

namespace Sys2Proof.Machine

theorem memGet_memPut (m : Mem) (a : Nat) (b : Byte) (j : Nat) :
    memGet (memPut m a b) j = if j = a then b else memGet m j := Tab.get_set memDefault a b j m

theorem memPut_wf {m : Mem} (a : Nat) (b : Byte) (h : Memory.wf m = true) : Memory.wf (memPut m a b) = true :=
  Tab.wf_set memDefault a b h

/-- After a write of a run of bytes, a byte of the run reads as written and any other reads as before. -/
theorem memGet_memWrite (bs : List Byte) (m : Mem) (a j : Nat) :
    memGet (memWrite m a bs) j = if a ≤ j ∧ j < a + bs.length then bs.getD (j - a) 0 else memGet m j := by
  induction bs generalizing m a with
  | nil =>
    have : ¬ (a ≤ j ∧ j < a + ([] : List Byte).length) := by simp
    rw [if_neg this, memWrite]
  | cons b bs ih =>
    rw [memWrite, ih, memGet_memPut]
    rcases Nat.lt_trichotomy j a with hlt | heq | hgt
    · rw [if_neg (by omega), if_neg (by omega), if_neg (by omega)]
    · subst heq
      rw [if_neg (by omega), if_pos rfl, if_pos (by simp)]
      simp
    · by_cases hi : j < a + 1 + bs.length
      · rw [if_pos ⟨by omega, hi⟩, if_pos ⟨by omega, by rw [List.length_cons]; omega⟩]
        have : j - a = (j - (a + 1)) + 1 := by omega
        rw [this, List.getD_cons_succ]
      · rw [if_neg (by omega), if_neg (by omega), if_neg (by rw [List.length_cons]; omega)]

/-- A write of a run of bytes leaves every byte outside the run as it was. -/
theorem memGet_memWrite_outside (bs : List Byte) (m : Mem) (a j : Nat) (h : j < a ∨ a + bs.length ≤ j) :
    memGet (memWrite m a bs) j = memGet m j := by
  rw [memGet_memWrite, if_neg (by omega)]

theorem memWrite_wf (bs : List Byte) {m : Mem} (a : Nat) (h : Memory.wf m = true) :
    Memory.wf (memWrite m a bs) = true := by
  induction bs generalizing m a with
  | nil => exact h
  | cons b bs ih => exact ih (a + 1) (memPut_wf a b h)

theorem memWrites_wf (ws : Writes) {m : Mem} (h : Memory.wf m = true) : Memory.wf (memWrites m ws) = true := by
  induction ws generalizing m with
  | nil => exact h
  | cons w ws ih => exact ih (memWrite_wf w.2 w.1 h)

@[simp] theorem memWrites_nil (m : Mem) : memWrites m [] = m := rfl

@[simp] theorem memWrites_cons (m : Mem) (w : Nat × List Byte) (ws : Writes) :
    memWrites m (w :: ws) = memWrites (memWrite m w.1 w.2) ws := rfl

/-- Writes leave every byte outside all of their runs as it was. -/
theorem memGet_memWrites_outside (ws : Writes) (m : Mem) (j : Nat)
    (h : ∀ w ∈ ws, j < w.1 ∨ w.1 + w.2.length ≤ j) : memGet (memWrites m ws) j = memGet m j := by
  induction ws generalizing m with
  | nil => rfl
  | cons w ws ih =>
    rw [memWrites_cons, ih _ (fun x hx => h x (List.mem_cons_of_mem _ hx)),
      memGet_memWrite_outside _ _ _ _ (h w List.mem_cons_self)]

/-- Zeroing a range: its bytes read zero, the others as before. -/
theorem memGet_memZero (m : Mem) (lo hi j : Nat) :
    memGet (memZero m lo hi) j = if j < lo ∨ hi ≤ j then memGet m j else 0 := by
  have := Tab.get_filter_key memDefault (fun k => decide (k < lo ∨ hi ≤ k)) j m
  simpa [memGet, memZero, memDefault] using this

theorem memZero_wf {m : Mem} (lo hi : Nat) (h : Memory.wf m = true) : Memory.wf (memZero m lo hi) = true :=
  Tab.wf_filter memDefault _ h

end Sys2Proof.Machine
end

