-- ==== Sys2Proof/Laws/Register.lean ====
section
/-! SUPPORT. The laws of registers and fields: what each reads as after each kind of write. -/

namespace Sys2Proof.Machine

theorem Dev.reg_setReg (d : Dev) (a : Nat) (v : W32) (b : Nat) :
    (d.setReg a v).reg b = if b = a then v else d.reg b := Tab.get_set regReset a v b d.regs

@[simp] theorem Dev.reg_setReg_self (d : Dev) (a : Nat) (v : W32) : (d.setReg a v).reg a = v := by
  rw [Dev.reg_setReg, if_pos rfl]

theorem Dev.reg_setReg_ne (d : Dev) {a b : Nat} (v : W32) (h : b ≠ a) : (d.setReg a v).reg b = d.reg b := by
  rw [Dev.reg_setReg, if_neg h]

/-- The registers' table stays canonical. -/
theorem Dev.setReg_wf (d : Dev) (a : Nat) (v : W32) (h : Tab.wf regReset d.regs = true) :
    Tab.wf regReset (d.setReg a v).regs = true := Tab.wf_set regReset a v h

theorem Dev.getF_setReg (d : Dev) (f : Fld) (a : Nat) (v : W32) :
    (d.setReg a v).getF f = if f.addr = a then bitsN v.toNat f.lo f.w else d.getF f := by
  unfold Dev.getF
  rw [Dev.reg_setReg]
  split <;> rfl

/-- A write of one register leaves the fields of every other. -/
theorem Dev.getF_setReg_ne (d : Dev) {f : Fld} {a : Nat} (v : W32) (h : f.addr ≠ a) :
    (d.setReg a v).getF f = d.getF f := by rw [Dev.getF_setReg, if_neg h]

/-- A word of at most 32 bits with `w` of them from bit `lo` replaced is a word of at most 32 bits. -/
theorem putBits_lt (word lo w v : Nat) (hw : lo + w ≤ 32) (h : word < 2 ^ 32) : putBits word lo w v < 2 ^ 32 := by
  unfold putBits bitsN
  obtain ⟨k, hk⟩ := Nat.exists_eq_add_of_le hw
  have h1 : word / 2 ^ lo % 2 ^ w * 2 ^ lo ≤ word :=
    le_trans (Nat.mul_le_mul_right _ (Nat.mod_le _ _)) (Nat.div_mul_le_self _ _)
  have e : (2 : Nat) ^ 32 = 2 ^ lo * 2 ^ w * 2 ^ k := by rw [hk, pow_add, pow_add]
  have hlo : 0 < (2 : Nat) ^ lo := by positivity
  have hww : 0 < (2 : Nat) ^ w := by positivity
  have hv : v % 2 ^ w < 2 ^ w := Nat.mod_lt _ hww
  have hdm := Nat.div_add_mod word (2 ^ lo)
  have hdm2 := Nat.div_add_mod (word / 2 ^ lo) (2 ^ w)
  have hr : word % 2 ^ lo < 2 ^ lo := Nat.mod_lt _ hlo
  set q := word / 2 ^ lo with hq
  set x := q / 2 ^ w with hx
  set y := q % 2 ^ w with hy
  set r := word % 2 ^ lo with hrr
  have hword : word = (2 ^ w * x + y) * 2 ^ lo + r := by rw [hdm2]; linarith
  have hxk : x < 2 ^ k := by
    by_contra hc
    push Not at hc
    have : 2 ^ w * 2 ^ k * 2 ^ lo ≤ 2 ^ w * x * 2 ^ lo :=
      Nat.mul_le_mul_right _ (Nat.mul_le_mul_left _ hc)
    nlinarith
  have : word - y * 2 ^ lo = 2 ^ w * x * 2 ^ lo + r := by rw [hword]; ring_nf; omega
  rw [this, e]
  have h2 : 2 ^ w * x + v % 2 ^ w + 1 ≤ 2 ^ w * 2 ^ k := by
    have : 2 ^ w * (x + 1) ≤ 2 ^ w * 2 ^ k := Nat.mul_le_mul_left _ hxk
    nlinarith
  have h3 := Nat.mul_le_mul_right (2 ^ lo) h2
  nlinarith

/-- The replaced bits. -/
theorem bitsN_putBits_self (word lo w v : Nat) : bitsN (putBits word lo w v) lo w = v % 2 ^ w := by
  unfold putBits bitsN
  have hlo : 0 < (2 : Nat) ^ lo := by positivity
  have hww : 0 < (2 : Nat) ^ w := by positivity
  have hdm := Nat.div_add_mod word (2 ^ lo)
  have hdm2 := Nat.div_add_mod (word / 2 ^ lo) (2 ^ w)
  have hr : word % 2 ^ lo < 2 ^ lo := Nat.mod_lt _ hlo
  set q := word / 2 ^ lo
  set x := q / 2 ^ w
  set y := q % 2 ^ w
  set r := word % 2 ^ lo
  have hword : word = (2 ^ w * x + y) * 2 ^ lo + r := by rw [hdm2]; linarith
  have h1 : word - y * 2 ^ lo + v % 2 ^ w * 2 ^ lo = (2 ^ w * x + v % 2 ^ w) * 2 ^ lo + r := by
    rw [hword]
    have : (2 ^ w * x + y) * 2 ^ lo + r - y * 2 ^ lo = 2 ^ w * x * 2 ^ lo + r := by
      rw [add_mul]; omega
    rw [this]; ring
  rw [h1, Nat.add_comm, Nat.add_mul_div_right _ _ hlo, Nat.div_eq_of_lt hr, Nat.zero_add, Nat.add_comm,
    Nat.add_mul_mod_self_left]
  exact Nat.mod_eq_of_lt (Nat.mod_lt _ hww)

/-- Bit by bit: the replaced bits come from the new value, the others stay. -/
theorem testBit_putBits (word lo w v i : Nat) :
    (putBits word lo w v).testBit i =
      if i < lo then word.testBit i else if i < lo + w then v.testBit (i - lo) else word.testBit i := by
  have hlo : 0 < (2 : Nat) ^ lo := by positivity
  have hww : 0 < (2 : Nat) ^ w := by positivity
  have hdm := Nat.div_add_mod word (2 ^ lo)
  have hdm2 := Nat.div_add_mod (word / 2 ^ lo) (2 ^ w)
  have hr : word % 2 ^ lo < 2 ^ lo := Nat.mod_lt _ hlo
  have hy : word / 2 ^ lo % 2 ^ w < 2 ^ w := Nat.mod_lt _ hww
  have hv : v % 2 ^ w < 2 ^ w := Nat.mod_lt _ hww
  unfold putBits bitsN
  set q := word / 2 ^ lo
  set x := q / 2 ^ w
  set y := q % 2 ^ w
  set r := word % 2 ^ lo
  have hword : word = 2 ^ lo * (2 ^ w * x + y) + r := by rw [hdm2]; exact hdm.symm
  have h1 : word - y * 2 ^ lo + v % 2 ^ w * 2 ^ lo = 2 ^ lo * (2 ^ w * x + v % 2 ^ w) + r := by
    have : 2 ^ lo * (2 ^ w * x + y) + r - y * 2 ^ lo = 2 ^ lo * (2 ^ w * x) + r := by
      rw [Nat.mul_add, Nat.mul_comm y]; omega
    rw [hword, this]; ring
  rw [h1, hword, Nat.testBit_two_pow_mul_add _ hr, Nat.testBit_two_pow_mul_add _ hr,
    Nat.testBit_two_pow_mul_add _ hv, Nat.testBit_two_pow_mul_add _ hy]
  by_cases c1 : i < lo
  · simp [c1]
  · by_cases c2 : i < lo + w
    · have c3 : i - lo < w := by omega
      simp [c1, c2, c3, Nat.testBit_mod_two_pow]
    · have c3 : ¬ i - lo < w := by omega
      simp [c1, c2, c3]

/-- A run of bits apart from the replaced ones stays. -/
theorem bitsN_putBits_apart (word lo w v lo' w' : Nat) (h : lo' + w' ≤ lo ∨ lo + w ≤ lo') :
    bitsN (putBits word lo w v) lo' w' = bitsN word lo' w' := by
  unfold bitsN
  apply Nat.eq_of_testBit_eq
  intro i
  rw [Nat.testBit_mod_two_pow, Nat.testBit_mod_two_pow, Nat.testBit_div_two_pow, Nat.testBit_div_two_pow,
    testBit_putBits]
  by_cases hi : i < w'
  · by_cases c1 : lo' + i < lo
    · simp [hi, Nat.add_comm i, c1]
    · have c2 : ¬ lo' + i < lo + w := by omega
      simp [hi, Nat.add_comm i, c1, c2]
  · simp [hi]

/-- A field just written reads as it was written, within its width. -/
theorem Dev.getF_setF_self (d : Dev) (f : Fld) (v : Nat) (h : f.lo + f.w ≤ 32) : (d.setF f v).getF f = v % 2 ^ f.w := by
  unfold Dev.setF
  rw [Dev.getF_setReg, if_pos rfl, BitVec.toNat_ofNat, Nat.mod_eq_of_lt (putBits_lt _ _ _ _ h (BitVec.isLt _)),
    bitsN_putBits_self]

/-- A field write leaves every field of other registers. -/
theorem Dev.getF_setF_ne (d : Dev) {f g : Fld} (v : Nat) (h : g.addr ≠ f.addr) : (d.setF f v).getF g = d.getF g :=
  Dev.getF_setReg_ne d _ h

/-- A field write leaves every other register. -/
theorem Dev.reg_setF_ne (d : Dev) {f : Fld} {a : Nat} (v : Nat) (h : a ≠ f.addr) : (d.setF f v).reg a = d.reg a :=
  Dev.reg_setReg_ne d _ h

/-- A field write leaves the fields of the same register that share no bit with it. -/
theorem Dev.getF_setF_apart (d : Dev) {f g : Fld} (v : Nat) (hf : f.lo + f.w ≤ 32)
    (h : g.lo + g.w ≤ f.lo ∨ f.lo + f.w ≤ g.lo) : (d.setF f v).getF g = d.getF g := by
  by_cases ha : g.addr = f.addr
  · unfold Dev.setF
    rw [Dev.getF_setReg, if_pos ha, BitVec.toNat_ofNat, Nat.mod_eq_of_lt (putBits_lt _ _ _ _ hf (BitVec.isLt _)),
      bitsN_putBits_apart _ _ _ _ _ _ h, Dev.getF, ha]
  · exact Dev.getF_setF_ne d v ha

/-- A one-bit field just set or cleared. -/
theorem Dev.getF_setB_self (d : Dev) (f : Fld) (b : Bool) (hw : f.w = 1) (h : f.lo + f.w ≤ 32) :
    (d.setB f b).getF f = b2n b := by
  unfold Dev.setB
  rw [Dev.getF_setF_self d f _ h, hw]
  cases b <;> rfl

theorem Dev.flag_setB_self (d : Dev) (f : Fld) (b : Bool) (hw : f.w = 1) (h : f.lo + f.w ≤ 32) :
    (d.setB f b).flag f = b := by
  unfold Dev.flag
  rw [Dev.getF_setB_self d f b hw h]
  cases b <;> rfl

/-- A count leaves every other register. -/
theorem Dev.reg_count_ne (d : Dev) {a b n : Nat} (h : b ≠ a) : (d.count a n).reg b = d.reg b := Dev.reg_setReg_ne d _ h

/-- A counter counts up and stays at its end. -/
theorem Dev.reg_count_self (d : Dev) (a n : Nat) :
    ((d.count a n).reg a).toNat = min 0xFFFFFFFF ((d.reg a).toNat + n) := by
  unfold Dev.count
  rw [Dev.reg_setReg_self, BitVec.toNat_ofNat]
  omega

end Sys2Proof.Machine
end

