-- ==== Sys2Proof/Laws/State.lean ====
section
/-! SUPPORT. One lemma for each part of the block under each update: what the update leaves as it was. -/

namespace Sys2Proof.Machine

variable (d : Dev)

@[simp] theorem Dev.setReg_free (a : Nat) (v : W32) : (d.setReg a v).free = d.free := rfl
@[simp] theorem Dev.setReg_rdata (a : Nat) (v : W32) : (d.setReg a v).rdata = d.rdata := rfl
@[simp] theorem Dev.setReg_rbytes (a : Nat) (v : W32) : (d.setReg a v).rbytes = d.rbytes := rfl
@[simp] theorem Dev.setReg_latch (a : Nat) (v : W32) : (d.setReg a v).latch = d.latch := rfl
@[simp] theorem Dev.setReg_staged (a : Nat) (v : W32) : (d.setReg a v).staged = d.staged := rfl
@[simp] theorem Dev.setReg_mod (a : Nat) (v : W32) : (d.setReg a v).mod = d.mod := rfl
@[simp] theorem Dev.setReg_time (a : Nat) (v : W32) : (d.setReg a v).time = d.time := rfl
@[simp] theorem Dev.setReg_ttbl (a : Nat) (v : W32) : (d.setReg a v).ttbl = d.ttbl := rfl
@[simp] theorem Dev.setReg_mbox (a : Nat) (v : W32) : (d.setReg a v).mbox = d.mbox := rfl
@[simp] theorem Dev.setReg_fw (a : Nat) (v : W32) : (d.setReg a v).fw = d.fw := rfl
@[simp] theorem Dev.setReg_memi (a : Nat) (v : W32) : (d.setReg a v).memi = d.memi := rfl
@[simp] theorem Dev.setReg_obs (a : Nat) (v : W32) : (d.setReg a v).obs = d.obs := rfl
@[simp] theorem Dev.setReg_power (a : Nat) (v : W32) : (d.setReg a v).power = d.power := rfl
@[simp] theorem Dev.setReg_fuse (a : Nat) (v : W32) : (d.setReg a v).fuse = d.fuse := rfl
@[simp] theorem Dev.setReg_lcs (a : Nat) (v : W32) : (d.setReg a v).lcs = d.lcs := rfl
@[simp] theorem Dev.setReg_fe (a : Nat) (v : W32) : (d.setReg a v).fe = d.fe := rfl
@[simp] theorem Dev.setReg_therm (a : Nat) (v : W32) : (d.setReg a v).therm = d.therm := rfl
@[simp] theorem Dev.setReg_link (a : Nat) (v : W32) : (d.setReg a v).link = d.link := rfl
@[simp] theorem Dev.setReg_fhp (a : Nat) (v : W32) : (d.setReg a v).fhp = d.fhp := rfl
@[simp] theorem Dev.setReg_tiles (a : Nat) (v : W32) : (d.setReg a v).tiles = d.tiles := rfl
@[simp] theorem Dev.setReg_beam (a : Nat) (v : W32) : (d.setReg a v).beam = d.beam := rfl
@[simp] theorem Dev.setReg_clu (a : Nat) (v : W32) : (d.setReg a v).clu = d.clu := rfl
@[simp] theorem Dev.setReg_rf (a : Nat) (v : W32) : (d.setReg a v).rf = d.rf := rfl
@[simp] theorem Dev.setReg_dpd (a : Nat) (v : W32) : (d.setReg a v).dpd = d.dpd := rfl
@[simp] theorem Dev.setReg_cal (a : Nat) (v : W32) : (d.setReg a v).cal = d.cal := rfl
@[simp] theorem Dev.setReg_rmb (a : Nat) (v : W32) : (d.setReg a v).rmb = d.rmb := rfl

@[simp] theorem Dev.setF_free (f : Fld) (v : Nat) : (d.setF f v).free = d.free := d.setReg_free _ _
@[simp] theorem Dev.setF_rdata (f : Fld) (v : Nat) : (d.setF f v).rdata = d.rdata := d.setReg_rdata _ _
@[simp] theorem Dev.setF_rbytes (f : Fld) (v : Nat) : (d.setF f v).rbytes = d.rbytes := d.setReg_rbytes _ _
@[simp] theorem Dev.setF_latch (f : Fld) (v : Nat) : (d.setF f v).latch = d.latch := d.setReg_latch _ _
@[simp] theorem Dev.setF_staged (f : Fld) (v : Nat) : (d.setF f v).staged = d.staged := d.setReg_staged _ _
@[simp] theorem Dev.setF_mod (f : Fld) (v : Nat) : (d.setF f v).mod = d.mod := d.setReg_mod _ _
@[simp] theorem Dev.setF_time (f : Fld) (v : Nat) : (d.setF f v).time = d.time := d.setReg_time _ _
@[simp] theorem Dev.setF_ttbl (f : Fld) (v : Nat) : (d.setF f v).ttbl = d.ttbl := d.setReg_ttbl _ _
@[simp] theorem Dev.setF_mbox (f : Fld) (v : Nat) : (d.setF f v).mbox = d.mbox := d.setReg_mbox _ _
@[simp] theorem Dev.setF_fw (f : Fld) (v : Nat) : (d.setF f v).fw = d.fw := d.setReg_fw _ _
@[simp] theorem Dev.setF_memi (f : Fld) (v : Nat) : (d.setF f v).memi = d.memi := d.setReg_memi _ _
@[simp] theorem Dev.setF_obs (f : Fld) (v : Nat) : (d.setF f v).obs = d.obs := d.setReg_obs _ _
@[simp] theorem Dev.setF_power (f : Fld) (v : Nat) : (d.setF f v).power = d.power := d.setReg_power _ _
@[simp] theorem Dev.setF_fuse (f : Fld) (v : Nat) : (d.setF f v).fuse = d.fuse := d.setReg_fuse _ _
@[simp] theorem Dev.setF_lcs (f : Fld) (v : Nat) : (d.setF f v).lcs = d.lcs := d.setReg_lcs _ _
@[simp] theorem Dev.setF_fe (f : Fld) (v : Nat) : (d.setF f v).fe = d.fe := d.setReg_fe _ _
@[simp] theorem Dev.setF_therm (f : Fld) (v : Nat) : (d.setF f v).therm = d.therm := d.setReg_therm _ _
@[simp] theorem Dev.setF_link (f : Fld) (v : Nat) : (d.setF f v).link = d.link := d.setReg_link _ _
@[simp] theorem Dev.setF_fhp (f : Fld) (v : Nat) : (d.setF f v).fhp = d.fhp := d.setReg_fhp _ _
@[simp] theorem Dev.setF_tiles (f : Fld) (v : Nat) : (d.setF f v).tiles = d.tiles := d.setReg_tiles _ _
@[simp] theorem Dev.setF_beam (f : Fld) (v : Nat) : (d.setF f v).beam = d.beam := d.setReg_beam _ _
@[simp] theorem Dev.setF_clu (f : Fld) (v : Nat) : (d.setF f v).clu = d.clu := d.setReg_clu _ _
@[simp] theorem Dev.setF_rf (f : Fld) (v : Nat) : (d.setF f v).rf = d.rf := d.setReg_rf _ _
@[simp] theorem Dev.setF_dpd (f : Fld) (v : Nat) : (d.setF f v).dpd = d.dpd := d.setReg_dpd _ _
@[simp] theorem Dev.setF_cal (f : Fld) (v : Nat) : (d.setF f v).cal = d.cal := d.setReg_cal _ _
@[simp] theorem Dev.setF_rmb (f : Fld) (v : Nat) : (d.setF f v).rmb = d.rmb := d.setReg_rmb _ _

@[simp] theorem Dev.setB_free (f : Fld) (b : Bool) : (d.setB f b).free = d.free := d.setF_free _ _
@[simp] theorem Dev.setB_rdata (f : Fld) (b : Bool) : (d.setB f b).rdata = d.rdata := d.setF_rdata _ _
@[simp] theorem Dev.setB_rbytes (f : Fld) (b : Bool) : (d.setB f b).rbytes = d.rbytes := d.setF_rbytes _ _
@[simp] theorem Dev.setB_latch (f : Fld) (b : Bool) : (d.setB f b).latch = d.latch := d.setF_latch _ _
@[simp] theorem Dev.setB_staged (f : Fld) (b : Bool) : (d.setB f b).staged = d.staged := d.setF_staged _ _
@[simp] theorem Dev.setB_mod (f : Fld) (b : Bool) : (d.setB f b).mod = d.mod := d.setF_mod _ _
@[simp] theorem Dev.setB_time (f : Fld) (b : Bool) : (d.setB f b).time = d.time := d.setF_time _ _
@[simp] theorem Dev.setB_ttbl (f : Fld) (b : Bool) : (d.setB f b).ttbl = d.ttbl := d.setF_ttbl _ _
@[simp] theorem Dev.setB_mbox (f : Fld) (b : Bool) : (d.setB f b).mbox = d.mbox := d.setF_mbox _ _
@[simp] theorem Dev.setB_fw (f : Fld) (b : Bool) : (d.setB f b).fw = d.fw := d.setF_fw _ _
@[simp] theorem Dev.setB_memi (f : Fld) (b : Bool) : (d.setB f b).memi = d.memi := d.setF_memi _ _
@[simp] theorem Dev.setB_obs (f : Fld) (b : Bool) : (d.setB f b).obs = d.obs := d.setF_obs _ _
@[simp] theorem Dev.setB_power (f : Fld) (b : Bool) : (d.setB f b).power = d.power := d.setF_power _ _
@[simp] theorem Dev.setB_fuse (f : Fld) (b : Bool) : (d.setB f b).fuse = d.fuse := d.setF_fuse _ _
@[simp] theorem Dev.setB_lcs (f : Fld) (b : Bool) : (d.setB f b).lcs = d.lcs := d.setF_lcs _ _
@[simp] theorem Dev.setB_fe (f : Fld) (b : Bool) : (d.setB f b).fe = d.fe := d.setF_fe _ _
@[simp] theorem Dev.setB_therm (f : Fld) (b : Bool) : (d.setB f b).therm = d.therm := d.setF_therm _ _
@[simp] theorem Dev.setB_link (f : Fld) (b : Bool) : (d.setB f b).link = d.link := d.setF_link _ _
@[simp] theorem Dev.setB_fhp (f : Fld) (b : Bool) : (d.setB f b).fhp = d.fhp := d.setF_fhp _ _
@[simp] theorem Dev.setB_tiles (f : Fld) (b : Bool) : (d.setB f b).tiles = d.tiles := d.setF_tiles _ _
@[simp] theorem Dev.setB_beam (f : Fld) (b : Bool) : (d.setB f b).beam = d.beam := d.setF_beam _ _
@[simp] theorem Dev.setB_clu (f : Fld) (b : Bool) : (d.setB f b).clu = d.clu := d.setF_clu _ _
@[simp] theorem Dev.setB_rf (f : Fld) (b : Bool) : (d.setB f b).rf = d.rf := d.setF_rf _ _
@[simp] theorem Dev.setB_dpd (f : Fld) (b : Bool) : (d.setB f b).dpd = d.dpd := d.setF_dpd _ _
@[simp] theorem Dev.setB_cal (f : Fld) (b : Bool) : (d.setB f b).cal = d.cal := d.setF_cal _ _
@[simp] theorem Dev.setB_rmb (f : Fld) (b : Bool) : (d.setB f b).rmb = d.rmb := d.setF_rmb _ _

@[simp] theorem Dev.setPair_free (lo hi v : Nat) : (d.setPair lo hi v).free = d.free := ((d.setReg lo _).setReg_free _ _).trans (d.setReg_free _ _)
@[simp] theorem Dev.setPair_rdata (lo hi v : Nat) : (d.setPair lo hi v).rdata = d.rdata := ((d.setReg lo _).setReg_rdata _ _).trans (d.setReg_rdata _ _)
@[simp] theorem Dev.setPair_rbytes (lo hi v : Nat) : (d.setPair lo hi v).rbytes = d.rbytes := ((d.setReg lo _).setReg_rbytes _ _).trans (d.setReg_rbytes _ _)
@[simp] theorem Dev.setPair_latch (lo hi v : Nat) : (d.setPair lo hi v).latch = d.latch := ((d.setReg lo _).setReg_latch _ _).trans (d.setReg_latch _ _)
@[simp] theorem Dev.setPair_staged (lo hi v : Nat) : (d.setPair lo hi v).staged = d.staged := ((d.setReg lo _).setReg_staged _ _).trans (d.setReg_staged _ _)
@[simp] theorem Dev.setPair_mod (lo hi v : Nat) : (d.setPair lo hi v).mod = d.mod := ((d.setReg lo _).setReg_mod _ _).trans (d.setReg_mod _ _)
@[simp] theorem Dev.setPair_time (lo hi v : Nat) : (d.setPair lo hi v).time = d.time := ((d.setReg lo _).setReg_time _ _).trans (d.setReg_time _ _)
@[simp] theorem Dev.setPair_ttbl (lo hi v : Nat) : (d.setPair lo hi v).ttbl = d.ttbl := ((d.setReg lo _).setReg_ttbl _ _).trans (d.setReg_ttbl _ _)
@[simp] theorem Dev.setPair_mbox (lo hi v : Nat) : (d.setPair lo hi v).mbox = d.mbox := ((d.setReg lo _).setReg_mbox _ _).trans (d.setReg_mbox _ _)
@[simp] theorem Dev.setPair_fw (lo hi v : Nat) : (d.setPair lo hi v).fw = d.fw := ((d.setReg lo _).setReg_fw _ _).trans (d.setReg_fw _ _)
@[simp] theorem Dev.setPair_memi (lo hi v : Nat) : (d.setPair lo hi v).memi = d.memi := ((d.setReg lo _).setReg_memi _ _).trans (d.setReg_memi _ _)
@[simp] theorem Dev.setPair_obs (lo hi v : Nat) : (d.setPair lo hi v).obs = d.obs := ((d.setReg lo _).setReg_obs _ _).trans (d.setReg_obs _ _)
@[simp] theorem Dev.setPair_power (lo hi v : Nat) : (d.setPair lo hi v).power = d.power := ((d.setReg lo _).setReg_power _ _).trans (d.setReg_power _ _)
@[simp] theorem Dev.setPair_fuse (lo hi v : Nat) : (d.setPair lo hi v).fuse = d.fuse := ((d.setReg lo _).setReg_fuse _ _).trans (d.setReg_fuse _ _)
@[simp] theorem Dev.setPair_lcs (lo hi v : Nat) : (d.setPair lo hi v).lcs = d.lcs := ((d.setReg lo _).setReg_lcs _ _).trans (d.setReg_lcs _ _)
@[simp] theorem Dev.setPair_fe (lo hi v : Nat) : (d.setPair lo hi v).fe = d.fe := ((d.setReg lo _).setReg_fe _ _).trans (d.setReg_fe _ _)
@[simp] theorem Dev.setPair_therm (lo hi v : Nat) : (d.setPair lo hi v).therm = d.therm := ((d.setReg lo _).setReg_therm _ _).trans (d.setReg_therm _ _)
@[simp] theorem Dev.setPair_link (lo hi v : Nat) : (d.setPair lo hi v).link = d.link := ((d.setReg lo _).setReg_link _ _).trans (d.setReg_link _ _)
@[simp] theorem Dev.setPair_fhp (lo hi v : Nat) : (d.setPair lo hi v).fhp = d.fhp := ((d.setReg lo _).setReg_fhp _ _).trans (d.setReg_fhp _ _)
@[simp] theorem Dev.setPair_tiles (lo hi v : Nat) : (d.setPair lo hi v).tiles = d.tiles := ((d.setReg lo _).setReg_tiles _ _).trans (d.setReg_tiles _ _)
@[simp] theorem Dev.setPair_beam (lo hi v : Nat) : (d.setPair lo hi v).beam = d.beam := ((d.setReg lo _).setReg_beam _ _).trans (d.setReg_beam _ _)
@[simp] theorem Dev.setPair_clu (lo hi v : Nat) : (d.setPair lo hi v).clu = d.clu := ((d.setReg lo _).setReg_clu _ _).trans (d.setReg_clu _ _)
@[simp] theorem Dev.setPair_rf (lo hi v : Nat) : (d.setPair lo hi v).rf = d.rf := ((d.setReg lo _).setReg_rf _ _).trans (d.setReg_rf _ _)
@[simp] theorem Dev.setPair_dpd (lo hi v : Nat) : (d.setPair lo hi v).dpd = d.dpd := ((d.setReg lo _).setReg_dpd _ _).trans (d.setReg_dpd _ _)
@[simp] theorem Dev.setPair_cal (lo hi v : Nat) : (d.setPair lo hi v).cal = d.cal := ((d.setReg lo _).setReg_cal _ _).trans (d.setReg_cal _ _)
@[simp] theorem Dev.setPair_rmb (lo hi v : Nat) : (d.setPair lo hi v).rmb = d.rmb := ((d.setReg lo _).setReg_rmb _ _).trans (d.setReg_rmb _ _)

@[simp] theorem Dev.count_free (a n : Nat) : (d.count a n).free = d.free := d.setReg_free _ _
@[simp] theorem Dev.count_rdata (a n : Nat) : (d.count a n).rdata = d.rdata := d.setReg_rdata _ _
@[simp] theorem Dev.count_rbytes (a n : Nat) : (d.count a n).rbytes = d.rbytes := d.setReg_rbytes _ _
@[simp] theorem Dev.count_latch (a n : Nat) : (d.count a n).latch = d.latch := d.setReg_latch _ _
@[simp] theorem Dev.count_staged (a n : Nat) : (d.count a n).staged = d.staged := d.setReg_staged _ _
@[simp] theorem Dev.count_mod (a n : Nat) : (d.count a n).mod = d.mod := d.setReg_mod _ _
@[simp] theorem Dev.count_time (a n : Nat) : (d.count a n).time = d.time := d.setReg_time _ _
@[simp] theorem Dev.count_ttbl (a n : Nat) : (d.count a n).ttbl = d.ttbl := d.setReg_ttbl _ _
@[simp] theorem Dev.count_mbox (a n : Nat) : (d.count a n).mbox = d.mbox := d.setReg_mbox _ _
@[simp] theorem Dev.count_fw (a n : Nat) : (d.count a n).fw = d.fw := d.setReg_fw _ _
@[simp] theorem Dev.count_memi (a n : Nat) : (d.count a n).memi = d.memi := d.setReg_memi _ _
@[simp] theorem Dev.count_obs (a n : Nat) : (d.count a n).obs = d.obs := d.setReg_obs _ _
@[simp] theorem Dev.count_power (a n : Nat) : (d.count a n).power = d.power := d.setReg_power _ _
@[simp] theorem Dev.count_fuse (a n : Nat) : (d.count a n).fuse = d.fuse := d.setReg_fuse _ _
@[simp] theorem Dev.count_lcs (a n : Nat) : (d.count a n).lcs = d.lcs := d.setReg_lcs _ _
@[simp] theorem Dev.count_fe (a n : Nat) : (d.count a n).fe = d.fe := d.setReg_fe _ _
@[simp] theorem Dev.count_therm (a n : Nat) : (d.count a n).therm = d.therm := d.setReg_therm _ _
@[simp] theorem Dev.count_link (a n : Nat) : (d.count a n).link = d.link := d.setReg_link _ _
@[simp] theorem Dev.count_fhp (a n : Nat) : (d.count a n).fhp = d.fhp := d.setReg_fhp _ _
@[simp] theorem Dev.count_tiles (a n : Nat) : (d.count a n).tiles = d.tiles := d.setReg_tiles _ _
@[simp] theorem Dev.count_beam (a n : Nat) : (d.count a n).beam = d.beam := d.setReg_beam _ _
@[simp] theorem Dev.count_clu (a n : Nat) : (d.count a n).clu = d.clu := d.setReg_clu _ _
@[simp] theorem Dev.count_rf (a n : Nat) : (d.count a n).rf = d.rf := d.setReg_rf _ _
@[simp] theorem Dev.count_dpd (a n : Nat) : (d.count a n).dpd = d.dpd := d.setReg_dpd _ _
@[simp] theorem Dev.count_cal (a n : Nat) : (d.count a n).cal = d.cal := d.setReg_cal _ _
@[simp] theorem Dev.count_rmb (a n : Nat) : (d.count a n).rmb = d.rmb := d.setReg_rmb _ _

@[simp] theorem Dev.countF_free (f : Fld) (n : Nat) : (d.countF f n).free = d.free := d.setF_free _ _
@[simp] theorem Dev.countF_rdata (f : Fld) (n : Nat) : (d.countF f n).rdata = d.rdata := d.setF_rdata _ _
@[simp] theorem Dev.countF_rbytes (f : Fld) (n : Nat) : (d.countF f n).rbytes = d.rbytes := d.setF_rbytes _ _
@[simp] theorem Dev.countF_latch (f : Fld) (n : Nat) : (d.countF f n).latch = d.latch := d.setF_latch _ _
@[simp] theorem Dev.countF_staged (f : Fld) (n : Nat) : (d.countF f n).staged = d.staged := d.setF_staged _ _
@[simp] theorem Dev.countF_mod (f : Fld) (n : Nat) : (d.countF f n).mod = d.mod := d.setF_mod _ _
@[simp] theorem Dev.countF_time (f : Fld) (n : Nat) : (d.countF f n).time = d.time := d.setF_time _ _
@[simp] theorem Dev.countF_ttbl (f : Fld) (n : Nat) : (d.countF f n).ttbl = d.ttbl := d.setF_ttbl _ _
@[simp] theorem Dev.countF_mbox (f : Fld) (n : Nat) : (d.countF f n).mbox = d.mbox := d.setF_mbox _ _
@[simp] theorem Dev.countF_fw (f : Fld) (n : Nat) : (d.countF f n).fw = d.fw := d.setF_fw _ _
@[simp] theorem Dev.countF_memi (f : Fld) (n : Nat) : (d.countF f n).memi = d.memi := d.setF_memi _ _
@[simp] theorem Dev.countF_obs (f : Fld) (n : Nat) : (d.countF f n).obs = d.obs := d.setF_obs _ _
@[simp] theorem Dev.countF_power (f : Fld) (n : Nat) : (d.countF f n).power = d.power := d.setF_power _ _
@[simp] theorem Dev.countF_fuse (f : Fld) (n : Nat) : (d.countF f n).fuse = d.fuse := d.setF_fuse _ _
@[simp] theorem Dev.countF_lcs (f : Fld) (n : Nat) : (d.countF f n).lcs = d.lcs := d.setF_lcs _ _
@[simp] theorem Dev.countF_fe (f : Fld) (n : Nat) : (d.countF f n).fe = d.fe := d.setF_fe _ _
@[simp] theorem Dev.countF_therm (f : Fld) (n : Nat) : (d.countF f n).therm = d.therm := d.setF_therm _ _
@[simp] theorem Dev.countF_link (f : Fld) (n : Nat) : (d.countF f n).link = d.link := d.setF_link _ _
@[simp] theorem Dev.countF_fhp (f : Fld) (n : Nat) : (d.countF f n).fhp = d.fhp := d.setF_fhp _ _
@[simp] theorem Dev.countF_tiles (f : Fld) (n : Nat) : (d.countF f n).tiles = d.tiles := d.setF_tiles _ _
@[simp] theorem Dev.countF_beam (f : Fld) (n : Nat) : (d.countF f n).beam = d.beam := d.setF_beam _ _
@[simp] theorem Dev.countF_clu (f : Fld) (n : Nat) : (d.countF f n).clu = d.clu := d.setF_clu _ _
@[simp] theorem Dev.countF_rf (f : Fld) (n : Nat) : (d.countF f n).rf = d.rf := d.setF_rf _ _
@[simp] theorem Dev.countF_dpd (f : Fld) (n : Nat) : (d.countF f n).dpd = d.dpd := d.setF_dpd _ _
@[simp] theorem Dev.countF_cal (f : Fld) (n : Nat) : (d.countF f n).cal = d.cal := d.setF_cal _ _
@[simp] theorem Dev.countF_rmb (f : Fld) (n : Nat) : (d.countF f n).rmb = d.rmb := d.setF_rmb _ _

@[simp] theorem Dev.count64_free (lo hi n : Nat) : (d.count64 lo hi n).free = d.free := d.setPair_free _ _ _
@[simp] theorem Dev.count64_rdata (lo hi n : Nat) : (d.count64 lo hi n).rdata = d.rdata := d.setPair_rdata _ _ _
@[simp] theorem Dev.count64_rbytes (lo hi n : Nat) : (d.count64 lo hi n).rbytes = d.rbytes := d.setPair_rbytes _ _ _
@[simp] theorem Dev.count64_latch (lo hi n : Nat) : (d.count64 lo hi n).latch = d.latch := d.setPair_latch _ _ _
@[simp] theorem Dev.count64_staged (lo hi n : Nat) : (d.count64 lo hi n).staged = d.staged := d.setPair_staged _ _ _
@[simp] theorem Dev.count64_mod (lo hi n : Nat) : (d.count64 lo hi n).mod = d.mod := d.setPair_mod _ _ _
@[simp] theorem Dev.count64_time (lo hi n : Nat) : (d.count64 lo hi n).time = d.time := d.setPair_time _ _ _
@[simp] theorem Dev.count64_ttbl (lo hi n : Nat) : (d.count64 lo hi n).ttbl = d.ttbl := d.setPair_ttbl _ _ _
@[simp] theorem Dev.count64_mbox (lo hi n : Nat) : (d.count64 lo hi n).mbox = d.mbox := d.setPair_mbox _ _ _
@[simp] theorem Dev.count64_fw (lo hi n : Nat) : (d.count64 lo hi n).fw = d.fw := d.setPair_fw _ _ _
@[simp] theorem Dev.count64_memi (lo hi n : Nat) : (d.count64 lo hi n).memi = d.memi := d.setPair_memi _ _ _
@[simp] theorem Dev.count64_obs (lo hi n : Nat) : (d.count64 lo hi n).obs = d.obs := d.setPair_obs _ _ _
@[simp] theorem Dev.count64_power (lo hi n : Nat) : (d.count64 lo hi n).power = d.power := d.setPair_power _ _ _
@[simp] theorem Dev.count64_fuse (lo hi n : Nat) : (d.count64 lo hi n).fuse = d.fuse := d.setPair_fuse _ _ _
@[simp] theorem Dev.count64_lcs (lo hi n : Nat) : (d.count64 lo hi n).lcs = d.lcs := d.setPair_lcs _ _ _
@[simp] theorem Dev.count64_fe (lo hi n : Nat) : (d.count64 lo hi n).fe = d.fe := d.setPair_fe _ _ _
@[simp] theorem Dev.count64_therm (lo hi n : Nat) : (d.count64 lo hi n).therm = d.therm := d.setPair_therm _ _ _
@[simp] theorem Dev.count64_link (lo hi n : Nat) : (d.count64 lo hi n).link = d.link := d.setPair_link _ _ _
@[simp] theorem Dev.count64_fhp (lo hi n : Nat) : (d.count64 lo hi n).fhp = d.fhp := d.setPair_fhp _ _ _
@[simp] theorem Dev.count64_tiles (lo hi n : Nat) : (d.count64 lo hi n).tiles = d.tiles := d.setPair_tiles _ _ _
@[simp] theorem Dev.count64_beam (lo hi n : Nat) : (d.count64 lo hi n).beam = d.beam := d.setPair_beam _ _ _
@[simp] theorem Dev.count64_clu (lo hi n : Nat) : (d.count64 lo hi n).clu = d.clu := d.setPair_clu _ _ _
@[simp] theorem Dev.count64_rf (lo hi n : Nat) : (d.count64 lo hi n).rf = d.rf := d.setPair_rf _ _ _
@[simp] theorem Dev.count64_dpd (lo hi n : Nat) : (d.count64 lo hi n).dpd = d.dpd := d.setPair_dpd _ _ _
@[simp] theorem Dev.count64_cal (lo hi n : Nat) : (d.count64 lo hi n).cal = d.cal := d.setPair_cal _ _ _
@[simp] theorem Dev.count64_rmb (lo hi n : Nat) : (d.count64 lo hi n).rmb = d.rmb := d.setPair_rmb _ _ _

@[simp] theorem Dev.modOrx_free (r : Nat) (f : OrxSt → OrxSt) : (d.modOrx r f).free = d.free := rfl
@[simp] theorem Dev.modOrx_rdata (r : Nat) (f : OrxSt → OrxSt) : (d.modOrx r f).rdata = d.rdata := rfl
@[simp] theorem Dev.modOrx_rbytes (r : Nat) (f : OrxSt → OrxSt) : (d.modOrx r f).rbytes = d.rbytes := rfl
@[simp] theorem Dev.modOrx_regs (r : Nat) (f : OrxSt → OrxSt) : (d.modOrx r f).regs = d.regs := rfl
@[simp] theorem Dev.modOrx_latch (r : Nat) (f : OrxSt → OrxSt) : (d.modOrx r f).latch = d.latch := rfl
@[simp] theorem Dev.modOrx_staged (r : Nat) (f : OrxSt → OrxSt) : (d.modOrx r f).staged = d.staged := rfl
@[simp] theorem Dev.modOrx_mod (r : Nat) (f : OrxSt → OrxSt) : (d.modOrx r f).mod = d.mod := rfl
@[simp] theorem Dev.modOrx_time (r : Nat) (f : OrxSt → OrxSt) : (d.modOrx r f).time = d.time := rfl
@[simp] theorem Dev.modOrx_ttbl (r : Nat) (f : OrxSt → OrxSt) : (d.modOrx r f).ttbl = d.ttbl := rfl
@[simp] theorem Dev.modOrx_mbox (r : Nat) (f : OrxSt → OrxSt) : (d.modOrx r f).mbox = d.mbox := rfl
@[simp] theorem Dev.modOrx_fw (r : Nat) (f : OrxSt → OrxSt) : (d.modOrx r f).fw = d.fw := rfl
@[simp] theorem Dev.modOrx_memi (r : Nat) (f : OrxSt → OrxSt) : (d.modOrx r f).memi = d.memi := rfl
@[simp] theorem Dev.modOrx_obs (r : Nat) (f : OrxSt → OrxSt) : (d.modOrx r f).obs = d.obs := rfl
@[simp] theorem Dev.modOrx_power (r : Nat) (f : OrxSt → OrxSt) : (d.modOrx r f).power = d.power := rfl
@[simp] theorem Dev.modOrx_fuse (r : Nat) (f : OrxSt → OrxSt) : (d.modOrx r f).fuse = d.fuse := rfl
@[simp] theorem Dev.modOrx_lcs (r : Nat) (f : OrxSt → OrxSt) : (d.modOrx r f).lcs = d.lcs := rfl
@[simp] theorem Dev.modOrx_fe (r : Nat) (f : OrxSt → OrxSt) : (d.modOrx r f).fe = d.fe := rfl
@[simp] theorem Dev.modOrx_therm (r : Nat) (f : OrxSt → OrxSt) : (d.modOrx r f).therm = d.therm := rfl
@[simp] theorem Dev.modOrx_link (r : Nat) (f : OrxSt → OrxSt) : (d.modOrx r f).link = d.link := rfl
@[simp] theorem Dev.modOrx_fhp (r : Nat) (f : OrxSt → OrxSt) : (d.modOrx r f).fhp = d.fhp := rfl
@[simp] theorem Dev.modOrx_tiles (r : Nat) (f : OrxSt → OrxSt) : (d.modOrx r f).tiles = d.tiles := rfl
@[simp] theorem Dev.modOrx_beam (r : Nat) (f : OrxSt → OrxSt) : (d.modOrx r f).beam = d.beam := rfl
@[simp] theorem Dev.modOrx_clu (r : Nat) (f : OrxSt → OrxSt) : (d.modOrx r f).clu = d.clu := rfl
@[simp] theorem Dev.modOrx_rf (r : Nat) (f : OrxSt → OrxSt) : (d.modOrx r f).rf = d.rf := rfl
@[simp] theorem Dev.modOrx_cal (r : Nat) (f : OrxSt → OrxSt) : (d.modOrx r f).cal = d.cal := rfl
@[simp] theorem Dev.modOrx_rmb (r : Nat) (f : OrxSt → OrxSt) : (d.modOrx r f).rmb = d.rmb := rfl

@[simp] theorem Dev.modRmb_free (f : RmbSt → RmbSt) : (d.modRmb f).free = d.free := rfl
@[simp] theorem Dev.modRmb_rdata (f : RmbSt → RmbSt) : (d.modRmb f).rdata = d.rdata := rfl
@[simp] theorem Dev.modRmb_rbytes (f : RmbSt → RmbSt) : (d.modRmb f).rbytes = d.rbytes := rfl
@[simp] theorem Dev.modRmb_regs (f : RmbSt → RmbSt) : (d.modRmb f).regs = d.regs := rfl
@[simp] theorem Dev.modRmb_latch (f : RmbSt → RmbSt) : (d.modRmb f).latch = d.latch := rfl
@[simp] theorem Dev.modRmb_staged (f : RmbSt → RmbSt) : (d.modRmb f).staged = d.staged := rfl
@[simp] theorem Dev.modRmb_mod (f : RmbSt → RmbSt) : (d.modRmb f).mod = d.mod := rfl
@[simp] theorem Dev.modRmb_time (f : RmbSt → RmbSt) : (d.modRmb f).time = d.time := rfl
@[simp] theorem Dev.modRmb_ttbl (f : RmbSt → RmbSt) : (d.modRmb f).ttbl = d.ttbl := rfl
@[simp] theorem Dev.modRmb_mbox (f : RmbSt → RmbSt) : (d.modRmb f).mbox = d.mbox := rfl
@[simp] theorem Dev.modRmb_fw (f : RmbSt → RmbSt) : (d.modRmb f).fw = d.fw := rfl
@[simp] theorem Dev.modRmb_memi (f : RmbSt → RmbSt) : (d.modRmb f).memi = d.memi := rfl
@[simp] theorem Dev.modRmb_obs (f : RmbSt → RmbSt) : (d.modRmb f).obs = d.obs := rfl
@[simp] theorem Dev.modRmb_power (f : RmbSt → RmbSt) : (d.modRmb f).power = d.power := rfl
@[simp] theorem Dev.modRmb_fuse (f : RmbSt → RmbSt) : (d.modRmb f).fuse = d.fuse := rfl
@[simp] theorem Dev.modRmb_lcs (f : RmbSt → RmbSt) : (d.modRmb f).lcs = d.lcs := rfl
@[simp] theorem Dev.modRmb_fe (f : RmbSt → RmbSt) : (d.modRmb f).fe = d.fe := rfl
@[simp] theorem Dev.modRmb_therm (f : RmbSt → RmbSt) : (d.modRmb f).therm = d.therm := rfl
@[simp] theorem Dev.modRmb_link (f : RmbSt → RmbSt) : (d.modRmb f).link = d.link := rfl
@[simp] theorem Dev.modRmb_fhp (f : RmbSt → RmbSt) : (d.modRmb f).fhp = d.fhp := rfl
@[simp] theorem Dev.modRmb_tiles (f : RmbSt → RmbSt) : (d.modRmb f).tiles = d.tiles := rfl
@[simp] theorem Dev.modRmb_beam (f : RmbSt → RmbSt) : (d.modRmb f).beam = d.beam := rfl
@[simp] theorem Dev.modRmb_clu (f : RmbSt → RmbSt) : (d.modRmb f).clu = d.clu := rfl
@[simp] theorem Dev.modRmb_rf (f : RmbSt → RmbSt) : (d.modRmb f).rf = d.rf := rfl
@[simp] theorem Dev.modRmb_dpd (f : RmbSt → RmbSt) : (d.modRmb f).dpd = d.dpd := rfl
@[simp] theorem Dev.modRmb_cal (f : RmbSt → RmbSt) : (d.modRmb f).cal = d.cal := rfl

@[simp] theorem Dev.modDma_free (c : Nat) (f : DmaSt → DmaSt) : (d.modDma c f).free = d.free := rfl
@[simp] theorem Dev.modDma_rdata (c : Nat) (f : DmaSt → DmaSt) : (d.modDma c f).rdata = d.rdata := rfl
@[simp] theorem Dev.modDma_rbytes (c : Nat) (f : DmaSt → DmaSt) : (d.modDma c f).rbytes = d.rbytes := rfl
@[simp] theorem Dev.modDma_regs (c : Nat) (f : DmaSt → DmaSt) : (d.modDma c f).regs = d.regs := rfl
@[simp] theorem Dev.modDma_latch (c : Nat) (f : DmaSt → DmaSt) : (d.modDma c f).latch = d.latch := rfl
@[simp] theorem Dev.modDma_staged (c : Nat) (f : DmaSt → DmaSt) : (d.modDma c f).staged = d.staged := rfl
@[simp] theorem Dev.modDma_mod (c : Nat) (f : DmaSt → DmaSt) : (d.modDma c f).mod = d.mod := rfl
@[simp] theorem Dev.modDma_time (c : Nat) (f : DmaSt → DmaSt) : (d.modDma c f).time = d.time := rfl
@[simp] theorem Dev.modDma_ttbl (c : Nat) (f : DmaSt → DmaSt) : (d.modDma c f).ttbl = d.ttbl := rfl
@[simp] theorem Dev.modDma_mbox (c : Nat) (f : DmaSt → DmaSt) : (d.modDma c f).mbox = d.mbox := rfl
@[simp] theorem Dev.modDma_fw (c : Nat) (f : DmaSt → DmaSt) : (d.modDma c f).fw = d.fw := rfl
@[simp] theorem Dev.modDma_obs (c : Nat) (f : DmaSt → DmaSt) : (d.modDma c f).obs = d.obs := rfl
@[simp] theorem Dev.modDma_power (c : Nat) (f : DmaSt → DmaSt) : (d.modDma c f).power = d.power := rfl
@[simp] theorem Dev.modDma_fuse (c : Nat) (f : DmaSt → DmaSt) : (d.modDma c f).fuse = d.fuse := rfl
@[simp] theorem Dev.modDma_lcs (c : Nat) (f : DmaSt → DmaSt) : (d.modDma c f).lcs = d.lcs := rfl
@[simp] theorem Dev.modDma_fe (c : Nat) (f : DmaSt → DmaSt) : (d.modDma c f).fe = d.fe := rfl
@[simp] theorem Dev.modDma_therm (c : Nat) (f : DmaSt → DmaSt) : (d.modDma c f).therm = d.therm := rfl
@[simp] theorem Dev.modDma_link (c : Nat) (f : DmaSt → DmaSt) : (d.modDma c f).link = d.link := rfl
@[simp] theorem Dev.modDma_fhp (c : Nat) (f : DmaSt → DmaSt) : (d.modDma c f).fhp = d.fhp := rfl
@[simp] theorem Dev.modDma_tiles (c : Nat) (f : DmaSt → DmaSt) : (d.modDma c f).tiles = d.tiles := rfl
@[simp] theorem Dev.modDma_beam (c : Nat) (f : DmaSt → DmaSt) : (d.modDma c f).beam = d.beam := rfl
@[simp] theorem Dev.modDma_clu (c : Nat) (f : DmaSt → DmaSt) : (d.modDma c f).clu = d.clu := rfl
@[simp] theorem Dev.modDma_rf (c : Nat) (f : DmaSt → DmaSt) : (d.modDma c f).rf = d.rf := rfl
@[simp] theorem Dev.modDma_dpd (c : Nat) (f : DmaSt → DmaSt) : (d.modDma c f).dpd = d.dpd := rfl
@[simp] theorem Dev.modDma_cal (c : Nat) (f : DmaSt → DmaSt) : (d.modDma c f).cal = d.cal := rfl
@[simp] theorem Dev.modDma_rmb (c : Nat) (f : DmaSt → DmaSt) : (d.modDma c f).rmb = d.rmb := rfl

@[simp] theorem Dev.modAux_free (f : AuxSt → AuxSt) : (d.modAux f).free = d.free := rfl
@[simp] theorem Dev.modAux_rdata (f : AuxSt → AuxSt) : (d.modAux f).rdata = d.rdata := rfl
@[simp] theorem Dev.modAux_rbytes (f : AuxSt → AuxSt) : (d.modAux f).rbytes = d.rbytes := rfl
@[simp] theorem Dev.modAux_regs (f : AuxSt → AuxSt) : (d.modAux f).regs = d.regs := rfl
@[simp] theorem Dev.modAux_latch (f : AuxSt → AuxSt) : (d.modAux f).latch = d.latch := rfl
@[simp] theorem Dev.modAux_staged (f : AuxSt → AuxSt) : (d.modAux f).staged = d.staged := rfl
@[simp] theorem Dev.modAux_mod (f : AuxSt → AuxSt) : (d.modAux f).mod = d.mod := rfl
@[simp] theorem Dev.modAux_time (f : AuxSt → AuxSt) : (d.modAux f).time = d.time := rfl
@[simp] theorem Dev.modAux_ttbl (f : AuxSt → AuxSt) : (d.modAux f).ttbl = d.ttbl := rfl
@[simp] theorem Dev.modAux_mbox (f : AuxSt → AuxSt) : (d.modAux f).mbox = d.mbox := rfl
@[simp] theorem Dev.modAux_fw (f : AuxSt → AuxSt) : (d.modAux f).fw = d.fw := rfl
@[simp] theorem Dev.modAux_memi (f : AuxSt → AuxSt) : (d.modAux f).memi = d.memi := rfl
@[simp] theorem Dev.modAux_obs (f : AuxSt → AuxSt) : (d.modAux f).obs = d.obs := rfl
@[simp] theorem Dev.modAux_power (f : AuxSt → AuxSt) : (d.modAux f).power = d.power := rfl
@[simp] theorem Dev.modAux_fuse (f : AuxSt → AuxSt) : (d.modAux f).fuse = d.fuse := rfl
@[simp] theorem Dev.modAux_lcs (f : AuxSt → AuxSt) : (d.modAux f).lcs = d.lcs := rfl
@[simp] theorem Dev.modAux_therm (f : AuxSt → AuxSt) : (d.modAux f).therm = d.therm := rfl
@[simp] theorem Dev.modAux_link (f : AuxSt → AuxSt) : (d.modAux f).link = d.link := rfl
@[simp] theorem Dev.modAux_fhp (f : AuxSt → AuxSt) : (d.modAux f).fhp = d.fhp := rfl
@[simp] theorem Dev.modAux_tiles (f : AuxSt → AuxSt) : (d.modAux f).tiles = d.tiles := rfl
@[simp] theorem Dev.modAux_beam (f : AuxSt → AuxSt) : (d.modAux f).beam = d.beam := rfl
@[simp] theorem Dev.modAux_clu (f : AuxSt → AuxSt) : (d.modAux f).clu = d.clu := rfl
@[simp] theorem Dev.modAux_rf (f : AuxSt → AuxSt) : (d.modAux f).rf = d.rf := rfl
@[simp] theorem Dev.modAux_dpd (f : AuxSt → AuxSt) : (d.modAux f).dpd = d.dpd := rfl
@[simp] theorem Dev.modAux_cal (f : AuxSt → AuxSt) : (d.modAux f).cal = d.cal := rfl
@[simp] theorem Dev.modAux_rmb (f : AuxSt → AuxSt) : (d.modAux f).rmb = d.rmb := rfl

@[simp] theorem Dev.modFe_free (f : FeSt → FeSt) : (d.modFe f).free = d.free := rfl
@[simp] theorem Dev.modFe_rdata (f : FeSt → FeSt) : (d.modFe f).rdata = d.rdata := rfl
@[simp] theorem Dev.modFe_rbytes (f : FeSt → FeSt) : (d.modFe f).rbytes = d.rbytes := rfl
@[simp] theorem Dev.modFe_regs (f : FeSt → FeSt) : (d.modFe f).regs = d.regs := rfl
@[simp] theorem Dev.modFe_latch (f : FeSt → FeSt) : (d.modFe f).latch = d.latch := rfl
@[simp] theorem Dev.modFe_staged (f : FeSt → FeSt) : (d.modFe f).staged = d.staged := rfl
@[simp] theorem Dev.modFe_mod (f : FeSt → FeSt) : (d.modFe f).mod = d.mod := rfl
@[simp] theorem Dev.modFe_time (f : FeSt → FeSt) : (d.modFe f).time = d.time := rfl
@[simp] theorem Dev.modFe_ttbl (f : FeSt → FeSt) : (d.modFe f).ttbl = d.ttbl := rfl
@[simp] theorem Dev.modFe_mbox (f : FeSt → FeSt) : (d.modFe f).mbox = d.mbox := rfl
@[simp] theorem Dev.modFe_fw (f : FeSt → FeSt) : (d.modFe f).fw = d.fw := rfl
@[simp] theorem Dev.modFe_memi (f : FeSt → FeSt) : (d.modFe f).memi = d.memi := rfl
@[simp] theorem Dev.modFe_obs (f : FeSt → FeSt) : (d.modFe f).obs = d.obs := rfl
@[simp] theorem Dev.modFe_power (f : FeSt → FeSt) : (d.modFe f).power = d.power := rfl
@[simp] theorem Dev.modFe_fuse (f : FeSt → FeSt) : (d.modFe f).fuse = d.fuse := rfl
@[simp] theorem Dev.modFe_lcs (f : FeSt → FeSt) : (d.modFe f).lcs = d.lcs := rfl
@[simp] theorem Dev.modFe_therm (f : FeSt → FeSt) : (d.modFe f).therm = d.therm := rfl
@[simp] theorem Dev.modFe_link (f : FeSt → FeSt) : (d.modFe f).link = d.link := rfl
@[simp] theorem Dev.modFe_fhp (f : FeSt → FeSt) : (d.modFe f).fhp = d.fhp := rfl
@[simp] theorem Dev.modFe_tiles (f : FeSt → FeSt) : (d.modFe f).tiles = d.tiles := rfl
@[simp] theorem Dev.modFe_beam (f : FeSt → FeSt) : (d.modFe f).beam = d.beam := rfl
@[simp] theorem Dev.modFe_clu (f : FeSt → FeSt) : (d.modFe f).clu = d.clu := rfl
@[simp] theorem Dev.modFe_rf (f : FeSt → FeSt) : (d.modFe f).rf = d.rf := rfl
@[simp] theorem Dev.modFe_dpd (f : FeSt → FeSt) : (d.modFe f).dpd = d.dpd := rfl
@[simp] theorem Dev.modFe_cal (f : FeSt → FeSt) : (d.modFe f).cal = d.cal := rfl
@[simp] theorem Dev.modFe_rmb (f : FeSt → FeSt) : (d.modFe f).rmb = d.rmb := rfl

@[simp] theorem Dev.modMon_free (c : Nat) (f : MonSt → MonSt) : (d.modMon c f).free = d.free := rfl
@[simp] theorem Dev.modMon_rdata (c : Nat) (f : MonSt → MonSt) : (d.modMon c f).rdata = d.rdata := rfl
@[simp] theorem Dev.modMon_rbytes (c : Nat) (f : MonSt → MonSt) : (d.modMon c f).rbytes = d.rbytes := rfl
@[simp] theorem Dev.modMon_regs (c : Nat) (f : MonSt → MonSt) : (d.modMon c f).regs = d.regs := rfl
@[simp] theorem Dev.modMon_latch (c : Nat) (f : MonSt → MonSt) : (d.modMon c f).latch = d.latch := rfl
@[simp] theorem Dev.modMon_staged (c : Nat) (f : MonSt → MonSt) : (d.modMon c f).staged = d.staged := rfl
@[simp] theorem Dev.modMon_mod (c : Nat) (f : MonSt → MonSt) : (d.modMon c f).mod = d.mod := rfl
@[simp] theorem Dev.modMon_time (c : Nat) (f : MonSt → MonSt) : (d.modMon c f).time = d.time := rfl
@[simp] theorem Dev.modMon_ttbl (c : Nat) (f : MonSt → MonSt) : (d.modMon c f).ttbl = d.ttbl := rfl
@[simp] theorem Dev.modMon_mbox (c : Nat) (f : MonSt → MonSt) : (d.modMon c f).mbox = d.mbox := rfl
@[simp] theorem Dev.modMon_fw (c : Nat) (f : MonSt → MonSt) : (d.modMon c f).fw = d.fw := rfl
@[simp] theorem Dev.modMon_memi (c : Nat) (f : MonSt → MonSt) : (d.modMon c f).memi = d.memi := rfl
@[simp] theorem Dev.modMon_obs (c : Nat) (f : MonSt → MonSt) : (d.modMon c f).obs = d.obs := rfl
@[simp] theorem Dev.modMon_power (c : Nat) (f : MonSt → MonSt) : (d.modMon c f).power = d.power := rfl
@[simp] theorem Dev.modMon_fuse (c : Nat) (f : MonSt → MonSt) : (d.modMon c f).fuse = d.fuse := rfl
@[simp] theorem Dev.modMon_lcs (c : Nat) (f : MonSt → MonSt) : (d.modMon c f).lcs = d.lcs := rfl
@[simp] theorem Dev.modMon_therm (c : Nat) (f : MonSt → MonSt) : (d.modMon c f).therm = d.therm := rfl
@[simp] theorem Dev.modMon_link (c : Nat) (f : MonSt → MonSt) : (d.modMon c f).link = d.link := rfl
@[simp] theorem Dev.modMon_fhp (c : Nat) (f : MonSt → MonSt) : (d.modMon c f).fhp = d.fhp := rfl
@[simp] theorem Dev.modMon_tiles (c : Nat) (f : MonSt → MonSt) : (d.modMon c f).tiles = d.tiles := rfl
@[simp] theorem Dev.modMon_beam (c : Nat) (f : MonSt → MonSt) : (d.modMon c f).beam = d.beam := rfl
@[simp] theorem Dev.modMon_clu (c : Nat) (f : MonSt → MonSt) : (d.modMon c f).clu = d.clu := rfl
@[simp] theorem Dev.modMon_rf (c : Nat) (f : MonSt → MonSt) : (d.modMon c f).rf = d.rf := rfl
@[simp] theorem Dev.modMon_dpd (c : Nat) (f : MonSt → MonSt) : (d.modMon c f).dpd = d.dpd := rfl
@[simp] theorem Dev.modMon_cal (c : Nat) (f : MonSt → MonSt) : (d.modMon c f).cal = d.cal := rfl
@[simp] theorem Dev.modMon_rmb (c : Nat) (f : MonSt → MonSt) : (d.modMon c f).rmb = d.rmb := rfl

@[simp] theorem Dev.modSens_free (n : Nat) (f : SensSt → SensSt) : (d.modSens n f).free = d.free := rfl
@[simp] theorem Dev.modSens_rdata (n : Nat) (f : SensSt → SensSt) : (d.modSens n f).rdata = d.rdata := rfl
@[simp] theorem Dev.modSens_rbytes (n : Nat) (f : SensSt → SensSt) : (d.modSens n f).rbytes = d.rbytes := rfl
@[simp] theorem Dev.modSens_regs (n : Nat) (f : SensSt → SensSt) : (d.modSens n f).regs = d.regs := rfl
@[simp] theorem Dev.modSens_latch (n : Nat) (f : SensSt → SensSt) : (d.modSens n f).latch = d.latch := rfl
@[simp] theorem Dev.modSens_staged (n : Nat) (f : SensSt → SensSt) : (d.modSens n f).staged = d.staged := rfl
@[simp] theorem Dev.modSens_mod (n : Nat) (f : SensSt → SensSt) : (d.modSens n f).mod = d.mod := rfl
@[simp] theorem Dev.modSens_time (n : Nat) (f : SensSt → SensSt) : (d.modSens n f).time = d.time := rfl
@[simp] theorem Dev.modSens_ttbl (n : Nat) (f : SensSt → SensSt) : (d.modSens n f).ttbl = d.ttbl := rfl
@[simp] theorem Dev.modSens_mbox (n : Nat) (f : SensSt → SensSt) : (d.modSens n f).mbox = d.mbox := rfl
@[simp] theorem Dev.modSens_fw (n : Nat) (f : SensSt → SensSt) : (d.modSens n f).fw = d.fw := rfl
@[simp] theorem Dev.modSens_memi (n : Nat) (f : SensSt → SensSt) : (d.modSens n f).memi = d.memi := rfl
@[simp] theorem Dev.modSens_obs (n : Nat) (f : SensSt → SensSt) : (d.modSens n f).obs = d.obs := rfl
@[simp] theorem Dev.modSens_power (n : Nat) (f : SensSt → SensSt) : (d.modSens n f).power = d.power := rfl
@[simp] theorem Dev.modSens_fuse (n : Nat) (f : SensSt → SensSt) : (d.modSens n f).fuse = d.fuse := rfl
@[simp] theorem Dev.modSens_lcs (n : Nat) (f : SensSt → SensSt) : (d.modSens n f).lcs = d.lcs := rfl
@[simp] theorem Dev.modSens_fe (n : Nat) (f : SensSt → SensSt) : (d.modSens n f).fe = d.fe := rfl
@[simp] theorem Dev.modSens_link (n : Nat) (f : SensSt → SensSt) : (d.modSens n f).link = d.link := rfl
@[simp] theorem Dev.modSens_fhp (n : Nat) (f : SensSt → SensSt) : (d.modSens n f).fhp = d.fhp := rfl
@[simp] theorem Dev.modSens_tiles (n : Nat) (f : SensSt → SensSt) : (d.modSens n f).tiles = d.tiles := rfl
@[simp] theorem Dev.modSens_beam (n : Nat) (f : SensSt → SensSt) : (d.modSens n f).beam = d.beam := rfl
@[simp] theorem Dev.modSens_clu (n : Nat) (f : SensSt → SensSt) : (d.modSens n f).clu = d.clu := rfl
@[simp] theorem Dev.modSens_rf (n : Nat) (f : SensSt → SensSt) : (d.modSens n f).rf = d.rf := rfl
@[simp] theorem Dev.modSens_dpd (n : Nat) (f : SensSt → SensSt) : (d.modSens n f).dpd = d.dpd := rfl
@[simp] theorem Dev.modSens_cal (n : Nat) (f : SensSt → SensSt) : (d.modSens n f).cal = d.cal := rfl
@[simp] theorem Dev.modSens_rmb (n : Nat) (f : SensSt → SensSt) : (d.modSens n f).rmb = d.rmb := rfl

@[simp] theorem Dev.modZone_free (z : Nat) (f : ZoneSt → ZoneSt) : (d.modZone z f).free = d.free := rfl
@[simp] theorem Dev.modZone_rdata (z : Nat) (f : ZoneSt → ZoneSt) : (d.modZone z f).rdata = d.rdata := rfl
@[simp] theorem Dev.modZone_rbytes (z : Nat) (f : ZoneSt → ZoneSt) : (d.modZone z f).rbytes = d.rbytes := rfl
@[simp] theorem Dev.modZone_regs (z : Nat) (f : ZoneSt → ZoneSt) : (d.modZone z f).regs = d.regs := rfl
@[simp] theorem Dev.modZone_latch (z : Nat) (f : ZoneSt → ZoneSt) : (d.modZone z f).latch = d.latch := rfl
@[simp] theorem Dev.modZone_staged (z : Nat) (f : ZoneSt → ZoneSt) : (d.modZone z f).staged = d.staged := rfl
@[simp] theorem Dev.modZone_mod (z : Nat) (f : ZoneSt → ZoneSt) : (d.modZone z f).mod = d.mod := rfl
@[simp] theorem Dev.modZone_time (z : Nat) (f : ZoneSt → ZoneSt) : (d.modZone z f).time = d.time := rfl
@[simp] theorem Dev.modZone_ttbl (z : Nat) (f : ZoneSt → ZoneSt) : (d.modZone z f).ttbl = d.ttbl := rfl
@[simp] theorem Dev.modZone_mbox (z : Nat) (f : ZoneSt → ZoneSt) : (d.modZone z f).mbox = d.mbox := rfl
@[simp] theorem Dev.modZone_fw (z : Nat) (f : ZoneSt → ZoneSt) : (d.modZone z f).fw = d.fw := rfl
@[simp] theorem Dev.modZone_memi (z : Nat) (f : ZoneSt → ZoneSt) : (d.modZone z f).memi = d.memi := rfl
@[simp] theorem Dev.modZone_obs (z : Nat) (f : ZoneSt → ZoneSt) : (d.modZone z f).obs = d.obs := rfl
@[simp] theorem Dev.modZone_power (z : Nat) (f : ZoneSt → ZoneSt) : (d.modZone z f).power = d.power := rfl
@[simp] theorem Dev.modZone_fuse (z : Nat) (f : ZoneSt → ZoneSt) : (d.modZone z f).fuse = d.fuse := rfl
@[simp] theorem Dev.modZone_lcs (z : Nat) (f : ZoneSt → ZoneSt) : (d.modZone z f).lcs = d.lcs := rfl
@[simp] theorem Dev.modZone_fe (z : Nat) (f : ZoneSt → ZoneSt) : (d.modZone z f).fe = d.fe := rfl
@[simp] theorem Dev.modZone_link (z : Nat) (f : ZoneSt → ZoneSt) : (d.modZone z f).link = d.link := rfl
@[simp] theorem Dev.modZone_fhp (z : Nat) (f : ZoneSt → ZoneSt) : (d.modZone z f).fhp = d.fhp := rfl
@[simp] theorem Dev.modZone_tiles (z : Nat) (f : ZoneSt → ZoneSt) : (d.modZone z f).tiles = d.tiles := rfl
@[simp] theorem Dev.modZone_beam (z : Nat) (f : ZoneSt → ZoneSt) : (d.modZone z f).beam = d.beam := rfl
@[simp] theorem Dev.modZone_clu (z : Nat) (f : ZoneSt → ZoneSt) : (d.modZone z f).clu = d.clu := rfl
@[simp] theorem Dev.modZone_rf (z : Nat) (f : ZoneSt → ZoneSt) : (d.modZone z f).rf = d.rf := rfl
@[simp] theorem Dev.modZone_dpd (z : Nat) (f : ZoneSt → ZoneSt) : (d.modZone z f).dpd = d.dpd := rfl
@[simp] theorem Dev.modZone_cal (z : Nat) (f : ZoneSt → ZoneSt) : (d.modZone z f).cal = d.cal := rfl
@[simp] theorem Dev.modZone_rmb (z : Nat) (f : ZoneSt → ZoneSt) : (d.modZone z f).rmb = d.rmb := rfl

@[simp] theorem Dev.modLane_free (n : Nat) (f : LaneSt → LaneSt) : (d.modLane n f).free = d.free := rfl
@[simp] theorem Dev.modLane_rdata (n : Nat) (f : LaneSt → LaneSt) : (d.modLane n f).rdata = d.rdata := rfl
@[simp] theorem Dev.modLane_rbytes (n : Nat) (f : LaneSt → LaneSt) : (d.modLane n f).rbytes = d.rbytes := rfl
@[simp] theorem Dev.modLane_regs (n : Nat) (f : LaneSt → LaneSt) : (d.modLane n f).regs = d.regs := rfl
@[simp] theorem Dev.modLane_latch (n : Nat) (f : LaneSt → LaneSt) : (d.modLane n f).latch = d.latch := rfl
@[simp] theorem Dev.modLane_staged (n : Nat) (f : LaneSt → LaneSt) : (d.modLane n f).staged = d.staged := rfl
@[simp] theorem Dev.modLane_mod (n : Nat) (f : LaneSt → LaneSt) : (d.modLane n f).mod = d.mod := rfl
@[simp] theorem Dev.modLane_time (n : Nat) (f : LaneSt → LaneSt) : (d.modLane n f).time = d.time := rfl
@[simp] theorem Dev.modLane_ttbl (n : Nat) (f : LaneSt → LaneSt) : (d.modLane n f).ttbl = d.ttbl := rfl
@[simp] theorem Dev.modLane_mbox (n : Nat) (f : LaneSt → LaneSt) : (d.modLane n f).mbox = d.mbox := rfl
@[simp] theorem Dev.modLane_fw (n : Nat) (f : LaneSt → LaneSt) : (d.modLane n f).fw = d.fw := rfl
@[simp] theorem Dev.modLane_memi (n : Nat) (f : LaneSt → LaneSt) : (d.modLane n f).memi = d.memi := rfl
@[simp] theorem Dev.modLane_obs (n : Nat) (f : LaneSt → LaneSt) : (d.modLane n f).obs = d.obs := rfl
@[simp] theorem Dev.modLane_power (n : Nat) (f : LaneSt → LaneSt) : (d.modLane n f).power = d.power := rfl
@[simp] theorem Dev.modLane_fuse (n : Nat) (f : LaneSt → LaneSt) : (d.modLane n f).fuse = d.fuse := rfl
@[simp] theorem Dev.modLane_lcs (n : Nat) (f : LaneSt → LaneSt) : (d.modLane n f).lcs = d.lcs := rfl
@[simp] theorem Dev.modLane_fe (n : Nat) (f : LaneSt → LaneSt) : (d.modLane n f).fe = d.fe := rfl
@[simp] theorem Dev.modLane_therm (n : Nat) (f : LaneSt → LaneSt) : (d.modLane n f).therm = d.therm := rfl
@[simp] theorem Dev.modLane_fhp (n : Nat) (f : LaneSt → LaneSt) : (d.modLane n f).fhp = d.fhp := rfl
@[simp] theorem Dev.modLane_tiles (n : Nat) (f : LaneSt → LaneSt) : (d.modLane n f).tiles = d.tiles := rfl
@[simp] theorem Dev.modLane_beam (n : Nat) (f : LaneSt → LaneSt) : (d.modLane n f).beam = d.beam := rfl
@[simp] theorem Dev.modLane_clu (n : Nat) (f : LaneSt → LaneSt) : (d.modLane n f).clu = d.clu := rfl
@[simp] theorem Dev.modLane_rf (n : Nat) (f : LaneSt → LaneSt) : (d.modLane n f).rf = d.rf := rfl
@[simp] theorem Dev.modLane_dpd (n : Nat) (f : LaneSt → LaneSt) : (d.modLane n f).dpd = d.dpd := rfl
@[simp] theorem Dev.modLane_cal (n : Nat) (f : LaneSt → LaneSt) : (d.modLane n f).cal = d.cal := rfl
@[simp] theorem Dev.modLane_rmb (n : Nat) (f : LaneSt → LaneSt) : (d.modLane n f).rmb = d.rmb := rfl

@[simp] theorem Dev.modPort_free (x : Nat) (f : PortSt → PortSt) : (d.modPort x f).free = d.free := rfl
@[simp] theorem Dev.modPort_rdata (x : Nat) (f : PortSt → PortSt) : (d.modPort x f).rdata = d.rdata := rfl
@[simp] theorem Dev.modPort_rbytes (x : Nat) (f : PortSt → PortSt) : (d.modPort x f).rbytes = d.rbytes := rfl
@[simp] theorem Dev.modPort_regs (x : Nat) (f : PortSt → PortSt) : (d.modPort x f).regs = d.regs := rfl
@[simp] theorem Dev.modPort_latch (x : Nat) (f : PortSt → PortSt) : (d.modPort x f).latch = d.latch := rfl
@[simp] theorem Dev.modPort_staged (x : Nat) (f : PortSt → PortSt) : (d.modPort x f).staged = d.staged := rfl
@[simp] theorem Dev.modPort_mod (x : Nat) (f : PortSt → PortSt) : (d.modPort x f).mod = d.mod := rfl
@[simp] theorem Dev.modPort_time (x : Nat) (f : PortSt → PortSt) : (d.modPort x f).time = d.time := rfl
@[simp] theorem Dev.modPort_ttbl (x : Nat) (f : PortSt → PortSt) : (d.modPort x f).ttbl = d.ttbl := rfl
@[simp] theorem Dev.modPort_mbox (x : Nat) (f : PortSt → PortSt) : (d.modPort x f).mbox = d.mbox := rfl
@[simp] theorem Dev.modPort_fw (x : Nat) (f : PortSt → PortSt) : (d.modPort x f).fw = d.fw := rfl
@[simp] theorem Dev.modPort_memi (x : Nat) (f : PortSt → PortSt) : (d.modPort x f).memi = d.memi := rfl
@[simp] theorem Dev.modPort_obs (x : Nat) (f : PortSt → PortSt) : (d.modPort x f).obs = d.obs := rfl
@[simp] theorem Dev.modPort_power (x : Nat) (f : PortSt → PortSt) : (d.modPort x f).power = d.power := rfl
@[simp] theorem Dev.modPort_fuse (x : Nat) (f : PortSt → PortSt) : (d.modPort x f).fuse = d.fuse := rfl
@[simp] theorem Dev.modPort_lcs (x : Nat) (f : PortSt → PortSt) : (d.modPort x f).lcs = d.lcs := rfl
@[simp] theorem Dev.modPort_fe (x : Nat) (f : PortSt → PortSt) : (d.modPort x f).fe = d.fe := rfl
@[simp] theorem Dev.modPort_therm (x : Nat) (f : PortSt → PortSt) : (d.modPort x f).therm = d.therm := rfl
@[simp] theorem Dev.modPort_fhp (x : Nat) (f : PortSt → PortSt) : (d.modPort x f).fhp = d.fhp := rfl
@[simp] theorem Dev.modPort_tiles (x : Nat) (f : PortSt → PortSt) : (d.modPort x f).tiles = d.tiles := rfl
@[simp] theorem Dev.modPort_beam (x : Nat) (f : PortSt → PortSt) : (d.modPort x f).beam = d.beam := rfl
@[simp] theorem Dev.modPort_clu (x : Nat) (f : PortSt → PortSt) : (d.modPort x f).clu = d.clu := rfl
@[simp] theorem Dev.modPort_rf (x : Nat) (f : PortSt → PortSt) : (d.modPort x f).rf = d.rf := rfl
@[simp] theorem Dev.modPort_dpd (x : Nat) (f : PortSt → PortSt) : (d.modPort x f).dpd = d.dpd := rfl
@[simp] theorem Dev.modPort_cal (x : Nat) (f : PortSt → PortSt) : (d.modPort x f).cal = d.cal := rfl
@[simp] theorem Dev.modPort_rmb (x : Nat) (f : PortSt → PortSt) : (d.modPort x f).rmb = d.rmb := rfl

@[simp] theorem Dev.modMbx_free (m : Nat) (f : MboxSt → MboxSt) : (d.modMbx m f).free = d.free := rfl
@[simp] theorem Dev.modMbx_rdata (m : Nat) (f : MboxSt → MboxSt) : (d.modMbx m f).rdata = d.rdata := rfl
@[simp] theorem Dev.modMbx_rbytes (m : Nat) (f : MboxSt → MboxSt) : (d.modMbx m f).rbytes = d.rbytes := rfl
@[simp] theorem Dev.modMbx_regs (m : Nat) (f : MboxSt → MboxSt) : (d.modMbx m f).regs = d.regs := rfl
@[simp] theorem Dev.modMbx_latch (m : Nat) (f : MboxSt → MboxSt) : (d.modMbx m f).latch = d.latch := rfl
@[simp] theorem Dev.modMbx_staged (m : Nat) (f : MboxSt → MboxSt) : (d.modMbx m f).staged = d.staged := rfl
@[simp] theorem Dev.modMbx_mod (m : Nat) (f : MboxSt → MboxSt) : (d.modMbx m f).mod = d.mod := rfl
@[simp] theorem Dev.modMbx_time (m : Nat) (f : MboxSt → MboxSt) : (d.modMbx m f).time = d.time := rfl
@[simp] theorem Dev.modMbx_ttbl (m : Nat) (f : MboxSt → MboxSt) : (d.modMbx m f).ttbl = d.ttbl := rfl
@[simp] theorem Dev.modMbx_fw (m : Nat) (f : MboxSt → MboxSt) : (d.modMbx m f).fw = d.fw := rfl
@[simp] theorem Dev.modMbx_memi (m : Nat) (f : MboxSt → MboxSt) : (d.modMbx m f).memi = d.memi := rfl
@[simp] theorem Dev.modMbx_obs (m : Nat) (f : MboxSt → MboxSt) : (d.modMbx m f).obs = d.obs := rfl
@[simp] theorem Dev.modMbx_power (m : Nat) (f : MboxSt → MboxSt) : (d.modMbx m f).power = d.power := rfl
@[simp] theorem Dev.modMbx_fuse (m : Nat) (f : MboxSt → MboxSt) : (d.modMbx m f).fuse = d.fuse := rfl
@[simp] theorem Dev.modMbx_lcs (m : Nat) (f : MboxSt → MboxSt) : (d.modMbx m f).lcs = d.lcs := rfl
@[simp] theorem Dev.modMbx_fe (m : Nat) (f : MboxSt → MboxSt) : (d.modMbx m f).fe = d.fe := rfl
@[simp] theorem Dev.modMbx_therm (m : Nat) (f : MboxSt → MboxSt) : (d.modMbx m f).therm = d.therm := rfl
@[simp] theorem Dev.modMbx_link (m : Nat) (f : MboxSt → MboxSt) : (d.modMbx m f).link = d.link := rfl
@[simp] theorem Dev.modMbx_fhp (m : Nat) (f : MboxSt → MboxSt) : (d.modMbx m f).fhp = d.fhp := rfl
@[simp] theorem Dev.modMbx_tiles (m : Nat) (f : MboxSt → MboxSt) : (d.modMbx m f).tiles = d.tiles := rfl
@[simp] theorem Dev.modMbx_beam (m : Nat) (f : MboxSt → MboxSt) : (d.modMbx m f).beam = d.beam := rfl
@[simp] theorem Dev.modMbx_clu (m : Nat) (f : MboxSt → MboxSt) : (d.modMbx m f).clu = d.clu := rfl
@[simp] theorem Dev.modMbx_rf (m : Nat) (f : MboxSt → MboxSt) : (d.modMbx m f).rf = d.rf := rfl
@[simp] theorem Dev.modMbx_dpd (m : Nat) (f : MboxSt → MboxSt) : (d.modMbx m f).dpd = d.dpd := rfl
@[simp] theorem Dev.modMbx_cal (m : Nat) (f : MboxSt → MboxSt) : (d.modMbx m f).cal = d.cal := rfl
@[simp] theorem Dev.modMbx_rmb (m : Nat) (f : MboxSt → MboxSt) : (d.modMbx m f).rmb = d.rmb := rfl

@[simp] theorem Dev.modFw_free (f : FwSt → FwSt) : (d.modFw f).free = d.free := rfl
@[simp] theorem Dev.modFw_rdata (f : FwSt → FwSt) : (d.modFw f).rdata = d.rdata := rfl
@[simp] theorem Dev.modFw_rbytes (f : FwSt → FwSt) : (d.modFw f).rbytes = d.rbytes := rfl
@[simp] theorem Dev.modFw_regs (f : FwSt → FwSt) : (d.modFw f).regs = d.regs := rfl
@[simp] theorem Dev.modFw_latch (f : FwSt → FwSt) : (d.modFw f).latch = d.latch := rfl
@[simp] theorem Dev.modFw_staged (f : FwSt → FwSt) : (d.modFw f).staged = d.staged := rfl
@[simp] theorem Dev.modFw_mod (f : FwSt → FwSt) : (d.modFw f).mod = d.mod := rfl
@[simp] theorem Dev.modFw_time (f : FwSt → FwSt) : (d.modFw f).time = d.time := rfl
@[simp] theorem Dev.modFw_ttbl (f : FwSt → FwSt) : (d.modFw f).ttbl = d.ttbl := rfl
@[simp] theorem Dev.modFw_mbox (f : FwSt → FwSt) : (d.modFw f).mbox = d.mbox := rfl
@[simp] theorem Dev.modFw_memi (f : FwSt → FwSt) : (d.modFw f).memi = d.memi := rfl
@[simp] theorem Dev.modFw_obs (f : FwSt → FwSt) : (d.modFw f).obs = d.obs := rfl
@[simp] theorem Dev.modFw_power (f : FwSt → FwSt) : (d.modFw f).power = d.power := rfl
@[simp] theorem Dev.modFw_fuse (f : FwSt → FwSt) : (d.modFw f).fuse = d.fuse := rfl
@[simp] theorem Dev.modFw_lcs (f : FwSt → FwSt) : (d.modFw f).lcs = d.lcs := rfl
@[simp] theorem Dev.modFw_fe (f : FwSt → FwSt) : (d.modFw f).fe = d.fe := rfl
@[simp] theorem Dev.modFw_therm (f : FwSt → FwSt) : (d.modFw f).therm = d.therm := rfl
@[simp] theorem Dev.modFw_link (f : FwSt → FwSt) : (d.modFw f).link = d.link := rfl
@[simp] theorem Dev.modFw_fhp (f : FwSt → FwSt) : (d.modFw f).fhp = d.fhp := rfl
@[simp] theorem Dev.modFw_tiles (f : FwSt → FwSt) : (d.modFw f).tiles = d.tiles := rfl
@[simp] theorem Dev.modFw_beam (f : FwSt → FwSt) : (d.modFw f).beam = d.beam := rfl
@[simp] theorem Dev.modFw_clu (f : FwSt → FwSt) : (d.modFw f).clu = d.clu := rfl
@[simp] theorem Dev.modFw_rf (f : FwSt → FwSt) : (d.modFw f).rf = d.rf := rfl
@[simp] theorem Dev.modFw_dpd (f : FwSt → FwSt) : (d.modFw f).dpd = d.dpd := rfl
@[simp] theorem Dev.modFw_cal (f : FwSt → FwSt) : (d.modFw f).cal = d.cal := rfl
@[simp] theorem Dev.modFw_rmb (f : FwSt → FwSt) : (d.modFw f).rmb = d.rmb := rfl

@[simp] theorem Dev.modTime_free (f : TimeSt → TimeSt) : (d.modTime f).free = d.free := rfl
@[simp] theorem Dev.modTime_rdata (f : TimeSt → TimeSt) : (d.modTime f).rdata = d.rdata := rfl
@[simp] theorem Dev.modTime_rbytes (f : TimeSt → TimeSt) : (d.modTime f).rbytes = d.rbytes := rfl
@[simp] theorem Dev.modTime_regs (f : TimeSt → TimeSt) : (d.modTime f).regs = d.regs := rfl
@[simp] theorem Dev.modTime_latch (f : TimeSt → TimeSt) : (d.modTime f).latch = d.latch := rfl
@[simp] theorem Dev.modTime_staged (f : TimeSt → TimeSt) : (d.modTime f).staged = d.staged := rfl
@[simp] theorem Dev.modTime_mod (f : TimeSt → TimeSt) : (d.modTime f).mod = d.mod := rfl
@[simp] theorem Dev.modTime_ttbl (f : TimeSt → TimeSt) : (d.modTime f).ttbl = d.ttbl := rfl
@[simp] theorem Dev.modTime_mbox (f : TimeSt → TimeSt) : (d.modTime f).mbox = d.mbox := rfl
@[simp] theorem Dev.modTime_fw (f : TimeSt → TimeSt) : (d.modTime f).fw = d.fw := rfl
@[simp] theorem Dev.modTime_memi (f : TimeSt → TimeSt) : (d.modTime f).memi = d.memi := rfl
@[simp] theorem Dev.modTime_obs (f : TimeSt → TimeSt) : (d.modTime f).obs = d.obs := rfl
@[simp] theorem Dev.modTime_power (f : TimeSt → TimeSt) : (d.modTime f).power = d.power := rfl
@[simp] theorem Dev.modTime_fuse (f : TimeSt → TimeSt) : (d.modTime f).fuse = d.fuse := rfl
@[simp] theorem Dev.modTime_lcs (f : TimeSt → TimeSt) : (d.modTime f).lcs = d.lcs := rfl
@[simp] theorem Dev.modTime_fe (f : TimeSt → TimeSt) : (d.modTime f).fe = d.fe := rfl
@[simp] theorem Dev.modTime_therm (f : TimeSt → TimeSt) : (d.modTime f).therm = d.therm := rfl
@[simp] theorem Dev.modTime_link (f : TimeSt → TimeSt) : (d.modTime f).link = d.link := rfl
@[simp] theorem Dev.modTime_fhp (f : TimeSt → TimeSt) : (d.modTime f).fhp = d.fhp := rfl
@[simp] theorem Dev.modTime_tiles (f : TimeSt → TimeSt) : (d.modTime f).tiles = d.tiles := rfl
@[simp] theorem Dev.modTime_beam (f : TimeSt → TimeSt) : (d.modTime f).beam = d.beam := rfl
@[simp] theorem Dev.modTime_clu (f : TimeSt → TimeSt) : (d.modTime f).clu = d.clu := rfl
@[simp] theorem Dev.modTime_rf (f : TimeSt → TimeSt) : (d.modTime f).rf = d.rf := rfl
@[simp] theorem Dev.modTime_dpd (f : TimeSt → TimeSt) : (d.modTime f).dpd = d.dpd := rfl
@[simp] theorem Dev.modTime_cal (f : TimeSt → TimeSt) : (d.modTime f).cal = d.cal := rfl
@[simp] theorem Dev.modTime_rmb (f : TimeSt → TimeSt) : (d.modTime f).rmb = d.rmb := rfl

@[simp] theorem Dev.modMemi_free (f : MemSt → MemSt) : (d.modMemi f).free = d.free := rfl
@[simp] theorem Dev.modMemi_rdata (f : MemSt → MemSt) : (d.modMemi f).rdata = d.rdata := rfl
@[simp] theorem Dev.modMemi_rbytes (f : MemSt → MemSt) : (d.modMemi f).rbytes = d.rbytes := rfl
@[simp] theorem Dev.modMemi_regs (f : MemSt → MemSt) : (d.modMemi f).regs = d.regs := rfl
@[simp] theorem Dev.modMemi_latch (f : MemSt → MemSt) : (d.modMemi f).latch = d.latch := rfl
@[simp] theorem Dev.modMemi_staged (f : MemSt → MemSt) : (d.modMemi f).staged = d.staged := rfl
@[simp] theorem Dev.modMemi_mod (f : MemSt → MemSt) : (d.modMemi f).mod = d.mod := rfl
@[simp] theorem Dev.modMemi_time (f : MemSt → MemSt) : (d.modMemi f).time = d.time := rfl
@[simp] theorem Dev.modMemi_ttbl (f : MemSt → MemSt) : (d.modMemi f).ttbl = d.ttbl := rfl
@[simp] theorem Dev.modMemi_mbox (f : MemSt → MemSt) : (d.modMemi f).mbox = d.mbox := rfl
@[simp] theorem Dev.modMemi_fw (f : MemSt → MemSt) : (d.modMemi f).fw = d.fw := rfl
@[simp] theorem Dev.modMemi_obs (f : MemSt → MemSt) : (d.modMemi f).obs = d.obs := rfl
@[simp] theorem Dev.modMemi_power (f : MemSt → MemSt) : (d.modMemi f).power = d.power := rfl
@[simp] theorem Dev.modMemi_fuse (f : MemSt → MemSt) : (d.modMemi f).fuse = d.fuse := rfl
@[simp] theorem Dev.modMemi_lcs (f : MemSt → MemSt) : (d.modMemi f).lcs = d.lcs := rfl
@[simp] theorem Dev.modMemi_fe (f : MemSt → MemSt) : (d.modMemi f).fe = d.fe := rfl
@[simp] theorem Dev.modMemi_therm (f : MemSt → MemSt) : (d.modMemi f).therm = d.therm := rfl
@[simp] theorem Dev.modMemi_link (f : MemSt → MemSt) : (d.modMemi f).link = d.link := rfl
@[simp] theorem Dev.modMemi_fhp (f : MemSt → MemSt) : (d.modMemi f).fhp = d.fhp := rfl
@[simp] theorem Dev.modMemi_tiles (f : MemSt → MemSt) : (d.modMemi f).tiles = d.tiles := rfl
@[simp] theorem Dev.modMemi_beam (f : MemSt → MemSt) : (d.modMemi f).beam = d.beam := rfl
@[simp] theorem Dev.modMemi_clu (f : MemSt → MemSt) : (d.modMemi f).clu = d.clu := rfl
@[simp] theorem Dev.modMemi_rf (f : MemSt → MemSt) : (d.modMemi f).rf = d.rf := rfl
@[simp] theorem Dev.modMemi_dpd (f : MemSt → MemSt) : (d.modMemi f).dpd = d.dpd := rfl
@[simp] theorem Dev.modMemi_cal (f : MemSt → MemSt) : (d.modMemi f).cal = d.cal := rfl
@[simp] theorem Dev.modMemi_rmb (f : MemSt → MemSt) : (d.modMemi f).rmb = d.rmb := rfl

@[simp] theorem Dev.modLcs_free (f : LcsSt → LcsSt) : (d.modLcs f).free = d.free := rfl
@[simp] theorem Dev.modLcs_rdata (f : LcsSt → LcsSt) : (d.modLcs f).rdata = d.rdata := rfl
@[simp] theorem Dev.modLcs_rbytes (f : LcsSt → LcsSt) : (d.modLcs f).rbytes = d.rbytes := rfl
@[simp] theorem Dev.modLcs_regs (f : LcsSt → LcsSt) : (d.modLcs f).regs = d.regs := rfl
@[simp] theorem Dev.modLcs_latch (f : LcsSt → LcsSt) : (d.modLcs f).latch = d.latch := rfl
@[simp] theorem Dev.modLcs_staged (f : LcsSt → LcsSt) : (d.modLcs f).staged = d.staged := rfl
@[simp] theorem Dev.modLcs_mod (f : LcsSt → LcsSt) : (d.modLcs f).mod = d.mod := rfl
@[simp] theorem Dev.modLcs_time (f : LcsSt → LcsSt) : (d.modLcs f).time = d.time := rfl
@[simp] theorem Dev.modLcs_ttbl (f : LcsSt → LcsSt) : (d.modLcs f).ttbl = d.ttbl := rfl
@[simp] theorem Dev.modLcs_mbox (f : LcsSt → LcsSt) : (d.modLcs f).mbox = d.mbox := rfl
@[simp] theorem Dev.modLcs_fw (f : LcsSt → LcsSt) : (d.modLcs f).fw = d.fw := rfl
@[simp] theorem Dev.modLcs_memi (f : LcsSt → LcsSt) : (d.modLcs f).memi = d.memi := rfl
@[simp] theorem Dev.modLcs_obs (f : LcsSt → LcsSt) : (d.modLcs f).obs = d.obs := rfl
@[simp] theorem Dev.modLcs_power (f : LcsSt → LcsSt) : (d.modLcs f).power = d.power := rfl
@[simp] theorem Dev.modLcs_fuse (f : LcsSt → LcsSt) : (d.modLcs f).fuse = d.fuse := rfl
@[simp] theorem Dev.modLcs_fe (f : LcsSt → LcsSt) : (d.modLcs f).fe = d.fe := rfl
@[simp] theorem Dev.modLcs_therm (f : LcsSt → LcsSt) : (d.modLcs f).therm = d.therm := rfl
@[simp] theorem Dev.modLcs_link (f : LcsSt → LcsSt) : (d.modLcs f).link = d.link := rfl
@[simp] theorem Dev.modLcs_fhp (f : LcsSt → LcsSt) : (d.modLcs f).fhp = d.fhp := rfl
@[simp] theorem Dev.modLcs_tiles (f : LcsSt → LcsSt) : (d.modLcs f).tiles = d.tiles := rfl
@[simp] theorem Dev.modLcs_beam (f : LcsSt → LcsSt) : (d.modLcs f).beam = d.beam := rfl
@[simp] theorem Dev.modLcs_clu (f : LcsSt → LcsSt) : (d.modLcs f).clu = d.clu := rfl
@[simp] theorem Dev.modLcs_rf (f : LcsSt → LcsSt) : (d.modLcs f).rf = d.rf := rfl
@[simp] theorem Dev.modLcs_dpd (f : LcsSt → LcsSt) : (d.modLcs f).dpd = d.dpd := rfl
@[simp] theorem Dev.modLcs_cal (f : LcsSt → LcsSt) : (d.modLcs f).cal = d.cal := rfl
@[simp] theorem Dev.modLcs_rmb (f : LcsSt → LcsSt) : (d.modLcs f).rmb = d.rmb := rfl

@[simp] theorem Dev.modFuse_free (f : FuseSt → FuseSt) : (d.modFuse f).free = d.free := rfl
@[simp] theorem Dev.modFuse_rdata (f : FuseSt → FuseSt) : (d.modFuse f).rdata = d.rdata := rfl
@[simp] theorem Dev.modFuse_rbytes (f : FuseSt → FuseSt) : (d.modFuse f).rbytes = d.rbytes := rfl
@[simp] theorem Dev.modFuse_regs (f : FuseSt → FuseSt) : (d.modFuse f).regs = d.regs := rfl
@[simp] theorem Dev.modFuse_latch (f : FuseSt → FuseSt) : (d.modFuse f).latch = d.latch := rfl
@[simp] theorem Dev.modFuse_staged (f : FuseSt → FuseSt) : (d.modFuse f).staged = d.staged := rfl
@[simp] theorem Dev.modFuse_mod (f : FuseSt → FuseSt) : (d.modFuse f).mod = d.mod := rfl
@[simp] theorem Dev.modFuse_time (f : FuseSt → FuseSt) : (d.modFuse f).time = d.time := rfl
@[simp] theorem Dev.modFuse_ttbl (f : FuseSt → FuseSt) : (d.modFuse f).ttbl = d.ttbl := rfl
@[simp] theorem Dev.modFuse_mbox (f : FuseSt → FuseSt) : (d.modFuse f).mbox = d.mbox := rfl
@[simp] theorem Dev.modFuse_fw (f : FuseSt → FuseSt) : (d.modFuse f).fw = d.fw := rfl
@[simp] theorem Dev.modFuse_memi (f : FuseSt → FuseSt) : (d.modFuse f).memi = d.memi := rfl
@[simp] theorem Dev.modFuse_obs (f : FuseSt → FuseSt) : (d.modFuse f).obs = d.obs := rfl
@[simp] theorem Dev.modFuse_power (f : FuseSt → FuseSt) : (d.modFuse f).power = d.power := rfl
@[simp] theorem Dev.modFuse_lcs (f : FuseSt → FuseSt) : (d.modFuse f).lcs = d.lcs := rfl
@[simp] theorem Dev.modFuse_fe (f : FuseSt → FuseSt) : (d.modFuse f).fe = d.fe := rfl
@[simp] theorem Dev.modFuse_therm (f : FuseSt → FuseSt) : (d.modFuse f).therm = d.therm := rfl
@[simp] theorem Dev.modFuse_link (f : FuseSt → FuseSt) : (d.modFuse f).link = d.link := rfl
@[simp] theorem Dev.modFuse_fhp (f : FuseSt → FuseSt) : (d.modFuse f).fhp = d.fhp := rfl
@[simp] theorem Dev.modFuse_tiles (f : FuseSt → FuseSt) : (d.modFuse f).tiles = d.tiles := rfl
@[simp] theorem Dev.modFuse_beam (f : FuseSt → FuseSt) : (d.modFuse f).beam = d.beam := rfl
@[simp] theorem Dev.modFuse_clu (f : FuseSt → FuseSt) : (d.modFuse f).clu = d.clu := rfl
@[simp] theorem Dev.modFuse_rf (f : FuseSt → FuseSt) : (d.modFuse f).rf = d.rf := rfl
@[simp] theorem Dev.modFuse_dpd (f : FuseSt → FuseSt) : (d.modFuse f).dpd = d.dpd := rfl
@[simp] theorem Dev.modFuse_cal (f : FuseSt → FuseSt) : (d.modFuse f).cal = d.cal := rfl
@[simp] theorem Dev.modFuse_rmb (f : FuseSt → FuseSt) : (d.modFuse f).rmb = d.rmb := rfl

@[simp] theorem Dev.modFhp_free (f : FhpSt → FhpSt) : (d.modFhp f).free = d.free := rfl
@[simp] theorem Dev.modFhp_rdata (f : FhpSt → FhpSt) : (d.modFhp f).rdata = d.rdata := rfl
@[simp] theorem Dev.modFhp_rbytes (f : FhpSt → FhpSt) : (d.modFhp f).rbytes = d.rbytes := rfl
@[simp] theorem Dev.modFhp_regs (f : FhpSt → FhpSt) : (d.modFhp f).regs = d.regs := rfl
@[simp] theorem Dev.modFhp_latch (f : FhpSt → FhpSt) : (d.modFhp f).latch = d.latch := rfl
@[simp] theorem Dev.modFhp_staged (f : FhpSt → FhpSt) : (d.modFhp f).staged = d.staged := rfl
@[simp] theorem Dev.modFhp_mod (f : FhpSt → FhpSt) : (d.modFhp f).mod = d.mod := rfl
@[simp] theorem Dev.modFhp_time (f : FhpSt → FhpSt) : (d.modFhp f).time = d.time := rfl
@[simp] theorem Dev.modFhp_ttbl (f : FhpSt → FhpSt) : (d.modFhp f).ttbl = d.ttbl := rfl
@[simp] theorem Dev.modFhp_mbox (f : FhpSt → FhpSt) : (d.modFhp f).mbox = d.mbox := rfl
@[simp] theorem Dev.modFhp_fw (f : FhpSt → FhpSt) : (d.modFhp f).fw = d.fw := rfl
@[simp] theorem Dev.modFhp_memi (f : FhpSt → FhpSt) : (d.modFhp f).memi = d.memi := rfl
@[simp] theorem Dev.modFhp_obs (f : FhpSt → FhpSt) : (d.modFhp f).obs = d.obs := rfl
@[simp] theorem Dev.modFhp_power (f : FhpSt → FhpSt) : (d.modFhp f).power = d.power := rfl
@[simp] theorem Dev.modFhp_fuse (f : FhpSt → FhpSt) : (d.modFhp f).fuse = d.fuse := rfl
@[simp] theorem Dev.modFhp_lcs (f : FhpSt → FhpSt) : (d.modFhp f).lcs = d.lcs := rfl
@[simp] theorem Dev.modFhp_fe (f : FhpSt → FhpSt) : (d.modFhp f).fe = d.fe := rfl
@[simp] theorem Dev.modFhp_therm (f : FhpSt → FhpSt) : (d.modFhp f).therm = d.therm := rfl
@[simp] theorem Dev.modFhp_link (f : FhpSt → FhpSt) : (d.modFhp f).link = d.link := rfl
@[simp] theorem Dev.modFhp_tiles (f : FhpSt → FhpSt) : (d.modFhp f).tiles = d.tiles := rfl
@[simp] theorem Dev.modFhp_beam (f : FhpSt → FhpSt) : (d.modFhp f).beam = d.beam := rfl
@[simp] theorem Dev.modFhp_clu (f : FhpSt → FhpSt) : (d.modFhp f).clu = d.clu := rfl
@[simp] theorem Dev.modFhp_rf (f : FhpSt → FhpSt) : (d.modFhp f).rf = d.rf := rfl
@[simp] theorem Dev.modFhp_dpd (f : FhpSt → FhpSt) : (d.modFhp f).dpd = d.dpd := rfl
@[simp] theorem Dev.modFhp_cal (f : FhpSt → FhpSt) : (d.modFhp f).cal = d.cal := rfl
@[simp] theorem Dev.modFhp_rmb (f : FhpSt → FhpSt) : (d.modFhp f).rmb = d.rmb := rfl

@[simp] theorem Dev.modTile_free (t : Nat) (f : TileSt → TileSt) : (d.modTile t f).free = d.free := rfl
@[simp] theorem Dev.modTile_rdata (t : Nat) (f : TileSt → TileSt) : (d.modTile t f).rdata = d.rdata := rfl
@[simp] theorem Dev.modTile_rbytes (t : Nat) (f : TileSt → TileSt) : (d.modTile t f).rbytes = d.rbytes := rfl
@[simp] theorem Dev.modTile_regs (t : Nat) (f : TileSt → TileSt) : (d.modTile t f).regs = d.regs := rfl
@[simp] theorem Dev.modTile_latch (t : Nat) (f : TileSt → TileSt) : (d.modTile t f).latch = d.latch := rfl
@[simp] theorem Dev.modTile_staged (t : Nat) (f : TileSt → TileSt) : (d.modTile t f).staged = d.staged := rfl
@[simp] theorem Dev.modTile_mod (t : Nat) (f : TileSt → TileSt) : (d.modTile t f).mod = d.mod := rfl
@[simp] theorem Dev.modTile_time (t : Nat) (f : TileSt → TileSt) : (d.modTile t f).time = d.time := rfl
@[simp] theorem Dev.modTile_ttbl (t : Nat) (f : TileSt → TileSt) : (d.modTile t f).ttbl = d.ttbl := rfl
@[simp] theorem Dev.modTile_mbox (t : Nat) (f : TileSt → TileSt) : (d.modTile t f).mbox = d.mbox := rfl
@[simp] theorem Dev.modTile_fw (t : Nat) (f : TileSt → TileSt) : (d.modTile t f).fw = d.fw := rfl
@[simp] theorem Dev.modTile_memi (t : Nat) (f : TileSt → TileSt) : (d.modTile t f).memi = d.memi := rfl
@[simp] theorem Dev.modTile_obs (t : Nat) (f : TileSt → TileSt) : (d.modTile t f).obs = d.obs := rfl
@[simp] theorem Dev.modTile_power (t : Nat) (f : TileSt → TileSt) : (d.modTile t f).power = d.power := rfl
@[simp] theorem Dev.modTile_fuse (t : Nat) (f : TileSt → TileSt) : (d.modTile t f).fuse = d.fuse := rfl
@[simp] theorem Dev.modTile_lcs (t : Nat) (f : TileSt → TileSt) : (d.modTile t f).lcs = d.lcs := rfl
@[simp] theorem Dev.modTile_fe (t : Nat) (f : TileSt → TileSt) : (d.modTile t f).fe = d.fe := rfl
@[simp] theorem Dev.modTile_therm (t : Nat) (f : TileSt → TileSt) : (d.modTile t f).therm = d.therm := rfl
@[simp] theorem Dev.modTile_link (t : Nat) (f : TileSt → TileSt) : (d.modTile t f).link = d.link := rfl
@[simp] theorem Dev.modTile_fhp (t : Nat) (f : TileSt → TileSt) : (d.modTile t f).fhp = d.fhp := rfl
@[simp] theorem Dev.modTile_beam (t : Nat) (f : TileSt → TileSt) : (d.modTile t f).beam = d.beam := rfl
@[simp] theorem Dev.modTile_clu (t : Nat) (f : TileSt → TileSt) : (d.modTile t f).clu = d.clu := rfl
@[simp] theorem Dev.modTile_rf (t : Nat) (f : TileSt → TileSt) : (d.modTile t f).rf = d.rf := rfl
@[simp] theorem Dev.modTile_dpd (t : Nat) (f : TileSt → TileSt) : (d.modTile t f).dpd = d.dpd := rfl
@[simp] theorem Dev.modTile_cal (t : Nat) (f : TileSt → TileSt) : (d.modTile t f).cal = d.cal := rfl
@[simp] theorem Dev.modTile_rmb (t : Nat) (f : TileSt → TileSt) : (d.modTile t f).rmb = d.rmb := rfl

@[simp] theorem Dev.modBeam_free (f : BeamSt → BeamSt) : (d.modBeam f).free = d.free := rfl
@[simp] theorem Dev.modBeam_rdata (f : BeamSt → BeamSt) : (d.modBeam f).rdata = d.rdata := rfl
@[simp] theorem Dev.modBeam_rbytes (f : BeamSt → BeamSt) : (d.modBeam f).rbytes = d.rbytes := rfl
@[simp] theorem Dev.modBeam_regs (f : BeamSt → BeamSt) : (d.modBeam f).regs = d.regs := rfl
@[simp] theorem Dev.modBeam_latch (f : BeamSt → BeamSt) : (d.modBeam f).latch = d.latch := rfl
@[simp] theorem Dev.modBeam_staged (f : BeamSt → BeamSt) : (d.modBeam f).staged = d.staged := rfl
@[simp] theorem Dev.modBeam_mod (f : BeamSt → BeamSt) : (d.modBeam f).mod = d.mod := rfl
@[simp] theorem Dev.modBeam_time (f : BeamSt → BeamSt) : (d.modBeam f).time = d.time := rfl
@[simp] theorem Dev.modBeam_ttbl (f : BeamSt → BeamSt) : (d.modBeam f).ttbl = d.ttbl := rfl
@[simp] theorem Dev.modBeam_mbox (f : BeamSt → BeamSt) : (d.modBeam f).mbox = d.mbox := rfl
@[simp] theorem Dev.modBeam_fw (f : BeamSt → BeamSt) : (d.modBeam f).fw = d.fw := rfl
@[simp] theorem Dev.modBeam_memi (f : BeamSt → BeamSt) : (d.modBeam f).memi = d.memi := rfl
@[simp] theorem Dev.modBeam_obs (f : BeamSt → BeamSt) : (d.modBeam f).obs = d.obs := rfl
@[simp] theorem Dev.modBeam_power (f : BeamSt → BeamSt) : (d.modBeam f).power = d.power := rfl
@[simp] theorem Dev.modBeam_fuse (f : BeamSt → BeamSt) : (d.modBeam f).fuse = d.fuse := rfl
@[simp] theorem Dev.modBeam_lcs (f : BeamSt → BeamSt) : (d.modBeam f).lcs = d.lcs := rfl
@[simp] theorem Dev.modBeam_fe (f : BeamSt → BeamSt) : (d.modBeam f).fe = d.fe := rfl
@[simp] theorem Dev.modBeam_therm (f : BeamSt → BeamSt) : (d.modBeam f).therm = d.therm := rfl
@[simp] theorem Dev.modBeam_link (f : BeamSt → BeamSt) : (d.modBeam f).link = d.link := rfl
@[simp] theorem Dev.modBeam_fhp (f : BeamSt → BeamSt) : (d.modBeam f).fhp = d.fhp := rfl
@[simp] theorem Dev.modBeam_tiles (f : BeamSt → BeamSt) : (d.modBeam f).tiles = d.tiles := rfl
@[simp] theorem Dev.modBeam_clu (f : BeamSt → BeamSt) : (d.modBeam f).clu = d.clu := rfl
@[simp] theorem Dev.modBeam_rf (f : BeamSt → BeamSt) : (d.modBeam f).rf = d.rf := rfl
@[simp] theorem Dev.modBeam_dpd (f : BeamSt → BeamSt) : (d.modBeam f).dpd = d.dpd := rfl
@[simp] theorem Dev.modBeam_cal (f : BeamSt → BeamSt) : (d.modBeam f).cal = d.cal := rfl
@[simp] theorem Dev.modBeam_rmb (f : BeamSt → BeamSt) : (d.modBeam f).rmb = d.rmb := rfl

@[simp] theorem Dev.modRf_free (f : RfSt → RfSt) : (d.modRf f).free = d.free := rfl
@[simp] theorem Dev.modRf_rdata (f : RfSt → RfSt) : (d.modRf f).rdata = d.rdata := rfl
@[simp] theorem Dev.modRf_rbytes (f : RfSt → RfSt) : (d.modRf f).rbytes = d.rbytes := rfl
@[simp] theorem Dev.modRf_regs (f : RfSt → RfSt) : (d.modRf f).regs = d.regs := rfl
@[simp] theorem Dev.modRf_latch (f : RfSt → RfSt) : (d.modRf f).latch = d.latch := rfl
@[simp] theorem Dev.modRf_staged (f : RfSt → RfSt) : (d.modRf f).staged = d.staged := rfl
@[simp] theorem Dev.modRf_mod (f : RfSt → RfSt) : (d.modRf f).mod = d.mod := rfl
@[simp] theorem Dev.modRf_time (f : RfSt → RfSt) : (d.modRf f).time = d.time := rfl
@[simp] theorem Dev.modRf_ttbl (f : RfSt → RfSt) : (d.modRf f).ttbl = d.ttbl := rfl
@[simp] theorem Dev.modRf_mbox (f : RfSt → RfSt) : (d.modRf f).mbox = d.mbox := rfl
@[simp] theorem Dev.modRf_fw (f : RfSt → RfSt) : (d.modRf f).fw = d.fw := rfl
@[simp] theorem Dev.modRf_memi (f : RfSt → RfSt) : (d.modRf f).memi = d.memi := rfl
@[simp] theorem Dev.modRf_obs (f : RfSt → RfSt) : (d.modRf f).obs = d.obs := rfl
@[simp] theorem Dev.modRf_power (f : RfSt → RfSt) : (d.modRf f).power = d.power := rfl
@[simp] theorem Dev.modRf_fuse (f : RfSt → RfSt) : (d.modRf f).fuse = d.fuse := rfl
@[simp] theorem Dev.modRf_lcs (f : RfSt → RfSt) : (d.modRf f).lcs = d.lcs := rfl
@[simp] theorem Dev.modRf_fe (f : RfSt → RfSt) : (d.modRf f).fe = d.fe := rfl
@[simp] theorem Dev.modRf_therm (f : RfSt → RfSt) : (d.modRf f).therm = d.therm := rfl
@[simp] theorem Dev.modRf_link (f : RfSt → RfSt) : (d.modRf f).link = d.link := rfl
@[simp] theorem Dev.modRf_fhp (f : RfSt → RfSt) : (d.modRf f).fhp = d.fhp := rfl
@[simp] theorem Dev.modRf_tiles (f : RfSt → RfSt) : (d.modRf f).tiles = d.tiles := rfl
@[simp] theorem Dev.modRf_beam (f : RfSt → RfSt) : (d.modRf f).beam = d.beam := rfl
@[simp] theorem Dev.modRf_clu (f : RfSt → RfSt) : (d.modRf f).clu = d.clu := rfl
@[simp] theorem Dev.modRf_dpd (f : RfSt → RfSt) : (d.modRf f).dpd = d.dpd := rfl
@[simp] theorem Dev.modRf_cal (f : RfSt → RfSt) : (d.modRf f).cal = d.cal := rfl
@[simp] theorem Dev.modRf_rmb (f : RfSt → RfSt) : (d.modRf f).rmb = d.rmb := rfl

@[simp] theorem Dev.modCal_free (f : CalSt → CalSt) : (d.modCal f).free = d.free := rfl
@[simp] theorem Dev.modCal_rdata (f : CalSt → CalSt) : (d.modCal f).rdata = d.rdata := rfl
@[simp] theorem Dev.modCal_rbytes (f : CalSt → CalSt) : (d.modCal f).rbytes = d.rbytes := rfl
@[simp] theorem Dev.modCal_regs (f : CalSt → CalSt) : (d.modCal f).regs = d.regs := rfl
@[simp] theorem Dev.modCal_latch (f : CalSt → CalSt) : (d.modCal f).latch = d.latch := rfl
@[simp] theorem Dev.modCal_staged (f : CalSt → CalSt) : (d.modCal f).staged = d.staged := rfl
@[simp] theorem Dev.modCal_mod (f : CalSt → CalSt) : (d.modCal f).mod = d.mod := rfl
@[simp] theorem Dev.modCal_time (f : CalSt → CalSt) : (d.modCal f).time = d.time := rfl
@[simp] theorem Dev.modCal_ttbl (f : CalSt → CalSt) : (d.modCal f).ttbl = d.ttbl := rfl
@[simp] theorem Dev.modCal_mbox (f : CalSt → CalSt) : (d.modCal f).mbox = d.mbox := rfl
@[simp] theorem Dev.modCal_fw (f : CalSt → CalSt) : (d.modCal f).fw = d.fw := rfl
@[simp] theorem Dev.modCal_memi (f : CalSt → CalSt) : (d.modCal f).memi = d.memi := rfl
@[simp] theorem Dev.modCal_obs (f : CalSt → CalSt) : (d.modCal f).obs = d.obs := rfl
@[simp] theorem Dev.modCal_power (f : CalSt → CalSt) : (d.modCal f).power = d.power := rfl
@[simp] theorem Dev.modCal_fuse (f : CalSt → CalSt) : (d.modCal f).fuse = d.fuse := rfl
@[simp] theorem Dev.modCal_lcs (f : CalSt → CalSt) : (d.modCal f).lcs = d.lcs := rfl
@[simp] theorem Dev.modCal_fe (f : CalSt → CalSt) : (d.modCal f).fe = d.fe := rfl
@[simp] theorem Dev.modCal_therm (f : CalSt → CalSt) : (d.modCal f).therm = d.therm := rfl
@[simp] theorem Dev.modCal_link (f : CalSt → CalSt) : (d.modCal f).link = d.link := rfl
@[simp] theorem Dev.modCal_fhp (f : CalSt → CalSt) : (d.modCal f).fhp = d.fhp := rfl
@[simp] theorem Dev.modCal_tiles (f : CalSt → CalSt) : (d.modCal f).tiles = d.tiles := rfl
@[simp] theorem Dev.modCal_beam (f : CalSt → CalSt) : (d.modCal f).beam = d.beam := rfl
@[simp] theorem Dev.modCal_clu (f : CalSt → CalSt) : (d.modCal f).clu = d.clu := rfl
@[simp] theorem Dev.modCal_rf (f : CalSt → CalSt) : (d.modCal f).rf = d.rf := rfl
@[simp] theorem Dev.modCal_dpd (f : CalSt → CalSt) : (d.modCal f).dpd = d.dpd := rfl
@[simp] theorem Dev.modCal_rmb (f : CalSt → CalSt) : (d.modCal f).rmb = d.rmb := rfl

@[simp] theorem Dev.modStat_free (p : Nat) (f : CalStat → CalStat) : (d.modStat p f).free = d.free := rfl
@[simp] theorem Dev.modStat_rdata (p : Nat) (f : CalStat → CalStat) : (d.modStat p f).rdata = d.rdata := rfl
@[simp] theorem Dev.modStat_rbytes (p : Nat) (f : CalStat → CalStat) : (d.modStat p f).rbytes = d.rbytes := rfl
@[simp] theorem Dev.modStat_regs (p : Nat) (f : CalStat → CalStat) : (d.modStat p f).regs = d.regs := rfl
@[simp] theorem Dev.modStat_latch (p : Nat) (f : CalStat → CalStat) : (d.modStat p f).latch = d.latch := rfl
@[simp] theorem Dev.modStat_staged (p : Nat) (f : CalStat → CalStat) : (d.modStat p f).staged = d.staged := rfl
@[simp] theorem Dev.modStat_mod (p : Nat) (f : CalStat → CalStat) : (d.modStat p f).mod = d.mod := rfl
@[simp] theorem Dev.modStat_time (p : Nat) (f : CalStat → CalStat) : (d.modStat p f).time = d.time := rfl
@[simp] theorem Dev.modStat_ttbl (p : Nat) (f : CalStat → CalStat) : (d.modStat p f).ttbl = d.ttbl := rfl
@[simp] theorem Dev.modStat_mbox (p : Nat) (f : CalStat → CalStat) : (d.modStat p f).mbox = d.mbox := rfl
@[simp] theorem Dev.modStat_fw (p : Nat) (f : CalStat → CalStat) : (d.modStat p f).fw = d.fw := rfl
@[simp] theorem Dev.modStat_memi (p : Nat) (f : CalStat → CalStat) : (d.modStat p f).memi = d.memi := rfl
@[simp] theorem Dev.modStat_obs (p : Nat) (f : CalStat → CalStat) : (d.modStat p f).obs = d.obs := rfl
@[simp] theorem Dev.modStat_power (p : Nat) (f : CalStat → CalStat) : (d.modStat p f).power = d.power := rfl
@[simp] theorem Dev.modStat_fuse (p : Nat) (f : CalStat → CalStat) : (d.modStat p f).fuse = d.fuse := rfl
@[simp] theorem Dev.modStat_lcs (p : Nat) (f : CalStat → CalStat) : (d.modStat p f).lcs = d.lcs := rfl
@[simp] theorem Dev.modStat_fe (p : Nat) (f : CalStat → CalStat) : (d.modStat p f).fe = d.fe := rfl
@[simp] theorem Dev.modStat_therm (p : Nat) (f : CalStat → CalStat) : (d.modStat p f).therm = d.therm := rfl
@[simp] theorem Dev.modStat_link (p : Nat) (f : CalStat → CalStat) : (d.modStat p f).link = d.link := rfl
@[simp] theorem Dev.modStat_fhp (p : Nat) (f : CalStat → CalStat) : (d.modStat p f).fhp = d.fhp := rfl
@[simp] theorem Dev.modStat_tiles (p : Nat) (f : CalStat → CalStat) : (d.modStat p f).tiles = d.tiles := rfl
@[simp] theorem Dev.modStat_beam (p : Nat) (f : CalStat → CalStat) : (d.modStat p f).beam = d.beam := rfl
@[simp] theorem Dev.modStat_clu (p : Nat) (f : CalStat → CalStat) : (d.modStat p f).clu = d.clu := rfl
@[simp] theorem Dev.modStat_rf (p : Nat) (f : CalStat → CalStat) : (d.modStat p f).rf = d.rf := rfl
@[simp] theorem Dev.modStat_dpd (p : Nat) (f : CalStat → CalStat) : (d.modStat p f).dpd = d.dpd := rfl
@[simp] theorem Dev.modStat_rmb (p : Nat) (f : CalStat → CalStat) : (d.modStat p f).rmb = d.rmb := rfl

@[simp] theorem Dev.modRecip_free (f : RecipSt → RecipSt) : (d.modRecip f).free = d.free := rfl
@[simp] theorem Dev.modRecip_rdata (f : RecipSt → RecipSt) : (d.modRecip f).rdata = d.rdata := rfl
@[simp] theorem Dev.modRecip_rbytes (f : RecipSt → RecipSt) : (d.modRecip f).rbytes = d.rbytes := rfl
@[simp] theorem Dev.modRecip_regs (f : RecipSt → RecipSt) : (d.modRecip f).regs = d.regs := rfl
@[simp] theorem Dev.modRecip_latch (f : RecipSt → RecipSt) : (d.modRecip f).latch = d.latch := rfl
@[simp] theorem Dev.modRecip_staged (f : RecipSt → RecipSt) : (d.modRecip f).staged = d.staged := rfl
@[simp] theorem Dev.modRecip_mod (f : RecipSt → RecipSt) : (d.modRecip f).mod = d.mod := rfl
@[simp] theorem Dev.modRecip_time (f : RecipSt → RecipSt) : (d.modRecip f).time = d.time := rfl
@[simp] theorem Dev.modRecip_ttbl (f : RecipSt → RecipSt) : (d.modRecip f).ttbl = d.ttbl := rfl
@[simp] theorem Dev.modRecip_mbox (f : RecipSt → RecipSt) : (d.modRecip f).mbox = d.mbox := rfl
@[simp] theorem Dev.modRecip_fw (f : RecipSt → RecipSt) : (d.modRecip f).fw = d.fw := rfl
@[simp] theorem Dev.modRecip_memi (f : RecipSt → RecipSt) : (d.modRecip f).memi = d.memi := rfl
@[simp] theorem Dev.modRecip_obs (f : RecipSt → RecipSt) : (d.modRecip f).obs = d.obs := rfl
@[simp] theorem Dev.modRecip_power (f : RecipSt → RecipSt) : (d.modRecip f).power = d.power := rfl
@[simp] theorem Dev.modRecip_fuse (f : RecipSt → RecipSt) : (d.modRecip f).fuse = d.fuse := rfl
@[simp] theorem Dev.modRecip_lcs (f : RecipSt → RecipSt) : (d.modRecip f).lcs = d.lcs := rfl
@[simp] theorem Dev.modRecip_fe (f : RecipSt → RecipSt) : (d.modRecip f).fe = d.fe := rfl
@[simp] theorem Dev.modRecip_therm (f : RecipSt → RecipSt) : (d.modRecip f).therm = d.therm := rfl
@[simp] theorem Dev.modRecip_link (f : RecipSt → RecipSt) : (d.modRecip f).link = d.link := rfl
@[simp] theorem Dev.modRecip_fhp (f : RecipSt → RecipSt) : (d.modRecip f).fhp = d.fhp := rfl
@[simp] theorem Dev.modRecip_tiles (f : RecipSt → RecipSt) : (d.modRecip f).tiles = d.tiles := rfl
@[simp] theorem Dev.modRecip_beam (f : RecipSt → RecipSt) : (d.modRecip f).beam = d.beam := rfl
@[simp] theorem Dev.modRecip_clu (f : RecipSt → RecipSt) : (d.modRecip f).clu = d.clu := rfl
@[simp] theorem Dev.modRecip_rf (f : RecipSt → RecipSt) : (d.modRecip f).rf = d.rf := rfl
@[simp] theorem Dev.modRecip_dpd (f : RecipSt → RecipSt) : (d.modRecip f).dpd = d.dpd := rfl
@[simp] theorem Dev.modRecip_rmb (f : RecipSt → RecipSt) : (d.modRecip f).rmb = d.rmb := rfl

@[simp] theorem Dev.modDpd_free (f : DpdSt → DpdSt) : (d.modDpd f).free = d.free := rfl
@[simp] theorem Dev.modDpd_rdata (f : DpdSt → DpdSt) : (d.modDpd f).rdata = d.rdata := rfl
@[simp] theorem Dev.modDpd_rbytes (f : DpdSt → DpdSt) : (d.modDpd f).rbytes = d.rbytes := rfl
@[simp] theorem Dev.modDpd_regs (f : DpdSt → DpdSt) : (d.modDpd f).regs = d.regs := rfl
@[simp] theorem Dev.modDpd_latch (f : DpdSt → DpdSt) : (d.modDpd f).latch = d.latch := rfl
@[simp] theorem Dev.modDpd_staged (f : DpdSt → DpdSt) : (d.modDpd f).staged = d.staged := rfl
@[simp] theorem Dev.modDpd_mod (f : DpdSt → DpdSt) : (d.modDpd f).mod = d.mod := rfl
@[simp] theorem Dev.modDpd_time (f : DpdSt → DpdSt) : (d.modDpd f).time = d.time := rfl
@[simp] theorem Dev.modDpd_ttbl (f : DpdSt → DpdSt) : (d.modDpd f).ttbl = d.ttbl := rfl
@[simp] theorem Dev.modDpd_mbox (f : DpdSt → DpdSt) : (d.modDpd f).mbox = d.mbox := rfl
@[simp] theorem Dev.modDpd_fw (f : DpdSt → DpdSt) : (d.modDpd f).fw = d.fw := rfl
@[simp] theorem Dev.modDpd_memi (f : DpdSt → DpdSt) : (d.modDpd f).memi = d.memi := rfl
@[simp] theorem Dev.modDpd_obs (f : DpdSt → DpdSt) : (d.modDpd f).obs = d.obs := rfl
@[simp] theorem Dev.modDpd_power (f : DpdSt → DpdSt) : (d.modDpd f).power = d.power := rfl
@[simp] theorem Dev.modDpd_fuse (f : DpdSt → DpdSt) : (d.modDpd f).fuse = d.fuse := rfl
@[simp] theorem Dev.modDpd_lcs (f : DpdSt → DpdSt) : (d.modDpd f).lcs = d.lcs := rfl
@[simp] theorem Dev.modDpd_fe (f : DpdSt → DpdSt) : (d.modDpd f).fe = d.fe := rfl
@[simp] theorem Dev.modDpd_therm (f : DpdSt → DpdSt) : (d.modDpd f).therm = d.therm := rfl
@[simp] theorem Dev.modDpd_link (f : DpdSt → DpdSt) : (d.modDpd f).link = d.link := rfl
@[simp] theorem Dev.modDpd_fhp (f : DpdSt → DpdSt) : (d.modDpd f).fhp = d.fhp := rfl
@[simp] theorem Dev.modDpd_tiles (f : DpdSt → DpdSt) : (d.modDpd f).tiles = d.tiles := rfl
@[simp] theorem Dev.modDpd_beam (f : DpdSt → DpdSt) : (d.modDpd f).beam = d.beam := rfl
@[simp] theorem Dev.modDpd_clu (f : DpdSt → DpdSt) : (d.modDpd f).clu = d.clu := rfl
@[simp] theorem Dev.modDpd_rf (f : DpdSt → DpdSt) : (d.modDpd f).rf = d.rf := rfl
@[simp] theorem Dev.modDpd_cal (f : DpdSt → DpdSt) : (d.modDpd f).cal = d.cal := rfl
@[simp] theorem Dev.modDpd_rmb (f : DpdSt → DpdSt) : (d.modDpd f).rmb = d.rmb := rfl

@[simp] theorem Dev.modDfw_free (n : Nat) (f : DpdFw → DpdFw) : (d.modDfw n f).free = d.free := rfl
@[simp] theorem Dev.modDfw_rdata (n : Nat) (f : DpdFw → DpdFw) : (d.modDfw n f).rdata = d.rdata := rfl
@[simp] theorem Dev.modDfw_rbytes (n : Nat) (f : DpdFw → DpdFw) : (d.modDfw n f).rbytes = d.rbytes := rfl
@[simp] theorem Dev.modDfw_regs (n : Nat) (f : DpdFw → DpdFw) : (d.modDfw n f).regs = d.regs := rfl
@[simp] theorem Dev.modDfw_latch (n : Nat) (f : DpdFw → DpdFw) : (d.modDfw n f).latch = d.latch := rfl
@[simp] theorem Dev.modDfw_staged (n : Nat) (f : DpdFw → DpdFw) : (d.modDfw n f).staged = d.staged := rfl
@[simp] theorem Dev.modDfw_mod (n : Nat) (f : DpdFw → DpdFw) : (d.modDfw n f).mod = d.mod := rfl
@[simp] theorem Dev.modDfw_time (n : Nat) (f : DpdFw → DpdFw) : (d.modDfw n f).time = d.time := rfl
@[simp] theorem Dev.modDfw_ttbl (n : Nat) (f : DpdFw → DpdFw) : (d.modDfw n f).ttbl = d.ttbl := rfl
@[simp] theorem Dev.modDfw_mbox (n : Nat) (f : DpdFw → DpdFw) : (d.modDfw n f).mbox = d.mbox := rfl
@[simp] theorem Dev.modDfw_fw (n : Nat) (f : DpdFw → DpdFw) : (d.modDfw n f).fw = d.fw := rfl
@[simp] theorem Dev.modDfw_memi (n : Nat) (f : DpdFw → DpdFw) : (d.modDfw n f).memi = d.memi := rfl
@[simp] theorem Dev.modDfw_obs (n : Nat) (f : DpdFw → DpdFw) : (d.modDfw n f).obs = d.obs := rfl
@[simp] theorem Dev.modDfw_power (n : Nat) (f : DpdFw → DpdFw) : (d.modDfw n f).power = d.power := rfl
@[simp] theorem Dev.modDfw_fuse (n : Nat) (f : DpdFw → DpdFw) : (d.modDfw n f).fuse = d.fuse := rfl
@[simp] theorem Dev.modDfw_lcs (n : Nat) (f : DpdFw → DpdFw) : (d.modDfw n f).lcs = d.lcs := rfl
@[simp] theorem Dev.modDfw_fe (n : Nat) (f : DpdFw → DpdFw) : (d.modDfw n f).fe = d.fe := rfl
@[simp] theorem Dev.modDfw_therm (n : Nat) (f : DpdFw → DpdFw) : (d.modDfw n f).therm = d.therm := rfl
@[simp] theorem Dev.modDfw_link (n : Nat) (f : DpdFw → DpdFw) : (d.modDfw n f).link = d.link := rfl
@[simp] theorem Dev.modDfw_fhp (n : Nat) (f : DpdFw → DpdFw) : (d.modDfw n f).fhp = d.fhp := rfl
@[simp] theorem Dev.modDfw_tiles (n : Nat) (f : DpdFw → DpdFw) : (d.modDfw n f).tiles = d.tiles := rfl
@[simp] theorem Dev.modDfw_beam (n : Nat) (f : DpdFw → DpdFw) : (d.modDfw n f).beam = d.beam := rfl
@[simp] theorem Dev.modDfw_clu (n : Nat) (f : DpdFw → DpdFw) : (d.modDfw n f).clu = d.clu := rfl
@[simp] theorem Dev.modDfw_rf (n : Nat) (f : DpdFw → DpdFw) : (d.modDfw n f).rf = d.rf := rfl
@[simp] theorem Dev.modDfw_cal (n : Nat) (f : DpdFw → DpdFw) : (d.modDfw n f).cal = d.cal := rfl
@[simp] theorem Dev.modDfw_rmb (n : Nat) (f : DpdFw → DpdFw) : (d.modDfw n f).rmb = d.rmb := rfl

@[simp] theorem Dev.modClu_free (c : Nat) (f : CluSt → CluSt) : (d.modClu c f).free = d.free := rfl
@[simp] theorem Dev.modClu_rdata (c : Nat) (f : CluSt → CluSt) : (d.modClu c f).rdata = d.rdata := rfl
@[simp] theorem Dev.modClu_rbytes (c : Nat) (f : CluSt → CluSt) : (d.modClu c f).rbytes = d.rbytes := rfl
@[simp] theorem Dev.modClu_regs (c : Nat) (f : CluSt → CluSt) : (d.modClu c f).regs = d.regs := rfl
@[simp] theorem Dev.modClu_latch (c : Nat) (f : CluSt → CluSt) : (d.modClu c f).latch = d.latch := rfl
@[simp] theorem Dev.modClu_staged (c : Nat) (f : CluSt → CluSt) : (d.modClu c f).staged = d.staged := rfl
@[simp] theorem Dev.modClu_mod (c : Nat) (f : CluSt → CluSt) : (d.modClu c f).mod = d.mod := rfl
@[simp] theorem Dev.modClu_time (c : Nat) (f : CluSt → CluSt) : (d.modClu c f).time = d.time := rfl
@[simp] theorem Dev.modClu_ttbl (c : Nat) (f : CluSt → CluSt) : (d.modClu c f).ttbl = d.ttbl := rfl
@[simp] theorem Dev.modClu_mbox (c : Nat) (f : CluSt → CluSt) : (d.modClu c f).mbox = d.mbox := rfl
@[simp] theorem Dev.modClu_fw (c : Nat) (f : CluSt → CluSt) : (d.modClu c f).fw = d.fw := rfl
@[simp] theorem Dev.modClu_memi (c : Nat) (f : CluSt → CluSt) : (d.modClu c f).memi = d.memi := rfl
@[simp] theorem Dev.modClu_obs (c : Nat) (f : CluSt → CluSt) : (d.modClu c f).obs = d.obs := rfl
@[simp] theorem Dev.modClu_power (c : Nat) (f : CluSt → CluSt) : (d.modClu c f).power = d.power := rfl
@[simp] theorem Dev.modClu_fuse (c : Nat) (f : CluSt → CluSt) : (d.modClu c f).fuse = d.fuse := rfl
@[simp] theorem Dev.modClu_lcs (c : Nat) (f : CluSt → CluSt) : (d.modClu c f).lcs = d.lcs := rfl
@[simp] theorem Dev.modClu_fe (c : Nat) (f : CluSt → CluSt) : (d.modClu c f).fe = d.fe := rfl
@[simp] theorem Dev.modClu_therm (c : Nat) (f : CluSt → CluSt) : (d.modClu c f).therm = d.therm := rfl
@[simp] theorem Dev.modClu_link (c : Nat) (f : CluSt → CluSt) : (d.modClu c f).link = d.link := rfl
@[simp] theorem Dev.modClu_fhp (c : Nat) (f : CluSt → CluSt) : (d.modClu c f).fhp = d.fhp := rfl
@[simp] theorem Dev.modClu_tiles (c : Nat) (f : CluSt → CluSt) : (d.modClu c f).tiles = d.tiles := rfl
@[simp] theorem Dev.modClu_beam (c : Nat) (f : CluSt → CluSt) : (d.modClu c f).beam = d.beam := rfl
@[simp] theorem Dev.modClu_rf (c : Nat) (f : CluSt → CluSt) : (d.modClu c f).rf = d.rf := rfl
@[simp] theorem Dev.modClu_dpd (c : Nat) (f : CluSt → CluSt) : (d.modClu c f).dpd = d.dpd := rfl
@[simp] theorem Dev.modClu_cal (c : Nat) (f : CluSt → CluSt) : (d.modClu c f).cal = d.cal := rfl
@[simp] theorem Dev.modClu_rmb (c : Nat) (f : CluSt → CluSt) : (d.modClu c f).rmb = d.rmb := rfl

@[simp] theorem Dev.modFw_own (f : FwSt → FwSt) : (d.modFw f).fw = f d.fw := rfl
@[simp] theorem Dev.modTime_own (f : TimeSt → TimeSt) : (d.modTime f).time = f d.time := rfl
@[simp] theorem Dev.modMemi_own (f : MemSt → MemSt) : (d.modMemi f).memi = f d.memi := rfl
@[simp] theorem Dev.modLcs_own (f : LcsSt → LcsSt) : (d.modLcs f).lcs = f d.lcs := rfl
@[simp] theorem Dev.modFuse_own (f : FuseSt → FuseSt) : (d.modFuse f).fuse = f d.fuse := rfl
@[simp] theorem Dev.modFhp_own (f : FhpSt → FhpSt) : (d.modFhp f).fhp = f d.fhp := rfl
@[simp] theorem Dev.modBeam_own (f : BeamSt → BeamSt) : (d.modBeam f).beam = f d.beam := rfl
@[simp] theorem Dev.modCal_own (f : CalSt → CalSt) : (d.modCal f).cal = f d.cal := rfl
@[simp] theorem Dev.modDpd_own (f : DpdSt → DpdSt) : (d.modDpd f).dpd = f d.dpd := rfl
@[simp] theorem Dev.modFe_own (f : FeSt → FeSt) : (d.modFe f).fe = f d.fe := rfl
@[simp] theorem Dev.modRmb_own (f : RmbSt → RmbSt) : (d.modRmb f).rmb = f d.rmb := rfl
@[simp] theorem Dev.modRf_own (f : RfSt → RfSt) : (d.modRf f).rf = f d.rf := rfl

@[simp] theorem Dev.modOrx_reg (r : Nat) (f : OrxSt → OrxSt) (k : Nat) : (d.modOrx r f).reg k = d.reg k := rfl
@[simp] theorem Dev.modOrx_getF (r : Nat) (f : OrxSt → OrxSt) (k : Fld) : (d.modOrx r f).getF k = d.getF k := rfl
@[simp] theorem Dev.modOrx_flag (r : Nat) (f : OrxSt → OrxSt) (k : Fld) : (d.modOrx r f).flag k = d.flag k := rfl
@[simp] theorem Dev.modRmb_reg (f : RmbSt → RmbSt) (k : Nat) : (d.modRmb f).reg k = d.reg k := rfl
@[simp] theorem Dev.modRmb_getF (f : RmbSt → RmbSt) (k : Fld) : (d.modRmb f).getF k = d.getF k := rfl
@[simp] theorem Dev.modRmb_flag (f : RmbSt → RmbSt) (k : Fld) : (d.modRmb f).flag k = d.flag k := rfl
@[simp] theorem Dev.modDma_reg (c : Nat) (f : DmaSt → DmaSt) (k : Nat) : (d.modDma c f).reg k = d.reg k := rfl
@[simp] theorem Dev.modDma_getF (c : Nat) (f : DmaSt → DmaSt) (k : Fld) : (d.modDma c f).getF k = d.getF k := rfl
@[simp] theorem Dev.modDma_flag (c : Nat) (f : DmaSt → DmaSt) (k : Fld) : (d.modDma c f).flag k = d.flag k := rfl
@[simp] theorem Dev.modAux_reg (f : AuxSt → AuxSt) (k : Nat) : (d.modAux f).reg k = d.reg k := rfl
@[simp] theorem Dev.modAux_getF (f : AuxSt → AuxSt) (k : Fld) : (d.modAux f).getF k = d.getF k := rfl
@[simp] theorem Dev.modAux_flag (f : AuxSt → AuxSt) (k : Fld) : (d.modAux f).flag k = d.flag k := rfl
@[simp] theorem Dev.modFe_reg (f : FeSt → FeSt) (k : Nat) : (d.modFe f).reg k = d.reg k := rfl
@[simp] theorem Dev.modFe_getF (f : FeSt → FeSt) (k : Fld) : (d.modFe f).getF k = d.getF k := rfl
@[simp] theorem Dev.modFe_flag (f : FeSt → FeSt) (k : Fld) : (d.modFe f).flag k = d.flag k := rfl
@[simp] theorem Dev.modMon_reg (c : Nat) (f : MonSt → MonSt) (k : Nat) : (d.modMon c f).reg k = d.reg k := rfl
@[simp] theorem Dev.modMon_getF (c : Nat) (f : MonSt → MonSt) (k : Fld) : (d.modMon c f).getF k = d.getF k := rfl
@[simp] theorem Dev.modMon_flag (c : Nat) (f : MonSt → MonSt) (k : Fld) : (d.modMon c f).flag k = d.flag k := rfl
@[simp] theorem Dev.modSens_reg (n : Nat) (f : SensSt → SensSt) (k : Nat) : (d.modSens n f).reg k = d.reg k := rfl
@[simp] theorem Dev.modSens_getF (n : Nat) (f : SensSt → SensSt) (k : Fld) : (d.modSens n f).getF k = d.getF k := rfl
@[simp] theorem Dev.modSens_flag (n : Nat) (f : SensSt → SensSt) (k : Fld) : (d.modSens n f).flag k = d.flag k := rfl
@[simp] theorem Dev.modZone_reg (z : Nat) (f : ZoneSt → ZoneSt) (k : Nat) : (d.modZone z f).reg k = d.reg k := rfl
@[simp] theorem Dev.modZone_getF (z : Nat) (f : ZoneSt → ZoneSt) (k : Fld) : (d.modZone z f).getF k = d.getF k := rfl
@[simp] theorem Dev.modZone_flag (z : Nat) (f : ZoneSt → ZoneSt) (k : Fld) : (d.modZone z f).flag k = d.flag k := rfl
@[simp] theorem Dev.modLane_reg (n : Nat) (f : LaneSt → LaneSt) (k : Nat) : (d.modLane n f).reg k = d.reg k := rfl
@[simp] theorem Dev.modLane_getF (n : Nat) (f : LaneSt → LaneSt) (k : Fld) : (d.modLane n f).getF k = d.getF k := rfl
@[simp] theorem Dev.modLane_flag (n : Nat) (f : LaneSt → LaneSt) (k : Fld) : (d.modLane n f).flag k = d.flag k := rfl
@[simp] theorem Dev.modPort_reg (x : Nat) (f : PortSt → PortSt) (k : Nat) : (d.modPort x f).reg k = d.reg k := rfl
@[simp] theorem Dev.modPort_getF (x : Nat) (f : PortSt → PortSt) (k : Fld) : (d.modPort x f).getF k = d.getF k := rfl
@[simp] theorem Dev.modPort_flag (x : Nat) (f : PortSt → PortSt) (k : Fld) : (d.modPort x f).flag k = d.flag k := rfl
@[simp] theorem Dev.modMbx_reg (m : Nat) (f : MboxSt → MboxSt) (k : Nat) : (d.modMbx m f).reg k = d.reg k := rfl
@[simp] theorem Dev.modMbx_getF (m : Nat) (f : MboxSt → MboxSt) (k : Fld) : (d.modMbx m f).getF k = d.getF k := rfl
@[simp] theorem Dev.modMbx_flag (m : Nat) (f : MboxSt → MboxSt) (k : Fld) : (d.modMbx m f).flag k = d.flag k := rfl
@[simp] theorem Dev.modFw_reg (f : FwSt → FwSt) (k : Nat) : (d.modFw f).reg k = d.reg k := rfl
@[simp] theorem Dev.modFw_getF (f : FwSt → FwSt) (k : Fld) : (d.modFw f).getF k = d.getF k := rfl
@[simp] theorem Dev.modFw_flag (f : FwSt → FwSt) (k : Fld) : (d.modFw f).flag k = d.flag k := rfl
@[simp] theorem Dev.modTime_reg (f : TimeSt → TimeSt) (k : Nat) : (d.modTime f).reg k = d.reg k := rfl
@[simp] theorem Dev.modTime_getF (f : TimeSt → TimeSt) (k : Fld) : (d.modTime f).getF k = d.getF k := rfl
@[simp] theorem Dev.modTime_flag (f : TimeSt → TimeSt) (k : Fld) : (d.modTime f).flag k = d.flag k := rfl
@[simp] theorem Dev.modMemi_reg (f : MemSt → MemSt) (k : Nat) : (d.modMemi f).reg k = d.reg k := rfl
@[simp] theorem Dev.modMemi_getF (f : MemSt → MemSt) (k : Fld) : (d.modMemi f).getF k = d.getF k := rfl
@[simp] theorem Dev.modMemi_flag (f : MemSt → MemSt) (k : Fld) : (d.modMemi f).flag k = d.flag k := rfl
@[simp] theorem Dev.modLcs_reg (f : LcsSt → LcsSt) (k : Nat) : (d.modLcs f).reg k = d.reg k := rfl
@[simp] theorem Dev.modLcs_getF (f : LcsSt → LcsSt) (k : Fld) : (d.modLcs f).getF k = d.getF k := rfl
@[simp] theorem Dev.modLcs_flag (f : LcsSt → LcsSt) (k : Fld) : (d.modLcs f).flag k = d.flag k := rfl
@[simp] theorem Dev.modFuse_reg (f : FuseSt → FuseSt) (k : Nat) : (d.modFuse f).reg k = d.reg k := rfl
@[simp] theorem Dev.modFuse_getF (f : FuseSt → FuseSt) (k : Fld) : (d.modFuse f).getF k = d.getF k := rfl
@[simp] theorem Dev.modFuse_flag (f : FuseSt → FuseSt) (k : Fld) : (d.modFuse f).flag k = d.flag k := rfl
@[simp] theorem Dev.modFhp_reg (f : FhpSt → FhpSt) (k : Nat) : (d.modFhp f).reg k = d.reg k := rfl
@[simp] theorem Dev.modFhp_getF (f : FhpSt → FhpSt) (k : Fld) : (d.modFhp f).getF k = d.getF k := rfl
@[simp] theorem Dev.modFhp_flag (f : FhpSt → FhpSt) (k : Fld) : (d.modFhp f).flag k = d.flag k := rfl
@[simp] theorem Dev.modTile_reg (t : Nat) (f : TileSt → TileSt) (k : Nat) : (d.modTile t f).reg k = d.reg k := rfl
@[simp] theorem Dev.modTile_getF (t : Nat) (f : TileSt → TileSt) (k : Fld) : (d.modTile t f).getF k = d.getF k := rfl
@[simp] theorem Dev.modTile_flag (t : Nat) (f : TileSt → TileSt) (k : Fld) : (d.modTile t f).flag k = d.flag k := rfl
@[simp] theorem Dev.modBeam_reg (f : BeamSt → BeamSt) (k : Nat) : (d.modBeam f).reg k = d.reg k := rfl
@[simp] theorem Dev.modBeam_getF (f : BeamSt → BeamSt) (k : Fld) : (d.modBeam f).getF k = d.getF k := rfl
@[simp] theorem Dev.modBeam_flag (f : BeamSt → BeamSt) (k : Fld) : (d.modBeam f).flag k = d.flag k := rfl
@[simp] theorem Dev.modRf_reg (f : RfSt → RfSt) (k : Nat) : (d.modRf f).reg k = d.reg k := rfl
@[simp] theorem Dev.modRf_getF (f : RfSt → RfSt) (k : Fld) : (d.modRf f).getF k = d.getF k := rfl
@[simp] theorem Dev.modRf_flag (f : RfSt → RfSt) (k : Fld) : (d.modRf f).flag k = d.flag k := rfl
@[simp] theorem Dev.modCal_reg (f : CalSt → CalSt) (k : Nat) : (d.modCal f).reg k = d.reg k := rfl
@[simp] theorem Dev.modCal_getF (f : CalSt → CalSt) (k : Fld) : (d.modCal f).getF k = d.getF k := rfl
@[simp] theorem Dev.modCal_flag (f : CalSt → CalSt) (k : Fld) : (d.modCal f).flag k = d.flag k := rfl
@[simp] theorem Dev.modStat_reg (p : Nat) (f : CalStat → CalStat) (k : Nat) : (d.modStat p f).reg k = d.reg k := rfl
@[simp] theorem Dev.modStat_getF (p : Nat) (f : CalStat → CalStat) (k : Fld) : (d.modStat p f).getF k = d.getF k := rfl
@[simp] theorem Dev.modStat_flag (p : Nat) (f : CalStat → CalStat) (k : Fld) : (d.modStat p f).flag k = d.flag k := rfl
@[simp] theorem Dev.modRecip_reg (f : RecipSt → RecipSt) (k : Nat) : (d.modRecip f).reg k = d.reg k := rfl
@[simp] theorem Dev.modRecip_getF (f : RecipSt → RecipSt) (k : Fld) : (d.modRecip f).getF k = d.getF k := rfl
@[simp] theorem Dev.modRecip_flag (f : RecipSt → RecipSt) (k : Fld) : (d.modRecip f).flag k = d.flag k := rfl
@[simp] theorem Dev.modDpd_reg (f : DpdSt → DpdSt) (k : Nat) : (d.modDpd f).reg k = d.reg k := rfl
@[simp] theorem Dev.modDpd_getF (f : DpdSt → DpdSt) (k : Fld) : (d.modDpd f).getF k = d.getF k := rfl
@[simp] theorem Dev.modDpd_flag (f : DpdSt → DpdSt) (k : Fld) : (d.modDpd f).flag k = d.flag k := rfl
@[simp] theorem Dev.modDfw_reg (n : Nat) (f : DpdFw → DpdFw) (k : Nat) : (d.modDfw n f).reg k = d.reg k := rfl
@[simp] theorem Dev.modDfw_getF (n : Nat) (f : DpdFw → DpdFw) (k : Fld) : (d.modDfw n f).getF k = d.getF k := rfl
@[simp] theorem Dev.modDfw_flag (n : Nat) (f : DpdFw → DpdFw) (k : Fld) : (d.modDfw n f).flag k = d.flag k := rfl
@[simp] theorem Dev.modClu_reg (c : Nat) (f : CluSt → CluSt) (k : Nat) : (d.modClu c f).reg k = d.reg k := rfl
@[simp] theorem Dev.modClu_getF (c : Nat) (f : CluSt → CluSt) (k : Fld) : (d.modClu c f).getF k = d.getF k := rfl
@[simp] theorem Dev.modClu_flag (c : Nat) (f : CluSt → CluSt) (k : Fld) : (d.modClu c f).flag k = d.flag k := rfl

end Sys2Proof.Machine
end

