-- ==== Sys2Proof/Laws/Settle.lean ====
section
/-! SUPPORT. What the shared ending of every meaning does: outbound frames move to their rings, and nothing else changes
but the trace port and the ring slots in memory. -/

namespace Sys2Proof.Machine

theorem Dev.OutSame.refl (d : Dev) : d.OutSame d := by constructor <;> intros <;> rfl

theorem Dev.OutSame.trans {d e f : Dev} (h : d.OutSame e) (g : e.OutSame f) : d.OutSame f := by
  cases h
  cases g
  constructor <;> intros <;> simp_all

/-- A trace record queued or lost. -/
theorem Dev.trace_outSame (d : Dev) (src payload : Nat) : d.OutSame (d.trace src payload) := by
  unfold Dev.trace
  split
  · exact Dev.OutSame.refl d
  · split
    · exact Dev.OutSame.refl d
    · split
      · constructor <;> intros <;> rfl
      · constructor
        case reg =>
          intro a h1 h2
          have e1 : ∀ e : Dev, (e.setB F.OBS_INT_STAT_TRC_DROP true).reg a = e.reg a := fun e => e.reg_setF_ne _ h2
          have e2 : (d.count A.OBS_TRC_DROP).reg a = d.reg a := d.reg_count_ne h1
          exact (e1 (d.count A.OBS_TRC_DROP)).trans e2
        case lanes => simp
        all_goals first | (intro m; simp [Dev.mbx]) | simp

theorem Dev.forL_outSame {α : Type} (l : List α) (f : Dev → α → Dev) (d : Dev) (h : ∀ e x, Dev.OutSame e (f e x)) :
    d.OutSame (l.foldl f d) := by
  induction l generalizing d with
  | nil => exact Dev.OutSame.refl d
  | cons x l ih => exact (h d x).trans (ih (f d x))

/-- A watched write. -/
theorem Dev.watch_outSame (d : Dev) (src a : Nat) (bs : List Byte) : d.OutSame (d.watch src a bs) := by
  unfold Dev.watch
  dsimp only
  split
  · exact Dev.OutSame.refl d
  · refine Dev.forL_outSame _ _ _ (fun e i => ?_)
    split
    · exact Dev.trace_outSame _ _ _
    · exact Dev.OutSame.refl e

theorem Dev.mbx_modMbx (d : Dev) (m : Nat) (f : MboxSt → MboxSt) (k : Nat) :
    (d.modMbx m f).mbx k = if k = m then f (d.mbx m) else d.mbx k := Tab.get_set _ _ _ _ _

/-- One mailbox flushed. -/
theorem flushBox_outSame (m n : Nat) (d : Dev) : d.OutSame (flushBox m n d).2 := by
  induction n generalizing d with
  | zero => exact Dev.OutSame.refl d
  | succ n ih =>
    unfold flushBox
    dsimp only
    split
    · exact Dev.OutSame.refl d
    · rename_i f fs hw
      split
      · dsimp only
        refine Dev.OutSame.trans ?_ (ih _)
        have h1 : d.OutSame (d.modMbx m (fun b => { b with outRing := b.outRing ++ [f], outTail := (b.outTail + 1) % 8, outWait := fs })) := by
          constructor
          case out =>
            intro k
            rw [Dev.mbx_modMbx]
            split
            · rename_i hk
              subst hk
              rw [hw]
              simp
            · rfl
          case reg => intro a _ _; rfl
          case free => rfl
          case rdata => rfl
          case rbytes => rfl
          all_goals first | rfl | (intro k; rw [Dev.mbx_modMbx]; split <;> simp_all)
        split
        · exact h1.trans (Dev.watch_outSame _ _ _ _)
        · exact h1
      · exact Dev.OutSame.refl d

/-- All mailboxes flushed. -/
theorem flushAll_outSame (d : Dev) : d.OutSame (flushAll d).2 := by
  unfold flushAll
  dsimp only
  exact ((flushBox_outSame _ _ _).trans (flushBox_outSame _ _ _)).trans (flushBox_outSame _ _ _)

/-- What settling does to the block. -/
theorem settle_outSame (s : State) (ws : Writes) (d : Dev) : d.OutSame (settle s ws d).dev := flushAll_outSame d

/-- Settling leaves the queue of commands. -/
@[simp] theorem settle_pending (s : State) (ws : Writes) (d : Dev) : (settle s ws d).pending = s.pending := rfl

/-- Settling keeps the memory's canonical form. -/
theorem settle_wf {s : State} (ws : Writes) (d : Dev) (h : Memory.wf s.mem = true) : Memory.wf (settle s ws d).mem = true :=
  memWrites_wf _ (memWrites_wf ws h)

/-- Frames move into a ring slot of the Hamper, 0x1040 bytes apart from the ring's base (R418, R421). -/
theorem flushBox_slots (m n : Nat) (d : Dev) : ∀ w ∈ (flushBox m n d).1, inHamper w.1 w.2.length = true := by
  induction n generalizing d with
  | zero => intro w hw; cases hw
  | succ n ih =>
    unfold flushBox
    dsimp only
    split
    · intro w hw; cases hw
    · split
      · dsimp only
        intro w hw
        rcases List.mem_append.1 hw with h | h
        · split at h
          · rename_i hh
            rw [List.mem_singleton.1 h]
            exact hh
          · cases h
        · exact ih _ w h
      · intro w hw; cases hw

/-- Outside the Hamper settling changes only the bytes given to it. -/
theorem settle_mem_outside (s : State) (ws : Writes) (d : Dev) (j : Nat) (hj : j < hamperLo ∨ hamperHi ≤ j) :
    memGet (settle s ws d).mem j = memGet (memWrites s.mem ws) j := by
  refine memGet_memWrites_outside _ _ _ (fun w hw => ?_)
  have : inHamper w.1 w.2.length = true := by
    rcases List.mem_append.1 hw with h | h
    · rcases List.mem_append.1 h with h | h
      · exact flushBox_slots _ _ _ w h
      · exact flushBox_slots _ _ _ w h
    · exact flushBox_slots _ _ _ w h
  unfold inHamper at this
  have := of_decide_eq_true this
  omega

theorem flushBox_idle (m n : Nat) (d : Dev) (h : (d.mbx m).outWait = []) : flushBox m n d = ([], d) := by
  cases n with
  | zero => rfl
  | succ n => unfold flushBox; dsimp only; rw [h]

/-- With no frame waiting, settling writes the bytes and keeps the block. -/
theorem settle_idle (s : State) (ws : Writes) (d : Dev) (h : ∀ m, m < 3 → (d.mbx m).outWait = []) :
    settle s ws d = { s with mem := memWrites s.mem ws, dev := d } := by
  unfold settle flushAll
  simp [flushBox_idle, h 0 (by omega), h 1 (by omega), h 2 (by omega)]

end Sys2Proof.Machine
end

