-- ==== Sys2Proof/Laws/Exec.lean ====
section
/-! SUPPORT. What each shape of meaning can answer: a next state whose memory keeps its canonical form and whose queue of
commands is as it was. -/

namespace Sys2Proof.Machine

/-- What every meaning keeps of the state it starts from. -/
structure Keeps (s t : State) : Prop where
  pending : t.pending = s.pending
  wf : Memory.wf s.mem = true → Memory.wf t.mem = true

theorem Keeps.refl (s : State) : Keeps s s := ⟨rfl, id⟩

theorem settle_keeps (s : State) (ws : Writes) (d : Dev) : Keeps s (settle s ws d) := ⟨rfl, settle_wf ws d⟩

theorem run_alive {s : State} (f : Dev → Dev) (h : s.dev.alive = true) : run s f = .next (settle s [] (f s.dev)) := by
  unfold run
  rw [if_pos h]

theorem run_dead {s : State} (f : Dev → Dev) (h : s.dev.alive = false) : run s f = .next s := by
  unfold run
  rw [if_neg (by simp [h])]

theorem run_keeps {s t : State} {f : Dev → Dev} (h : run s f = .next t) : Keeps s t := by
  unfold run at h
  injection h with h
  subst h
  split
  · exact settle_keeps s _ _
  · exact Keeps.refl s

theorem runW_alive {s : State} (f : Mem → Dev → Writes × Dev) (h : s.dev.alive = true) :
    runW s f = .next (settle s (f s.mem s.dev).1 (f s.mem s.dev).2) := by
  unfold runW
  rw [if_pos h]

theorem runW_dead {s : State} (f : Mem → Dev → Writes × Dev) (h : s.dev.alive = false) : runW s f = .next s := by
  unfold runW
  rw [if_neg (by simp [h])]

theorem runW_keeps {s t : State} {f : Mem → Dev → Writes × Dev} (h : runW s f = .next t) : Keeps s t := by
  unfold runW at h
  injection h with h
  subst h
  split
  · exact settle_keeps s _ _
  · exact Keeps.refl s

theorem runP_keeps {s t : State} {f : Dev → Bool × Dev} (h : runP s f = .next t) : Keeps s t := by
  unfold runP at h
  injection h with h
  subst h
  refine ⟨rfl, fun hw => settle_wf _ _ ?_⟩
  dsimp only
  split
  · rfl
  · exact hw

theorem runZ_dead {s : State} (f : Dev → Bool × Dev) (h : s.dev.alive = false) : runZ s f = .next s := by
  unfold runZ
  rw [if_neg (by simp [h])]

theorem runZ_keeps {s t : State} {f : Dev → Bool × Dev} (h : runZ s f = .next t) : Keeps s t := by
  unfold runZ at h
  injection h with h
  subst h
  split
  · refine ⟨rfl, fun hw => settle_wf _ _ ?_⟩
    dsimp only
    split
    · exact memZero_wf _ _ hw
    · exact hw
  · exact Keeps.refl s

theorem runBus_keeps {s t : State} {a : Nat} {f : Mem → Dev → Writes × Dev} (h : runBus s a f = .next t) : Keeps s t := by
  unfold runBus at h
  split at h
  · cases h
  · exact runW_keeps h

theorem runBus_dead {s : State} (a : Nat) (f : Mem → Dev → Writes × Dev) (h : s.dev.alive = false) :
    runBus s a f = .next s := by
  unfold runBus
  rw [if_neg (by simp [h]), runW_dead f h]

/-- RUNTIME_START. -/
theorem execRuntimeStart_keeps {p : Profiles} {s t : State} (h : execRuntimeStart p s = .next t) : Keeps s t := by
  unfold execRuntimeStart at h
  injection h with h
  subst h
  generalize s.dev.runtimeStart p = r
  generalize s.dev.regionBase 0 = base
  split
  · exact ⟨rfl, fun hw => settle_wf _ _ (memZero_wf _ _ hw)⟩
  · exact Keeps.refl s

/-- A step that idles keeps the memory and the queue. -/
theorem idle_keeps (s : State) : Keeps s (idle s) := ⟨rfl, id⟩

end Sys2Proof.Machine
end

