-- ==== Sys2Proof/Laws/Fold.lean ====
section
/-! SUPPORT. Folds over the block: what every turn keeps, the fold keeps; and what a settled meaning reads. -/

namespace Sys2Proof.Machine

/-- A relation that every turn of a fold meets, the fold meets. -/
theorem Dev.forL_rel {α : Type} (R : Dev → Dev → Prop) (refl : ∀ d, R d d) (trans : ∀ d e f, R d e → R e f → R d f)
    (l : List α) (f : Dev → α → Dev) (d : Dev) (h : ∀ e x, x ∈ l → R e (f e x)) : R d (d.forL l f) := by
  unfold Dev.forL
  induction l generalizing d with
  | nil => exact refl d
  | cons x l ih =>
    rw [List.foldl_cons]
    exact trans _ _ _ (h d x List.mem_cons_self) (ih _ (fun e y hy => h e y (List.mem_cons_of_mem _ hy)))

/-- What no turn of a fold changes, the fold keeps. -/
theorem Dev.forL_keeps {α β : Type} (g : Dev → β) (l : List α) (f : Dev → α → Dev) (d : Dev)
    (h : ∀ e x, x ∈ l → g (f e x) = g e) : g (d.forL l f) = g d :=
  Dev.forL_rel (fun d e => g e = g d) (fun _ => rfl) (fun _ _ _ a b => b.trans a) l f d h

/-- The same for a fold over the numbers below a bound. -/
theorem Dev.forN_keeps {β : Type} (g : Dev → β) (n : Nat) (f : Dev → Nat → Dev) (d : Dev)
    (h : ∀ e i, i < n → g (f e i) = g e) : g (d.forN n f) = g d :=
  Dev.forL_keeps g (List.range n) f d (fun e x hx => h e x (List.mem_range.1 hx))

/-- What the last turn for a member brings about and later turns keep, holds at the end for every member. -/
theorem Dev.forL_each {α : Type} (P : α → Dev → Prop) (l : List α) (f : Dev → α → Dev) (d : Dev)
    (hx : ∀ e x, x ∈ l → P x (f e x)) (hk : ∀ e x y, x ∈ l → y ∈ l → P x e → P x (f e y)) :
    ∀ x ∈ l, P x (d.forL l f) := by
  unfold Dev.forL
  induction l generalizing d with
  | nil => intro x h; cases h
  | cons a l ih =>
    intro x hm
    rw [List.foldl_cons]
    rcases List.mem_cons.1 hm with h | h
    · subst h
      have hp := hx d x List.mem_cons_self
      have key : ∀ (m : List α) (e : Dev), (∀ y ∈ m, y ∈ x :: l) → P x e → P x (m.foldl f e) := by
        intro m
        induction m with
        | nil => intro e _ h; exact h
        | cons b m ihm =>
          intro e hb h
          rw [List.foldl_cons]
          exact ihm _ (fun y hy => hb y (List.mem_cons_of_mem _ hy))
            (hk e x b List.mem_cons_self (hb b List.mem_cons_self) h)
      exact key l _ (fun y hy => List.mem_cons_of_mem _ hy) hp
    · exact ih _ (fun e y hy => hx e y (List.mem_cons_of_mem _ hy))
        (fun e y z hy hz => hk e y z (List.mem_cons_of_mem _ hy) (List.mem_cons_of_mem _ hz)) x h

/-- Registers outside the trace port read the same after settling. -/
theorem settle_reg (s : State) (ws : Writes) (d : Dev) {a : Nat} (h1 : a ≠ A.OBS_TRC_DROP) (h2 : a ≠ A.OBS_INT_STAT) :
    (settle s ws d).dev.reg a = d.reg a := (settle_outSame s ws d).reg a h1 h2

/-- Fields outside the trace port read the same after settling. -/
theorem settle_getF (s : State) (ws : Writes) (d : Dev) {f : Fld} (h1 : f.addr ≠ A.OBS_TRC_DROP)
    (h2 : f.addr ≠ A.OBS_INT_STAT) : (settle s ws d).dev.getF f = d.getF f := by
  unfold Dev.getF
  rw [settle_reg s ws d h1 h2]

theorem settle_flag (s : State) (ws : Writes) (d : Dev) {f : Fld} (h1 : f.addr ≠ A.OBS_TRC_DROP)
    (h2 : f.addr ≠ A.OBS_INT_STAT) : (settle s ws d).dev.flag f = d.flag f := by
  unfold Dev.flag
  rw [settle_getF s ws d h1 h2]

theorem Dev.lane_modLane (d : Dev) (n : Nat) (f : LaneSt → LaneSt) (k : Nat) :
    (d.modLane n f).lane k = if k = n then f (d.lane n) else d.lane k := Tab.get_set _ _ _ _ _

theorem Dev.port_modPort (d : Dev) (x : Nat) (f : PortSt → PortSt) (k : Nat) :
    (d.modPort x f).port k = if k = x then f (d.port x) else d.port k := Tab.get_set _ _ _ _ _

@[simp] theorem Dev.lane_modPort (d : Dev) (x : Nat) (f : PortSt → PortSt) (k : Nat) :
    (d.modPort x f).lane k = d.lane k := rfl

@[simp] theorem Dev.port_modLane (d : Dev) (n : Nat) (f : LaneSt → LaneSt) (k : Nat) :
    (d.modLane n f).port k = d.port k := rfl

end Sys2Proof.Machine
end

