-- ==== Sys2Proof/Laws/Mail.lean ====
section
/-! SUPPORT. What the handling of a mailbox command does beside its body: the response is sent, and nothing outside the
mailboxes, the M credits, the trace port and the mailbox registers changes. -/

namespace Sys2Proof.Machine

theorem Dev.MailSame.refl (d : Dev) : d.MailSame d := by
  constructor
  case outs => exact fun m => ⟨[], by simp⟩
  all_goals first | rfl | (intro a _; rfl)

theorem Dev.MailSame.trans {d e f : Dev} (h : d.MailSame e) (g : e.MailSame f) : d.MailSame f := by
  constructor
  case outs =>
    intro m
    obtain ⟨r, hr⟩ := h.outs m
    obtain ⟨q, hq⟩ := g.outs m
    exact ⟨r ++ q, by rw [hq, hr, List.append_assoc]⟩
  case reg => exact fun a ha => (g.reg a ha).trans (h.reg a ha)
  all_goals (cases h; cases g; simp_all)

theorem Dev.OutSame.mail {d e : Dev} (h : d.OutSame e) : d.MailSame e := by
  constructor
  case outs => exact fun m => ⟨[], by simpa [Dev.outs] using h.out m⟩
  case reg =>
    intro a ha
    exact h.reg a (fun e => ha (.inr (.inl e))) (fun e => ha (.inr (.inr e)))
  all_goals (cases h; simp_all)

theorem Dev.trace_mail (d : Dev) (src payload : Nat) : d.MailSame (d.trace src payload) :=
  (Dev.trace_outSame d src payload).mail

theorem Dev.watch_mail (d : Dev) (src a : Nat) (bs : List Byte) : d.MailSame (d.watch src a bs) :=
  (Dev.watch_outSame d src a bs).mail

/-- A mailbox changed so that its outbound frames only grow. -/
theorem Dev.modMbx_mail (d : Dev) (m : Nat) (f : MboxSt → MboxSt)
    (hf : ∀ b, ∃ r, (f b).outRing ++ (f b).outWait = b.outRing ++ b.outWait ++ r) : d.MailSame (d.modMbx m f) := by
  constructor
  case outs =>
    intro k
    unfold Dev.outs
    rw [Dev.mbx_modMbx]
    split
    · rename_i hk
      rw [hk]
      exact hf _
    · exact ⟨[], by simp⟩
  case reg => intro a _; rfl
  all_goals simp

/-- Credits of a port. -/
theorem Dev.modPort_mail (d : Dev) (x : Nat) (f : PortSt → PortSt) : d.MailSame (d.modPort x f) := by
  constructor
  case outs => exact fun m => ⟨[], by simp [Dev.outs, Dev.mbx]⟩
  case reg => intro a _; rfl
  case lanes => rfl
  case roles => rfl
  case bond => rfl
  all_goals simp

/-- A field of a mailbox register. -/
theorem Dev.setReg_mail (d : Dev) (a : Nat) (v : W32) (h : mailReg a) : d.MailSame (d.setReg a v) := by
  constructor
  case outs => exact fun m => ⟨[], by simp [Dev.outs, Dev.mbx]⟩
  case reg =>
    intro b hb
    exact Dev.reg_setReg_ne d v (fun e => hb (e ▸ h))
  all_goals simp

theorem Dev.emit_mail (d : Dev) (m : Nat) (f : List Byte) : d.MailSame (d.emit m f) := by
  unfold Dev.emit
  split
  · exact Dev.MailSame.refl d
  · refine (Dev.trace_mail d _ _).trans (Dev.modMbx_mail _ _ _ (fun b => ⟨[f], by simp⟩))

theorem Dev.popIn_mail (d : Dev) (m : Nat) : d.MailSame (d.popIn m) := by
  unfold Dev.popIn
  split
  · exact Dev.MailSame.refl d
  · dsimp only
    rename_i f fs _
    have h1 := Dev.modMbx_mail d m (fun b => { b with inRing := fs, inHead := (b.inHead + 1) % 8 }) (fun b => ⟨[], by simp⟩)
    split
    · split
      · exact h1.trans (Dev.modPort_mail _ _ _)
      · exact h1
    · exact h1

/-- What taking a frame from its ring changes: the mailboxes, and the credits of the link. -/
theorem Dev.popIn_eq (d : Dev) (m : Nat) :
    d.popIn m = { d with mbox := (d.popIn m).mbox, link := { d.link with ports := (d.popIn m).link.ports } } := by
  unfold Dev.popIn
  split
  · rfl
  · dsimp only
    split
    · split <;> rfl
    · rfl

theorem Dev.respond_mail (d : Dev) (mb : Nat) (tag : Byte) (seq opcode status d2 d3 : Nat) (data : List Byte) :
    d.MailSame (d.respond mb tag seq opcode status d2 d3 data) := by
  unfold Dev.respond
  exact (Dev.emit_mail d mb _).trans (Dev.modMbx_mail _ _ _ (fun b => ⟨[], by simp⟩))

/-- A frame answered without running a body. -/
theorem runOne_badParam_mail (h : CmdHdr) (op : Nat) (pl : List Byte) (m : Mem) (d : Dev) :
    d.MailSame (runOne h op (fun _ => true) pl (fun _ d => badParam d) m d).2 := by
  unfold runOne
  dsimp only
  split
  · exact Dev.MailSame.refl d
  · have h1 := Dev.popIn_mail d h.mb.val
    have h2 : ∀ e : Dev, e.MailSame (runOne.runNext h op (fun _ => true) pl (fun _ d => badParam d) h.mb.val h.seq.toNat
        (d.mbx h.mb.val).expSeq e m).2 := by
      intro e
      unfold runOne.runNext
      split
      · exact Dev.emit_mail _ _ _
      · dsimp only
        have hc : ∃ st d2 d3 data, cmdCore h.mb.val op (fun _ => true) pl (fun _ d => badParam d) m e =
            (.err st d2 d3 data, e, []) := by
          unfold cmdCore
          split
          · exact ⟨_, _, _, _, rfl⟩
          · split
            · exact ⟨_, _, _, _, rfl⟩
            · split
              · exact ⟨_, _, _, _, rfl⟩
              · exact ⟨_, _, _, _, rfl⟩
        obtain ⟨st, d2, d3, data, hc⟩ := hc
        rw [hc]
        exact (Dev.modMbx_mail e _ _ (fun b => ⟨[], by simp⟩)).trans (Dev.respond_mail _ _ _ _ _ _ _ _ _)
    split
    · split
      · exact h1.trans (Dev.emit_mail _ _ _)
      · exact h1.trans (h2 _)
    · exact h1.trans (h2 _)

theorem Dev.answerUnknown_mail (m n : Nat) (d : Dev) : d.MailSame (Dev.answerUnknown m n d) := by
  induction n generalizing d with
  | zero => exact Dev.MailSame.refl d
  | succ n ih =>
    unfold Dev.answerUnknown
    split
    · exact Dev.MailSame.refl d
    · dsimp only
      split
      · exact (runOne_badParam_mail _ _ _ _ _).trans (ih _)
      · exact Dev.MailSame.refl d

theorem Dev.anyNat_mail (d : Dev) : d.MailSame d.anyNat.2 := by
  constructor
  case outs => exact fun m => ⟨[], by simp [Dev.outs, Dev.mbx, Dev.anyNat]⟩
  all_goals first | rfl | (intro a _; rfl)

theorem Dev.pushIn_mail (d : Dev) (m : Nat) (f : List Byte) : d.MailSame (d.pushIn m f).2 := by
  unfold Dev.pushIn
  dsimp only
  have h1 := (Dev.trace_mail d 3 (m * 2 ^ 94 + leNat (f.take 8))).trans
    (Dev.modMbx_mail _ m (fun b => { b with inRing := b.inRing ++ [f] }) (fun b => ⟨[], by simp⟩))
  have h2 : ∀ e : Dev, ∀ v, e.MailSame (e.setF F.MBOX_INT_STAT_IN_AVAIL v) := fun e v =>
    Dev.setReg_mail e _ _ (.inl (by decide))
  have h3 := h1.trans (h2 _ (setBitN (((d.trace 3 (m * 2 ^ 94 + leNat (f.take 8))).modMbx m
    (fun b => { b with inRing := b.inRing ++ [f] })).getF F.MBOX_INT_STAT_IN_AVAIL) m true))
  split
  · split
    · exact (h3.trans (Dev.anyNat_mail _)).trans (Dev.watch_mail _ _ _ _)
    · exact h3.trans (Dev.watch_mail _ _ _ _)
  · exact h3

theorem Dev.linkBox_lt (d : Dev) : d.linkBox < 4 := by
  unfold Dev.linkBox
  split <;> decide

theorem Dev.frameErr_mail (d : Dev) {m : Nat} (h : m < 4) : d.MailSame (d.count (A.MBOX_m_FRAME_ERR m)) :=
  Dev.setReg_mail d _ _ (.inl (by unfold A.MBOX_m_FRAME_ERR; omega))

theorem Dev.pumpM_mail (n : Nat) (d : Dev) : d.MailSame (Dev.pumpM n d).2 := by
  induction n generalizing d with
  | zero => exact Dev.MailSame.refl d
  | succ n ih =>
    unfold Dev.pumpM
    dsimp only
    split
    · exact Dev.MailSame.refl d
    · split
      · exact Dev.MailSame.refl d
      · split
        · exact Dev.MailSame.refl d
        · split
          · exact (((Dev.modPort_mail d _ _).trans (Dev.modPort_mail _ _ _)).trans (Dev.frameErr_mail _ d.linkBox_lt)).trans
              (ih _)
          · exact (Dev.modPort_mail d _ _).trans ((Dev.pushIn_mail _ _ _).trans (ih _))

theorem Dev.refill_mail (d : Dev) : d.MailSame d.refill.2 := by
  unfold Dev.refill
  dsimp only
  exact ((Dev.pumpM_mail 16 d).trans (Dev.answerUnknown_mail _ _ _)).trans (Dev.answerUnknown_mail _ _ _)

/-- A response is added behind the outbound frames of its mailbox. -/
theorem Dev.respond_outs (d : Dev) {mb : Nat} (hm : mb ≠ 3) (tag : Byte) (seq opcode status d2 d3 : Nat)
    (data : List Byte) : (d.respond mb tag seq opcode status d2 d3 data).outs mb =
      d.outs mb ++ [frameOf opcode tag 1 seq (statusWord status d2 d3) data] := by
  have ht := (Dev.trace_outSame d 3 (mb * 2 ^ 94 + 2 ^ 93 +
    leNat ((frameOf opcode tag 1 seq (statusWord status d2 d3) data).take 8))).out mb
  unfold Dev.respond Dev.emit Dev.outs
  dsimp only
  rw [if_neg hm, Dev.mbx_modMbx, if_pos rfl, Dev.mbx_modMbx, if_pos rfl]
  rw [← List.append_assoc, ht]

/-- The block of a command whose body has run: its SEQ is the last one answered (R417). -/
def Dev.ran (d : Dev) (h : CmdHdr) : Dev :=
  d.modMbx h.mb.val (fun b => { b with expSeq := some ((h.seq.toNat + 1) % 65536) })

theorem Dev.ran_mail (d : Dev) (h : CmdHdr) : d.MailSame (d.ran h) := Dev.modMbx_mail d _ _ (fun b => ⟨[], by simp⟩)

theorem Dev.ran_outs (d : Dev) (h : CmdHdr) : (d.ran h).outs h.mb.val = d.outs h.mb.val := by
  unfold Dev.ran Dev.outs
  rw [Dev.mbx_modMbx, if_pos rfl]

/-- A command that the firmware runs, and whose body answers no error: the answer is sent and the rings refilled. -/
theorem runCmd_core {s : State} {h : CmdHdr} {op : Nat} {lenOk : Nat → Bool} {pl : List Byte} {body : Body}
    {r : Reply} {d2 : Dev} {ws : Writes} {mask : Nat} (ok : CmdOk s h op pl) (hl : cmdLegal op = some mask)
    (len : lenOk pl.length = true) (hb : body s.mem (s.dev.popIn h.mb.val) = (r, d2, ws))
    (hr : ∀ st a b data, r ≠ .err st a b data) :
    (runCmd h op lenOk pl body s.mem s.dev).2 = ((d2.ran h).answer h.mb.val h.tag h.seq.toNat op r).refill.2 := by
  have hone : runOne h op lenOk pl body s.mem s.dev =
      (ws, (d2.ran h).answer h.mb.val h.tag h.seq.toNat op r) := by
    have hn : runOne.runNext h op lenOk pl body h.mb.val h.seq.toNat (s.dev.mbx h.mb.val).expSeq
        (s.dev.popIn h.mb.val) s.mem = (ws, (d2.ran h).answer h.mb.val h.tag h.seq.toNat op r) := by
      unfold runOne.runNext
      have hc : ¬ ((s.dev.mbx h.mb.val).expSeq.isSome = true ∧ (s.dev.mbx h.mb.val).expSeq ≠ some h.seq.toNat) := by
        rcases ok.seq with e | e <;> simp [e]
      rw [if_neg hc]
      have hcore : cmdCore h.mb.val op lenOk pl body s.mem (s.dev.popIn h.mb.val) = (r, d2, ws) := by
        have hal : (s.dev.popIn h.mb.val).cmdAllowed h.mb.val op = true := by
          have hp := Dev.popIn_mail s.dev h.mb.val
          have := ok.legal
          unfold Dev.cmdAllowed at this ⊢
          rw [hp.fw, hp.mod]
          exact this
        unfold cmdCore
        rw [hl]
        simp only [len, hal, hb, Bool.not_true, Bool.false_eq_true, if_false]
      rw [hcore]
      rfl
    unfold runOne
    have hs : ¬ (h.mb.val = 3 ∨ (!s.dev.serves h.mb.val (frameOf op h.tag 0 h.seq.toNat [] pl)) = true) := by
      simp [ok.box, ok.served]
    dsimp only
    rw [if_neg hs]
    split
    · rename_i q x hq
      have : q ≠ h.seq.toNat := fun e => ok.fresh x (by rw [hq, e])
      rw [if_neg this]
      exact hn
    · exact hn
  unfold runCmd
  rw [hone]

/-- What running a command does to the state, where its body answers OK. -/
theorem runCmd_ok {s : State} {h : CmdHdr} {op : Nat} {lenOk : Nat → Bool} {pl : List Byte} {body : Body}
    {data : List Byte} {d2 : Dev} {ws : Writes} {mask : Nat} (ok : CmdOk s h op pl) (hl : cmdLegal op = some mask)
    (len : lenOk pl.length = true) (hb : body s.mem (s.dev.popIn h.mb.val) = (.ok data, d2, ws))
    (ho : ∃ l, d2.outs h.mb.val = s.dev.outs h.mb.val ++ l) :
    ∃ t, runW s (runCmd h op lenOk pl body) = .next t ∧ d2.MailSame t.dev ∧ Answered s t h op 0x00 data := by
  rw [runW_alive _ ok.alive]
  refine ⟨_, rfl, ?_⟩
  have hc := runCmd_core ok hl len hb (by intros; simp)
  have hset := (settle_outSame s (runCmd h op lenOk pl body s.mem s.dev).1 (runCmd h op lenOk pl body s.mem s.dev).2).mail
  rw [hc] at hset ⊢
  have hf := (Dev.refill_mail ((d2.ran h).respond h.mb.val h.tag h.seq.toNat op 0x00 0 0 data)).trans hset
  refine ⟨((d2.ran_mail h).trans (Dev.respond_mail _ _ _ _ _ _ _ _ _)).trans hf, ?_⟩
  obtain ⟨l, hl⟩ := ho
  obtain ⟨r, hr⟩ := hf.outs h.mb.val
  refine ⟨l, r, ?_⟩
  rw [hr, Dev.respond_outs _ ok.box, Dev.ran_outs, hl]
  simp

/-- What running a command does to the state, where its body answers PENDING: the operation is noted (R415). -/
theorem runCmd_pending {s : State} {h : CmdHdr} {op : Nat} {lenOk : Nat → Bool} {pl : List Byte} {body : Body}
    {args : List Nat} {d2 : Dev} {ws : Writes} {mask : Nat} (ok : CmdOk s h op pl) (hl : cmdLegal op = some mask)
    (len : lenOk pl.length = true) (hb : body s.mem (s.dev.popIn h.mb.val) = (.pending args, d2, ws))
    (ho : ∃ l, d2.outs h.mb.val = s.dev.outs h.mb.val ++ l) :
    ∃ t, runW s (runCmd h op lenOk pl body) = .next t ∧
      (d2.modFw (fun f => { f with pendingOps := f.pendingOps ++ [⟨h.mb.val, h.tag.toNat, h.seq.toNat, op, args⟩] })).MailSame
        t.dev ∧ Answered s t h op 0x01 [] := by
  rw [runW_alive _ ok.alive]
  refine ⟨_, rfl, ?_⟩
  have hc := runCmd_core ok hl len hb (by intros; simp)
  have hset := (settle_outSame s (runCmd h op lenOk pl body s.mem s.dev).1 (runCmd h op lenOk pl body s.mem s.dev).2).mail
  rw [hc] at hset ⊢
  have ha : (d2.ran h).answer h.mb.val h.tag h.seq.toNat op (.pending args) =
      ((d2.ran h).respond h.mb.val h.tag h.seq.toNat op 0x01 0 0 []).modFw (fun f => { f with
        pendingOps := f.pendingOps ++ [⟨h.mb.val, h.tag.toNat, h.seq.toNat, op, args⟩] }) := rfl
  rw [ha] at hset ⊢
  have hf := (Dev.refill_mail _).trans hset
  have hm : (d2.modFw (fun f => { f with
      pendingOps := f.pendingOps ++ [⟨h.mb.val, h.tag.toNat, h.seq.toNat, op, args⟩] })).MailSame
      (((d2.ran h).respond h.mb.val h.tag h.seq.toNat op 0x01 0 0 []).modFw (fun f => { f with
        pendingOps := f.pendingOps ++ [⟨h.mb.val, h.tag.toNat, h.seq.toNat, op, args⟩] })) := by
    have h1 := (d2.ran_mail h).trans (Dev.respond_mail (d2.ran h) h.mb.val h.tag h.seq.toNat op 0x01 0 0 [])
    constructor
    case fw => simp only [Dev.modFw_own, h1.fw]
    case reg => exact h1.reg
    case outs => exact h1.outs
    all_goals (cases h1; simp only [Dev.modFw]; assumption)
  refine ⟨hm.trans hf, ?_⟩
  obtain ⟨l, hl⟩ := ho
  obtain ⟨r, hr⟩ := hf.outs h.mb.val
  refine ⟨l, r, ?_⟩
  have hq : (((d2.ran h).respond h.mb.val h.tag h.seq.toNat op 0x01 0 0 []).modFw (fun f => { f with
        pendingOps := f.pendingOps ++ [⟨h.mb.val, h.tag.toNat, h.seq.toNat, op, args⟩] })).outs h.mb.val =
      ((d2.ran h).respond h.mb.val h.tag h.seq.toNat op 0x01 0 0 []).outs h.mb.val := rfl
  rw [hr, hq, Dev.respond_outs _ ok.box, Dev.ran_outs, hl]
  simp

end Sys2Proof.Machine
end

