-- ==== Sys2Proof/Laws/Read.lean ====
section
/-! SUPPORT. What is read after a command has settled, after a trace record, and after the mailboxes' own handling. -/

namespace Sys2Proof.Machine

variable (s : State) (ws : Writes) (d : Dev)

@[simp] theorem settle_free : (settle s ws d).dev.free = d.free := (settle_outSame s ws d).free
@[simp] theorem settle_rdata : (settle s ws d).dev.rdata = d.rdata := (settle_outSame s ws d).rdata
@[simp] theorem settle_rbytes : (settle s ws d).dev.rbytes = d.rbytes := (settle_outSame s ws d).rbytes
@[simp] theorem settle_latch : (settle s ws d).dev.latch = d.latch := (settle_outSame s ws d).latch
@[simp] theorem settle_staged : (settle s ws d).dev.staged = d.staged := (settle_outSame s ws d).staged
@[simp] theorem settle_mod : (settle s ws d).dev.mod = d.mod := (settle_outSame s ws d).mod
@[simp] theorem settle_time : (settle s ws d).dev.time = d.time := (settle_outSame s ws d).time
@[simp] theorem settle_ttbl : (settle s ws d).dev.ttbl = d.ttbl := (settle_outSame s ws d).ttbl
@[simp] theorem settle_fw : (settle s ws d).dev.fw = d.fw := (settle_outSame s ws d).fw
@[simp] theorem settle_memi : (settle s ws d).dev.memi = d.memi := (settle_outSame s ws d).memi
@[simp] theorem settle_power : (settle s ws d).dev.power = d.power := (settle_outSame s ws d).power
@[simp] theorem settle_fuse : (settle s ws d).dev.fuse = d.fuse := (settle_outSame s ws d).fuse
@[simp] theorem settle_lcs : (settle s ws d).dev.lcs = d.lcs := (settle_outSame s ws d).lcs
@[simp] theorem settle_fe : (settle s ws d).dev.fe = d.fe := (settle_outSame s ws d).fe
@[simp] theorem settle_therm : (settle s ws d).dev.therm = d.therm := (settle_outSame s ws d).therm
@[simp] theorem settle_link : (settle s ws d).dev.link = d.link := (settle_outSame s ws d).link
@[simp] theorem settle_fhp : (settle s ws d).dev.fhp = d.fhp := (settle_outSame s ws d).fhp
@[simp] theorem settle_tiles : (settle s ws d).dev.tiles = d.tiles := (settle_outSame s ws d).tiles
@[simp] theorem settle_beam : (settle s ws d).dev.beam = d.beam := (settle_outSame s ws d).beam
@[simp] theorem settle_clu : (settle s ws d).dev.clu = d.clu := (settle_outSame s ws d).clu
@[simp] theorem settle_rf : (settle s ws d).dev.rf = d.rf := (settle_outSame s ws d).rf
@[simp] theorem settle_dpd : (settle s ws d).dev.dpd = d.dpd := (settle_outSame s ws d).dpd
@[simp] theorem settle_cal : (settle s ws d).dev.cal = d.cal := (settle_outSame s ws d).cal
@[simp] theorem settle_rmb : (settle s ws d).dev.rmb = d.rmb := (settle_outSame s ws d).rmb
@[simp] theorem settle_hardCond : (settle s ws d).dev.obs.hardCond = d.obs.hardCond := (settle_outSame s ws d).hardCond
@[simp] theorem settle_lanes : (settle s ws d).dev.obs.lanes = d.obs.lanes := (settle_outSame s ws d).lanes
@[simp] theorem settle_scr : (settle s ws d).dev.obs.scr = d.obs.scr := (settle_outSame s ws d).scr
@[simp] theorem settle_sent : (settle s ws d).dev.obs.sent = d.obs.sent := (settle_outSame s ws d).sent

@[simp] theorem Dev.trace_free (src payload : Nat) : (d.trace src payload).free = d.free := (Dev.trace_outSame d src payload).free
@[simp] theorem Dev.trace_rdata (src payload : Nat) : (d.trace src payload).rdata = d.rdata := (Dev.trace_outSame d src payload).rdata
@[simp] theorem Dev.trace_rbytes (src payload : Nat) : (d.trace src payload).rbytes = d.rbytes := (Dev.trace_outSame d src payload).rbytes
@[simp] theorem Dev.trace_latch (src payload : Nat) : (d.trace src payload).latch = d.latch := (Dev.trace_outSame d src payload).latch
@[simp] theorem Dev.trace_staged (src payload : Nat) : (d.trace src payload).staged = d.staged := (Dev.trace_outSame d src payload).staged
@[simp] theorem Dev.trace_mod (src payload : Nat) : (d.trace src payload).mod = d.mod := (Dev.trace_outSame d src payload).mod
@[simp] theorem Dev.trace_time (src payload : Nat) : (d.trace src payload).time = d.time := (Dev.trace_outSame d src payload).time
@[simp] theorem Dev.trace_ttbl (src payload : Nat) : (d.trace src payload).ttbl = d.ttbl := (Dev.trace_outSame d src payload).ttbl
@[simp] theorem Dev.trace_fw (src payload : Nat) : (d.trace src payload).fw = d.fw := (Dev.trace_outSame d src payload).fw
@[simp] theorem Dev.trace_memi (src payload : Nat) : (d.trace src payload).memi = d.memi := (Dev.trace_outSame d src payload).memi
@[simp] theorem Dev.trace_power (src payload : Nat) : (d.trace src payload).power = d.power := (Dev.trace_outSame d src payload).power
@[simp] theorem Dev.trace_fuse (src payload : Nat) : (d.trace src payload).fuse = d.fuse := (Dev.trace_outSame d src payload).fuse
@[simp] theorem Dev.trace_lcs (src payload : Nat) : (d.trace src payload).lcs = d.lcs := (Dev.trace_outSame d src payload).lcs
@[simp] theorem Dev.trace_fe (src payload : Nat) : (d.trace src payload).fe = d.fe := (Dev.trace_outSame d src payload).fe
@[simp] theorem Dev.trace_therm (src payload : Nat) : (d.trace src payload).therm = d.therm := (Dev.trace_outSame d src payload).therm
@[simp] theorem Dev.trace_link (src payload : Nat) : (d.trace src payload).link = d.link := (Dev.trace_outSame d src payload).link
@[simp] theorem Dev.trace_fhp (src payload : Nat) : (d.trace src payload).fhp = d.fhp := (Dev.trace_outSame d src payload).fhp
@[simp] theorem Dev.trace_tiles (src payload : Nat) : (d.trace src payload).tiles = d.tiles := (Dev.trace_outSame d src payload).tiles
@[simp] theorem Dev.trace_beam (src payload : Nat) : (d.trace src payload).beam = d.beam := (Dev.trace_outSame d src payload).beam
@[simp] theorem Dev.trace_clu (src payload : Nat) : (d.trace src payload).clu = d.clu := (Dev.trace_outSame d src payload).clu
@[simp] theorem Dev.trace_rf (src payload : Nat) : (d.trace src payload).rf = d.rf := (Dev.trace_outSame d src payload).rf
@[simp] theorem Dev.trace_dpd (src payload : Nat) : (d.trace src payload).dpd = d.dpd := (Dev.trace_outSame d src payload).dpd
@[simp] theorem Dev.trace_cal (src payload : Nat) : (d.trace src payload).cal = d.cal := (Dev.trace_outSame d src payload).cal
@[simp] theorem Dev.trace_rmb (src payload : Nat) : (d.trace src payload).rmb = d.rmb := (Dev.trace_outSame d src payload).rmb
@[simp] theorem Dev.trace_hardCond (src payload : Nat) : (d.trace src payload).obs.hardCond = d.obs.hardCond := (Dev.trace_outSame d src payload).hardCond
@[simp] theorem Dev.trace_lanes (src payload : Nat) : (d.trace src payload).obs.lanes = d.obs.lanes := (Dev.trace_outSame d src payload).lanes
@[simp] theorem Dev.trace_scr (src payload : Nat) : (d.trace src payload).obs.scr = d.obs.scr := (Dev.trace_outSame d src payload).scr
@[simp] theorem Dev.trace_sent (src payload : Nat) : (d.trace src payload).obs.sent = d.obs.sent := (Dev.trace_outSame d src payload).sent

@[simp] theorem settle_lane (n : Nat) : (settle s ws d).dev.lane n = d.lane n := by simp [Dev.lane]
@[simp] theorem settle_port (x : Nat) : (settle s ws d).dev.port x = d.port x := by simp [Dev.port]
@[simp] theorem Dev.trace_lane (src payload n : Nat) : (d.trace src payload).lane n = d.lane n := by simp [Dev.lane]
@[simp] theorem Dev.trace_port (src payload x : Nat) : (d.trace src payload).port x = d.port x := by simp [Dev.port]

theorem Dev.trace_reg (src payload : Nat) {a : Nat} (h1 : a ≠ A.OBS_TRC_DROP) (h2 : a ≠ A.OBS_INT_STAT) :
    (d.trace src payload).reg a = d.reg a := (Dev.trace_outSame d src payload).reg a h1 h2

theorem settle_pair {lo hi : Nat} (h1 : lo ≠ A.OBS_TRC_DROP) (h2 : lo ≠ A.OBS_INT_STAT) (h3 : hi ≠ A.OBS_TRC_DROP)
    (h4 : hi ≠ A.OBS_INT_STAT) : (settle s ws d).dev.pair lo hi = d.pair lo hi := by
  unfold Dev.pair
  rw [settle_reg s ws d h1 h2, settle_reg s ws d h3 h4]

/-- A 64-bit number just written to a register pair. -/
theorem Dev.pair_setPair {lo hi v : Nat} (h : lo ≠ hi) (hv : v < 2 ^ 64) : (d.setPair lo hi v).pair lo hi = v := by
  unfold Dev.setPair Dev.pair
  rw [Dev.reg_setReg_ne _ _ h, Dev.reg_setReg_self, Dev.reg_setReg_self, BitVec.toNat_ofNat, BitVec.toNat_ofNat]
  omega

theorem Dev.pair_count64 {lo hi n : Nat} (h : lo ≠ hi) :
    (d.count64 lo hi n).pair lo hi = min (2 ^ 64 - 1) (d.pair lo hi + n) := by
  unfold Dev.count64
  rw [Dev.pair_setPair d h (by omega)]

theorem Dev.reg_setPair_ne {lo hi v a : Nat} (h1 : a ≠ lo) (h2 : a ≠ hi) : (d.setPair lo hi v).reg a = d.reg a := by
  unfold Dev.setPair
  rw [Dev.reg_setReg_ne _ _ h2, Dev.reg_setReg_ne _ _ h1]

theorem Dev.vc_modVc (p : PortSt) (v w : Nat) (f : VcSt → VcSt) :
    (p.modVc v f).vc w = if w = v then f (p.vc v) else p.vc w := Tab.get_set _ _ _ _ _

@[simp] theorem Dev.port_setReg (a x : Nat) (v : W32) : (d.setReg a v).port x = d.port x := rfl
@[simp] theorem Dev.port_setF (f : Fld) (v x : Nat) : (d.setF f v).port x = d.port x := rfl
@[simp] theorem Dev.port_setB (f : Fld) (b : Bool) (x : Nat) : (d.setB f b).port x = d.port x := rfl
@[simp] theorem Dev.port_count (a n x : Nat) : (d.count a n).port x = d.port x := rfl
@[simp] theorem Dev.lane_setReg (a x : Nat) (v : W32) : (d.setReg a v).lane x = d.lane x := rfl
@[simp] theorem Dev.lane_setF (f : Fld) (v x : Nat) : (d.setF f v).lane x = d.lane x := rfl
@[simp] theorem Dev.lane_setB (f : Fld) (b : Bool) (x : Nat) : (d.setB f b).lane x = d.lane x := rfl
@[simp] theorem Dev.lane_count (a n x : Nat) : (d.count a n).lane x = d.lane x := rfl

/-! A channel of a port changed. -/

@[simp] theorem PortSt.modVc_tries (p : PortSt) (v : Nat) (f : VcSt → VcSt) : (p.modVc v f).tries = p.tries := rfl
@[simp] theorem PortSt.modVc_agreeRun (p : PortSt) (v : Nat) (f : VcSt → VcSt) : (p.modVc v f).agreeRun = p.agreeRun := rfl
@[simp] theorem PortSt.modVc_agreeMask (p : PortSt) (v : Nat) (f : VcSt → VcSt) : (p.modVc v f).agreeMask = p.agreeMask := rfl
@[simp] theorem PortSt.modVc_frtReplying (p : PortSt) (v : Nat) (f : VcSt → VcSt) : (p.modVc v f).frtReplying = p.frtReplying := rfl
@[simp] theorem PortSt.modVc_frtReady (p : PortSt) (v : Nat) (f : VcSt → VcSt) : (p.modVc v f).frtReady = p.frtReady := rfl
@[simp] theorem PortSt.modVc_mapSet (p : PortSt) (v : Nat) (f : VcSt → VcSt) : (p.modVc v f).mapSet = p.mapSet := rfl
@[simp] theorem PortSt.modVc_txBsn (p : PortSt) (v : Nat) (f : VcSt → VcSt) : (p.modVc v f).txBsn = p.txBsn := rfl
@[simp] theorem PortSt.modVc_rxBsn (p : PortSt) (v : Nat) (f : VcSt → VcSt) : (p.modVc v f).rxBsn = p.rxBsn := rfl
@[simp] theorem PortSt.modVc_txPart (p : PortSt) (v : Nat) (f : VcSt → VcSt) : (p.modVc v f).txPart = p.txPart := rfl
@[simp] theorem PortSt.modVc_txNext (p : PortSt) (v : Nat) (f : VcSt → VcSt) : (p.modVc v f).txNext = p.txNext := rfl
@[simp] theorem PortSt.modVc_txPrev (p : PortSt) (v : Nat) (f : VcSt → VcSt) : (p.modVc v f).txPrev = p.txPrev := rfl
@[simp] theorem PortSt.modVc_txOut (p : PortSt) (v : Nat) (f : VcSt → VcSt) : (p.modVc v f).txOut = p.txOut := rfl
@[simp] theorem PortSt.modVc_txLast (p : PortSt) (v : Nat) (f : VcSt → VcSt) : (p.modVc v f).txLast = p.txLast := rfl
@[simp] theorem PortSt.modVc_rxStream (p : PortSt) (v : Nat) (f : VcSt → VcSt) : (p.modVc v f).rxStream = p.rxStream := rfl
@[simp] theorem PortSt.modVc_txSeq (p : PortSt) (v : Nat) (f : VcSt → VcSt) : (p.modVc v f).txSeq = p.txSeq := rfl
@[simp] theorem PortSt.modVc_rxExp (p : PortSt) (v : Nat) (f : VcSt → VcSt) : (p.modVc v f).rxExp = p.rxExp := rfl
@[simp] theorem PortSt.modVc_replay (p : PortSt) (v : Nat) (f : VcSt → VcSt) : (p.modVc v f).replay = p.replay := rfl
@[simp] theorem PortSt.modVc_replayTodo (p : PortSt) (v : Nat) (f : VcSt → VcSt) : (p.modVc v f).replayTodo = p.replayTodo := rfl
@[simp] theorem PortSt.modVc_timerReplays (p : PortSt) (v : Nat) (f : VcSt → VcSt) : (p.modVc v f).timerReplays = p.timerReplays := rfl
@[simp] theorem PortSt.modVc_starts (p : PortSt) (v : Nat) (f : VcSt → VcSt) : (p.modVc v f).starts = p.starts := rfl
@[simp] theorem PortSt.modVc_ackValid (p : PortSt) (v : Nat) (f : VcSt → VcSt) : (p.modVc v f).ackValid = p.ackValid := rfl
@[simp] theorem PortSt.modVc_ackDue (p : PortSt) (v : Nat) (f : VcSt → VcSt) : (p.modVc v f).ackDue = p.ackDue := rfl
@[simp] theorem PortSt.modVc_nakDue (p : PortSt) (v : Nat) (f : VcSt → VcSt) : (p.modVc v f).nakDue = p.nakDue := rfl
@[simp] theorem PortSt.modVc_nakSent (p : PortSt) (v : Nat) (f : VcSt → VcSt) : (p.modVc v f).nakSent = p.nakSent := rfl
@[simp] theorem PortSt.modVc_scanning (p : PortSt) (v : Nat) (f : VcSt → VcSt) : (p.modVc v f).scanning = p.scanning := rfl
@[simp] theorem PortSt.modVc_events (p : PortSt) (v : Nat) (f : VcSt → VcSt) : (p.modVc v f).events = p.events := rfl

/-! The link under changes of a port or a lane. -/

@[simp] theorem Dev.modPort_link_lanes (x : Nat) (f : PortSt → PortSt) : (d.modPort x f).link.lanes = d.link.lanes := rfl
@[simp] theorem Dev.modPort_link_bond (x : Nat) (f : PortSt → PortSt) : (d.modPort x f).link.bond = d.link.bond := rfl
@[simp] theorem Dev.modPort_link_seeds (x : Nat) (f : PortSt → PortSt) : (d.modPort x f).link.seeds = d.link.seeds := rfl
@[simp] theorem Dev.modPort_link_minWidth (x : Nat) (f : PortSt → PortSt) : (d.modPort x f).link.minWidth = d.link.minWidth := rfl
@[simp] theorem Dev.modPort_link_roles (x : Nat) (f : PortSt → PortSt) : (d.modPort x f).link.roles = d.link.roles := rfl
@[simp] theorem Dev.modLane_link_ports (x : Nat) (f : LaneSt → LaneSt) : (d.modLane x f).link.ports = d.link.ports := rfl
@[simp] theorem Dev.modLane_link_bond (x : Nat) (f : LaneSt → LaneSt) : (d.modLane x f).link.bond = d.link.bond := rfl
@[simp] theorem Dev.modLane_link_seeds (x : Nat) (f : LaneSt → LaneSt) : (d.modLane x f).link.seeds = d.link.seeds := rfl
@[simp] theorem Dev.modLane_link_minWidth (x : Nat) (f : LaneSt → LaneSt) : (d.modLane x f).link.minWidth = d.link.minWidth := rfl
@[simp] theorem Dev.modLane_link_roles (x : Nat) (f : LaneSt → LaneSt) : (d.modLane x f).link.roles = d.link.roles := rfl

/-- Latching words changes the latches alone. -/
theorem Dev.latchWords_eq (r : Requester) (a : Nat) (l : List W32) :
    d.latchWords r a l = { d with latch := (d.latchWords r a l).latch } := by
  unfold Dev.latchWords Dev.forL
  generalize l.zipIdx = q
  induction q generalizing d with
  | nil => rfl
  | cons p q ih => rw [List.foldl_cons, ih]; rfl

@[simp] theorem Dev.latchWords_regs (r : Requester) (a : Nat) (l : List W32) : (d.latchWords r a l).regs = d.regs := by
  rw [Dev.latchWords_eq]
@[simp] theorem Dev.latchWords_fhp (r : Requester) (a : Nat) (l : List W32) : (d.latchWords r a l).fhp = d.fhp := by
  rw [Dev.latchWords_eq]
@[simp] theorem Dev.latchWords_memi (r : Requester) (a : Nat) (l : List W32) : (d.latchWords r a l).memi = d.memi := by
  rw [Dev.latchWords_eq]
@[simp] theorem Dev.latchWords_ttbl (r : Requester) (a : Nat) (l : List W32) : (d.latchWords r a l).ttbl = d.ttbl := by
  rw [Dev.latchWords_eq]
@[simp] theorem Dev.latchWords_rmb (r : Requester) (a : Nat) (l : List W32) : (d.latchWords r a l).rmb = d.rmb := by
  rw [Dev.latchWords_eq]
@[simp] theorem Dev.latchWords_clu (r : Requester) (a : Nat) (l : List W32) : (d.latchWords r a l).clu = d.clu := by
  rw [Dev.latchWords_eq]
@[simp] theorem Dev.latchWords_dpd (r : Requester) (a : Nat) (l : List W32) : (d.latchWords r a l).dpd = d.dpd := by
  rw [Dev.latchWords_eq]

/-- A word just latched. -/
theorem Dev.getLatch_setLatch (r : Requester) (a b : Nat) (v : W32) :
    (d.setLatch r a v).getLatch r b = if b = a then some v else d.getLatch r b := by
  unfold Dev.setLatch Dev.getLatch reqKey
  rw [Tab.get_set]
  by_cases h : b = a
  · simp [h]
  · rw [if_neg h, if_neg (by omega)]

theorem Dev.reg_setB_ne {f : Fld} {a : Nat} (b : Bool) (h : a ≠ f.addr) : (d.setB f b).reg a = d.reg a :=
  Dev.reg_setReg_ne d _ h

theorem Dev.getF_setB_ne {f g : Fld} (b : Bool) (h : g.addr ≠ f.addr) : (d.setB f b).getF g = d.getF g :=
  Dev.getF_setReg_ne d _ h

theorem Dev.getF_setB_apart {f g : Fld} (b : Bool) (hf : f.lo + f.w ≤ 32) (h : g.lo + g.w ≤ f.lo ∨ f.lo + f.w ≤ g.lo) :
    (d.setB f b).getF g = d.getF g := Dev.getF_setF_apart d _ hf h

theorem Dev.getF_count_ne {a n : Nat} {g : Fld} (h : g.addr ≠ a) : (d.count a n).getF g = d.getF g :=
  Dev.getF_setReg_ne d _ h

theorem Dev.getF_count64_ne {lo hi n : Nat} {g : Fld} (h1 : g.addr ≠ lo) (h2 : g.addr ≠ hi) :
    (d.count64 lo hi n).getF g = d.getF g := by
  unfold Dev.getF Dev.count64
  rw [Dev.reg_setPair_ne d h1 h2]

theorem Dev.flag_setReg_ne {f : Fld} {a : Nat} (v : W32) (h : f.addr ≠ a) : (d.setReg a v).flag f = d.flag f := by
  unfold Dev.flag
  rw [Dev.getF_setReg_ne d v h]

theorem Dev.flag_setF_ne {f g : Fld} (v : Nat) (h : g.addr ≠ f.addr) : (d.setF f v).flag g = d.flag g :=
  Dev.flag_setReg_ne d _ h

theorem Dev.flag_setB_ne {f g : Fld} (b : Bool) (h : g.addr ≠ f.addr) : (d.setB f b).flag g = d.flag g :=
  Dev.flag_setReg_ne d _ h

theorem Dev.flag_setF_apart {f g : Fld} (v : Nat) (hf : f.lo + f.w ≤ 32) (h : g.lo + g.w ≤ f.lo ∨ f.lo + f.w ≤ g.lo) :
    (d.setF f v).flag g = d.flag g := by
  unfold Dev.flag
  rw [Dev.getF_setF_apart d v hf h]

theorem Dev.flag_setB_apart {f g : Fld} (b : Bool) (hf : f.lo + f.w ≤ 32) (h : g.lo + g.w ≤ f.lo ∨ f.lo + f.w ≤ g.lo) :
    (d.setB f b).flag g = d.flag g := Dev.flag_setF_apart d _ hf h

theorem Dev.flag_count_ne {a n : Nat} {g : Fld} (h : g.addr ≠ a) : (d.count a n).flag g = d.flag g :=
  Dev.flag_setReg_ne d _ h

theorem Dev.reg_count64_ne {lo hi n a : Nat} (h1 : a ≠ lo) (h2 : a ≠ hi) : (d.count64 lo hi n).reg a = d.reg a :=
  Dev.reg_setPair_ne d h1 h2

theorem Dev.pair_setB_ne {lo hi : Nat} {f : Fld} (b : Bool) (h1 : lo ≠ f.addr) (h2 : hi ≠ f.addr) :
    (d.setB f b).pair lo hi = d.pair lo hi := by
  unfold Dev.pair
  rw [Dev.reg_setB_ne d b h1, Dev.reg_setB_ne d b h2]

theorem Dev.pair_count_ne {lo hi a n : Nat} (h1 : lo ≠ a) (h2 : hi ≠ a) : (d.count a n).pair lo hi = d.pair lo hi := by
  unfold Dev.pair
  rw [Dev.reg_count_ne d h1, Dev.reg_count_ne d h2]

end Sys2Proof.Machine
end

