-- ==== Sys2Proof/Laws/Shape.lean ====
section
/-! SUPPORT. Which shape the meaning of each command has: one line for each row of the table. -/

namespace Sys2Proof.Machine

/-- The shapes of meanings. -/
inductive Shape (c : Instr) (s : State) : Prop where
  /-- No memory; no effect while the module is off or in reset. -/
  | plain (f : Dev → Dev) (h : exec c s = run s f)
  /-- May read and write memory; no effect while the module is off or in reset. -/
  | mem (f : Mem → Dev → Writes × Dev) (h : exec c s = runW s f)
  /-- May zero the Hamper; no effect while the module is off or in reset. -/
  | zero (f : Dev → Bool × Dev) (h : exec c s = runZ s f)
  /-- The power stage. -/
  | power (f : Dev → Bool × Dev) (h : exec c s = runP s f)
  /-- An access of the register space. -/
  | bus (a : Nat) (f : Mem → Dev → Writes × Dev) (h : exec c s = runBus s a f)
  /-- The start of the runtime firmware. -/
  | start (p : Profiles) (h : c = .runtimeStart p)

/-- Every command has one of the shapes. -/
theorem exec_shape (c : Instr) (s : State) : Shape c s := by
  cases c
  case registerWrite x0 x1 x2 => exact .bus _ _ (show execRegisterWrite x0 x1 x2 s = runBus s _ _ from rfl)
  case snapshotRead x0 x1 => exact .bus _ _ (show execSnapshotRead x0 x1 s = runBus s _ _ from rfl)
  case rcRead x0 x1 => exact .bus _ _ (show execRcRead x0 x1 s = runBus s _ _ from rfl)
  case stagedWordWrite x0 x1 x2 => exact .bus _ _ (show execStagedWordWrite x0 x1 x2 s = runBus s _ _ from rfl)
  case portEnable x0 => exact .plain _ (show execPortEnable x0 s = run s _ from rfl)
  case portDisable x0 => exact .plain _ (show execPortDisable x0 s = run s _ from rfl)
  case portRetrain x0 => exact .plain _ (show execPortRetrain x0 s = run s _ from rfl)
  case laneStagePass x0 x1 => exact .plain _ (show execLaneStagePass x0 x1 s = run s _ from rfl)
  case portStagePass x0 => exact .plain _ (show execPortStagePass x0 s = run s _ from rfl)
  case stageTimeout x0 x1 x2 => exact .plain _ (show execStageTimeout x0 x1 x2 s = run s _ from rfl)
  case laneReinitDone x0 => exact .plain _ (show execLaneReinitDone x0 s = run s _ from rfl)
  case trainBlockReceive x0 x1 => exact .plain _ (show execTrainBlockReceive x0 x1 s = run s _ from rfl)
  case blockReceive x0 x1 => exact .plain _ (show execBlockReceive x0 x1 s = run s _ from rfl)
  case frtReq x0 x1 => exact .plain _ (show execFrtReq x0 x1 s = run s _ from rfl)
  case frtDone x0 x1 => exact .plain _ (show execFrtDone x0 x1 s = run s _ from rfl)
  case portAbort x0 x1 => exact .plain _ (show execPortAbort x0 x1 s = run s _ from rfl)
  case laneSignalDetect x0 => exact .plain _ (show execLaneSignalDetect x0 s = run s _ from rfl)
  case laneLossOfSignal x0 => exact .plain _ (show execLaneLossOfSignal x0 s = run s _ from rfl)
  case frtDeadline x0 x1 => exact .plain _ (show execFrtDeadline x0 x1 s = run s _ from rfl)
  case linkRetryExpiry x0 => exact .plain _ (show execLinkRetryExpiry x0 s = run s _ from rfl)
  case eqResume x0 x1 => exact .plain _ (show execEqResume x0 x1 s = run s _ from rfl)
  case eqSnapshot x0 x1 => exact .plain _ (show execEqSnapshot x0 x1 s = run s _ from rfl)
  case eqRollback x0 x1 => exact .plain _ (show execEqRollback x0 x1 s = run s _ from rfl)
  case packetReceive x0 x1 => exact .mem _ (show execPacketReceive x0 x1 s = runW s _ from rfl)
  case linkControlReceive x0 x1 => exact .plain _ (show execLinkControlReceive x0 x1 s = run s _ from rfl)
  case linkControlSend x0 => exact .plain _ (show execLinkControlSend x0 s = run s _ from rfl)
  case replayTimeout x0 x1 => exact .plain _ (show execReplayTimeout x0 x1 s = run s _ from rfl)
  case packetStart x0 => exact .plain _ (show execPacketStart x0 s = run s _ from rfl)
  case userPlaneSection x0 x1 => exact .plain _ (show execUserPlaneSection x0 x1 s = run s _ from rfl)
  case controlPlaneSection x0 x1 => exact .plain _ (show execControlPlaneSection x0 x1 s = run s _ from rfl)
  case sectionDeadline x0 x1 => exact .plain _ (show execSectionDeadline x0 x1 s = run s _ from rfl)
  case uplinkSectionProduced x0 => exact .plain _ (show execUplinkSectionProduced x0 s = run s _ from rfl)
  case ulDropExpiry x0 => exact .plain _ (show execUlDropExpiry x0 s = run s _ from rfl)
  case psumWaitExpiry x0 x1 => exact .plain _ (show execPsumWaitExpiry x0 x1 s = run s _ from rfl)
  case timingMessage x0 x1 x2 x3 => exact .plain _ (show execTimingMessage x0 x1 x2 x3 s = run s _ from rfl)
  case tsFifoRead x0 => exact .plain _ (show execTsFifoRead x0 s = run s _ from rfl)
  case streamCfg x0 x1 => exact .mem _ (show execStreamCfg x0 x1 s = runW s _ from rfl)
  case fhTiming x0 x1 => exact .mem _ (show execFhTiming x0 x1 s = runW s _ from rfl)
  case cascadeCfg x0 x1 => exact .mem _ (show execCascadeCfg x0 x1 s = runW s _ from rfl)
  case fhCheck x0 x1 => exact .mem _ (show execFhCheck x0 x1 s = runW s _ from rfl)
  case beamWsUsed x0 x1 => exact .plain _ (show execBeamWsUsed x0 x1 s = run s _ from rfl)
  case beamWsCommit x0 x1 x2 => exact .plain _ (show execBeamWsCommit x0 x1 x2 s = run s _ from rfl)
  case beamWsAbort x0 => exact .plain _ (show execBeamWsAbort x0 s = run s _ from rfl)
  case wsetCutoff x0 => exact .plain _ (show execWsetCutoff x0 s = run s _ from rfl)
  case wsetHoldExpiry x0 => exact .plain _ (show execWsetHoldExpiry x0 s = run s _ from rfl)
  case weightWriteRelease x0 => exact .mem _ (show execWeightWriteRelease x0 s = runW s _ from rfl)
  case srsDone x0 => exact .mem _ (show execSrsDone x0 s = runW s _ from rfl)
  case contextAgeTick => exact .plain _ (show execContextAgeTick s = run s _ from rfl)
  case userContextCfgWrite x0 x1 => exact .plain _ (show execUserContextCfgWrite x0 x1 s = run s _ from rfl)
  case weightJobStart x0 => exact .plain _ (show execWeightJobStart x0 s = run s _ from rfl)
  case weightJobDone x0 => exact .mem _ (show execWeightJobDone x0 s = runW s _ from rfl)
  case wmemCfg x0 x1 => exact .mem _ (show execWmemCfg x0 x1 s = runW s _ from rfl)
  case cluMap x0 x1 => exact .mem _ (show execCluMap x0 x1 s = runW s _ from rfl)
  case wsetCfg x0 x1 => exact .mem _ (show execWsetCfg x0 x1 s = runW s _ from rfl)
  case wsetFree x0 x1 => exact .mem _ (show execWsetFree x0 x1 s = runW s _ from rfl)
  case wsetCommit x0 x1 => exact .mem _ (show execWsetCommit x0 x1 s = runW s _ from rfl)
  case wsetWrite x0 x1 => exact .mem _ (show execWsetWrite x0 x1 s = runW s _ from rfl)
  case wsetStat x0 x1 => exact .mem _ (show execWsetStat x0 x1 s = runW s _ from rfl)
  case fallbackSet x0 x1 => exact .mem _ (show execFallbackSet x0 x1 s = runW s _ from rfl)
  case beamSet x0 x1 => exact .mem _ (show execBeamSet x0 x1 s = runW s _ from rfl)
  case ctxCfg x0 x1 => exact .mem _ (show execCtxCfg x0 x1 s = runW s _ from rfl)
  case userCfg x0 x1 => exact .mem _ (show execUserCfg x0 x1 s = runW s _ from rfl)
  case userRead x0 x1 => exact .mem _ (show execUserRead x0 x1 s = runW s _ from rfl)
  case groupCfg x0 x1 => exact .mem _ (show execGroupCfg x0 x1 s = runW s _ from rfl)
  case groupCalc x0 x1 => exact .mem _ (show execGroupCalc x0 x1 s = runW s _ from rfl)
  case beamStat x0 x1 => exact .mem _ (show execBeamStat x0 x1 s = runW s _ from rfl)
  case opVnop x0 => exact .mem _ (show execOpVnop x0 s = runW s _ from rfl)
  case opCmac x0 => exact .mem _ (show execOpCmac x0 s = runW s _ from rfl)
  case opVout x0 => exact .mem _ (show execOpVout x0 s = runW s _ from rfl)
  case opVmule x0 => exact .mem _ (show execOpVmule x0 s = runW s _ from rfl)
  case opVadd x0 => exact .mem _ (show execOpVadd x0 s = runW s _ from rfl)
  case opVrsq x0 => exact .mem _ (show execOpVrsq x0 s = runW s _ from rfl)
  case opVrcp x0 => exact .mem _ (show execOpVrcp x0 s = runW s _ from rfl)
  case opVnorm x0 => exact .mem _ (show execOpVnorm x0 s = runW s _ from rfl)
  case opVtr x0 => exact .mem _ (show execOpVtr x0 s = runW s _ from rfl)
  case opVcfcol x0 => exact .mem _ (show execOpVcfcol x0 s = runW s _ from rfl)
  case opVmov x0 => exact .mem _ (show execOpVmov x0 s = runW s _ from rfl)
  case opVzero x0 => exact .mem _ (show execOpVzero x0 s = runW s _ from rfl)
  case opAnop x0 => exact .mem _ (show execOpAnop x0 s = runW s _ from rfl)
  case opLd x0 x1 => exact .mem _ (show execOpLd x0 x1 s = runW s _ from rfl)
  case opSt x0 => exact .mem _ (show execOpSt x0 s = runW s _ from rfl)
  case opAgset x0 => exact .mem _ (show execOpAgset x0 s = runW s _ from rfl)
  case opAgptr x0 => exact .mem _ (show execOpAgptr x0 s = runW s _ from rfl)
  case opAgoff x0 => exact .mem _ (show execOpAgoff x0 s = runW s _ from rfl)
  case opAgstep x0 => exact .mem _ (show execOpAgstep x0 s = runW s _ from rfl)
  case opSnop x0 => exact .mem _ (show execOpSnop x0 s = runW s _ from rfl)
  case opAdd x0 => exact .mem _ (show execOpAdd x0 s = runW s _ from rfl)
  case opSub x0 => exact .mem _ (show execOpSub x0 s = runW s _ from rfl)
  case opAnd x0 => exact .mem _ (show execOpAnd x0 s = runW s _ from rfl)
  case opOr x0 => exact .mem _ (show execOpOr x0 s = runW s _ from rfl)
  case opXor x0 => exact .mem _ (show execOpXor x0 s = runW s _ from rfl)
  case opShl x0 => exact .mem _ (show execOpShl x0 s = runW s _ from rfl)
  case opShr x0 => exact .mem _ (show execOpShr x0 s = runW s _ from rfl)
  case opSar x0 => exact .mem _ (show execOpSar x0 s = runW s _ from rfl)
  case opMul x0 => exact .mem _ (show execOpMul x0 s = runW s _ from rfl)
  case opSlt x0 => exact .mem _ (show execOpSlt x0 s = runW s _ from rfl)
  case opSext16 x0 => exact .mem _ (show execOpSext16 x0 s = runW s _ from rfl)
  case opBr x0 => exact .mem _ (show execOpBr x0 s = runW s _ from rfl)
  case opBrz x0 => exact .mem _ (show execOpBrz x0 s = runW s _ from rfl)
  case opBrnz x0 => exact .mem _ (show execOpBrnz x0 s = runW s _ from rfl)
  case opLoop x0 => exact .mem _ (show execOpLoop x0 s = runW s _ from rfl)
  case opWqpop x0 => exact .mem _ (show execOpWqpop x0 s = runW s _ from rfl)
  case opCqpush x0 => exact .mem _ (show execOpCqpush x0 s = runW s _ from rfl)
  case opCfld x0 => exact .mem _ (show execOpCfld x0 s = runW s _ from rfl)
  case cfldDone x0 x1 x2 => exact .mem _ (show execCfldDone x0 x1 x2 s = runW s _ from rfl)
  case opCfwait x0 => exact .mem _ (show execOpCfwait x0 s = runW s _ from rfl)
  case opHcopy x0 => exact .mem _ (show execOpHcopy x0 s = runW s _ from rfl)
  case hcopyDone x0 x1 => exact .mem _ (show execHcopyDone x0 x1 s = runW s _ from rfl)
  case opHwait x0 => exact .mem _ (show execOpHwait x0 s = runW s _ from rfl)
  case opMfvr x0 => exact .mem _ (show execOpMfvr x0 s = runW s _ from rfl)
  case opMfnorm x0 => exact .mem _ (show execOpMfnorm x0 s = runW s _ from rfl)
  case opMfag x0 => exact .mem _ (show execOpMfag x0 s = runW s _ from rfl)
  case opHalt x0 => exact .mem _ (show execOpHalt x0 s = runW s _ from rfl)
  case opFault x0 => exact .mem _ (show execOpFault x0 s = runW s _ from rfl)
  case localWriteback x0 => exact .plain _ (show execLocalWriteback x0 s = run s _ from rfl)
  case externalAccess x0 x1 x2 x3 x4 => exact .mem _ (show execExternalAccess x0 x1 x2 x3 x4 s = runW s _ from rfl)
  case cluLoad x0 => exact .plain _ (show execCluLoad x0 s = run s _ from rfl)
  case cluLoadDone x0 x1 => exact .mem _ (show execCluLoadDone x0 x1 s = runW s _ from rfl)
  case cluStart x0 => exact .plain _ (show execCluStart x0 s = run s _ from rfl)
  case cluStop x0 => exact .plain _ (show execCluStop x0 s = run s _ from rfl)
  case cluStopDone x0 => exact .plain _ (show execCluStopDone x0 s = run s _ from rfl)
  case cluClear x0 => exact .plain _ (show execCluClear x0 s = run s _ from rfl)
  case cluWqPush x0 x1 x2 => exact .plain _ (show execCluWqPush x0 x1 x2 s = run s _ from rfl)
  case cluCqPop x0 x1 => exact .plain _ (show execCluCqPop x0 x1 s = run s _ from rfl)
  case cluWdogExpiry x0 x1 => exact .plain _ (show execCluWdogExpiry x0 x1 s = run s _ from rfl)
  case kernelAdd x0 x1 => exact .mem _ (show execKernelAdd x0 x1 s = runW s _ from rfl)
  case cluAssign x0 x1 => exact .mem _ (show execCluAssign x0 x1 s = runW s _ from rfl)
  case cluWork x0 x1 => exact .mem _ (show execCluWork x0 x1 s = runW s _ from rfl)
  case cluPoll x0 x1 => exact .mem _ (show execCluPoll x0 x1 s = runW s _ from rfl)
  case cluStat x0 x1 => exact .mem _ (show execCluStat x0 x1 s = runW s _ from rfl)
  case symbolBoundary x0 x1 => exact .mem _ (show execSymbolBoundary x0 x1 s = runW s _ from rfl)
  case ulSymbolBoundary x0 x1 => exact .plain _ (show execUlSymbolBoundary x0 x1 s = run s _ from rfl)
  case slotBoundary x0 => exact .plain _ (show execSlotBoundary x0 s = run s _ from rfl)
  case subframeBoundary => exact .plain _ (show execSubframeBoundary s = run s _ from rfl)
  case frameBoundary => exact .plain _ (show execFrameBoundary s = run s _ from rfl)
  case ncoWordCommit x0 x1 x2 => exact .plain _ (show execNcoWordCommit x0 x1 x2 s = run s _ from rfl)
  case ncoWordApply x0 => exact .plain _ (show execNcoWordApply x0 s = run s _ from rfl)
  case chainStop x0 x1 => exact .plain _ (show execChainStop x0 x1 s = run s _ from rfl)
  case chainDrained x0 x1 => exact .plain _ (show execChainDrained x0 x1 s = run s _ from rfl)
  case chainStart x0 x1 => exact .plain _ (show execChainStart x0 x1 s = run s _ from rfl)
  case coefWrite x0 x1 x2 => exact .plain _ (show execCoefWrite x0 x1 x2 s = run s _ from rfl)
  case splitWrite x0 => exact .plain _ (show execSplitWrite x0 s = run s _ from rfl)
  case carrierTableWrite x0 x1 x2 => exact .plain _ (show execCarrierTableWrite x0 x1 x2 s = run s _ from rfl)
  case pllPowerUp x0 => exact .plain _ (show execPllPowerUp x0 s = run s _ from rfl)
  case pllLockDetect x0 => exact .plain _ (show execPllLockDetect x0 s = run s _ from rfl)
  case pllCalTimeout x0 => exact .plain _ (show execPllCalTimeout x0 s = run s _ from rfl)
  case pllSettleDone x0 => exact .plain _ (show execPllSettleDone x0 s = run s _ from rfl)
  case pllLockLost x0 => exact .plain _ (show execPllLockLost x0 s = run s _ from rfl)
  case pllUnlockTimeout x0 => exact .plain _ (show execPllUnlockTimeout x0 s = run s _ from rfl)
  case pllCal x0 => exact .plain _ (show execPllCal x0 s = run s _ from rfl)
  case vtWarn x0 x1 => exact .plain _ (show execVtWarn x0 x1 s = run s _ from rfl)
  case sleepSet x0 => exact .plain _ (show execSleepSet x0 s = run s _ from rfl)
  case sleepDone x0 => exact .plain _ (show execSleepDone x0 s = run s _ from rfl)
  case wakeStart x0 => exact .plain _ (show execWakeStart x0 s = run s _ from rfl)
  case wakeDone x0 => exact .plain _ (show execWakeDone x0 s = run s _ from rfl)
  case pathWake x0 => exact .plain _ (show execPathWake x0 s = run s _ from rfl)
  case bandCfg x0 x1 => exact .mem _ (show execBandCfg x0 x1 s = runW s _ from rfl)
  case carrierCfg x0 x1 => exact .mem _ (show execCarrierCfg x0 x1 s = runW s _ from rfl)
  case carrierRetune x0 x1 => exact .mem _ (show execCarrierRetune x0 x1 s = runW s _ from rfl)
  case carrierDel x0 x1 => exact .mem _ (show execCarrierDel x0 x1 s = runW s _ from rfl)
  case filterLoad x0 x1 => exact .mem _ (show execFilterLoad x0 x1 s = runW s _ from rfl)
  case filterSelect x0 x1 => exact .mem _ (show execFilterSelect x0 x1 s = runW s _ from rfl)
  case pllRecal x0 x1 => exact .mem _ (show execPllRecal x0 x1 s = runW s _ from rfl)
  case tileSleep x0 x1 => exact .mem _ (show execTileSleep x0 x1 s = runW s _ from rfl)
  case pathMask x0 x1 => exact .mem _ (show execPathMask x0 x1 s = runW s _ from rfl)
  case rfStat x0 x1 => exact .mem _ (show execRfStat x0 x1 s = runW s _ from rfl)
  case dpdLoad x0 x1 => exact .plain _ (show execDpdLoad x0 x1 s = run s _ from rfl)
  case dpdLoadDone x0 => exact .mem _ (show execDpdLoadDone x0 s = runW s _ from rfl)
  case dpdCommit x0 x1 => exact .plain _ (show execDpdCommit x0 x1 s = run s _ from rfl)
  case captureRequest x0 x1 x2 => exact .plain _ (show execCaptureRequest x0 x1 x2 s = run s _ from rfl)
  case captureHead x0 => exact .plain _ (show execCaptureHead x0 s = run s _ from rfl)
  case captureWindowOpen x0 => exact .plain _ (show execCaptureWindowOpen x0 s = run s _ from rfl)
  case captureWindowClose x0 x1 => exact .plain _ (show execCaptureWindowClose x0 x1 s = run s _ from rfl)
  case captureRecordDone x0 => exact .mem _ (show execCaptureRecordDone x0 s = runW s _ from rfl)
  case captureTimeout x0 x1 => exact .plain _ (show execCaptureTimeout x0 x1 s = run s _ from rfl)
  case captureDoneRead x0 x1 => exact .plain _ (show execCaptureDoneRead x0 x1 s = run s _ from rfl)
  case adaptUpdate x0 => exact .plain _ (show execAdaptUpdate x0 s = run s _ from rfl)
  case dpdUpdateTimer x0 => exact .plain _ (show execDpdUpdateTimer x0 s = run s _ from rfl)
  case capgenRecapture x0 => exact .plain _ (show execCapgenRecapture x0 s = run s _ from rfl)
  case dpdMode x0 x1 => exact .mem _ (show execDpdMode x0 x1 s = runW s _ from rfl)
  case dpdNeighbour x0 x1 => exact .mem _ (show execDpdNeighbour x0 x1 s = runW s _ from rfl)
  case dpdTableLoad x0 x1 => exact .mem _ (show execDpdTableLoad x0 x1 s = runW s _ from rfl)
  case dpdTableRead x0 x1 => exact .mem _ (show execDpdTableRead x0 x1 s = runW s _ from rfl)
  case dpdReset x0 x1 => exact .mem _ (show execDpdReset x0 x1 s = runW s _ from rfl)
  case dpdCapture x0 x1 => exact .mem _ (show execDpdCapture x0 x1 s = runW s _ from rfl)
  case dpdStat x0 x1 => exact .mem _ (show execDpdStat x0 x1 s = runW s _ from rfl)
  case trimWrite x0 x1 x2 => exact .plain _ (show execTrimWrite x0 x1 x2 s = run s _ from rfl)
  case calCommit x0 => exact .plain _ (show execCalCommit x0 s = run s _ from rfl)
  case calAbort x0 => exact .plain _ (show execCalAbort x0 s = run s _ from rfl)
  case statsBlock x0 x1 => exact .plain _ (show execStatsBlock x0 x1 s = run s _ from rfl)
  case engineUpdate x0 => exact .plain _ (show execEngineUpdate x0 s = run s _ from rfl)
  case starveExpiry x0 x1 => exact .plain _ (show execStarveExpiry x0 x1 s = run s _ from rfl)
  case dacFit x0 => exact .plain _ (show execDacFit x0 s = run s _ from rfl)
  case dacStarve x0 => exact .plain _ (show execDacStarve x0 s = run s _ from rfl)
  case recipMeasureStart => exact .plain _ (show execRecipMeasureStart s = run s _ from rfl)
  case recipBurst x0 x1 => exact .plain _ (show execRecipBurst x0 x1 s = run s _ from rfl)
  case recipSwapRequest => exact .plain _ (show execRecipSwapRequest s = run s _ from rfl)
  case monCalStart x0 => exact .plain _ (show execMonCalStart x0 s = run s _ from rfl)
  case monCalDone x0 => exact .plain _ (show execMonCalDone x0 s = run s _ from rfl)
  case calMode x0 x1 => exact .mem _ (show execCalMode x0 x1 s = runW s _ from rfl)
  case calRead x0 x1 => exact .mem _ (show execCalRead x0 x1 s = runW s _ from rfl)
  case calReset x0 x1 => exact .mem _ (show execCalReset x0 x1 s = runW s _ from rfl)
  case recipRun x0 x1 => exact .mem _ (show execRecipRun x0 x1 s = runW s _ from rfl)
  case recipRead x0 x1 => exact .mem _ (show execRecipRead x0 x1 s = runW s _ from rfl)
  case recipHost x0 x1 => exact .mem _ (show execRecipHost x0 x1 s = runW s _ from rfl)
  case monCal x0 x1 => exact .mem _ (show execMonCal x0 x1 s = runW s _ from rfl)
  case calStat x0 x1 => exact .mem _ (show execCalStat x0 x1 s = runW s _ from rfl)
  case timeBaseTick => exact .plain _ (show execTimeBaseTick s = run s _ from rfl)
  case ppsOutFall => exact .plain _ (show execPpsOutFall s = run s _ from rfl)
  case timeStepCommit x0 x1 => exact .plain _ (show execTimeStepCommit x0 x1 s = run s _ from rfl)
  case timeStep => exact .plain _ (show execTimeStep s = run s _ from rfl)
  case slewStart x0 x1 => exact .plain _ (show execSlewStart x0 x1 s = run s _ from rfl)
  case slewEnd => exact .plain _ (show execSlewEnd s = run s _ from rfl)
  case measCommit x0 x1 => exact .plain _ (show execMeasCommit x0 x1 s = run s _ from rfl)
  case ppsInEdge x0 => exact .plain _ (show execPpsInEdge x0 s = run s _ from rfl)
  case ppsMiss x0 => exact .plain _ (show execPpsMiss x0 s = run s _ from rfl)
  case servoEval x0 => exact .plain _ (show execServoEval x0 s = run s _ from rfl)
  case holdExp => exact .plain _ (show execHoldExp s = run s _ from rfl)
  case incrCommit x0 x1 => exact .plain _ (show execIncrCommit x0 x1 s = run s _ from rfl)
  case clkSrcChange x0 x1 => exact .plain _ (show execClkSrcChange x0 x1 s = run s _ from rfl)
  case ttblCommit => exact .plain _ (show execTtblCommit s = run s _ from rfl)
  case ttblCopy => exact .plain _ (show execTtblCopy s = run s _ from rfl)
  case ttEntryFire x0 => exact .plain _ (show execTtEntryFire x0 s = run s _ from rfl)
  case ttPulseEnd x0 => exact .plain _ (show execTtPulseEnd x0 s = run s _ from rfl)
  case ttInEdge x0 x1 x2 => exact .plain _ (show execTtInEdge x0 x1 x2 s = run s _ from rfl)
  case ttInRead x0 x1 => exact .plain _ (show execTtInRead x0 x1 s = run s _ from rfl)
  case mb3ScriptRun x0 => exact .mem _ (show execMb3ScriptRun x0 s = runW s _ from rfl)
  case ptpExchange x0 x1 => exact .plain _ (show execPtpExchange x0 x1 s = run s _ from rfl)
  case timeCfg x0 x1 => exact .mem _ (show execTimeCfg x0 x1 s = runW s _ from rfl)
  case timeSet x0 x1 => exact .mem _ (show execTimeSet x0 x1 s = runW s _ from rfl)
  case timeSlew x0 x1 => exact .mem _ (show execTimeSlew x0 x1 s = runW s _ from rfl)
  case timeGet x0 x1 => exact .mem _ (show execTimeGet x0 x1 s = runW s _ from rfl)
  case ptpCfg x0 x1 => exact .mem _ (show execPtpCfg x0 x1 s = runW s _ from rfl)
  case ttWrite x0 x1 => exact .mem _ (show execTtWrite x0 x1 s = runW s _ from rfl)
  case ttCommit x0 x1 => exact .mem _ (show execTtCommit x0 x1 s = runW s _ from rfl)
  case ttRead x0 x1 => exact .mem _ (show execTtRead x0 x1 s = runW s _ from rfl)
  case ttScript x0 x1 => exact .mem _ (show execTtScript x0 x1 s = runW s _ from rfl)
  case rmbWindowOpen => exact .plain _ (show execRmbWindowOpen s = run s _ from rfl)
  case rmbWindowClose x0 => exact .mem _ (show execRmbWindowClose x0 s = runW s _ from rfl)
  case rmbTxqPush x0 => exact .mem _ (show execRmbTxqPush x0 s = runW s _ from rfl)
  case burstStart x0 x1 => exact .plain _ (show execBurstStart x0 x1 s = run s _ from rfl)
  case burstEnd => exact .plain _ (show execBurstEnd s = run s _ from rfl)
  case synthHoldExpiry x0 => exact .plain _ (show execSynthHoldExpiry x0 s = run s _ from rfl)
  case txdoneRead x0 => exact .plain _ (show execTxdoneRead x0 s = run s _ from rfl)
  case preambleDetect x0 x1 => exact .mem _ (show execPreambleDetect x0 x1 s = runW s _ from rfl)
  case syncFound x0 => exact .plain _ (show execSyncFound x0 s = run s _ from rfl)
  case syncTimeout => exact .plain _ (show execSyncTimeout s = run s _ from rfl)
  case headerReceive x0 => exact .plain _ (show execHeaderReceive x0 s = run s _ from rfl)
  case payloadReceive x0 x1 => exact .mem _ (show execPayloadReceive x0 x1 s = runW s _ from rfl)
  case rxSlotFree x0 => exact .plain _ (show execRxSlotFree x0 s = run s _ from rfl)
  case rxqRead x0 => exact .plain _ (show execRxqRead x0 s = run s _ from rfl)
  case ackTimeout x0 x1 => exact .plain _ (show execAckTimeout x0 x1 s = run s _ from rfl)
  case ttTimeout x0 => exact .plain _ (show execTtTimeout x0 s = run s _ from rfl)
  case timeReqInterval => exact .plain _ (show execTimeReqInterval s = run s _ from rfl)
  case coexRequest => exact .plain _ (show execCoexRequest s = run s _ from rfl)
  case coexReqInEdge x0 => exact .plain _ (show execCoexReqInEdge x0 s = run s _ from rfl)
  case rmbCfg x0 x1 => exact .mem _ (show execRmbCfg x0 x1 s = runW s _ from rfl)
  case rmbSend x0 x1 => exact .mem _ (show execRmbSend x0 x1 s = runW s _ from rfl)
  case rmbTt x0 x1 => exact .mem _ (show execRmbTt x0 x1 s = runW s _ from rfl)
  case coexCfg x0 x1 => exact .mem _ (show execCoexCfg x0 x1 s = runW s _ from rfl)
  case rmbStat x0 x1 => exact .mem _ (show execRmbStat x0 x1 s = runW s _ from rfl)
  case auxdQueuePush x0 x1 => exact .plain _ (show execAuxdQueuePush x0 x1 s = run s _ from rfl)
  case auxdTick => exact .plain _ (show execAuxdTick s = run s _ from rfl)
  case deglitchHoldEnd x0 => exact .plain _ (show execDeglitchHoldEnd x0 s = run s _ from rfl)
  case forceHiz => exact .plain _ (show execForceHiz s = run s _ from rfl)
  case monInjectRequest x0 x1 => exact .plain _ (show execMonInjectRequest x0 x1 s = run s _ from rfl)
  case conversionDone x0 x1 x2 => exact .plain _ (show execConversionDone x0 x1 x2 s = run s _ from rfl)
  case muteRelease x0 x1 => exact .plain _ (show execMuteRelease x0 x1 s = run s _ from rfl)
  case txmuteFall => exact .plain _ (show execTxmuteFall s = run s _ from rfl)
  case txmuteRise => exact .plain _ (show execTxmuteRise s = run s _ from rfl)
  case fespiStart x0 x1 x2 => exact .plain _ (show execFespiStart x0 x1 x2 s = run s _ from rfl)
  case fespiDone x0 x1 => exact .plain _ (show execFespiDone x0 x1 s = run s _ from rfl)
  case fei2cStart => exact .plain _ (show execFei2cStart s = run s _ from rfl)
  case fei2cDone x0 x1 x2 => exact .plain _ (show execFei2cDone x0 x1 x2 s = run s _ from rfl)
  case fei2cStretchTimeout x0 => exact .plain _ (show execFei2cStretchTimeout x0 s = run s _ from rfl)
  case auxdCfg x0 x1 => exact .mem _ (show execAuxdCfg x0 x1 s = runW s _ from rfl)
  case auxdPush x0 x1 => exact .mem _ (show execAuxdPush x0 x1 s = runW s _ from rfl)
  case auxdHiz x0 x1 => exact .mem _ (show execAuxdHiz x0 x1 s = runW s _ from rfl)
  case monSeq x0 x1 => exact .mem _ (show execMonSeq x0 x1 s = runW s _ from rfl)
  case monTrig x0 x1 => exact .mem _ (show execMonTrig x0 x1 s = runW s _ from rfl)
  case monInject x0 x1 => exact .mem _ (show execMonInject x0 x1 s = runW s _ from rfl)
  case monRead x0 x1 => exact .mem _ (show execMonRead x0 x1 s = runW s _ from rfl)
  case monWindow x0 x1 => exact .mem _ (show execMonWindow x0 x1 s = runW s _ from rfl)
  case monUnmute x0 x1 => exact .mem _ (show execMonUnmute x0 x1 s = runW s _ from rfl)
  case fespiXfer x0 x1 => exact .mem _ (show execFespiXfer x0 x1 s = runW s _ from rfl)
  case fei2cXfer x0 x1 => exact .mem _ (show execFei2cXfer x0 x1 s = runW s _ from rfl)
  case feStat x0 x1 => exact .mem _ (show execFeStat x0 x1 s = runW s _ from rfl)
  case sensorSample x0 => exact .plain _ (show execSensorSample x0 s = run s _ from rfl)
  case graceExpiry x0 x1 => exact .plain _ (show execGraceExpiry x0 x1 s = run s _ from rfl)
  case novalidGraceExpiry x0 x1 => exact .plain _ (show execNovalidGraceExpiry x0 x1 s = run s _ from rfl)
  case sensorClear x0 => exact .plain _ (show execSensorClear x0 s = run s _ from rfl)
  case powerSample x0 x1 x2 => exact .plain _ (show execPowerSample x0 x1 x2 s = run s _ from rfl)
  case thermCfg x0 x1 => exact .mem _ (show execThermCfg x0 x1 s = runW s _ from rfl)
  case shedOrder x0 x1 => exact .mem _ (show execShedOrder x0 x1 s = runW s _ from rfl)
  case sensClear x0 x1 => exact .mem _ (show execSensClear x0 x1 s = runW s _ from rfl)
  case pwrCfg x0 x1 => exact .mem _ (show execPwrCfg x0 x1 s = runW s _ from rfl)
  case thermStat x0 x1 => exact .mem _ (show execThermStat x0 x1 s = runW s _ from rfl)
  case stateWrite x0 => exact .plain _ (show execStateWrite x0 s = run s _ from rfl)
  case safeCauseClear x0 => exact .plain _ (show execSafeCauseClear x0 s = run s _ from rfl)
  case frameWrite x0 => exact .mem _ (show execFrameWrite x0 s = runW s _ from rfl)
  case frameRead => exact .plain _ (show execFrameRead s = run s _ from rfl)
  case statRead => exact .plain _ (show execStatRead s = run s _ from rfl)
  case regRead x0 => exact .plain _ (show execRegRead x0 s = run s _ from rfl)
  case regWrite x0 x1 => 
    by_cases h : s.dev.lcOpen = true
    · exact .bus x0.toNat _ (if_pos h)
    · exact .plain _ (if_neg h)
  case executionLimit x0 x1 x2 => exact .plain _ (show execExecutionLimit x0 x1 x2 s = run s _ from rfl)
  case wdogKick x0 x1 => exact .plain _ (show execWdogKick x0 x1 s = run s _ from rfl)
  case wdogExpiry x0 => exact .zero _ (show execWdogExpiry x0 s = runZ s _ from rfl)
  case mboxInPop x0 => exact .mem _ (show execMboxInPop x0 s = runW s _ from rfl)
  case mboxOutPush x0 x1 => exact .mem _ (show execMboxOutPush x0 x1 s = runW s _ from rfl)
  case warmReset => exact .zero _ (show execWarmReset s = runZ s _ from rfl)
  case bootLoaderStart x0 => exact .plain _ (show execBootLoaderStart x0 s = run s _ from rfl)
  case runtimeStart x0 => exact .start x0 rfl
  case sysInfo x0 x1 => exact .mem _ (show execSysInfo x0 x1 s = runW s _ from rfl)
  case sysStateSet x0 x1 => exact .mem _ (show execSysStateSet x0 x1 s = runW s _ from rfl)
  case safeClear x0 x1 => exact .mem _ (show execSafeClear x0 x1 s = runW s _ from rfl)
  case sysReboot x0 x1 => exact .mem _ (show execSysReboot x0 x1 s = runW s _ from rfl)
  case wdogCfg x0 x1 => exact .mem _ (show execWdogCfg x0 x1 s = runW s _ from rfl)
  case fwStage x0 x1 => exact .mem _ (show execFwStage x0 x1 s = runW s _ from rfl)
  case fwActivate x0 x1 => exact .mem _ (show execFwActivate x0 x1 s = runW s _ from rfl)
  case fwStat x0 x1 => exact .mem _ (show execFwStat x0 x1 s = runW s _ from rfl)
  case pinLoopback x0 x1 => exact .mem _ (show execPinLoopback x0 x1 s = runW s _ from rfl)
  case verifyImage x0 => exact .mem _ (show execVerifyImage x0 s = runW s _ from rfl)
  case verifyKernel x0 => exact .mem _ (show execVerifyKernel x0 s = runW s _ from rfl)
  case verifyAuthorisation x0 => exact .mem _ (show execVerifyAuthorisation x0 s = runW s _ from rfl)
  case attestationReport x0 => exact .mem _ (show execAttestationReport x0 s = runW s _ from rfl)
  case engineJobDone => exact .mem _ (show execEngineJobDone s = runW s _ from rfl)
  case lcStat x0 x1 => exact .mem _ (show execLcStat x0 x1 s = runW s _ from rfl)
  case lcNonce x0 x1 => exact .mem _ (show execLcNonce x0 x1 s = runW s _ from rfl)
  case lcAuth x0 x1 => exact .mem _ (show execLcAuth x0 x1 s = runW s _ from rfl)
  case ownerKeySet x0 x1 => exact .mem _ (show execOwnerKeySet x0 x1 s = runW s _ from rfl)
  case attest x0 x1 => exact .mem _ (show execAttest x0 x1 s = runW s _ from rfl)
  case svnCommit x0 x1 => exact .mem _ (show execSvnCommit x0 x1 s = runW s _ from rfl)
  case partCommit => exact .plain _ (show execPartCommit s = run s _ from rfl)
  case hamperWriteback x0 => exact .plain _ (show execHamperWriteback x0 s = run s _ from rfl)
  case scrubRead x0 => exact .plain _ (show execScrubRead x0 s = run s _ from rfl)
  case logRead x0 => exact .plain _ (show execLogRead x0 s = run s _ from rfl)
  case retireStart x0 => exact .plain _ (show execRetireStart x0 s = run s _ from rfl)
  case retireDone => exact .plain _ (show execRetireDone s = run s _ from rfl)
  case bistStart => exact .plain _ (show execBistStart s = run s _ from rfl)
  case bistStop => exact .plain _ (show execBistStop s = run s _ from rfl)
  case bistDone x0 => exact .plain _ (show execBistDone x0 s = run s _ from rfl)
  case bistPace => exact .plain _ (show execBistPace s = run s _ from rfl)
  case bistFuseCommit => exact .plain _ (show execBistFuseCommit s = run s _ from rfl)
  case lbStart => exact .plain _ (show execLbStart s = run s _ from rfl)
  case loopbackDone x0 => exact .plain _ (show execLoopbackDone x0 s = run s _ from rfl)
  case bulkWrite x0 => exact .mem _ (show execBulkWrite x0 s = runW s _ from rfl)
  case weightWrite x0 => exact .mem _ (show execWeightWrite x0 s = runW s _ from rfl)
  case bulkMark x0 => exact .plain _ (show execBulkMark x0 s = run s _ from rfl)
  case dmaStart x0 => exact .plain _ (show execDmaStart x0 s = run s _ from rfl)
  case dmaStop x0 => exact .plain _ (show execDmaStop x0 s = run s _ from rfl)
  case dmaResume x0 => exact .plain _ (show execDmaResume x0 s = run s _ from rfl)
  case dmaBurstDone x0 x1 => exact .mem _ (show execDmaBurstDone x0 x1 s = runW s _ from rfl)
  case dmaWdogExpiry x0 x1 => exact .plain _ (show execDmaWdogExpiry x0 x1 s = run s _ from rfl)
  case cluPwrWrite x0 => exact .plain _ (show execCluPwrWrite x0 s = run s _ from rfl)
  case drainTimeout x0 x1 => exact .plain _ (show execDrainTimeout x0 x1 s = run s _ from rfl)
  case hamperDeepSleep => exact .plain _ (show execHamperDeepSleep s = run s _ from rfl)
  case memPartition x0 x1 => exact .mem _ (show execMemPartition x0 x1 s = runW s _ from rfl)
  case memRead x0 x1 => exact .mem _ (show execMemRead x0 x1 s = runW s _ from rfl)
  case memLog x0 x1 => exact .mem _ (show execMemLog x0 x1 s = runW s _ from rfl)
  case pageRetire x0 x1 => exact .mem _ (show execPageRetire x0 x1 s = runW s _ from rfl)
  case bistCfg x0 x1 => exact .mem _ (show execBistCfg x0 x1 s = runW s _ from rfl)
  case bistStat x0 x1 => exact .mem _ (show execBistStat x0 x1 s = runW s _ from rfl)
  case fuseRepair x0 x1 => exact .mem _ (show execFuseRepair x0 x1 s = runW s _ from rfl)
  case loopback x0 x1 => exact .mem _ (show execLoopback x0 x1 s = runW s _ from rfl)
  case hardFault x0 => exact .plain _ (show execHardFault x0 s = run s _ from rfl)
  case tbPllRelock => exact .plain _ (show execTbPllRelock s = run s _ from rfl)
  case faultClear x0 x1 => exact .plain _ (show execFaultClear x0 x1 s = run s _ from rfl)
  case traceSync => exact .plain _ (show execTraceSync s = run s _ from rfl)
  case obsRead x0 x1 => exact .mem _ (show execObsRead x0 x1 s = runW s _ from rfl)
  case obsFaults x0 x1 => exact .mem _ (show execObsFaults x0 x1 s = runW s _ from rfl)
  case obsFaultClear x0 x1 => exact .mem _ (show execObsFaultClear x0 x1 s = runW s _ from rfl)
  case faultnCfg x0 x1 => exact .mem _ (show execFaultnCfg x0 x1 s = runW s _ from rfl)
  case traceCfg x0 x1 => exact .mem _ (show execTraceCfg x0 x1 s = runW s _ from rfl)
  case vinUvRise => exact .power _ (show execVinUvRise s = runP s _ from rfl)
  case vinUvFall => exact .power _ (show execVinUvFall s = runP s _ from rfl)
  case vinOvRise => exact .power _ (show execVinOvRise s = runP s _ from rfl)
  case vinOvFall => exact .power _ (show execVinOvFall s = runP s _ from rfl)
  case railFault x0 => exact .power _ (show execRailFault x0 s = runP s _ from rfl)
  case railTimeout => exact .power _ (show execRailTimeout s = runP s _ from rfl)
  case pwrGoodRise x0 => exact .power _ (show execPwrGoodRise x0 s = runP s _ from rfl)
  case resetNFall x0 => exact .power _ (show execResetNFall x0 s = runP s _ from rfl)
  case resetNRise => exact .power _ (show execResetNRise s = runP s _ from rfl)
  case tileColdStart x0 => exact .plain _ (show execTileColdStart x0 s = run s _ from rfl)
  case eqFreeze x0 x1 => exact .plain _ (show execEqFreeze x0 x1 s = run s _ from rfl)
  case feedEngineFill x0 x1 => exact .plain _ (show execFeedEngineFill x0 x1 s = run s _ from rfl)
  case drainEngineEmpty x0 => exact .plain _ (show execDrainEngineEmpty x0 s = run s _ from rfl)
  case railRecovery x0 => exact .power _ (show execRailRecovery x0 s = runP s _ from rfl)
  case ramblerPllLock => exact .plain _ (show execRamblerPllLock s = run s _ from rfl)
  case functionReady x0 => exact .plain _ (show execFunctionReady x0 s = run s _ from rfl)

end Sys2Proof.Machine
end

