-- ==== Sys2Proof/WellFormed.lean ====
section
/-! DEFINITION. Which commands are well formed: the operands that a list or a whole number holds keep the sizes the spec
gives them. A command that is not well formed stands for nothing the hardware can meet. -/

namespace Sys2Proof

/-- A command's payload fits a frame (R414). -/
def payloadOk (pl : List Byte) : Bool := decide (pl.length ≤ 4096)

/-- Bit errors name words of a memory (R460). -/
def upsetsOk (l : List Upset) : Bool := l.all (fun u => decide (u.word < 2 ^ 24))

/-- A position in air time (R99). -/
def AirPos.ok (p : AirPos) : Bool := decide (p.sfn < 1024 ∧ p.subframe < 10 ∧ p.slot < 2 ∧ p.symbol < 14)

/-- An external request stays inside the local memory (R173, R174). -/
def ExtAccess.ok : ExtAccess → Bool
  | .read off n => decide (off + n ≤ 0x80000)
  | .write off bytes => decide (off + bytes.length ≤ 0x80000)

/-- A statistics block has one sum of each kind for each of the 16 sub-ADCs (R291). -/
def StatsBlock.ok (b : StatsBlock) : Bool := b.s1.length == 16 && b.s2.length == 16 && b.c.length == 16

/-- The link profile names at most 16 seeds, 16 lanes and four ports (R36, R46). -/
def LinkProfile.ok (p : LinkProfile) : Bool := decide (p.seeds.length ≤ 16 ∧ p.lanes.length ≤ 16 ∧ p.ports.length ≤ 4)

/-- Whether a command is well formed. -/
def Instr.wf : Instr → Bool
  | .registerWrite _ _ _ => true
  | .snapshotRead _ _ => true
  | .rcRead _ _ => true
  | .stagedWordWrite _ _ _ => true
  | .portEnable _ => true
  | .portDisable _ => true
  | .portRetrain _ => true
  | .laneStagePass _ _ => true
  | .portStagePass _ => true
  | .stageTimeout _ _ _ => true
  | .laneReinitDone _ => true
  | .trainBlockReceive _ payload => payload.length == 64
  | .blockReceive _ _ => true
  | .frtReq _ _ => true
  | .frtDone _ _ => true
  | .portAbort _ _ => true
  | .laneSignalDetect _ => true
  | .laneLossOfSignal _ => true
  | .frtDeadline _ _ => true
  | .linkRetryExpiry _ => true
  | .eqResume _ _ => true
  | .eqSnapshot _ _ => true
  | .eqRollback _ _ => true
  | .packetReceive _ bytes => decide (bytes.length ≤ 16404)
  | .linkControlReceive _ bytes => decide (bytes.length ≤ 16404)
  | .linkControlSend _ => true
  | .replayTimeout _ _ => true
  | .packetStart _ => true
  | .userPlaneSection _ _ => true
  | .controlPlaneSection _ _ => true
  | .sectionDeadline _ pos => pos.ok
  | .uplinkSectionProduced _ => true
  | .ulDropExpiry _ => true
  | .psumWaitExpiry _ _ => true
  | .timingMessage _ _ _ msg => decide (msg.length ≤ 1500)
  | .tsFifoRead _ => true
  | .streamCfg _ pl => payloadOk pl
  | .fhTiming _ pl => payloadOk pl
  | .cascadeCfg _ pl => payloadOk pl
  | .fhCheck _ pl => payloadOk pl
  | .beamWsUsed _ _ => true
  | .beamWsCommit _ _ _ => true
  | .beamWsAbort _ => true
  | .wsetCutoff _ => true
  | .wsetHoldExpiry _ => true
  | .weightWriteRelease _ => true
  | .srsDone _ => true
  | .contextAgeTick => true
  | .userContextCfgWrite _ _ => true
  | .weightJobStart _ => true
  | .weightJobDone _ => true
  | .wmemCfg _ pl => payloadOk pl
  | .cluMap _ pl => payloadOk pl
  | .wsetCfg _ pl => payloadOk pl
  | .wsetFree _ pl => payloadOk pl
  | .wsetCommit _ pl => payloadOk pl
  | .wsetWrite _ pl => payloadOk pl
  | .wsetStat _ pl => payloadOk pl
  | .fallbackSet _ pl => payloadOk pl
  | .beamSet _ pl => payloadOk pl
  | .ctxCfg _ pl => payloadOk pl
  | .userCfg _ pl => payloadOk pl
  | .userRead _ pl => payloadOk pl
  | .groupCfg _ pl => payloadOk pl
  | .groupCalc _ pl => payloadOk pl
  | .beamStat _ pl => payloadOk pl
  | .opVnop _ => true
  | .opCmac _ => true
  | .opVout _ => true
  | .opVmule _ => true
  | .opVadd _ => true
  | .opVrsq _ => true
  | .opVrcp _ => true
  | .opVnorm _ => true
  | .opVtr _ => true
  | .opVcfcol _ => true
  | .opVmov _ => true
  | .opVzero _ => true
  | .opAnop _ => true
  | .opLd _ ups => upsetsOk ups
  | .opSt _ => true
  | .opAgset _ => true
  | .opAgptr _ => true
  | .opAgoff _ => true
  | .opAgstep _ => true
  | .opSnop _ => true
  | .opAdd _ => true
  | .opSub _ => true
  | .opAnd _ => true
  | .opOr _ => true
  | .opXor _ => true
  | .opShl _ => true
  | .opShr _ => true
  | .opSar _ => true
  | .opMul _ => true
  | .opSlt _ => true
  | .opSext16 _ => true
  | .opBr _ => true
  | .opBrz _ => true
  | .opBrnz _ => true
  | .opLoop _ => true
  | .opWqpop _ => true
  | .opCqpush _ => true
  | .opCfld _ => true
  | .cfldDone _ _ ups => upsetsOk ups
  | .opCfwait _ => true
  | .opHcopy _ => true
  | .hcopyDone _ ups => upsetsOk ups
  | .opHwait _ => true
  | .opMfvr _ => true
  | .opMfnorm _ => true
  | .opMfag _ => true
  | .opHalt _ => true
  | .opFault _ => true
  | .localWriteback _ => true
  | .externalAccess _ _ acc _ ups => acc.ok && upsetsOk ups
  | .cluLoad _ => true
  | .cluLoadDone _ ups => upsetsOk ups
  | .cluStart _ => true
  | .cluStop _ => true
  | .cluStopDone _ => true
  | .cluClear _ => true
  | .cluWqPush _ _ _ => true
  | .cluCqPop _ _ => true
  | .cluWdogExpiry _ _ => true
  | .kernelAdd _ pl => payloadOk pl
  | .cluAssign _ pl => payloadOk pl
  | .cluWork _ pl => payloadOk pl
  | .cluPoll _ pl => payloadOk pl
  | .cluStat _ pl => payloadOk pl
  | .symbolBoundary _ env => upsetsOk env.ups && upsetsOk env.jitter
  | .ulSymbolBoundary _ env => upsetsOk env.ups && upsetsOk env.jitter
  | .slotBoundary _ => true
  | .subframeBoundary => true
  | .frameBoundary => true
  | .ncoWordCommit _ _ _ => true
  | .ncoWordApply _ => true
  | .chainStop _ _ => true
  | .chainDrained _ _ => true
  | .chainStart _ _ => true
  | .coefWrite _ _ _ => true
  | .splitWrite _ => true
  | .carrierTableWrite _ _ _ => true
  | .pllPowerUp _ => true
  | .pllLockDetect _ => true
  | .pllCalTimeout _ => true
  | .pllSettleDone _ => true
  | .pllLockLost _ => true
  | .pllUnlockTimeout _ => true
  | .pllCal _ => true
  | .vtWarn _ _ => true
  | .sleepSet _ => true
  | .sleepDone _ => true
  | .wakeStart _ => true
  | .wakeDone _ => true
  | .pathWake _ => true
  | .bandCfg _ pl => payloadOk pl
  | .carrierCfg _ pl => payloadOk pl
  | .carrierRetune _ pl => payloadOk pl
  | .carrierDel _ pl => payloadOk pl
  | .filterLoad _ pl => payloadOk pl
  | .filterSelect _ pl => payloadOk pl
  | .pllRecal _ pl => payloadOk pl
  | .tileSleep _ pl => payloadOk pl
  | .pathMask _ pl => payloadOk pl
  | .rfStat _ pl => payloadOk pl
  | .dpdLoad _ _ => true
  | .dpdLoadDone ups => upsetsOk ups
  | .dpdCommit _ _ => true
  | .captureRequest _ _ _ => true
  | .captureHead _ => true
  | .captureWindowOpen _ => true
  | .captureWindowClose _ _ => true
  | .captureRecordDone _ => true
  | .captureTimeout _ _ => true
  | .captureDoneRead _ _ => true
  | .adaptUpdate _ => true
  | .dpdUpdateTimer _ => true
  | .capgenRecapture _ => true
  | .dpdMode _ pl => payloadOk pl
  | .dpdNeighbour _ pl => payloadOk pl
  | .dpdTableLoad _ pl => payloadOk pl
  | .dpdTableRead _ pl => payloadOk pl
  | .dpdReset _ pl => payloadOk pl
  | .dpdCapture _ pl => payloadOk pl
  | .dpdStat _ pl => payloadOk pl
  | .trimWrite _ _ _ => true
  | .calCommit _ => true
  | .calAbort _ => true
  | .statsBlock _ blk => blk.ok
  | .engineUpdate _ => true
  | .starveExpiry _ _ => true
  | .dacFit _ => true
  | .dacStarve _ => true
  | .recipMeasureStart => true
  | .recipBurst meas _ => decide (meas.length ≤ 1024)
  | .recipSwapRequest => true
  | .monCalStart _ => true
  | .monCalDone _ => true
  | .calMode _ pl => payloadOk pl
  | .calRead _ pl => payloadOk pl
  | .calReset _ pl => payloadOk pl
  | .recipRun _ pl => payloadOk pl
  | .recipRead _ pl => payloadOk pl
  | .recipHost _ pl => payloadOk pl
  | .monCal _ pl => payloadOk pl
  | .calStat _ pl => payloadOk pl
  | .timeBaseTick => true
  | .ppsOutFall => true
  | .timeStepCommit _ _ => true
  | .timeStep => true
  | .slewStart _ _ => true
  | .slewEnd => true
  | .measCommit _ _ => true
  | .ppsInEdge _ => true
  | .ppsMiss _ => true
  | .servoEval _ => true
  | .holdExp => true
  | .incrCommit _ _ => true
  | .clkSrcChange _ _ => true
  | .ttblCommit => true
  | .ttblCopy => true
  | .ttEntryFire _ => true
  | .ttPulseEnd _ => true
  | .ttInEdge _ _ _ => true
  | .ttInRead _ _ => true
  | .mb3ScriptRun _ => true
  | .ptpExchange _ _ => true
  | .timeCfg _ pl => payloadOk pl
  | .timeSet _ pl => payloadOk pl
  | .timeSlew _ pl => payloadOk pl
  | .timeGet _ pl => payloadOk pl
  | .ptpCfg _ pl => payloadOk pl
  | .ttWrite _ pl => payloadOk pl
  | .ttCommit _ pl => payloadOk pl
  | .ttRead _ pl => payloadOk pl
  | .ttScript _ pl => payloadOk pl
  | .rmbWindowOpen => true
  | .rmbWindowClose _ => true
  | .rmbTxqPush _ => true
  | .burstStart _ _ => true
  | .burstEnd => true
  | .synthHoldExpiry _ => true
  | .txdoneRead _ => true
  | .preambleDetect _ _ => true
  | .syncFound _ => true
  | .syncTimeout => true
  | .headerReceive _ => true
  | .payloadReceive _ _ => true
  | .rxSlotFree _ => true
  | .rxqRead _ => true
  | .ackTimeout _ _ => true
  | .ttTimeout _ => true
  | .timeReqInterval => true
  | .coexRequest => true
  | .coexReqInEdge _ => true
  | .rmbCfg _ pl => payloadOk pl
  | .rmbSend _ pl => payloadOk pl
  | .rmbTt _ pl => payloadOk pl
  | .coexCfg _ pl => payloadOk pl
  | .rmbStat _ pl => payloadOk pl
  | .auxdQueuePush _ _ => true
  | .auxdTick => true
  | .deglitchHoldEnd _ => true
  | .forceHiz => true
  | .monInjectRequest _ _ => true
  | .conversionDone _ _ _ => true
  | .muteRelease _ _ => true
  | .txmuteFall => true
  | .txmuteRise => true
  | .fespiStart _ _ _ => true
  | .fespiDone _ _ => true
  | .fei2cStart => true
  | .fei2cDone _ rx done => decide (rx.length ≤ 16) && decide (done ≤ 16)
  | .fei2cStretchTimeout _ => true
  | .auxdCfg _ pl => payloadOk pl
  | .auxdPush _ pl => payloadOk pl
  | .auxdHiz _ pl => payloadOk pl
  | .monSeq _ pl => payloadOk pl
  | .monTrig _ pl => payloadOk pl
  | .monInject _ pl => payloadOk pl
  | .monRead _ pl => payloadOk pl
  | .monWindow _ pl => payloadOk pl
  | .monUnmute _ pl => payloadOk pl
  | .fespiXfer _ pl => payloadOk pl
  | .fei2cXfer _ pl => payloadOk pl
  | .feStat _ pl => payloadOk pl
  | .sensorSample temps => temps.length == 124
  | .graceExpiry _ _ => true
  | .novalidGraceExpiry _ _ => true
  | .sensorClear _ => true
  | .powerSample _ _ _ => true
  | .thermCfg _ pl => payloadOk pl
  | .shedOrder _ pl => payloadOk pl
  | .sensClear _ pl => payloadOk pl
  | .pwrCfg _ pl => payloadOk pl
  | .thermStat _ pl => payloadOk pl
  | .stateWrite _ => true
  | .safeCauseClear _ => true
  | .frameWrite bytes => decide (bytes.length ≤ 4104)
  | .frameRead => true
  | .statRead => true
  | .regRead _ => true
  | .regWrite _ _ => true
  | .executionLimit _ _ _ => true
  | .wdogKick _ _ => true
  | .wdogExpiry _ => true
  | .mboxInPop _ => true
  | .mboxOutPush _ _ => true
  | .warmReset => true
  | .bootLoaderStart _ => true
  | .runtimeStart prof => (match prof.link with | some p => p.ok | none => true)
  | .sysInfo _ pl => payloadOk pl
  | .sysStateSet _ pl => payloadOk pl
  | .safeClear _ pl => payloadOk pl
  | .sysReboot _ pl => payloadOk pl
  | .wdogCfg _ pl => payloadOk pl
  | .fwStage _ pl => payloadOk pl
  | .fwActivate _ pl => payloadOk pl
  | .fwStat _ pl => payloadOk pl
  | .pinLoopback _ pl => payloadOk pl
  | .verifyImage ups => upsetsOk ups
  | .verifyKernel ups => upsetsOk ups
  | .verifyAuthorisation ups => upsetsOk ups
  | .attestationReport ups => upsetsOk ups
  | .engineJobDone => true
  | .lcStat _ pl => payloadOk pl
  | .lcNonce _ pl => payloadOk pl
  | .lcAuth _ pl => payloadOk pl
  | .ownerKeySet _ pl => payloadOk pl
  | .attest _ pl => payloadOk pl
  | .svnCommit _ pl => payloadOk pl
  | .partCommit => true
  | .hamperWriteback _ => true
  | .scrubRead ups => upsetsOk ups
  | .logRead _ => true
  | .retireStart _ => true
  | .retireDone => true
  | .bistStart => true
  | .bistStop => true
  | .bistDone _ => true
  | .bistPace => true
  | .bistFuseCommit => true
  | .lbStart => true
  | .loopbackDone _ => true
  | .bulkWrite _ => true
  | .weightWrite _ => true
  | .bulkMark _ => true
  | .dmaStart _ => true
  | .dmaStop _ => true
  | .dmaResume _ => true
  | .dmaBurstDone _ ups => upsetsOk ups
  | .dmaWdogExpiry _ _ => true
  | .cluPwrWrite _ => true
  | .drainTimeout _ _ => true
  | .hamperDeepSleep => true
  | .memPartition _ pl => payloadOk pl
  | .memRead _ pl => payloadOk pl
  | .memLog _ pl => payloadOk pl
  | .pageRetire _ pl => payloadOk pl
  | .bistCfg _ pl => payloadOk pl
  | .bistStat _ pl => payloadOk pl
  | .fuseRepair _ pl => payloadOk pl
  | .loopback _ pl => payloadOk pl
  | .hardFault _ => true
  | .tbPllRelock => true
  | .faultClear _ _ => true
  | .traceSync => true
  | .obsRead _ pl => payloadOk pl
  | .obsFaults _ pl => payloadOk pl
  | .obsFaultClear _ pl => payloadOk pl
  | .faultnCfg _ pl => payloadOk pl
  | .traceCfg _ pl => payloadOk pl
  | .vinUvRise => true
  | .vinUvFall => true
  | .vinOvRise => true
  | .vinOvFall => true
  | .railFault _ => true
  | .railTimeout => true
  | .pwrGoodRise _ => true
  | .resetNFall _ => true
  | .resetNRise => true
  | .tileColdStart _ => true
  | .eqFreeze _ _ => true
  | .feedEngineFill _ _ => true
  | .drainEngineEmpty _ => true
  | .railRecovery _ => true
  | .ramblerPllLock => true
  | .functionReady _ => true

end Sys2Proof
end

