-- ==== Sys2Proof/Tests/Slice0.lean ====
section
/-! SUPPORT. The model's own tests: one ill-formed command for each check of WellFormed, the general rules of the block on
small states, and witnesses for the hypotheses of the statements. -/

namespace Sys2Proof.Machine

set_option Elab.async false

/-! Ill-formed commands. -/

/-- A long run of zero bytes. -/
def longRun (k : Nat) : List Byte := List.replicate k 0

theorem test_long (n k : Nat) (h : n < k) : decide ((longRun k).length ≤ n) = false := by
  unfold longRun
  rw [List.length_replicate]
  exact decide_eq_false (by omega)

/-- A long run of measured pairs. -/
def longPairs (k : Nat) : List (Int × Int) := List.replicate k (0, 0)

theorem test_long_pairs (n k : Nat) (h : n < k) : decide ((longPairs k).length ≤ n) = false := by
  unfold longPairs
  rw [List.length_replicate]
  exact decide_eq_false (by omega)

theorem test_wf_train : (Instr.trainBlockReceive 0 []).wf = false := by decide
theorem test_wf_packet : (Instr.packetReceive 0 (longRun 16405)).wf = false := test_long 16404 16405 (by decide)
theorem test_wf_control : (Instr.linkControlReceive 0 (longRun 16405)).wf = false := test_long 16404 16405 (by decide)
theorem test_wf_deadline : (Instr.sectionDeadline 0 ⟨1024, 0, 0, 0⟩).wf = false := by decide
theorem test_wf_timing : (Instr.timingMessage 0 false false (longRun 1501)).wf = false := test_long 1500 1501 (by decide)
theorem test_wf_payload : (Instr.sysInfo ⟨0, 0, 0⟩ (longRun 4097)).wf = false := test_long 4096 4097 (by decide)
theorem test_wf_upset : (Instr.scrubRead [⟨2 ^ 24, .ce, 0⟩]).wf = false := by decide
theorem test_wf_access : (Instr.externalAccess 0 .cp0 (.read 0x80000 1) false []).wf = false := by decide
theorem test_wf_stats : (Instr.statsBlock 0 ⟨[], [], []⟩).wf = false := by decide
theorem test_wf_link : (Instr.runtimeStart ⟨some ⟨0, List.replicate 17 0, [], []⟩, none, []⟩).wf = false := by decide
theorem test_wf_recip : (Instr.recipBurst (longPairs 1025) false).wf = false := test_long_pairs 1024 1025 (by decide)
theorem test_wf_i2c : (Instr.fei2cDone 0 (List.replicate 17 0) 0).wf = false := by decide
theorem test_wf_i2c_done : (Instr.fei2cDone 0 [] 17).wf = false := by decide
theorem test_wf_temps : (Instr.sensorSample []).wf = false := by decide
theorem test_wf_frame : (Instr.frameWrite (longRun 4105)).wf = false := test_long 4104 4105 (by decide)
theorem test_wf_env : (Instr.symbolBoundary 0 { ups := [⟨2 ^ 24, .ue, 0⟩] }).wf = false := by decide
theorem test_wf_jitter : (Instr.ulSymbolBoundary 0 { jitter := [⟨2 ^ 24, .ue, 0⟩] }).wf = false := by decide

/-! The block after reset. -/

theorem test_reset_boot : State.reset.dev.mod = .boot := rfl
theorem test_reset_memory : Memory.wf State.reset.mem = true := rfl
theorem test_reset_queue : State.reset.pending = [] := rfl
theorem test_reset_alive : State.reset.dev.alive = true := rfl

/-- The state after reset with the module off. -/
def offState : State := { dev := { mod := .off } }

theorem test_off_dead : offState.dev.alive = false := rfl

/-! Witnesses: for each statement, states and operands that meet the hypotheses of its clauses. -/

/-- A block with these fields set. -/
def setAll (d : Dev) (fs : List (Fld × Nat)) : Dev := fs.foldl (fun d f => d.setF f.1 f.2) d

/-- A state with these fields set on a block after reset. -/
def atF (fs : List (Fld × Nat)) : State := { dev := setAll {} fs }

/-- A state with this block. -/
def ofD (d : Dev) : State := { dev := d }

theorem wit_dead : ∃ (c : Instr) (s : State), s.dev.alive = false ∧ powerRow c = false :=
  ⟨.warmReset, ofD { mod := .off }, by decide⟩

theorem wit_register_stop : ∃ (c : Instr) (s : State) (a : Nat),
    s.dev.alive = true ∧ busAddress s c = some a ∧ (a < 0x40000000 ∨ 0x402C0000 ≤ a) :=
  ⟨.snapshotRead .cp0 0x402C0000, atF [], 0x402C0000, by decide⟩

theorem wit_canonical : ∃ s : State, s.Inv ∧ s.mem ≠ [] := ⟨{ mem := [(0x10000000, 1)] }, by unfold State.Inv; decide, by decide⟩

theorem wit_idle : ∃ s : State, s.pending = [] := ⟨State.reset, rfl⟩

theorem wit_training_enable : ∃ (s : State) (x : Fin 4), s.dev.alive = true ∧ s.dev.getF F.LINK_BOND_BOND = s.dev.link.bond ∧
    s.dev.lead x.val = x.val ∧ s.dev.flag (F.LINK_Px_CTRL_EN x.val) = false :=
  ⟨atF [], 3, by decide +kernel⟩

theorem wit_training_start : ∃ (s : State) (x : Fin 4) (n : Fin 16), s.dev.alive = true ∧
    s.dev.getF F.LINK_BOND_BOND = s.dev.link.bond ∧ s.dev.lead x.val = x.val ∧ s.dev.flag (F.LINK_Px_CTRL_EN x.val) = true ∧
    s.dev.stage x.val = 0 ∧ s.dev.lead (n.val / 4) = x.val ∧ s.dev.flag (F.LINK_Ln_STAT_SIGNAL n.val) = false :=
  ⟨atF [(F.LINK_Px_CTRL_EN 3, 1)], 3, 15, by decide +kernel⟩

theorem wit_port_up : ∃ (s : State) (x : Fin 4) (n : Fin 16), s.dev.alive = true ∧
    s.dev.getF F.LINK_BOND_BOND = s.dev.link.bond ∧ s.dev.lead x.val = x.val ∧ s.dev.flag (F.LINK_Px_CTRL_EN x.val) = true ∧
    s.dev.stage x.val = 8 ∧ s.dev.lead (n.val / 4) = x.val ∧ s.dev.flag (F.LINK_Ln_STAT_IN_SET n.val) = true ∧
    s.dev.flag (F.LINK_Px_CTRL_FRT_EN x.val) = true :=
  ⟨atF [(F.LINK_Px_CTRL_EN 3, 1), (F.LINK_Px_STAT_STAGE 3, 8), (F.LINK_Ln_STAT_IN_SET 15, 1), (F.LINK_Px_CTRL_FRT_EN 3, 1)],
    3, 15, by decide +kernel⟩

theorem wit_port_retraining : ∃ (s : State) (x : Fin 4), s.dev.alive = true ∧
    s.dev.getF F.LINK_BOND_BOND = s.dev.link.bond ∧ s.dev.lead x.val = x.val ∧ s.dev.flag (F.LINK_Px_CTRL_EN x.val) = true ∧
    s.dev.stage x.val = 9 :=
  ⟨atF [(F.LINK_Px_CTRL_EN 3, 1), (F.LINK_Px_STAT_STAGE 3, 9)], 3, by decide +kernel⟩

/-- A block with the lanes of port 0 at a stage, and its port at another. -/
def trainDev (l p : Nat) : Dev :=
  setAll { link := { lanes := [(0, { stage := l }), (1, { stage := l }), (2, { stage := l }), (3, { stage := l })] } }
    [(F.LINK_Px_CTRL_EN 0, 1), (F.LINK_Px_STAT_STAGE 0, p)]

theorem wit_stage_lane : ∃ (s : State) (n : Fin 16), s.dev.alive = true ∧ (s.dev.lane n.val).reinit = false ∧
    (s.dev.lane n.val).excluded = false ∧ 1 ≤ s.dev.stage (s.dev.lead (n.val / 4)) ∧ s.dev.stage (s.dev.lead (n.val / 4)) ≤ 7 ∧
    (s.dev.lane n.val).stage = 1 ∧ n.val ∈ s.dev.lanesOf (s.dev.lead (n.val / 4)) ∧
    Tab.get (fun _ => 0) 1 (s.dev.lane n.val).tries < 4 :=
  ⟨ofD (trainDev 1 1), 3, by decide +kernel⟩

theorem wit_stage_port : ∃ (s : State) (n : Fin 16) (x : Fin 4), s.dev.alive = true ∧ (s.dev.lane n.val).reinit = false ∧
    (s.dev.lane n.val).excluded = false ∧ 1 ≤ s.dev.stage (s.dev.lead (n.val / 4)) ∧ s.dev.stage (s.dev.lead (n.val / 4)) ≤ 7 ∧
    s.dev.stage x.val = 5 ∧ s.dev.remaining x.val ≠ [] ∧ (∀ k ∈ s.dev.remaining x.val, (s.dev.lane k).stage = 5) :=
  ⟨ofD (trainDev 5 5), 0, 0, by decide +kernel⟩

theorem wit_eq_freeze : ∃ (s : State) (n : Fin 16) (m : EqMeas) (low : Bool), s.dev.alive = true ∧
    low = decide (256 * m.eye.toNat < s.dev.getF (F.LINK_Ln_EYE_SNAP_EYE n.val) * s.dev.getF F.LINK_EQ_CFG_DIVERGE) ∧
    s.dev.mustFreeze n.val m = true :=
  ⟨atF [(F.LINK_Ln_CTRL_EQ_HOLD 15, 1)], 15, ⟨255, 255, {}⟩, false, by decide +kernel⟩

theorem wit_eq_good : ∃ (s : State) (n : Fin 16) (m : EqMeas) (low : Bool), s.dev.alive = true ∧
    low = decide (256 * m.eye.toNat < s.dev.getF (F.LINK_Ln_EYE_SNAP_EYE n.val) * s.dev.getF F.LINK_EQ_CFG_DIVERGE) ∧
    s.dev.mustFreeze n.val m = false ∧ s.dev.flag (F.LINK_Ln_STAT_EQ_FROZEN n.val) = false ∧
    (s.dev.lane n.val).msFrozen = false ∧ (s.dev.lane n.val).msErrs = 0 ∧ (s.dev.lane n.val).msRoll = false ∧
    s.dev.getF F.LINK_EQ_CFG_EYE_TARGET ≤ m.eye.toNat ∧ low = false ∧ (s.dev.lane n.val).msErrs < 4 :=
  ⟨atF [], 15, ⟨77, 255, {}⟩, false, by decide +kernel⟩

theorem wit_eq_diverged : ∃ (s : State) (n : Fin 16) (m : EqMeas) (low : Bool), s.dev.alive = true ∧
    low = decide (256 * m.eye.toNat < s.dev.getF (F.LINK_Ln_EYE_SNAP_EYE n.val) * s.dev.getF F.LINK_EQ_CFG_DIVERGE) ∧
    s.dev.flag (F.LINK_Ln_STAT_EQ_FROZEN n.val) = false ∧ low = true :=
  ⟨atF [(F.LINK_Ln_EYE_SNAP_EYE 15, 200)], 15, ⟨99, 255, {}⟩, true, by decide +kernel⟩

theorem wit_block_bad : ∃ (s : State) (n : Fin 16) (symbols : List Level), s.dev.alive = true ∧
    (destuffing (s.dev.lane n.val).rxRun symbols).1.length ≠ 264 ∧ s.dev.portUp (s.dev.lead (n.val / 4)) = false :=
  ⟨atF [], 15, [], by decide +kernel⟩

/-- A TRAIN payload with a stage and a check. -/
def trainPl (stage check : Nat) : List Byte :=
  let b : List Byte := [0, 0, 0, 0, BitVec.ofNat 8 stage, 0, 0, 0, 0, 0, 0, 0, 0, 0]
  b ++ beBytes 2 ((crc16 b + check) % 65536) ++ List.replicate 48 0

theorem wit_train_bad : ∃ pl : List Byte, pl.length = 64 ∧ crc16 (pl.take 14) ≠ beAt pl 14 2 :=
  ⟨trainPl 1 1, by decide +kernel⟩

theorem wit_train_good : ∃ (s : State) (n : Fin 16) (pl : List Byte), s.dev.alive = true ∧ pl.length = 64 ∧
    crc16 (pl.take 14) = beAt pl 14 2 ∧ 1 ≤ byteAt pl 4 % 16 ∧ byteAt pl 4 % 16 ≤ 7 ∧
    s.dev.stage (s.dev.lead (n.val / 4)) = 0 ∧ s.dev.getF F.LINK_BOND_BOND = s.dev.link.bond ∧
    s.dev.flag (F.LINK_Px_CTRL_EN (s.dev.lead (n.val / 4))) = true :=
  ⟨atF [(F.LINK_Px_CTRL_EN 3, 1)], 15, trainPl 7 0, by decide +kernel⟩

/-! Register accesses. -/

theorem wit_reg_plain : ∃ (s : State) (a : BitVec 32) (row : RegRow), s.dev.alive = true ∧ a.toNat ∈ plainWords ∧
    regRow a.toNat = some row :=
  ⟨atF [], BitVec.ofNat 32 A.DMA_INT_STAT, (regRow A.DMA_INT_STAT).getD ⟨0, [], 0, 0, 0, 0, 0, 0, 0⟩, by decide +kernel⟩

theorem wit_reg_staged : ∃ (s : State) (a : BitVec 32), s.dev.alive = true ∧ isStagedWord a.toNat = true ∧ inRegs a.toNat = true :=
  ⟨atF [], BitVec.ofNat 32 (A.FESPIk_TX_HI 3), by decide +kernel⟩

theorem wit_reg_timed : ∃ (s : State) (a : BitVec 32), s.dev.alive = true ∧ timedWord a.toNat = true :=
  ⟨atF [], BitVec.ofNat 32 A.COEX_YIELD_US, by decide +kernel⟩

theorem wit_reg_none : ∃ (s : State) (a : BitVec 32), s.dev.alive = true ∧ inRegs a.toNat = true ∧ queueHead a.toNat = false ∧
    timedWord a.toNat = false ∧ regRow a.toNat = none :=
  ⟨atF [], 0x402BFFFC, by decide +kernel⟩

theorem wit_reg_word : ∃ (s : State) (a : BitVec 32) (row : RegRow), s.dev.alive = true ∧ inRegs a.toNat = true ∧
    queueHead a.toNat = false ∧ timedWord a.toNat = false ∧ regRow a.toNat = some row ∧ row.gi ≠ 0 :=
  ⟨atF [], BitVec.ofNat 32 A.TIME_SEC_LO, (regRow A.TIME_SEC_LO).getD ⟨0, [], 0, 0, 0, 0, 0, 0, 0⟩, by decide +kernel⟩

theorem wit_reg_group : ∃ (s : State) (a : BitVec 32) (row : RegRow), s.dev.alive = true ∧ inRegs a.toNat = true ∧
    queueHead a.toNat = false ∧ timedWord a.toNat = false ∧ regRow a.toNat = some row ∧ row.gi = 0 ∧
    (s.dev.obs.lanes = 0 ∨ (a.toNat ≠ A.OBS_TRC_DROP ∧ a.toNat ≠ A.OBS_INT_STAT)) ∧ 1 < row.gl :=
  ⟨atF [], BitVec.ofNat 32 A.TIME_NS, (regRow A.TIME_NS).getD ⟨0, [], 0, 0, 0, 0, 0, 0, 0⟩, by decide +kernel⟩

theorem wit_reg_open : ∃ s : State, s.dev.alive = true ∧ s.dev.lcOpen = true := ⟨atF [], by decide +kernel⟩
theorem wit_reg_closed : ∃ s : State, s.dev.alive = true ∧ s.dev.lcOpen = false :=
  ⟨ofD { fuse := { fieldA := true, fieldB := true } }, by decide +kernel⟩

/-! Mailbox commands. -/

/-- The header of a first command on MB0. -/
def hdr0 : CmdHdr := ⟨0, 0, 0⟩

/-- A block whose runtime firmware serves MB0 and MB1. -/
def served (d : Dev) : Dev :=
  setAll { d with fw := { d.fw with running := true } } [(F.MBOX_m_CTRL_EN 0, 1), (F.MBOX_m_CTRL_EN 1, 1)]

/-- The same as a state, in a module state. -/
def inMod (m : ModState) (d : Dev := {}) : State := { dev := served { d with mod := m } }

/-- The test of `CmdOk` for a first command. -/
def firstOk (s : State) (h : CmdHdr) (op : Nat) (pl : List Byte) : Bool :=
  s.dev.alive && decide (h.mb.val ≠ 3) && s.dev.serves h.mb.val (frameOf op h.tag 0 h.seq.toNat [] pl) &&
    (s.dev.mbx h.mb.val).expSeq.isNone && (s.dev.mbx h.mb.val).lastResp.isNone && s.dev.cmdAllowed h.mb.val op

theorem cmdOk_of_first {s : State} {h : CmdHdr} {op : Nat} {pl : List Byte} (e : firstOk s h op pl = true) :
    CmdOk s h op pl := by
  simp only [firstOk, Bool.and_eq_true, decide_eq_true_eq, Option.isNone_iff_eq_none] at e
  obtain ⟨⟨⟨⟨⟨h1, h2⟩, h3⟩, h4⟩, h5⟩, h6⟩ := e
  exact ⟨h1, h2, h3, .inl h4, fun r => by rw [h5]; simp, h6⟩

theorem wit_obs_read : ∃ (s : State) (a : BitVec 32) (h : CmdHdr) (pl : List Byte) (n : Nat), CmdOk s h 0xB001 pl ∧
    pl.length = 8 ∧ leAt pl 0 4 = a.toNat ∧ leAt pl 4 2 = n ∧ a.toNat % 4 = 0 ∧ 1 ≤ n ∧ n ≤ 256 ∧ inRegs a.toNat = true ∧
    inRegs (a.toNat + 4 * n - 4) = true ∧ s.dev.lc ≠ .returned :=
  ⟨inMod .standby, 0x40000000, hdr0, [0, 0, 0, 0x40, 0, 1, 0, 0], 256, cmdOk_of_first (by decide +kernel), by decide +kernel⟩

/-! Packets, sections and timestamps. -/

/-- A port that is UP. -/
def upDev (x : Nat) (p : PortSt := {}) (fs : List (Fld × Nat) := []) : Dev :=
  setAll { link := { ports := [(x, p)], roles := [(x, 1)] } } ((F.LINK_Px_STAT_STAGE x, 8) :: (F.LINK_Px_CTRL_EN x, 1) :: fs)

theorem wit_packet_bad : ∃ (s : State) (x : Fin 4) (b : List Byte), s.dev.alive = true ∧ s.dev.stage x.val = 8 ∧ b ≠ [] ∧
    (headerGood b && packetGood b) = false := ⟨ofD (upDev 3), 3, [0xC3], by decide +kernel⟩

/-- How far a SEQ lies beyond the one a port expects, modulo 2^24 (R93). -/
def ahead (d : Dev) (x : Nat) (b : List Byte) : Nat := ((parsePkt b).2 + 2 ^ 24 - (d.port x).rxExp) % 2 ^ 24

theorem wit_packet_ahead : ∃ (s : State) (x : Fin 4) (b : List Byte), s.dev.alive = true ∧ s.dev.stage x.val = 8 ∧ b ≠ [] ∧
    (headerGood b && packetGood b) = true ∧ (parsePkt b).1.vc ≠ 7 ∧ 1 ≤ ahead s.dev x.val b ∧ ahead s.dev x.val b < 2 ^ 23 :=
  ⟨ofD (upDev 3), 3, pktBytes { vc := 0, payload := [1, 2, 3, 4] } (2 ^ 23 - 1), by decide +kernel⟩

theorem wit_packet_twice : ∃ (s : State) (x : Fin 4) (b : List Byte), s.dev.alive = true ∧ s.dev.stage x.val = 8 ∧ b ≠ [] ∧
    (headerGood b && packetGood b) = true ∧ (parsePkt b).1.vc ≠ 7 ∧ 2 ^ 23 ≤ ahead s.dev x.val b :=
  ⟨ofD (upDev 3), 3, pktBytes { vc := 0, payload := [1, 2, 3, 4] } (2 ^ 23), by decide +kernel⟩

theorem wit_packet_next : ∃ (s : State) (x : Fin 4) (b : List Byte), s.dev.alive = true ∧ s.dev.stage x.val = 8 ∧ b ≠ [] ∧
    (headerGood b && packetGood b) = true ∧ (parsePkt b).1.vc ≠ 7 ∧ ahead s.dev x.val b = 0 ∧ s.dev.role x.val = 1 ∧
    (parsePkt b).1.vc = 0 ∧ (parsePkt b).1.bcast = false ∧ (parsePkt b).1.mod = s.dev.getF F.FHP_CTRL_POS :=
  ⟨ofD (upDev 3), 3, pktBytes { vc := 0, payload := [1, 2, 3, 4] } 0, by decide +kernel⟩

theorem wit_packet_control : ∃ (s : State) (x : Fin 4) (b : List Byte), s.dev.alive = true ∧ s.dev.stage x.val = 8 ∧ b ≠ [] ∧
    (headerGood b && packetGood b) = true ∧ (parsePkt b).1.vc = 7 ∧ (byteAt (parsePkt b).1.payload 3).testBit 0 = true ∧
    (byteAt (parsePkt b).1.payload 3).testBit 1 = true :=
  ⟨ofD (upDev 3), 3, pktBytes { vc := 7, payload := [0, 0, 0, 3] ++ List.replicate 12 0 } 0, by decide +kernel⟩

theorem wit_replay : ∃ (s : State) (x : Fin 4), s.dev.alive = true ∧ s.dev.stage x.val = 8 ∧ (s.dev.port x.val).replay ≠ [] ∧
    (s.dev.port x.val).timerReplays + 1 < max 1 (s.dev.getF F.FHP_REPLAY_STALL_LIMIT) :=
  ⟨ofD (upDev 3 { replay := [⟨0, { vc := 0 }, 1⟩] }), 3, by decide +kernel⟩

theorem wit_replay_stall : ∃ (s : State) (x : Fin 4), s.dev.alive = true ∧ s.dev.stage x.val = 8 ∧
    (s.dev.port x.val).replay ≠ [] ∧ (s.dev.port x.val).timerReplays + 1 = max 1 (s.dev.getF F.FHP_REPLAY_STALL_LIMIT) ∧
    s.dev.fw.running = false :=
  ⟨ofD (upDev 3 { replay := [⟨0, { vc := 0 }, 1⟩] } [(F.FHP_REPLAY_STALL_LIMIT, 0)]), 3, by decide +kernel⟩

theorem wit_packet_start : ∃ (s : State) (x : Fin 4) (p : Pkt) (q : List Pkt), s.dev.alive = true ∧ s.dev.stage x.val = 8 ∧
    (s.dev.port x.val).replayTodo = [] ∧ (s.dev.port x.val).starts ≠ 63 ∧ p.vc = 2 ∧
    ((s.dev.port x.val).vc 2).txq = p :: q ∧ s.dev.maySend x.val p = true :=
  ⟨ofD (upDev 3 { vcs := [(2, { txq := [{ vc := 2 }], limit := some 1 })] }), 3, { vc := 2 }, [], by decide +kernel⟩

/-- A port with one U packet, of stream 1, mapped to carrier 0. -/
def uDev (i : Ingress) (fs : List (Fld × Nat)) : Dev :=
  upDev 3 { vcs := [(0, { rxq := [i] })] } fs

theorem wit_section_orphan : ∃ (s : State) (x : Fin 4) (i : Ingress) (r : List Ingress), s.dev.alive = true ∧
    s.dev.role x.val = 1 ∧ ((s.dev.port x.val).vc 0).rxq = i :: r ∧ s.dev.strm i.pkt.stream false = none :=
  ⟨ofD (uDev ⟨{ vc := 0 }, {}⟩ []), 3, ⟨{ vc := 0 }, {}⟩, [], by decide +kernel⟩

/-- A downlink section of one PRB, uncompressed. -/
def sectionPkt (symbol : Nat) : Pkt :=
  { vc := 0, stream := 1, payload := beBytes 4 (posWord ⟨0, 0, 0, symbol⟩) ++ beBytes 4 (2 ^ 14) ++ List.replicate 48 0 }

/-- The fields that map stream 1 to carrier 0 in downlink. -/
def mapped : List (Fld × Nat) := [(F.FHP_STRMn_VALID 1, 1), (F.CARk_CFG_EN 0, 1), (F.FHP_CTRL_DL_EN, 1)]

theorem wit_section_window : ∃ (s : State) (x : Fin 4) (i : Ingress) (r : List Ingress) (k layer comp : Nat), s.dev.alive = true ∧
    s.dev.role x.val = 1 ∧ ((s.dev.port x.val).vc 0).rxq = i :: r ∧
    s.dev.strm i.pkt.stream false = some (k, layer, comp) ∧ s.dev.flag F.FHP_CTRL_DL_EN = true ∧
    (secHead i.pkt.payload).comp ≤ 4 ∧ compRank (secHead i.pkt.payload).comp ≤ compRank comp ∧
    s.dev.secFits k (secHead i.pkt.payload) i.pkt.payload.length = true ∧
    s.dev.fhp.lead * (airNs : Int) ≤ s.dev.airTime k false (secHead i.pkt.payload).pos - i.at_.air ∧
    s.dev.airTime k false (secHead i.pkt.payload).pos - i.at_.air ≤ s.dev.fhp.early * (airNs : Int) :=
  ⟨ofD (uDev ⟨sectionPkt 4, {}⟩ mapped), 3, ⟨sectionPkt 4, {}⟩, [], 0, 0, 0, by decide +kernel⟩

theorem wit_section_late : ∃ (s : State) (x : Fin 4) (i : Ingress) (r : List Ingress) (k layer comp : Nat), s.dev.alive = true ∧
    s.dev.role x.val = 1 ∧ ((s.dev.port x.val).vc 0).rxq = i :: r ∧
    s.dev.strm i.pkt.stream false = some (k, layer, comp) ∧ s.dev.flag F.FHP_CTRL_DL_EN = true ∧
    (secHead i.pkt.payload).comp ≤ 4 ∧ compRank (secHead i.pkt.payload).comp ≤ compRank comp ∧
    s.dev.secFits k (secHead i.pkt.payload) i.pkt.payload.length = true ∧
    s.dev.airTime k false (secHead i.pkt.payload).pos - i.at_.air < s.dev.fhp.lead * (airNs : Int) :=
  ⟨ofD (uDev ⟨sectionPkt 0, {}⟩ mapped), 3, ⟨sectionPkt 0, {}⟩, [], 0, 0, 0, by decide +kernel⟩

theorem wit_section_early : ∃ (s : State) (x : Fin 4) (i : Ingress) (r : List Ingress) (k layer comp : Nat), s.dev.alive = true ∧
    s.dev.role x.val = 1 ∧ ((s.dev.port x.val).vc 0).rxq = i :: r ∧
    s.dev.strm i.pkt.stream false = some (k, layer, comp) ∧ s.dev.flag F.FHP_CTRL_DL_EN = true ∧
    (secHead i.pkt.payload).comp ≤ 4 ∧ compRank (secHead i.pkt.payload).comp ≤ compRank comp ∧
    s.dev.secFits k (secHead i.pkt.payload) i.pkt.payload.length = true ∧ s.dev.fhp.lead ≤ s.dev.fhp.early ∧
    s.dev.fhp.early * (airNs : Int) < s.dev.airTime k false (secHead i.pkt.payload).pos - i.at_.air :=
  ⟨ofD (uDev ⟨sectionPkt 13, {}⟩ mapped), 3, ⟨sectionPkt 13, {}⟩, [], 0, 0, 0, by decide +kernel⟩

theorem wit_descriptor_orphan : ∃ (s : State) (x : Fin 4) (i : Ingress) (r : List Ingress), s.dev.alive = true ∧
    ((s.dev.port x.val).vc 1).rxq = i :: r ∧
    s.dev.flag (if (beAt i.pkt.payload 0 4).testBit 8 then F.FHP_CTRL_UL_EN else F.FHP_CTRL_DL_EN) = false :=
  ⟨ofD (upDev 3 { vcs := [(1, { rxq := [⟨{ vc := 1 }, {}⟩] })] }), 3, ⟨{ vc := 1 }, {}⟩, [], by decide +kernel⟩

/-- A descriptor of one symbol and one PRB on carrier 7. -/
def oneDesc : Desc :=
  { carrier := 7, ul := false, pos := ⟨0, 0, 0, 4⟩, numSym := 1, start := 0, nprb := 1, comp := 0, wsrc := 0, kind := 0,
    layers := 1, wsel := 0, sectionId := 5 }

/-- The C message that carries it. -/
def descMsg (e : Desc) : List Byte :=
  beBytes 4 (posWord e.pos + e.numSym * 2 ^ 9 + b2n e.ul * 2 ^ 8 + e.carrier * 2 ^ 5) ++
    beBytes 4 (e.start * 2 ^ 23 + e.nprb * 2 ^ 14 + e.comp * 2 ^ 10 + e.wsrc * 2 ^ 8) ++ beBytes 4 e.layers ++
    beBytes 2 e.wsel ++ [0, 0] ++ beBytes 2 e.sectionId ++ [0, 0]

theorem wit_descriptor : ∃ (s : State) (x : Fin 4) (i : Ingress) (r : List Ingress) (e : Desc) (nprb : Nat), s.dev.alive = true ∧
    ((s.dev.port x.val).vc 1).rxq = i :: r ∧
    s.dev.flag (if e.ul then F.FHP_CTRL_UL_EN else F.FHP_CTRL_DL_EN) = true ∧ s.dev.flag (F.CARk_CFG_EN e.carrier) = true ∧
    posOk (s.dev.getF (F.CARk_CFG_MU e.carrier)) e.pos = true ∧ s.dev.getF (F.CARk_CFG_NPRB e.carrier) = nprb ∧
    i.pkt.payload = beBytes 4 (posWord e.pos + e.numSym * 2 ^ 9 + b2n e.ul * 2 ^ 8 + e.carrier * 2 ^ 5) ++
      beBytes 4 (e.start * 2 ^ 23 + e.nprb * 2 ^ 14 + e.comp * 2 ^ 10 + e.wsrc * 2 ^ 8) ++ beBytes 4 e.layers ++
      beBytes 2 e.wsel ++ [0, 0] ++ beBytes 2 e.sectionId ++ [0, 0] ∧
    e.judged = none ∧ e.kind = 0 ∧ e.carrier < 8 ∧ 1 ≤ e.numSym ∧ e.pos.symbol + e.numSym ≤ 14 ∧ 1 ≤ e.nprb ∧ e.nprb ≤ 273 ∧
    e.start + e.nprb ≤ nprb ∧ nprb ≤ 511 ∧ e.comp < 16 ∧ e.wsrc < 4 ∧ e.layers < 2 ^ 32 ∧ e.wsel < 2 ^ 16 ∧
    e.sectionId < 2 ^ 16 ∧ e.pos.slot < 2 ∧
    s.dev.fhp.lead * (airNs : Int) ≤ s.dev.airTime e.carrier e.ul e.pos - i.at_.air ∧
    s.dev.airTime e.carrier e.ul e.pos - i.at_.air ≤ s.dev.fhp.early * (airNs : Int) :=
  ⟨ofD (upDev 3 { vcs := [(1, { rxq := [⟨{ vc := 1, payload := descMsg oneDesc }, {}⟩] })] }
      [(F.CARk_CFG_EN 7, 1), (F.FHP_CTRL_DL_EN, 1)]), 3, ⟨{ vc := 1, payload := descMsg oneDesc }, {}⟩, [], oneDesc, 273,
    by decide +kernel⟩

theorem wit_uplink_last : ∃ (s : State) (u : UlSection) (k layer comp x : Nat), s.dev.alive = true ∧
    s.dev.strm u.stream.val true = some (k, layer, comp) ∧ s.dev.flag F.FHP_CTRL_UL_EN = true ∧
    s.dev.flag F.FHP_CTRL_LAST = true ∧ s.dev.upstream = some x ∧ s.dev.portUp x = true ∧
    ((s.dev.port x).vc 0).short = false ∧ s.dev.getF F.FHP_CTRL_POS = 0 :=
  ⟨ofD (upDev 3 {} [(F.FHP_STRMn_VALID 1, 1), (F.FHP_STRMn_DIR 1, 1), (F.CARk_CFG_EN 0, 1), (F.FHP_CTRL_UL_EN, 1),
      (F.FHP_CTRL_LAST, 1)]), ⟨1, ⟨0, 0, 0, 4⟩, 0, 1, List.replicate 24 0⟩, 0, 0, 0, 3, by decide +kernel⟩

theorem wit_uplink_waits : ∃ (s : State) (u : UlSection) (k layer comp y n : Nat) (w : UlSec), s.dev.alive = true ∧
    s.dev.strm u.stream.val true = some (k, layer, comp) ∧ s.dev.flag F.FHP_CTRL_UL_EN = true ∧
    s.dev.flag F.FHP_CTRL_LAST = false ∧ s.dev.downstream = some y ∧ s.dev.portUp y = true ∧ s.dev.fhp.psums = [] ∧
    s.dev.fhp.ulWait[n]? = some w ∧ s.dev.waitsPsum = true :=
  ⟨ofD (setAll { link := { roles := [(2, 2)] }, fhp := { ulWait := [⟨1, ⟨0, 0, 0, 4⟩, 0, 1, 0, 1, []⟩] } }
      [(F.LINK_Px_STAT_STAGE 2, 8), (F.LINK_Px_CTRL_EN 2, 1), (F.FHP_STRMn_VALID 1, 1), (F.FHP_STRMn_DIR 1, 1), (F.CARk_CFG_EN 0, 1), (F.FHP_CTRL_UL_EN, 1),
        (F.FHP_CTRL_LAST, 0)]),
    ⟨1, ⟨0, 0, 0, 4⟩, 0, 1, List.replicate 24 0⟩, 0, 0, 0, 2, 0, ⟨1, ⟨0, 0, 0, 4⟩, 0, 1, 0, 1, []⟩, by decide +kernel⟩

theorem wit_uplink_drop : ∃ (s : State) (x : Fin 4) (p : Pkt), s.dev.alive = true ∧ s.dev.role x.val = 1 ∧
    ((s.dev.port x.val).vc 0).txq.find? (fun p => p.mod == s.dev.getF F.FHP_CTRL_POS) = some p ∧ s.dev.maySend x.val p = false :=
  ⟨ofD (upDev 3 { vcs := [(0, { txq := [{ vc := 0 }] })] }), 3, { vc := 0 }, by decide +kernel⟩

theorem wit_timing_event : ∃ (s : State) (msg : List Byte), s.dev.alive = true ∧ isEvent msg = true ∧ s.dev.fhp.ts.length < 64 ∧
    s.dev.time.now.toFrac + 2 ^ 32 < 2 ^ 96 * 1000000000 := ⟨atF [], [3], by decide +kernel⟩

theorem wit_timing_full : ∃ (s : State) (msg : List Byte) (e : TsEntry) (l : List TsEntry), s.dev.alive = true ∧
    isEvent msg = true ∧ 64 ≤ s.dev.fhp.ts.length ∧ s.dev.fhp.ts = e :: l :=
  ⟨ofD { fhp := { ts := List.replicate 64 ⟨false, true, 0, 0, 0, 0, 0, 0⟩ } }, [0], ⟨false, true, 0, 0, 0, 0, 0, 0⟩,
    List.replicate 63 ⟨false, true, 0, 0, 0, 0, 0, 0⟩, by decide +kernel⟩

theorem wit_timing_general : ∃ msg : List Byte, isEvent msg = false := ⟨[4], by decide⟩

/-! Weight sets and the beam commands. -/

theorem wit_set_on : ∃ s : State, s.dev.alive = true ∧ s.dev.beamOn = true := ⟨atF [(F.BEAM_CTRL_DL_EN, 1)], by decide +kernel⟩

theorem wit_set_free : ∃ (s : State) (w : Fin 64), s.dev.alive = true ∧ s.dev.beamOn = false ∧
    s.dev.flag (F.BEAM_WSn_CFG_USED w.val) = false ∧ s.dev.getF (F.BEAM_WSn_STAT_STATE w.val) ≠ 1 ∧
    s.dev.getF (F.BEAM_WSn_STAT_STATE w.val) ≠ 3 := ⟨atF [], 63, by decide +kernel⟩

/-- Set 63 used, its shadow in a state. -/
def setIn (st : Nat) (more : List (Fld × Nat) := []) : List (Fld × Nat) :=
  [(F.BEAM_WSn_CFG_USED 63, 1), (F.BEAM_WSn_STAT_STATE 63, st)] ++ more

theorem wit_set_open : ∃ (s : State) (w : Fin 64), s.dev.alive = true ∧ s.dev.beamOn = false ∧
    s.dev.flag (F.BEAM_WSn_CFG_USED w.val) = true ∧ s.dev.getF (F.BEAM_WSn_STAT_STATE w.val) = 1 ∧
    s.dev.flag (F.BEAM_WSn_TARGET_NEXT w.val) = false ∧ s.dev.nowAir ≤ s.dev.cutoff w.val (s.dev.wsTarget w.val) :=
  ⟨atF (setIn 1 [(F.BEAM_WSn_TARGET_SFN 63, 1)]), 63, by decide +kernel⟩

theorem wit_set_late : ∃ (s : State) (w : Fin 64), s.dev.alive = true ∧ s.dev.getF (F.BEAM_WSn_STAT_STATE w.val) = 1 ∧
    s.dev.flag (F.BEAM_WSn_TARGET_NEXT w.val) = false ∧ s.dev.cutoff w.val (s.dev.wsTarget w.val) < s.dev.nowAir :=
  ⟨atF (setIn 1), 63, by decide +kernel⟩

theorem wit_set_committed : ∃ (s : State) (w : Fin 64), s.dev.alive = true ∧ s.dev.getF (F.BEAM_WSn_STAT_STATE w.val) = 3 ∧
    (∀ c ∈ s.dev.beam.commits, c.set ≠ w.val) ∧ (∀ j ∈ s.dev.beam.jobs, w.val ∉ j.sets) :=
  ⟨atF (setIn 3), 63, by decide +kernel⟩

theorem wit_set_held : ∃ (s : State) (w : Fin 64), s.dev.alive = true ∧ s.dev.getF (F.BEAM_WSn_STAT_STATE w.val) = 2 ∧
    s.dev.beam.commits = [] := ⟨atF (setIn 2), 63, by decide +kernel⟩

/-- A weight write of one entry of set 63. -/
def wwPkt : Pkt := { vc := 4, kind := 2, payload := [63, 0, 0, 0, 0, 0, 0, 0, 1, 2, 3, 4] }

theorem wit_weight_write : ∃ (s : State) (x : Fin 4) (i : Ingress) (c : Instr), s.dev.alive = true ∧
    (c = .weightWrite x ∨ (c = .weightWriteRelease x ∧ s.dev.beam.held.testBit x.val = true)) ∧
    ((s.dev.port x.val).vc 4).rxq = [i] ∧ i.pkt.kind = 2 ∧ byteAt i.pkt.payload 0 < 64 ∧ 8 < i.pkt.payload.length ∧
    i.pkt.payload.length ≤ 16360 ∧ i.pkt.payload.length % 4 = 0 ∧ s.dev.wsUsed (byteAt i.pkt.payload 0) = true ∧
    s.dev.flag (F.BEAM_WSn_CFG_SRC (byteAt i.pkt.payload 0)) = false ∧ s.dev.beam.commits = [] ∧
    s.dev.getF (F.BEAM_WSn_STAT_STATE (byteAt i.pkt.payload 0)) = 1 ∧
    leAt i.pkt.payload 2 3 + (i.pkt.payload.length - 8) / 4 ≤ s.dev.wsEntries (s.dev.wset (byteAt i.pkt.payload 0)) :=
  ⟨ofD (upDev 3 { vcs := [(4, { rxq := [⟨wwPkt, {}⟩] })] } (setIn 1)), 3, ⟨wwPkt, {}⟩, .weightWrite 3, by decide +kernel⟩

theorem wit_weight_held : ∃ (s : State) (x : Fin 4) (i : Ingress) (c : Instr), s.dev.alive = true ∧
    (c = .weightWrite x ∨ (c = .weightWriteRelease x ∧ s.dev.beam.held.testBit x.val = true)) ∧
    ((s.dev.port x.val).vc 4).rxq = [i] ∧ i.pkt.kind = 2 ∧ byteAt i.pkt.payload 0 < 64 ∧ 8 < i.pkt.payload.length ∧
    i.pkt.payload.length ≤ 16360 ∧ i.pkt.payload.length % 4 = 0 ∧
    s.dev.flag (F.BEAM_WSn_CFG_SRC (byteAt i.pkt.payload 0)) = false ∧
    s.dev.getF (F.BEAM_WSn_STAT_STATE (byteAt i.pkt.payload 0)) ≠ 1 :=
  ⟨ofD { upDev 3 { vcs := [(4, { rxq := [⟨wwPkt, {}⟩] })] } (setIn 3) with beam := { held := 8 } }, 3, ⟨wwPkt, {}⟩,
    .weightWriteRelease 3, by decide +kernel⟩

theorem wit_srs : ∃ (s : State) (e : Desc) (est : SrsEstimate), s.dev.alive = true ∧ s.dev.flag F.BEAM_CTRL_SRS_EN = true ∧
    s.dev.fhp.descs.find? (fun e => e.kind == 1 && e.wsel == est.ctx.val) = some e :=
  ⟨ofD (setAll { fhp := { descs := [{ oneDesc with kind := 1, wsel := 511 }] } } [(F.BEAM_CTRL_SRS_EN, 1)]),
    { oneDesc with kind := 1, wsel := 511 }, ⟨511, [], []⟩, by decide +kernel⟩

/-- A weight job of set 63. -/
def job63 (running : Bool) : WJob :=
  { op := ⟨0, 0, 0, 0x3041, [5]⟩, grp := 5, carriers := [0], dl := true, ul := false, target := ⟨1, 0, 0, 0⟩, sets := [63],
    running := running }

theorem wit_job_start : ∃ (s : State) (n : Nat) (j : WJob) (g : GroupSt), s.dev.alive = true ∧ s.dev.beam.jobs[n]? = some j ∧
    j.running = false ∧ Tab.get (fun _ => none) j.grp s.dev.beam.groups = some g :=
  ⟨ofD { beam := { jobs := [job63 false], groups := [(5, some ⟨0, 0, [(1, 0)]⟩)] } }, 0, job63 false, ⟨0, 0, [(1, 0)]⟩,
    by decide +kernel⟩

theorem wit_job_done : ∃ (s : State) (n : Nat) (j : WJob) (w : Nat), s.dev.alive = true ∧ s.dev.beam.jobs[n]? = some j ∧
    j.running = true ∧ j.sets = [w] ∧ s.dev.beam.commits = [] ∧ w < 64 ∧ j.grp < 256 ∧ j.target.symbol = 0 ∧
    j.target.sfn < 1024 ∧ j.target.subframe < 10 ∧ j.target.slot < 2 ∧ s.dev.getF (F.BEAM_WSn_STAT_STATE w) = 1 ∧
    s.dev.nowAir ≤ s.dev.cutoff w j.target :=
  ⟨ofD (setAll { beam := { jobs := [job63 true] } } (setIn 1)), 0, job63 true, 63, by decide +kernel⟩

theorem wit_wmemCfg : ∃ (s : State) (h : CmdHdr) (pl : List Byte), CmdOk s h 0x3001 pl ∧ pl.length = 4 ∧ leAt pl 0 2 ≤ 4096 ∧
    s.dev.wmemFits s.dev.wsets (leAt pl 0 2) = true :=
  ⟨inMod .standby, hdr0, [0, 16, 0, 0], cmdOk_of_first (by decide +kernel), by decide +kernel⟩

theorem wit_cluMap : ∃ (s : State) (h : CmdHdr) (pl : List Byte), CmdOk s h 0x3002 pl ∧ pl.length = 4 ∧
    s.dev.loadFits s.dev.wsets (s.dev.applyClusters (leAt pl 0 2)) = true :=
  ⟨inMod .standby, hdr0, [15, 0, 0, 0], cmdOk_of_first (by decide +kernel), by decide +kernel⟩

theorem wit_wsetCfg : ∃ (s : State) (h : CmdHdr) (pl : List Byte) (w : WSet), CmdOk s h 0x3010 pl ∧ w.n < 64 ∧ w.carrier < 8 ∧
    w.g ∈ [1, 2, 4, 8, 16] ∧ 1 ≤ w.layers ∧ w.layers ≤ 32 ∧ w.scale < 8 ∧
    pl = [BitVec.ofNat 8 w.n, BitVec.ofNat 8 w.carrier, BitVec.ofNat 8 (b2n w.ul), BitVec.ofNat 8 w.g,
      BitVec.ofNat 8 w.layers, BitVec.ofNat 8 (b2n w.computed), BitVec.ofNat 8 w.scale, 1] ∧
    s.dev.beamOn = false ∧ s.dev.wsUsed w.n = false ∧
    (w.computed = true → ∀ v ∈ s.dev.wsets, v.computed = true → v.carrier = w.carrier → v.ul ≠ w.ul) ∧
    s.dev.setsCheck (s.dev.wsets ++ [w]) [w.n] = none :=
  ⟨inMod .standby, hdr0, [63, 7, 0, 16, 4, 1, 7, 1], ⟨63, 7, false, 16, 4, true, 7⟩, cmdOk_of_first (by decide +kernel),
    by decide +kernel⟩

theorem wit_wsetFree : ∃ (s : State) (h : CmdHdr) (pl : List Byte), CmdOk s h 0x3011 pl ∧ pl.length = 4 ∧
    s.dev.wsUsed (byteAt pl 0) = true :=
  ⟨inMod .standby (setAll {} (setIn 1)), hdr0, [63, 0, 0, 0], cmdOk_of_first (by decide +kernel), by decide +kernel⟩

theorem wit_wsetWrite : ∃ (s : State) (h : CmdHdr) (pl : List Byte), CmdOk s h 0x3013 pl ∧ 12 ≤ pl.length ∧ pl.length ≤ 4096 ∧
    pl.length % 4 = 0 ∧ s.dev.wsUsed (byteAt pl 0) = true ∧
    leAt pl 2 3 + (pl.length - 8) / 4 ≤ s.dev.wsEntries (s.dev.wset (byteAt pl 0)) ∧
    s.dev.flag (F.BEAM_WSn_CFG_SRC (byteAt pl 0)) = false ∧ s.dev.getF (F.BEAM_WSn_STAT_STATE (byteAt pl 0)) = 1 ∧
    s.dev.beam.commits = [] :=
  ⟨inMod .ready (setAll {} (setIn 1)), hdr0, [63, 0, 0, 0, 0, 0, 0, 0, 1, 2, 3, 4], cmdOk_of_first (by decide +kernel),
    by decide +kernel⟩

theorem wit_fallbackSet : ∃ (s : State) (h : CmdHdr) (pl : List Byte), CmdOk s h 0x3020 pl ∧ byteAt pl 0 ≤ 7 ∧ byteAt pl 1 ≤ 1 ∧
    1 ≤ byteAt pl 3 ∧ byteAt pl 3 ≤ 15 ∧ byteAt pl 2 + byteAt pl 3 ≤ 32 ∧ pl.length = 4 + 256 * byteAt pl 3 ∧
    s.dev.beamOn = false ∧ s.dev.beam.commits = [] :=
  ⟨inMod .standby, hdr0, [7, 1, 31, 1] ++ List.replicate 256 0, cmdOk_of_first (by decide +kernel), by decide +kernel⟩

theorem wit_beamSet : ∃ (s : State) (h : CmdHdr) (pl : List Byte), CmdOk s h 0x3021 pl ∧ 1 ≤ leAt pl 2 2 ∧ leAt pl 2 2 ≤ 15 ∧
    leAt pl 0 2 + leAt pl 2 2 ≤ s.dev.nbeam ∧ pl.length = 8 + 256 * leAt pl 2 2 ∧ s.dev.beamOn = false ∧
    s.dev.beam.commits = [] :=
  ⟨inMod .standby (setAll {} [(F.BEAM_NBEAM_NBEAM, 1)]), hdr0, [0, 0, 1, 0, 0, 0, 0, 0] ++ List.replicate 256 0,
    cmdOk_of_first (by decide +kernel), by decide +kernel⟩

theorem wit_wsetCommit : ∃ (s : State) (h : CmdHdr) (pl : List Byte), CmdOk s h 0x3012 pl ∧ pl.length = 12 ∧
    s.dev.wsUsed (byteAt pl 0) = true ∧ (byteAt pl 1).testBit 0 = true ∧ s.dev.getF (F.BEAM_WSn_STAT_STATE (byteAt pl 0)) = 1 ∧
    s.dev.beam.commits = [] ∧ (s.dev.reg (A.BEAM_WSn_WCNT (byteAt pl 0))).toNat < leAt pl 8 4 ∧
    s.dev.nowAir ≤ s.dev.cutoff (byteAt pl 0) (s.dev.nextTarget (byteAt pl 0)) :=
  ⟨inMod .ready (setAll {} (setIn 1)), hdr0, [63, 1, 0, 0, 0, 0, 0, 0, 4, 0, 0, 0], cmdOk_of_first (by decide +kernel),
    by decide +kernel⟩

theorem wit_wsetStat : ∃ (s : State) (h : CmdHdr) (pl : List Byte), CmdOk s h 0x3014 pl ∧ pl.length = 4 ∧ byteAt pl 0 < 64 :=
  ⟨inMod .standby, hdr0, [63, 0, 0, 0], cmdOk_of_first (by decide +kernel), by decide +kernel⟩

theorem wit_ctxCfg : ∃ (s : State) (h : CmdHdr) (pl : List Byte), CmdOk s h 0x3030 pl ∧ pl.length = 8 ∧ 1 ≤ leAt pl 0 2 ∧
    leAt pl 0 2 ≤ 512 ∧ byteAt pl 2 ∈ [1, 2] ∧ byteAt pl 3 ∈ [4, 8, 16] ∧ 1 ≤ leAt pl 4 2 ∧ leAt pl 4 2 ≤ 1023 ∧
    s.dev.storeFits (leAt pl 0 2) (byteAt pl 2) (byteAt pl 3) (leAt pl 4 2) (s.dev.regionSize 1) = true :=
  ⟨inMod .standby, hdr0, [0, 1, 1, 16, 69, 0, 0, 0], cmdOk_of_first (by decide +kernel), by decide +kernel⟩

theorem wit_userCfg : ∃ (s : State) (h : CmdHdr) (pl : List Byte), CmdOk s h 0x3031 pl ∧ pl.length = 8 ∧
    leAt pl 0 2 < s.dev.nUser ∧ ucOk (leAt pl 4 4) = true ∧ ((leAt pl 4 4).testBit 30 = true → s.dev.ctxPorts = 2) :=
  ⟨inMod .ready (setAll {} [(⟨A.BEAM_CTX_CFG, 0, 10⟩, 64)]), hdr0, [63, 0, 0, 0, 0, 0, 0, 0], cmdOk_of_first (by decide +kernel),
    by decide +kernel⟩

theorem wit_userRead : ∃ (s : State) (h : CmdHdr) (pl : List Byte), CmdOk s h 0x3032 pl ∧ pl.length = 8 ∧
    leAt pl 0 2 < s.dev.nUser ∧ byteAt pl 2 < s.dev.ctxPorts ∧ 1 ≤ leAt pl 6 2 ∧ leAt pl 6 2 ≤ 15 ∧
    leAt pl 4 2 + leAt pl 6 2 ≤ s.dev.ctxNsb :=
  ⟨inMod .ready (setAll {} [(⟨A.BEAM_CTX_CFG, 0, 10⟩, 64), (⟨A.BEAM_CTX_CFG, 10, 10⟩, 69)]), hdr0,
    [63, 0, 0, 0, 54, 0, 15, 0], cmdOk_of_first (by decide +kernel), by decide +kernel⟩

theorem wit_groupCfg : ∃ (s : State) (h : CmdHdr) (pl : List Byte), CmdOk s h 0x3040 pl ∧ 1 ≤ byteAt pl 1 ∧ byteAt pl 1 ≤ 32 ∧
    pl.length = 4 + 2 * byteAt pl 1 ∧ s.dev.beam.jobs = [] ∧
    (∀ l ∈ groupLayers pl, l.1 < s.dev.nUser ∧ l.2 < s.dev.ctxPorts) :=
  ⟨inMod .ready (setAll {} [(⟨A.BEAM_CTX_CFG, 0, 10⟩, 64)]), hdr0, [5, 1, 0, 20, 63, 0], cmdOk_of_first (by decide +kernel),
    by decide +kernel⟩

theorem wit_groupCalc : ∃ (s : State) (h : CmdHdr) (pl : List Byte) (k n : Nat), CmdOk s h 0x3041 pl ∧ pl.length = 8 ∧
    (Tab.get (fun _ => none) (byteAt pl 0) s.dev.beam.groups).isSome = true ∧ bitsOf 8 (byteAt pl 1) = [k] ∧ byteAt pl 2 = 1 ∧
    s.dev.computedSet k false = some n ∧ posOk (s.dev.getF (F.CARk_CFG_MU k)) (slotAt pl 4) = true ∧ s.dev.beam.jobs = [] ∧
    s.dev.beam.commits = [] ∧ s.dev.getF (F.BEAM_WSn_STAT_STATE n) = 1 ∧
    s.dev.jobsFit [(s.dev.jobGroups [k] true false, s.dev.groupL (byteAt pl 0))] = true :=
  ⟨inMod .ready (setAll { beam := { groups := [(5, some ⟨0, 20, [(1, 0)]⟩)] } }
      (setIn 1 [(F.BEAM_WSn_CFG_SRC 63, 1), (F.BEAM_WSn_CFG_CARRIER 63, 7), (F.CARk_CFG_EN 7, 1)])), hdr0,
    [5, 128, 1, 0, 0, 0, 0, 0], 7, 63, cmdOk_of_first (by decide +kernel), by decide +kernel⟩

theorem wit_beamStat : ∃ (s : State) (h : CmdHdr) (pl : List Byte), CmdOk s h 0x3050 pl ∧ pl = [] :=
  ⟨inMod .standby, hdr0, [], cmdOk_of_first (by decide +kernel), rfl⟩

/-! Clusters. -/

/-- The test of `Issues`. -/
theorem issues_of {s : State} {c : Nat} {b : BitVec 256} (e : s.dev.alive = true ∧ s.dev.cluState c = 3 ∧
    (s.dev.clus c).ending = 0 ∧ s.dev.cluBun c = b ∧ (s.dev.clus c).bundleFault (s.dev.cluPc c) = none ∧
    (s.dev.clus c).waits b = 0 ∧ (s.dev.clus c).loops = [] ∧ s.dev.cluPc c < 2047) : Issues s c b :=
  ⟨e.1, e.2.1, e.2.2.1, e.2.2.2.1, e.2.2.2.2.1, e.2.2.2.2.2.1, e.2.2.2.2.2.2.1, e.2.2.2.2.2.2.2⟩

/-- Cluster 15 in RUN at bundle 0 of two, the second empty; S1 holds the Hamper's start, and each queue an entry. -/
def cluAt (b : BitVec 256) : State :=
  ofD (setAll { clu := [(15, { store := [b, 0], s := [(1, 0x10000000)], wq := [5], inq := [7] })] } [(F.CLU_STAT_STATE 15, 3)])

/-- A bundle of one slot: V, A0, A1 or S. -/
def bunOf (slot w : Nat) : BitVec 256 := BitVec.ofNat 256 (w * 2 ^ (64 * slot))

/-- Whether a bundle of one slot issues at `cluAt`. -/
theorem wit_scalar : ∀ w ∈ [0, 1, 2, 3, 4, 5, 6, 7, 8, 9, 10, 11, 0x10, 0x11, 0x12, 0x13, 0x18, 0x19, 0x1B, 0x1D, 0x1E, 0x1F, 0x20,
      0x3E].map (· * 2 ^ 58) ++ [0x13 * 2 ^ 58 + 2 ^ 48 + 1, 0x1A * 2 ^ 58 + 2 ^ 48 + 32 * 2 ^ 8, 0x1C * 2 ^ 58 + 2 ^ 48 + 8192],
    Issues (cluAt (bunOf 3 w)) 15 (bunOf 3 w) ∧ bunV (bunOf 3 w) = 0 ∧ bunA0 (bunOf 3 w) = 0 ∧ bunA1 (bunOf 3 w) = 0 ∧
      bunS (bunOf 3 w) = w := by
  have e : ∀ w ∈ [0, 1, 2, 3, 4, 5, 6, 7, 8, 9, 10, 11, 0x10, 0x11, 0x12, 0x13, 0x18, 0x19, 0x1B, 0x1D, 0x1E, 0x1F, 0x20,
      0x3E].map (· * 2 ^ 58) ++ [0x13 * 2 ^ 58 + 2 ^ 48 + 1, 0x1A * 2 ^ 58 + 2 ^ 48 + 32 * 2 ^ 8, 0x1C * 2 ^ 58 + 2 ^ 48 + 8192],
      let s := cluAt (bunOf 3 w)
      (s.dev.alive = true ∧ s.dev.cluState 15 = 3 ∧ (s.dev.clus 15).ending = 0 ∧ s.dev.cluBun 15 = bunOf 3 w ∧
        (s.dev.clus 15).bundleFault (s.dev.cluPc 15) = none ∧ (s.dev.clus 15).waits (bunOf 3 w) = 0 ∧
        (s.dev.clus 15).loops = [] ∧ s.dev.cluPc 15 < 2047) ∧
      bunV (bunOf 3 w) = 0 ∧ bunA0 (bunOf 3 w) = 0 ∧ bunA1 (bunOf 3 w) = 0 ∧ bunS (bunOf 3 w) = w := by decide +kernel
  exact fun w h => ⟨issues_of (e w h).1, (e w h).2⟩

theorem wit_vector : ∀ w ∈ [0, 1 * 2 ^ 58 + 0x4000 * 2 ^ 32, 2 * 2 ^ 58, 2 * 2 ^ 58 + 17 * 2 ^ 15, 3 * 2 ^ 58 + 3 * 2 ^ 35, 4 * 2 ^ 58, 5 * 2 ^ 58,
      6 * 2 ^ 58, 7 * 2 ^ 58, 8 * 2 ^ 58, 9 * 2 ^ 58 + 2 ^ 46, 10 * 2 ^ 58, 10 * 2 ^ 58 + 2 ^ 51, 11 * 2 ^ 58],
    Issues (cluAt (bunOf 0 w)) 15 (bunOf 0 w) ∧ bunV (bunOf 0 w) = w ∧ bunA0 (bunOf 0 w) = 0 ∧ bunA1 (bunOf 0 w) = 0 ∧
      bunS (bunOf 0 w) = 0 := by
  have e : ∀ w ∈ [0, 1 * 2 ^ 58 + 0x4000 * 2 ^ 32, 2 * 2 ^ 58, 2 * 2 ^ 58 + 17 * 2 ^ 15, 3 * 2 ^ 58 + 3 * 2 ^ 35, 4 * 2 ^ 58, 5 * 2 ^ 58,
      6 * 2 ^ 58, 7 * 2 ^ 58, 8 * 2 ^ 58, 9 * 2 ^ 58 + 2 ^ 46, 10 * 2 ^ 58, 10 * 2 ^ 58 + 2 ^ 51, 11 * 2 ^ 58],
      let s := cluAt (bunOf 0 w)
      (s.dev.alive = true ∧ s.dev.cluState 15 = 3 ∧ (s.dev.clus 15).ending = 0 ∧ s.dev.cluBun 15 = bunOf 0 w ∧
        (s.dev.clus 15).bundleFault (s.dev.cluPc 15) = none ∧ (s.dev.clus 15).waits (bunOf 0 w) = 0 ∧
        (s.dev.clus 15).loops = [] ∧ s.dev.cluPc 15 < 2047) ∧
      bunV (bunOf 0 w) = w ∧ bunA0 (bunOf 0 w) = 0 ∧ bunA1 (bunOf 0 w) = 0 ∧ bunS (bunOf 0 w) = 0 := by decide +kernel
  exact fun w h => ⟨issues_of (e w h).1, (e w h).2⟩

theorem wit_address : ∀ w ∈ [0, 2 ^ 60 + 15 * 2 ^ 51 + 2 ^ 48, 2 ^ 60 + 16 * 2 ^ 51, 3 * 2 ^ 60, 4 * 2 ^ 60, 5 * 2 ^ 60, 6 * 2 ^ 60],
    Issues (cluAt (bunOf 1 w)) 15 (bunOf 1 w) ∧ bunV (bunOf 1 w) = 0 ∧ bunS (bunOf 1 w) = 0 ∧ bunA0 (bunOf 1 w) = w ∧
      bunA1 (bunOf 1 w) = 0 := by
  have e : ∀ w ∈ [0, 2 ^ 60 + 15 * 2 ^ 51 + 2 ^ 48, 2 ^ 60 + 16 * 2 ^ 51, 3 * 2 ^ 60, 4 * 2 ^ 60, 5 * 2 ^ 60, 6 * 2 ^ 60],
      let s := cluAt (bunOf 1 w)
      (s.dev.alive = true ∧ s.dev.cluState 15 = 3 ∧ (s.dev.clus 15).ending = 0 ∧ s.dev.cluBun 15 = bunOf 1 w ∧
        (s.dev.clus 15).bundleFault (s.dev.cluPc 15) = none ∧ (s.dev.clus 15).waits (bunOf 1 w) = 0 ∧
        (s.dev.clus 15).loops = [] ∧ s.dev.cluPc 15 < 2047) ∧
      bunV (bunOf 1 w) = 0 ∧ bunS (bunOf 1 w) = 0 ∧ bunA0 (bunOf 1 w) = w ∧ bunA1 (bunOf 1 w) = 0 := by decide +kernel
  exact fun w h => ⟨issues_of (e w h).1, (e w h).2⟩

theorem wit_store : ∀ w ∈ [2 * 2 ^ 60 + 23 * 2 ^ 51 + 2 ^ 48, 2 * 2 ^ 60],
    Issues (cluAt (bunOf 2 w)) 15 (bunOf 2 w) ∧ bunV (bunOf 2 w) = 0 ∧ bunS (bunOf 2 w) = 0 ∧ bunA0 (bunOf 2 w) = 0 ∧
      bunA1 (bunOf 2 w) = w ∧ aop w = 2 ∧ aReg w < 24 := by
  have e : ∀ w ∈ [2 * 2 ^ 60 + 23 * 2 ^ 51 + 2 ^ 48, 2 * 2 ^ 60],
      let s := cluAt (bunOf 2 w)
      (s.dev.alive = true ∧ s.dev.cluState 15 = 3 ∧ (s.dev.clus 15).ending = 0 ∧ s.dev.cluBun 15 = bunOf 2 w ∧
        (s.dev.clus 15).bundleFault (s.dev.cluPc 15) = none ∧ (s.dev.clus 15).waits (bunOf 2 w) = 0 ∧
        (s.dev.clus 15).loops = [] ∧ s.dev.cluPc 15 < 2047) ∧
      bunV (bunOf 2 w) = 0 ∧ bunS (bunOf 2 w) = 0 ∧ bunA0 (bunOf 2 w) = 0 ∧ bunA1 (bunOf 2 w) = w ∧ aop w = 2 ∧ aReg w < 24 := by
    decide +kernel
  exact fun w h => ⟨issues_of (e w h).1, (e w h).2⟩

theorem wit_fault : ∃ (s : State) (c : Fin 16) (p : CluSt), s.dev.alive = true ∧ s.dev.cluState c.val = 3 ∧ s.dev.clus c.val = p ∧
    p.ending = 0 ∧ p.busy = false ∧ bunLegal (s.dev.cluBun c.val) = true ∧ bunConflict (s.dev.cluBun c.val) = false ∧
    sop (bunS (s.dev.cluBun c.val)) = 0x3F ∧ p.agOut (bunA0 (s.dev.cluBun c.val)) = false ∧
    p.agOut (bunA1 (s.dev.cluBun c.val)) = false :=
  ⟨cluAt (bunOf 3 (0x3F * 2 ^ 58 + 255)), 15, _, by decide +kernel, by decide +kernel, rfl, by decide +kernel⟩

theorem wit_reciprocal : ∃ (d : Dev) (x : Int) (w : W32) (o : Bool) (e : Dev), 0 < x ∧ x < 32768 ∧ d.recipElem true x = (w, o, e) :=
  ⟨{}, 32767, _, _, _, by decide, by decide, rfl⟩

/-- Cluster 15 in a state. -/
def cluIn (st : Nat) (p : CluSt) (fs : List (Fld × Nat) := []) : State :=
  ofD (setAll { clu := [(15, p)] } ((F.CLU_STAT_STATE 15, st) :: fs))

theorem wit_cluster_states : ∀ st ∈ [0, 2, 3, 4], (cluIn st {}).dev.alive = true ∧ (cluIn st {}).dev.cluState 15 = st ∧
    ((cluIn st {}).dev.flag (F.CLU_CTRL_LOCK 15) && (cluIn st {}).dev.beamOn) = false ∧ ((cluIn st {}).dev.clus 15).ending = 0 ∧
    ((cluIn st {}).dev.clus 15).busy = false := by decide +kernel

theorem wit_cluster_held : ∃ (s : State) (c : Fin 16), s.dev.alive = true ∧
    (s.dev.flag (F.CLU_CTRL_LOCK c.val) && s.dev.beamOn) = true :=
  ⟨atF [(F.CLU_CTRL_LOCK 15, 1), (F.BEAM_CTRL_UL_EN, 1)], 15, by decide +kernel⟩

theorem wit_cluster_stopping : ∃ (s : State) (c : Fin 16) (p : CluSt), s.dev.alive = true ∧ s.dev.clus c.val = p ∧ p.ending = 1 ∧
    p.busy = false := ⟨cluIn 3 { ending := 1 }, 15, _, by decide +kernel, rfl, by decide +kernel⟩

/-- A kernel image of one empty bundle, with its header. -/
def kernImg : List Byte :=
  [0x4E, 0x52, 0x45, 0x4B, 1, 0, 0, 0, 9, 0, 0, 0, 0, 0, 0, 0, 1, 0, 0, 0, 0, 0, 0, 0] ++ List.replicate 40 0

/-- Its SHA-384. -/
def kernHash : List Byte :=
  [0xED, 0x14, 0xD5, 0x89, 0xE0, 0x55, 0x97, 0x66, 0x94, 0xFA, 0xB1, 0xB1, 0x57, 0x90, 0xB2, 0xCA, 0xD5, 0x5B, 0x11, 0xAB, 0xF3,
    0x8A, 0x19, 0x6A, 0x4B, 0x67, 0xE8, 0x98, 0x97, 0x10, 0x47, 0x7B, 0xF4, 0xD0, 0xD4, 0xEF, 0x2C, 0x34, 0xE6, 0x3A, 0xF6, 0x16,
    0xF3, 0x83, 0x3D, 0xF6, 0x08, 0x78]

/-- Registers written from an address on. -/
def putRegs (d : Dev) (a : Nat) (bs : List Byte) : Dev :=
  (List.range (bs.length / 4)).foldl (fun d i => d.setReg (a + 4 * i) (BitVec.ofNat 32 (leAt bs (4 * i) 4))) d

/-- Cluster 15 loading that image, which the kernel table holds. -/
def loadingState : State :=
  { mem := memWrites [] [(0x10000000, kernImg)],
    dev := putRegs (cluIn 1 {} [(F.LCS_KE_INFO_VALID 31, 1), (F.CLU_LOAD_ADDR_ADDR 15, 0x10000000)]).dev (A.LCS_KE_DIGEST 31 0)
      kernHash }

theorem load_good : ∀ x : Nat × List Byte × List Byte × Dev, x.1 = 0 → x = (0, x.2.1, x.2.2.1, x.2.2.2) := by
  rintro ⟨n, h, b, d⟩ e
  rw [show n = 0 from e]

theorem wit_load_good : ∃ (s : State) (c : Fin 16) (h bs : List Byte) (d : Dev), s.dev.alive = true ∧ s.dev.cluState c.val = 1 ∧
    Dev.loadCheck s.mem s.dev c.val = (0, h, bs, d) :=
  ⟨loadingState, 15, _, _, _, by decide +kernel, by decide +kernel, load_good _ (by decide +kernel)⟩

theorem wit_load_bad : ∃ (s : State) (c : Fin 16), s.dev.alive = true ∧ s.dev.cluState c.val = 1 ∧
    (s.dev.reg (A.CLU_LOAD_ADDR c.val)).toNat % 32 ≠ 0 :=
  ⟨cluIn 1 {} [(F.CLU_LOAD_ADDR_ADDR 15, 0x10000010)], 15, by decide +kernel⟩

theorem wit_cluster_watchdog : ∃ (s : State) (c : Fin 16) (p : CluSt), s.dev.alive = true ∧ s.dev.clus c.val = p ∧
    s.dev.cluState c.val = 3 ∧ p.ending = 0 ∧ s.dev.getF (F.CLU_WDOG_PERIOD c.val) ≠ 0 ∧
    s.dev.getF (F.CLU_STAT_WAIT_CAUSE c.val) ≠ 1 ∧ p.busy = false :=
  ⟨cluIn 3 {} [(F.CLU_WDOG_PERIOD 15, 1)], 15, _, by decide +kernel, rfl, by decide +kernel⟩

theorem wit_queue_full : ∃ (s : State) (c : Fin 16) (p : CluSt), s.dev.alive = true ∧ s.dev.clus c.val = p ∧ 64 ≤ p.wq.length ∧
    p.inq.length < 64 := ⟨cluIn 3 { wq := List.replicate 64 0 }, 15, _, by decide +kernel, rfl, by decide +kernel⟩

theorem wit_transfers : ∃ (s : State) (c : Fin 16) (p : CluSt) (bank : Fin 2) (a n : Nat) (h : HCopy) (r : List HCopy),
    s.dev.alive = true ∧ s.dev.clus c.val = p ∧ p.wq.length < 64 ∧ p.load bank.val = some (a, n) ∧ p.ending = 0 ∧
    s.dev.memi.ecc = [] ∧ (a + 256 * n ≤ s.dev.regionBase 0 ∨ s.dev.regionBase 0 + s.dev.regionSize 0 ≤ a) ∧ 1 ≤ n ∧ n ≤ 32 ∧
    p.copies = h :: r ∧ p.ecc = [] ∧ h.out = false :=
  ⟨cluIn 3 { load1 := some (0x17F00000, 32), copies := [⟨false, 0x10000000, 8191, 1⟩] }, 15, _, 1, 0x17F00000, 32,
    ⟨false, 0x10000000, 8191, 1⟩, [], by decide +kernel, rfl, by decide +kernel⟩

theorem wit_copy_out : ∃ (s : State) (c : Fin 16) (p : CluSt) (h : HCopy) (r : List HCopy), s.dev.alive = true ∧
    s.dev.clus c.val = p ∧ p.copies = h :: r ∧ p.ending = 0 ∧ s.dev.memi.ecc = [] ∧ p.ecc = [] ∧ h.out = true ∧
    h.line + h.n ≤ 8192 ∧ s.dev.beam.commits = [] ∧ (∀ k, k < 64 * h.n → s.dev.mayWrite (h.addr + k) = true) :=
  ⟨cluIn 3 { copies := [⟨true, 0x17F00000, 8191, 1⟩] }, 15, _, ⟨true, 0x17F00000, 8191, 1⟩, [], by decide +kernel, rfl,
    by decide +kernel, by decide +kernel, by decide +kernel, by decide +kernel, by decide +kernel, by decide +kernel,
    by decide +kernel, by decide +kernel⟩

theorem wit_local_writeback : ∃ (s : State) (c : Fin 16) (p : CluSt) (w : Nat) (l : List Nat), s.dev.alive = true ∧
    s.dev.clus c.val = p ∧ p.wback = w :: l := ⟨cluIn 3 { wback := [65535] }, 15, _, 65535, [], by decide +kernel, rfl, rfl⟩

theorem wit_external : ∃ (s : State) (r : Requester) (off n : Nat) (p : CluSt), s.dev.alive = true ∧ s.dev.clus 15 = p ∧
    r ≠ .mspi ∧ off + n ≤ 0x80000 ∧ p.ecc = [] := ⟨cluIn 3 {}, .cp0, 0x7FFFF, 1, _, by decide +kernel, rfl, by decide +kernel⟩

theorem dims_bound : ∀ (ds : List (Nat × Nat)) (d : Nat), RegRow.hitsDims ds d = true →
    d ≤ ds.foldr (fun p n => p.1 * (p.2 - 1) + n) 0
  | [], d, h => by simpa [RegRow.hitsDims] using h
  | (s, c) :: ds, d, h => by
    simp only [RegRow.hitsDims, Bool.and_eq_true, decide_eq_true_eq] at h
    have h1 := dims_bound ds (d % s) h.2
    have h2 : s * (d / s) ≤ s * (c - 1) := Nat.mul_le_mul_left s (by omega)
    have h3 := Nat.div_add_mod d s
    simp only [List.foldr_cons]
    omega

theorem strm_row (n : Nat) (hn : n < 4096) : regRow (A.FHP_STRMn n) = fhpRows3[0]? := by
  have hb : blockRows (A.FHP_STRMn n) = fhpRows := by unfold blockRows A.FHP_STRMn; repeat (first | rw [if_neg (by omega)] | rw [if_pos (by omega)])
  have hl : (fhpRows0 ++ fhpRows1 ++ fhpRows2).all
      (fun r => decide (r.base + r.dims.foldr (fun p n => p.1 * (p.2 - 1) + n) 0 < 0x40064000)) = true := by decide +kernel
  unfold regRow
  rw [hb, fhpRows, List.find?_append, List.find?_eq_none.2]
  · rw [Option.none_or]
    refine List.find?_cons_of_pos ?_
    unfold RegRow.hits A.FHP_STRMn
    simp only [RegRow.hitsDims, Bool.and_eq_true, decide_eq_true_eq, beq_iff_eq]
    omega
  · intro r hr h
    have h1 := of_decide_eq_true (List.all_eq_true.1 hl r hr)
    unfold RegRow.hits at h
    simp only [Bool.and_eq_true, decide_eq_true_eq] at h
    have h2 := dims_bound _ _ h.2
    unfold A.FHP_STRMn at h h2
    omega

theorem strm_reset (n : Nat) (hn : n < 4096) : regReset (A.FHP_STRMn n) = 0 := by
  have h1 : coefReset (A.FHP_STRMn n) = none := by unfold coefReset A.FHP_STRMn; exact if_pos (by omega)
  have h2 : trimReset (A.FHP_STRMn n) = none := by unfold trimReset A.FHP_STRMn; exact if_pos (by omega)
  unfold regReset
  rw [h1, h2, strm_row n hn]
  unfold A.FHP_STRMn A.MON_WACTn A.AUXD_FLIMn A.THRM_FUSE
  show (if _ then _ else if _ then _ else if _ then _ else _) = _
  rw [if_neg (by omega), if_neg (by omega), if_neg (by omega)]
  rfl

theorem get_outside (lo hi a : Nat) (h1 : lo ≤ a) (h2 : a < hi) : ∀ t : Tab W32, t.all (fun p => p.1 < lo || hi ≤ p.1) = true →
    Tab.get regReset a t = regReset a
  | [], _ => rfl
  | (k, v) :: t, h => by
    simp only [List.all_cons, Bool.and_eq_true, Bool.or_eq_true, decide_eq_true_eq] at h
    rw [Tab.get, if_neg (by omega)]
    exact get_outside lo hi a h1 h2 t h.2

/-- Whether no stream register is listed. -/
def noStreams (d : Dev) : Bool := d.regs.all (fun p => p.1 < 0x40064000 || 0x40068000 ≤ p.1)

theorem strm_zero {d : Dev} (h : noStreams d = true) (n : Nat) (hn : n < 4096) : d.reg (A.FHP_STRMn n) = 0 := by
  unfold Dev.reg
  rw [get_outside 0x40064000 0x40068000 _ (by unfold A.FHP_STRMn; omega) (by unfold A.FHP_STRMn; omega) _ h]
  exact strm_reset n hn

theorem streams_none {d : Dev} (h : noStreams d = true) (first : Nat) (ws : List Nat) (hw : ∀ i, ws.getD i 0 = 0) :
    d.streams first ws = [] := by
  unfold Dev.streams
  rw [List.filterMap_eq_nil_iff]
  intro n hn
  rw [hw, strm_zero h n (List.mem_range.1 hn)]
  simp [strmOf]

theorem streams_last {d : Dev} (h : noStreams d = true) (w : Nat) : d.streams 4095 [w] = (strmOf w).toList := by
  unfold Dev.streams
  rw [show List.range 4096 = List.range 4095 ++ [4095] from List.range_succ, List.filterMap_append, List.filterMap_eq_nil_iff.2]
  · simp only [List.nil_append, List.filterMap_cons, List.filterMap_nil]
    rw [if_pos (by simp)]
    split <;> rename_i e <;> rw [show strmOf w = _ from e] <;> rfl
  · intro n hn
    have hn := List.mem_range.1 hn
    rw [if_neg (by omega), strm_zero h n (by omega)]
    rfl

/-- Whether a block without streams passes their checks. -/
def emptyFits (d : Dev) : Bool :=
  noStreams d && (d.linkFits [] && d.earlyFits [] d.leadSet d.earlySet && d.jitterFits [] d.earlySet (d.regionSize 2)) &&
    d.beamCheck.isNone

theorem carChecks_none {d : Dev} (h : emptyFits d = true) : d.carChecks = none := by
  simp only [emptyFits, Bool.and_eq_true, Option.isNone_iff_eq_none] at h
  have hs : d.streams 0 ((List.range 4096).map (fun n => (d.reg (A.FHP_STRMn n)).toNat)) = [] := by
    refine streams_none h.1.1 _ _ fun i => ?_
    rw [List.getD_eq_getElem?_getD, List.getElem?_map]
    cases e : (List.range 4096)[i]? with
    | none => rfl
    | some j =>
      have := List.mem_range.1 (List.mem_of_getElem? e)
      rw [Option.map_some, strm_zero h.1.1 j this]
      rfl
  unfold Dev.carChecks Dev.checkStreams
  rw [if_pos]
  · exact h.2
  · dsimp only
    rw [hs, h.1.2.1.1, h.1.2.1.2, h.1.2.2]
    rfl

/-- A payload that maps stream 4095. -/
def lastStrm : List Byte := [0xFF, 0x0F, 1, 0, 0, 0, 0, 0x80]

theorem lastStrm_fits : (inMod .standby).dev.checkStreams (leAt lastStrm 0 2) (streamWords lastStrm) = none := by
  rw [show leAt lastStrm 0 2 = 4095 from rfl, show streamWords lastStrm = [0x80000000] from rfl]
  unfold Dev.checkStreams
  rw [if_pos]
  dsimp only
  rw [streams_last (by decide +kernel)]
  decide +kernel

theorem wit_streamCfg : ∃ (s : State) (h : CmdHdr) (pl : List Byte), CmdOk s h 0x1010 pl ∧ 8 ≤ pl.length ∧ pl.length ≤ 2052 ∧
    streamCfgOk pl = true ∧ s.dev.checkStreams (leAt pl 0 2) (streamWords pl) = none ∧ s.dev.mod = .standby :=
  ⟨inMod .standby, hdr0, lastStrm, cmdOk_of_first (by decide +kernel), by decide +kernel, by decide +kernel, by decide +kernel,
    lastStrm_fits, rfl⟩

theorem wit_fhTiming : ∃ (s : State) (h : CmdHdr) (pl : List Byte), CmdOk s h 0x1011 pl ∧ pl.length = 12 ∧ 50000 ≤ leAt pl 0 4 ∧
    leAt pl 0 4 ≤ 1000000 ∧ leAt pl 0 4 ≤ leAt pl 4 4 ∧ leAt pl 4 4 < 2 ^ 21 ∧ 50 ≤ leAt pl 8 2 ∧ leAt pl 8 2 ≤ 1000 ∧
    s.dev.earlyFits (s.dev.streams 0 []) (leAt pl 0 4) (leAt pl 4 4) = true ∧
    s.dev.jitterFits (s.dev.streams 0 []) (leAt pl 4 4) (s.dev.regionSize 2) = true :=
  ⟨inMod .standby, hdr0, leBytes 4 50000 ++ leBytes 4 100000 ++ [200, 0, 0, 0], cmdOk_of_first (by decide +kernel),
    by decide +kernel, by decide +kernel, by decide +kernel, by decide +kernel, by decide +kernel, by decide +kernel,
    by decide +kernel, by rw [streams_none (by decide +kernel) _ _ (by simp)]; decide +kernel, by rw [streams_none (by decide +kernel) _ _ (by simp)]; decide +kernel⟩

theorem wit_cascadeCfg : ∃ (s : State) (h : CmdHdr) (pl : List Byte), CmdOk s h 0x1012 pl ∧ pl.length = 4 ∧ byteAt pl 0 ≤ 3 ∧
    byteAt pl 1 ≤ 1 ∧ byteAt pl 2 ≤ 4 ∧ 1 ≤ byteAt pl 3 ∧ byteAt pl 3 ≤ 50 :=
  ⟨inMod .standby, hdr0, [3, 1, 4, 50], cmdOk_of_first (by decide +kernel), by decide +kernel⟩

theorem wit_fhCheck : ∃ (s : State) (h : CmdHdr) (pl : List Byte), CmdOk s h 0x1013 pl ∧ 8 ≤ pl.length ∧ pl.length ≤ 2052 ∧
    streamCfgOk pl = true ∧ s.dev.checkStreams (leAt pl 0 2) (streamWords pl) = none :=
  ⟨inMod .standby, hdr0, lastStrm, cmdOk_of_first (by decide +kernel), by decide +kernel, by decide +kernel, by decide +kernel,
    lastStrm_fits⟩

theorem wit_cluAssign : ∃ (s : State) (h : CmdHdr) (pl : List Byte), CmdOk s h 0x3061 pl ∧ pl.length = 8 ∧ leAt pl 4 4 = 0 ∧
    (∀ c ∈ bitsOf 16 (leAt pl 0 2), s.dev.cluJob c = false) :=
  ⟨inMod .standby, hdr0, [0, 128, 0, 0, 0, 0, 0, 0], cmdOk_of_first (by decide +kernel), by decide +kernel⟩

theorem wit_cluWork : ∃ (s : State) (h : CmdHdr) (pl : List Byte), CmdOk s h 0x3062 pl ∧ 16 ≤ pl.length ∧ pl.length ≤ 520 ∧
    pl.length % 8 = 0 ∧ byteAt pl 0 < 16 ∧ s.dev.fw.ownerClu.testBit (byteAt pl 0) = true ∧
    (s.dev.clus (byteAt pl 0)).wq.length + (pl.length - 8) / 8 ≤ 64 :=
  ⟨inMod .ready { fw := { ownerClu := 32768 } }, hdr0, [15, 0, 0, 0, 0, 0, 0, 0, 1, 2, 3, 4, 5, 6, 7, 8],
    cmdOk_of_first (by decide +kernel), by decide +kernel⟩

theorem wit_cluPoll : ∃ (s : State) (h : CmdHdr) (pl : List Byte), CmdOk s h 0x3063 pl ∧ pl.length = 4 ∧ byteAt pl 0 < 16 ∧
    1 ≤ byteAt pl 1 ∧ byteAt pl 1 ≤ 64 :=
  ⟨inMod .ready, hdr0, [15, 64, 0, 0], cmdOk_of_first (by decide +kernel), by decide +kernel⟩

theorem wit_cluStat : ∃ (s : State) (h : CmdHdr) (pl : List Byte), CmdOk s h 0x3064 pl ∧ pl.length = 4 ∧ byteAt pl 0 < 16 :=
  ⟨inMod .ready, hdr0, [15, 0, 0, 0], cmdOk_of_first (by decide +kernel), by decide +kernel⟩

/-! Tiles and RF paths. -/

theorem wit_nco_open : ∃ (s : State) (n : Nco), s.dev.alive = true ∧ s.dev.ncoOpen n = true ∧ (∀ dir, n ≠ .rambler dir) :=
  ⟨atF [], .carrier 7 .tx, by decide +kernel, by decide +kernel, fun _ => by simp⟩

theorem wit_nco_pending : ∃ (s : State) (n : Nco) (w : Nat), s.dev.alive = true ∧ s.dev.ncoPend n = some w ∧ w < 2 ^ 48 :=
  ⟨ofD { rf := { nco := [(ncoKey (.band 3 .tx), some (2 ^ 48 - 1))] } }, .band 3 .tx, 2 ^ 48 - 1, by decide +kernel⟩

theorem wit_nco_idle : ∃ (s : State) (n : Nco), s.dev.alive = true ∧ s.dev.ncoPend n = none :=
  ⟨atF [], .carrier 0 .rx, by decide +kernel⟩

theorem wit_chain : ∃ (s : State) (t : Fin 4) (dir : Dir), s.dev.alive = true ∧ s.dev.flag (runF t.val dir) = false ∧
    s.dev.flag (stoppedF t.val dir) = true ∧ s.dev.flag (F.TILE_CTRL_SLEEP t.val) = false ∧ s.dev.allStopped = true :=
  ⟨atF [], 3, .tx, by decide +kernel⟩

theorem wit_chain_running : ∃ (s : State) (t : Fin 4) (dir : Dir), s.dev.alive = true ∧
    s.dev.flag (stoppedF t.val dir) = false ∧ s.dev.flag (F.TILE_CTRL_SLEEP t.val) = true ∧ s.dev.allStopped = false :=
  ⟨atF [(F.TILE_STAT_RX_STOPPED 3, 0), (F.TILE_CTRL_SLEEP 3, 1)], 3, .rx, by decide +kernel⟩

theorem wit_stage_word : ∃ (o : Nat) (dir : Dir), o < 0x40000 ∧ stageDir o = some dir := ⟨0xB7F, .rx, by decide +kernel⟩

theorem wit_carrier_locked : ∃ (s : State) (k : Fin 8) (v : BitVec 32), s.dev.alive = true ∧ s.dev.carOn k.val = true ∧
    (s.dev.reg (A.CARk_CFG k.val)).toNat &&& lockedBits ≠ v.toNat &&& lockedBits :=
  ⟨atF [(F.CARk_CFG_EN 7, 1)], 7, 0, by decide +kernel⟩

theorem wit_carrier_same : ∃ (s : State) (k : Fin 8) (v : BitVec 32), s.dev.alive = true ∧ s.dev.carOn k.val = true ∧
    (s.dev.reg (A.CARk_CFG k.val)).toNat &&& lockedBits = v.toNat &&& lockedBits :=
  ⟨atF [(F.CARk_CFG_EN 7, 1)], 7, (atF [(F.CARk_CFG_EN 7, 1)]).dev.reg (A.CARk_CFG 7), by decide +kernel⟩

/-- Tile 3 with its PLL in a state. -/
def pllIn (st : Nat) (t : TileSt := {}) (fs : List (Fld × Nat) := []) : State :=
  ofD (setAll { tiles := [(3, t)] } ((F.TILE_STAT_PLL_STATE 3, st) :: fs))

theorem wit_pll_off : ∃ (s : State) (t : Fin 4), s.dev.alive = true ∧ s.dev.pll t.val = 0 ∧ s.dev.awake t.val = true ∧
    (s.dev.tile t.val).refsOk = true ∧ s.dev.time.held = false := ⟨pllIn 0 { refsOk := true }, 3, by decide +kernel⟩

theorem wit_pll_states : ∀ st ∈ [0, 1, 2, 3, 4, 5], (pllIn st).dev.alive = true ∧ (pllIn st).dev.pll 3 = st ∧
    (pllIn st).dev.rmb.hold = none ∧ ((pllIn st).dev.tile 3).waking = false := by decide +kernel

theorem wit_sleep : ∃ (s : State) (t : Fin 4), s.dev.alive = true ∧ s.dev.flag (F.TILE_CTRL_SLEEP t.val) = false ∧
    (s.dev.tile t.val).waking = false := ⟨pllIn 3, 3, by decide +kernel⟩

theorem wit_sleep_done : ∃ (s : State) (t : Fin 4), s.dev.alive = true ∧ s.dev.flag (F.TILE_CTRL_SLEEP t.val) = true ∧
    s.dev.flag (F.TILE_STAT_ASLEEP t.val) = false ∧ s.dev.flag (F.TILE_CTRL_TX_RUN t.val) = false ∧
    s.dev.flag (F.TILE_CTRL_RX_RUN t.val) = false := ⟨pllIn 0 {} [(F.TILE_CTRL_SLEEP 3, 1)], 3, by decide +kernel⟩

theorem wit_wake_done : ∃ (s : State) (t : Fin 4), s.dev.alive = true ∧ (s.dev.tile t.val).waking = true ∧ s.dev.pll t.val = 3 :=
  ⟨pllIn 3 { waking := true }, 3, by decide +kernel⟩

theorem wit_cold_start : ∃ (s : State) (t : Fin 4), s.dev.alive = true ∧ s.dev.power.booted = true ∧ s.dev.awake t.val = true ∧
    (s.dev.tile t.val).refsOk = false ∧ s.dev.pll t.val = 0 := ⟨ofD { power := { booted := true } }, 3, by decide +kernel⟩

theorem wit_asleep : ∃ (s : State) (t : Fin 4), s.dev.alive = true ∧ s.dev.awake t.val = false :=
  ⟨atF [(F.TILE_STAT_ASLEEP 3, 1), (F.TILE_CTRL_SLEEP 3, 1)], 3, by decide +kernel⟩

theorem wit_path_down : ∃ (s : State) (p : Fin 64), s.dev.alive = true ∧
    (s.dev.tile (tileOf p.val)).down.testBit (p.val % 16) = true := ⟨pllIn 3 { down := 32768 }, 63, by decide +kernel⟩

theorem wit_path_up : ∃ (s : State) (p : Fin 64), s.dev.alive = true ∧
    (s.dev.tile (tileOf p.val)).down.testBit (p.val % 16) = false := ⟨atF [], 63, by decide +kernel⟩

theorem wit_boundary_off : ∃ (s : State) (k : Fin 8), s.dev.alive = true ∧ s.dev.flag (F.CARk_STAT_ACTIVE k.val) = false :=
  ⟨atF [], 7, by decide +kernel⟩

theorem wit_boundary : ∃ (s : State) (k : Fin 8) (env : SymEnv), s.dev.alive = true ∧ s.dev.flag (F.CARk_STAT_ACTIVE k.val) = true ∧
    env.ups = [] ∧ env.jitter = [] ∧ env.tableUe = [] ∧ s.dev.memi.ecc = [] ∧ s.dev.rf.retunes = [] ∧ s.dev.rf.recals = [] ∧
    (∀ t : Fin 4, (s.dev.tile t.val).txSyms = [] ∧ (s.dev.tile t.val).rxSyms = []) :=
  ⟨atF [(F.CARk_STAT_ACTIVE 7, 1)], 7, {}, by decide +kernel⟩

theorem wit_slot_sleep : ∃ (s : State) (k : Fin 8) (t : Fin 4) (o : TileOp), s.dev.alive = true ∧
    s.dev.flag (F.CARk_STAT_ACTIVE k.val) = true ∧ s.dev.rf.sleeps = [o] ∧ o.wake = false ∧ o.todo = [t.val] ∧
    s.dev.lowCar (s.dev.bandGroup t.val) = some k.val ∧ s.dev.flag (F.TILE_CTRL_SLEEP t.val) = false :=
  ⟨ofD (setAll { rf := { sleeps := [⟨⟨0, 0, 0, 0x2021, []⟩, false, [3], [3], none⟩] } }
      [(F.CARk_STAT_ACTIVE 7, 1), (F.CARk_CFG_EN 7, 1)]), 7, 3, ⟨⟨0, 0, 0, 0x2021, []⟩, false, [3], [3], none⟩, by decide +kernel⟩

theorem wit_frame_active : ∃ s : State, s.dev.alive = true ∧ s.dev.flag F.SYS_STATE_ACT_PEND = true ∧ s.dev.mod = .ready :=
  ⟨ofD (setAll { mod := .ready } [(F.SYS_STATE_ACT_PEND, 1)]), by decide +kernel⟩

/-! Predistortion. -/

/-- Observation receiver 7 as given, with EN set. -/
def orxIn (x : OrxSt) (d : Dev := {}) (fs : List (Fld × Nat) := []) : State :=
  ofD (setAll { d with dpd := { d.dpd with orx := [(7, x)] } } ((F.DPD_ORXr_CTRL_EN 7, 1) :: fs))

/-- A request for path 63. -/
def req7 (trig : Nat) : CapReq := { owner := true, sel := 7, trig := trig, tag := 255, delay := 0, dest := 0x17F80000 }

theorem mayWrite_beyond (d : Dev) (a k : Nat) (h : d.regionBase 0 + d.regionSize 0 ≤ a) : d.mayWrite (a + k) = true := by
  unfold Dev.mayWrite
  exact if_pos (.inr (by omega))

theorem wit_capture_push : ∃ (s : State) (o : Fin 8) (x : OrxSt) (r : Requester) (lo : BitVec 32) (q : CapReq), s.dev.alive = true ∧
    s.dev.orx o.val = x ∧ q = ⟨lo.toNat.testBit 31, bitsN lo.toNat 28 3, bitsN lo.toNat 26 2, bitsN lo.toNat 16 8,
      bitsN lo.toNat 0 16, (s.dev.takeStaged r (A.DPD_ORXr_REQ_HI o.val)).1.toNat, 0, none⟩ ∧
    x.queue.length < 16 ∧ q.dest % 64 = 0 ∧ inHamper q.dest 458816 = true ∧ q.trig ≤ 1 :=
  ⟨orxIn {} ((({} : Dev).setStaged .cp0 (A.DPD_ORXr_REQ_HI 7) 0x10000000)), 7, _, .cp0, 0xFFFFFFFF &&& ~~~0x08000000, _,
    by decide +kernel, rfl, rfl, by decide +kernel, by decide +kernel, by decide +kernel, by decide +kernel⟩

theorem wit_capture_full : ∃ (s : State) (o : Fin 8) (x : OrxSt), s.dev.alive = true ∧ s.dev.orx o.val = x ∧ 16 ≤ x.queue.length :=
  ⟨orxIn { queue := List.replicate 16 (req7 0) }, 7, _, by decide +kernel, rfl, by decide +kernel⟩

theorem wit_capture_head : ∃ (s : State) (o : Fin 8) (x : OrxSt) (q : CapReq) (l : List CapReq), s.dev.alive = true ∧
    s.dev.orx o.val = x ∧ x.queue = q :: l ∧ s.dev.flag (F.DPD_ORXr_CTRL_EN o.val) = true ∧ x.atHead = false ∧ x.win = none ∧
    q.sel < 8 := ⟨orxIn { queue := [req7 1] }, 7, _, req7 1, [], by decide +kernel, rfl, by decide +kernel⟩

theorem wit_capture_open : ∃ (s : State) (o : Fin 8) (x : OrxSt) (q : CapReq) (l : List CapReq), s.dev.alive = true ∧
    s.dev.orx o.val = x ∧ x.queue = q :: l ∧ s.dev.flag (F.DPD_ORXr_CTRL_EN o.val) = true ∧ x.atHead = true ∧ x.trig = true ∧
    x.win = none ∧ x.done.length < 16 ∧ x.held = [] :=
  ⟨orxIn { queue := [req7 1], atHead := true, trig := true }, 7, _, req7 1, [], by decide +kernel, rfl, by decide +kernel⟩

theorem wit_capture_timeout : ∃ (s : State) (o : Fin 8) (x : OrxSt) (q : CapReq) (l : List CapReq), s.dev.alive = true ∧
    s.dev.orx o.val = x ∧ x.queue = q :: l ∧ x.atHead = true ∧ x.trig = false ∧ q.who = 0 ∧ x.done = [] ∧ x.held = [] :=
  ⟨orxIn { queue := [req7 0], atHead := true }, 7, _, req7 0, [], by decide +kernel, rfl, by decide +kernel⟩

theorem wit_capture_close : ∃ (s : State) (o : Fin 8) (x : OrxSt) (w : CapWin), s.dev.alive = true ∧ s.dev.orx o.val = x ∧
    x.win = some w ∧ w.changed = false ∧ s.dev.bypassed (8 * o.val + w.req.sel) = true :=
  ⟨orxIn { win := some { req := req7 0, t0 := {}, gen := 0, flags := 0, head := [] } } {} [(F.DPD_Pn_STAT_UE_BYPASS 63, 1)], 7, _,
    { req := req7 0, t0 := {}, gen := 0, flags := 0, head := [] }, by decide +kernel, rfl, by decide +kernel⟩

/-- A record of zeros above region 0. -/
def rec7 : CapRec := { req := req7 0, flags := 0, gen := 0, head := List.replicate 458816 0, streams := [] }

theorem wit_capture_record : ∃ (s : State) (o : Fin 8) (x : OrxSt) (c : CapRec) (l : List CapRec), s.dev.alive = true ∧
    s.dev.orx o.val = x ∧ x.drains = c :: l ∧ c.req.who = 0 ∧ x.done = [] ∧ x.held = [] ∧ s.dev.beam.commits = [] ∧
    s.dev.memi.ecc = [] ∧ (∀ k, k < 458816 → s.dev.mayWrite (c.req.dest + k) = true) ∧
    (c.head ++ c.streams.flatMap imgBytes).length = 458816 :=
  ⟨orxIn { drains := [rec7] }, 7, { drains := [rec7] }, rec7, [], by rfl, by rfl, rfl, rfl, rfl, rfl, rfl, rfl,
    fun k _ => mayWrite_beyond _ _ _ (by show _ ≤ 0x17F80000; decide +kernel),
    by show (List.replicate 458816 (0 : Byte) ++ []).length = 458816; rw [List.append_nil, List.length_replicate]⟩

theorem wit_capture_done : ∃ (s : State) (o : Fin 8) (x : OrxSt) (e : DoneEnt) (l : List DoneEnt), s.dev.alive = true ∧
    s.dev.orx o.val = x ∧ x.done = e :: l ∧ x.held = [] ∧ (s.dev.fw.running = false ∨ ∀ f ∈ l, f.req.who = 0) :=
  ⟨orxIn { done := [⟨req7 0, 0, 0, []⟩] }, 7, _, ⟨req7 0, 0, 0, []⟩, [], by decide +kernel, rfl, by decide +kernel⟩

theorem wit_stale : ∃ (d : Dev) (g : Nat), d.pendPaths g ≠ [] ∧ (d.pendPaths g).all d.genFits = false :=
  ⟨setAll { dpd := { tables := [(126, [0xFF80FF00]), (127, [0xFF80FF00])] } } [(F.DPD_Pn_STAT_PEND 63, 1)], 0, by decide +kernel⟩

theorem wit_commit_busy : ∃ (s : State), s.dev.alive = true ∧ s.dev.flag F.DPD_LOAD_STAT_BUSY = true :=
  ⟨atF [(F.DPD_LOAD_STAT_BUSY, 1)], by decide +kernel⟩

/-- Both band groups have a carrier. -/
def twoCarriers : List (Fld × Nat) := [(F.TILE_GROUP_SPLIT, 1), (F.CARk_CFG_EN 0, 1), (F.CARk_CFG_EN 1, 1), (F.CARk_CFG_BG 1, 1)]

theorem wit_commit_waits : ∃ (s : State) (r : Requester) (lo : BitVec 32) (mask : Nat), s.dev.alive = true ∧
    mask = lo.toNat + (s.dev.takeStaged r A.DPD_COMMIT_HI).1.toNat * 2 ^ 32 ∧ s.dev.flag F.DPD_LOAD_STAT_BUSY = false ∧
    (∀ n ∈ bitsOf 64 mask, s.dev.flag (F.DPD_Pn_STAT_PEND n) = false) ∧ s.dev.idleGroups = [] :=
  ⟨atF twoCarriers, .cp0, 3, 3, by decide +kernel⟩

theorem wit_commit_now : ∃ (s : State) (r : Requester) (lo : BitVec 32) (mask n : Nat), s.dev.alive = true ∧
    mask = lo.toNat + (s.dev.takeStaged r A.DPD_COMMIT_HI).1.toNat * 2 ^ 32 ∧ bitsOf 64 mask = [n] ∧
    s.dev.flag F.DPD_LOAD_STAT_BUSY = false ∧ s.dev.idleGroups = [0] ∧ s.dev.flag F.TILE_GROUP_SPLIT = false ∧
    (∀ p, p < 64 → s.dev.flag (F.DPD_Pn_STAT_PEND p) = false) ∧ s.dev.genFits n = true :=
  ⟨atF [], .cp0, 0x80000000, 2 ^ 31, 31, by decide +kernel⟩

theorem wit_load_misaligned : ∃ (s : State) (j : LoadJob) (n : Nat), s.dev.alive = true ∧ s.dev.dpd.load = some j ∧
    bitsOf 64 j.mask = [n] ∧ s.dev.memi.ecc = [] ∧ j.addr % 64 ≠ 0 :=
  ⟨ofD { dpd := { load := some ⟨2 ^ 63, false, false, 0x10000020⟩ } }, ⟨2 ^ 63, false, false, 0x10000020⟩, 63, by decide +kernel⟩

theorem wit_load_in : ∃ (s : State) (j : LoadJob) (n : Nat), s.dev.alive = true ∧ s.dev.dpd.load = some j ∧
    bitsOf 64 j.mask = [n] ∧ s.dev.memi.ecc = [] ∧ j.addr % 64 = 0 ∧ inHamper (j.addr + 0x1000 * n) 3136 = true ∧
    j.dir = false ∧ s.dev.flag (F.DPD_Pn_STAT_PEND n) = false ∧
    s.dev.imgOk n (imgOf (memRead s.mem (j.addr + 0x1000 * n) 3136)) = true :=
  ⟨ofD { dpd := { load := some ⟨2 ^ 63, false, false, 0x10000000⟩ } }, ⟨2 ^ 63, false, false, 0x10000000⟩, 63, by decide +kernel⟩

theorem wit_load_out : ∃ (s : State) (j : LoadJob) (n : Nat), s.dev.alive = true ∧ s.dev.dpd.load = some j ∧
    bitsOf 64 j.mask = [n] ∧ s.dev.memi.ecc = [] ∧ j.addr % 64 = 0 ∧ inHamper (j.addr + 0x1000 * n) 3136 = true ∧
    j.dir = true ∧ s.dev.beam.commits = [] ∧ (∀ k, k < 3136 → s.dev.mayWrite (j.addr + 0x1000 * n + k) = true) ∧
    (s.dev.dpdTab n (s.dev.actCopy n)).length = 784 ∧ j.copy = false :=
  ⟨ofD { dpd := { load := some ⟨2 ^ 63, true, false, 0x17F00000⟩ } }, ⟨2 ^ 63, true, false, 0x17F00000⟩, 63, by decide +kernel,
    by decide +kernel, by decide +kernel, by decide +kernel, by decide +kernel, by decide +kernel, by decide +kernel,
    by decide +kernel, fun k _ => mayWrite_beyond _ _ _ (by decide +kernel), by decide +kernel, by decide +kernel⟩

theorem wit_adapt : ∃ (s : State) (p : Fin 64) (gen : Nat), s.dev.alive = true ∧ (s.dev.dfw p.val).clean = some gen ∧
    s.dev.fw.running = true ∧ (s.dev.dfw p.val).mode = 2 ∧ gen = s.dev.getF (capGenF (tileOf p.val)) ∧
    (s.dev.dfw p.val).converged = false ∧ (s.dev.dfw p.val).tag < 256 ∧
    (s.dev.lowCar (s.dev.pathGroup p.val)).isSome = true ∧ s.dev.dpd.slotDone.testBit (s.dev.pathGroup p.val) = true :=
  ⟨ofD (setAll { fw := { running := true }, dpd := { fw := [(63, { mode := 2, clean := some 0, tag := 255 })], slotDone := 3 } }
      twoCarriers), 63, 0, by decide +kernel⟩

theorem wit_adapt_idle : ∃ (s : State) (p : Fin 64), s.dev.alive = true ∧ (s.dev.dfw p.val).clean = none ∧
    (s.dev.dfw p.val).frozen = false ∧ (s.dev.dfw p.val).converged = false := ⟨atF [], 63, by decide +kernel⟩

theorem wit_update_timer : ∃ (s : State) (p : Fin 64), s.dev.alive = true ∧ (s.dev.dfw p.val).frozen = true ∧
    s.dev.fw.running = true ∧ (s.dev.dfw p.val).mode = 2 ∧ (s.dev.dfw p.val).asked = false ∧ (s.dev.dfw p.val).clean = none ∧
    (s.dev.dfw p.val).ready = none ∧ s.dev.flag (F.DPD_Pn_STAT_PEND p.val) = false ∧ s.dev.genCalm (tileOf p.val) = true ∧
    (s.dev.orx (p.val / 8)).queue.length < 16 :=
  ⟨ofD { fw := { running := true }, dpd := { fw := [(63, { mode := 2, frozen := true })] } }, 63, by decide +kernel⟩

/-- A served block in READY with a carrier on. -/
def withCarrier (fs : List (Fld × Nat) := []) : State := inMod .ready (setAll {} ((F.CARk_CFG_EN 0, 1) :: fs))

theorem wit_dpdMode : ∃ (s : State) (h : CmdHdr) (pl : List Byte), CmdOk s h 0x4001 pl ∧ pl.length = 12 ∧ byteAt pl 8 ≤ 2 ∧
    1 ≤ byteAt pl 9 ∧ byteAt pl 9 ≤ 16 ∧ 1 ≤ leAt pl 10 2 ∧ leAt pl 10 2 ≤ 1000 :=
  ⟨withCarrier, hdr0, [0, 0, 0, 0, 0, 0, 0, 0x80, 2, 16, 0xE8, 3], cmdOk_of_first (by decide +kernel), by decide +kernel⟩

theorem wit_dpdNeighbour : ∃ (s : State) (h : CmdHdr) (pl : List Byte), CmdOk s h 0x4002 pl ∧ byteAt pl 0 < 64 ∧ byteAt pl 1 ≤ 4 ∧
    pl.length = 4 + 2 * byteAt pl 1 ∧ (∀ i, i < byteAt pl 1 → byteAt pl (4 + 2 * i) < 64 ∧ byteAt pl (5 + 2 * i) ≤ 7) ∧
    s.dev.nbrsOk (byteAt pl 0) ((List.range (byteAt pl 1)).map (fun i => byteAt pl (4 + 2 * i))) = true :=
  ⟨withCarrier, hdr0, [63, 4, 0, 0, 0, 7, 1, 7, 2, 0, 62, 7], cmdOk_of_first (by decide +kernel), by decide +kernel⟩

/-- A DPD_TABLE_LOAD of the identity table into path 63. -/
def tabLoad (flags : Byte) : List Byte := [63, flags, 0, 0] ++ imgBytes identityTable

theorem wit_dpdTableLoad : ∀ f ∈ [(0 : Byte), 1], firstOk withCarrier hdr0 0x4003 (tabLoad f) = true ∧
    (tabLoad f).length = 3140 ∧ byteAt (tabLoad f) 0 < 64 ∧
    withCarrier.dev.imgOk (byteAt (tabLoad f) 0) (imgOf ((tabLoad f).drop 4)) = true ∧
    withCarrier.dev.flag (F.DPD_Pn_STAT_PEND (byteAt (tabLoad f) 0)) = false ∧
    (withCarrier.dev.dfw (byteAt (tabLoad f) 0)).mode ≠ 2 ∧ withCarrier.dev.idleGroups = [] := by decide +kernel

theorem wit_dpdTableRead : ∃ (s : State) (h : CmdHdr) (pl : List Byte), CmdOk s h 0x4004 pl ∧ pl.length = 4 ∧ byteAt pl 0 < 64 ∧
    byteAt pl 1 ≤ 1 := ⟨withCarrier, hdr0, [63, 1, 0, 0], cmdOk_of_first (by decide +kernel), by decide +kernel⟩

theorem wit_dpdReset : ∃ (s : State) (h : CmdHdr) (pl : List Byte), CmdOk s h 0x4005 pl ∧ pl.length = 8 ∧ leAt pl 0 8 ≠ 0 ∧
    s.dev.idleGroups = [] ∧ (∀ n ∈ bitsOf 64 (leAt pl 0 8), s.dev.flag (F.DPD_Pn_STAT_PEND n) = false) :=
  ⟨withCarrier, hdr0, [1, 0, 0, 0, 0, 0, 0, 0x80], cmdOk_of_first (by decide +kernel), by decide +kernel⟩

theorem wit_dpdCapture : ∃ (s : State) (h : CmdHdr) (pl : List Byte), CmdOk s h 0x4006 pl ∧ pl.length = 8 ∧ byteAt pl 0 < 64 ∧
    byteAt pl 1 ≤ 1 ∧ byteAt pl 4 ≤ 31 ∧ (s.dev.orx (byteAt pl 0 / 8)).queue.length < 16 :=
  ⟨withCarrier, hdr0, [63, 1, 0xFF, 0xFF, 31, 0, 0, 0], cmdOk_of_first (by decide +kernel), by decide +kernel⟩

theorem wit_dpdStat : ∃ (s : State) (h : CmdHdr) (pl : List Byte), CmdOk s h 0x4007 pl ∧ pl.length = 8 :=
  ⟨withCarrier, hdr0, [1, 0, 0, 0, 0, 0, 0, 0x80], cmdOk_of_first (by decide +kernel), rfl⟩

theorem wit_recapture : ∃ s : State, s.dev.alive = true ∧ s.dev.fw.running = true := ⟨inMod .ready, by decide +kernel⟩

/-! Calibration. -/

theorem wit_trim_open : ∃ (s : State) (t : Fin 4) (a : BitVec 32) (o : Nat), s.dev.alive = true ∧ o < 0x520 ∧ o % 4 = 0 ∧
    a.toNat = 0x40215000 + 0x1000 * t.val + o ∧ s.dev.armed t.val = false ∧ (o < 0x400 → s.dev.engOn t.val = false) :=
  ⟨atF [], 3, 0x4021851C, 0x51C, by decide +kernel⟩

theorem wit_trim_owned : ∃ (s : State) (t : Fin 4) (a : BitVec 32) (o : Nat), s.dev.alive = true ∧ o < 0x520 ∧ o % 4 = 0 ∧
    a.toNat = 0x40215000 + 0x1000 * t.val + o ∧ s.dev.armed t.val = false ∧ o < 0x400 ∧ s.dev.engOn t.val = true :=
  ⟨atF [(F.CAL_CTRL_ENG_EN, 8)], 3, 0x402183FC, 0x3FC, by decide +kernel⟩

theorem wit_bank_armed : ∃ (s : State) (t : Fin 4), s.dev.alive = true ∧ s.dev.armed t.val = true ∧
    s.dev.rmbPaths.any (fun p => tileOf p == t.val) = false := ⟨atF [(F.CAL_Tt_STAT_STATE 3, 1)], 3, by decide +kernel⟩

theorem wit_bank_deferred : ∃ (s : State) (t : Fin 4), s.dev.alive = true ∧ s.dev.armed t.val = true ∧
    s.dev.rmbPaths.any (fun p => tileOf p == t.val) = true :=
  ⟨ofD (setAll { rmb := { opened := some 0, path := 0x3F0000 } } [(F.CAL_Tt_STAT_STATE 3, 1)]), 3, by decide +kernel⟩

theorem wit_gathers : ∃ (s : State) (p : Fin 64), s.dev.alive = true ∧ s.dev.gathers p.val = true :=
  ⟨ofD (setAll { tiles := [(3, { rxBusy := 32768 })] } [(F.CAL_CTRL_ENG_EN, 8), (F.TILE_STAT_PLL_STATE 3, 3)]), 63,
    by decide +kernel⟩

theorem wit_gathers_not : ∃ (s : State) (p : Fin 64), s.dev.alive = true ∧ s.dev.gathers p.val = false :=
  ⟨atF [], 63, by decide +kernel⟩

theorem wit_engine_update : ∃ (s : State) (t : Fin 4), s.dev.alive = true ∧ s.dev.engOn t.val = true ∧
    s.dev.armed t.val = false ∧ s.dev.flag (F.CAL_Tt_CMD_HOLD t.val) = false ∧
    (∃ i, i < 16 ∧ s.dev.adequate (16 * t.val + i) = true) :=
  ⟨ofD (setAll { cal := { stats := [(63, { offered := 2 ^ 18, counted := 2 ^ 18, since := -(10 ^ 30) })] } } [(F.CAL_CTRL_ENG_EN, 8)]), 3,
    by decide +kernel, by decide +kernel, by decide +kernel, by decide +kernel, 15, by decide +kernel⟩

theorem wit_engine_held : ∃ (s : State) (t : Fin 4), s.dev.alive = true ∧ s.dev.engOn t.val = true ∧
    s.dev.flag (F.CAL_Tt_CMD_HOLD t.val) = true :=
  ⟨atF [(F.CAL_CTRL_ENG_EN, 8), (F.CAL_Tt_CMD_HOLD 3, 1)], 3, by decide +kernel⟩

theorem wit_starve : ∃ (s : State) (p : Fin 64), s.dev.alive = true ∧ s.dev.engOn (tileOf p.val) = true ∧
    s.dev.flag (F.CAL_Pp_STAT_STARVED p.val) = false := ⟨atF [(F.CAL_CTRL_ENG_EN, 8)], 63, by decide +kernel⟩

theorem wit_dac_fit : ∃ (s : State) (p : Fin 64), s.dev.alive = true ∧ s.dev.fw.running = true ∧
    s.dev.cal.dacOn.testBit (tileOf p.val) = true ∧ p.val ∈ s.dev.cal.dacClean ∧ s.dev.armed (tileOf p.val) = false ∧
    Tab.get (fun _ => none) p.val s.dev.cal.dacLast = none :=
  ⟨ofD { fw := { running := true }, cal := { dacOn := 8, dacClean := [63] } }, 63, by decide +kernel⟩

theorem wit_dac_none : ∃ (s : State) (p : Fin 64), s.dev.alive = true ∧ s.dev.fw.running = true ∧
    s.dev.cal.dacOn.testBit (tileOf p.val) = true ∧ p.val ∉ s.dev.cal.dacClean :=
  ⟨ofD { fw := { running := true }, cal := { dacOn := 8 } }, 63, by decide +kernel⟩

theorem wit_recip_start : ∀ b ∈ [0, 1], (atF [(F.CAL_RECIP_CFG_BUSY, b)]).dev.alive = true ∧
    (atF [(F.CAL_RECIP_CFG_BUSY, b)]).dev.flag F.CAL_RECIP_CFG_BUSY = (b == 1) := by decide +kernel

/-- A measurement inside a window, so many bursts done. -/
def recipAt (n : Nat) : State :=
  ofD (setAll { cal := { recip := { win := some 0 } } } [(F.CAL_RECIP_CFG_BUSY, 1), (F.CAL_RECIP_STAT_BURSTS, n)])

theorem wit_recip_burst : ∀ n ∈ [0, 15, 16], (recipAt n).dev.alive = true ∧ (recipAt n).dev.cal.recip.win = some 0 ∧
    (recipAt n).dev.flag F.CAL_RECIP_CFG_BUSY = true ∧ (recipAt n).dev.rmbPaths = [] ∧ (recipAt n).dev.cal.recipOps = [] ∧
    (recipAt n).dev.nowAir - 0 ≤ 1000 * (airNs : Int) * (max 6 ((recipAt n).dev.getF F.CAL_RECIP_CFG_WIN_US) : Nat) ∧
    (recipAt n).dev.getF F.CAL_RECIP_STAT_BURSTS = n := by decide +kernel

theorem wit_recip_swap : ∃ s t : State, s.dev.alive = true ∧ s.dev.firstCar ≠ none ∧ t.dev.alive = true ∧ t.dev.firstCar = none :=
  ⟨atF [(F.CARk_CFG_EN 7, 1)], atF [], by decide +kernel⟩

theorem wit_mon_start : ∃ (s : State) (c : Fin 2), s.dev.alive = true ∧ s.dev.monCal c.val = false ∧
    (s.dev.getF F.CAL_MON_PEND).testBit c.val = false ∧ (s.dev.monc c.val).inj = [] := ⟨atF [], 1, by decide +kernel⟩

theorem wit_mon_injected : ∃ (s : State) (c : Fin 2), s.dev.alive = true ∧ s.dev.monCal c.val = false ∧
    (s.dev.getF F.CAL_MON_PEND).testBit c.val = false ∧ (s.dev.monc c.val).inj ≠ [] :=
  ⟨ofD { fe := { mon := [(1, { inj := [(63, false)] })] } }, 1, by decide +kernel⟩

theorem wit_mon_calibrating : ∃ (s : State) (c : Fin 2), s.dev.alive = true ∧ s.dev.monCal c.val = true ∧
    (s.dev.monc c.val).inj ≠ [] :=
  ⟨ofD (setAll { fe := { mon := [(1, { inj := [(63, false)] })] } } [(F.CAL_MON_BUSY, 2)]), 1, by decide +kernel⟩

theorem wit_calMode : ∃ (s : State) (h : CmdHdr) (pl : List Byte), CmdOk s h 0x4010 pl ∧ pl.length = 4 ∧ byteAt pl 0 < 16 :=
  ⟨withCarrier, hdr0, [15, 15, 0, 0], cmdOk_of_first (by decide +kernel), by decide +kernel⟩

theorem wit_calRead : ∃ (s : State) (h : CmdHdr) (pl : List Byte), CmdOk s h 0x4011 pl ∧ pl.length = 4 ∧ byteAt pl 0 < 4 ∧
    byteAt pl 1 < 3 := ⟨withCarrier, hdr0, [3, 2, 0, 0], cmdOk_of_first (by decide +kernel), by decide +kernel⟩

theorem wit_calReset : ∃ (s : State) (h : CmdHdr) (pl : List Byte), CmdOk s h 0x4012 pl ∧ pl.length = 4 ∧ 0 < byteAt pl 0 ∧
    byteAt pl 0 < 16 ∧ (∀ u ∈ bitsOf 4 (byteAt pl 0), s.dev.armed u = false) :=
  ⟨withCarrier, hdr0, [15, 0, 0, 0], cmdOk_of_first (by decide +kernel), by decide +kernel⟩

/-- A block whose active timetable holds a CAL_RECIP entry. -/
def recipReady : State := withCarrier [(⟨A.TTBL_ACTV_W0 255, 0, 32⟩, 2 ^ 31 + 45 * 2 ^ 20)]

theorem wit_recipRun : ∃ (s : State) (h : CmdHdr) (pl : List Byte), CmdOk s h 0x4013 pl ∧ pl.length = 4 ∧ byteAt pl 0 < 64 ∧
    s.dev.recipProgrammed = true ∧ s.dev.flag F.CAL_RECIP_CFG_BUSY = false ∧ s.dev.cal.recipOps = [] :=
  ⟨recipReady, hdr0, [63, 1, 0, 0], cmdOk_of_first (by decide +kernel), by decide +kernel⟩

theorem wit_recipRead : ∃ (s : State) (h : CmdHdr) (pl : List Byte), CmdOk s h 0x4014 pl ∧ pl.length = 4 ∧ pathRun pl = true ∧
    byteAt pl 2 ≤ 1 := ⟨withCarrier, hdr0, [1, 63, 1, 0], cmdOk_of_first (by decide +kernel), by decide +kernel⟩

theorem wit_recipHost : ∃ (s : State) (h : CmdHdr) (pl : List Byte), CmdOk s h 0x4015 pl ∧ pathRun pl = true ∧
    pl.length = 4 + 64 * byteAt pl 1 :=
  ⟨withCarrier, hdr0, [63, 1, 0, 0] ++ List.replicate 64 0xFF, cmdOk_of_first (by decide +kernel), by decide +kernel⟩

theorem wit_monCal : ∃ (s : State) (h : CmdHdr) (pl : List Byte), CmdOk s h 0x4016 pl ∧ pl.length = 4 ∧ 0 < byteAt pl 0 ∧
    byteAt pl 0 < 4 ∧ (∀ c ∈ bitsOf 2 (byteAt pl 0), (s.dev.monc c).inj = [] ∧ (s.dev.getF F.CAL_MON_PEND).testBit c = false) :=
  ⟨withCarrier, hdr0, [3, 0, 0, 0], cmdOk_of_first (by decide +kernel), by decide +kernel⟩

theorem wit_calStat : ∃ (s : State) (h : CmdHdr) (pl : List Byte), CmdOk s h 0x4017 pl ∧ pl = [] :=
  ⟨withCarrier, hdr0, [], cmdOk_of_first (by decide +kernel), rfl⟩

/-! Time. -/

/-- A block with this time base. -/
def timeIn (t : TimeSt) (fs : List (Fld × Nat) := []) : State := ofD (setAll { time := t } fs)

theorem wit_tick : ∃ s : State, s.dev.alive = true ∧ s.dev.time.held = false ∧ s.dev.time.slewRem = 0 := ⟨atF [], by decide +kernel⟩

theorem wit_tick_slewing : ∃ s : State, s.dev.alive = true ∧ s.dev.time.held = false ∧ s.dev.time.slewTick ≠ 0 ∧
    s.dev.time.slewTick.natAbs < s.dev.time.slewRem.natAbs := ⟨timeIn { slewTick := -9, slewRem := -10 }, by decide +kernel⟩

theorem wit_tick_slewed : ∃ s : State, s.dev.alive = true ∧ s.dev.time.held = false ∧ s.dev.time.slewRem ≠ 0 ∧
    s.dev.time.slewRem.natAbs ≤ s.dev.time.slewTick.natAbs ∧ s.dev.time.slewOn = true :=
  ⟨timeIn { slewTick := -9, slewRem := -9, slewOn := true }, by decide +kernel⟩

theorem wit_held : ∃ s : State, s.dev.alive = true ∧ s.dev.time.held = true := ⟨timeIn { held := true }, by decide⟩

theorem wit_meas : ∀ src ∈ [0, 1, 2, 3], ∃ (s : State) (r : Requester), s.dev.alive = true ∧ s.dev.time.dropMeas = false ∧
    src = (s.dev.takeStaged r A.TIME_MEAS_HI).1.toNat / 65536 % 4 := by
  intro src h
  exact ⟨ofD ((({} : Dev).setStaged .cp0 A.TIME_MEAS_HI (BitVec.ofNat 32 (65536 * src)))), .cp0, rfl, rfl, by
    simp only [List.mem_cons, List.not_mem_nil, or_false] at h
    rcases h with rfl | rfl | rfl | rfl <;> decide +kernel⟩

theorem wit_pps : ∃ s : State, s.dev.alive = true ∧ s.dev.flag F.TIME_PPS_CFG_IN_EN = true ∧ s.dev.time.held = false ∧
    (∀ n, s.dev.time.ppsAge = some n → ppsMin ≤ n) ∧ s.dev.time.ppsAge ≠ none ∧ s.dev.time.dropMeas = false ∧
    4000000000 < s.dev.nowEighths % 8000000000 :=
  ⟨timeIn { ppsAge := some 450000000, now := ⟨0, 999999999, 0⟩ } [(F.TIME_PPS_CFG_IN_EN, 1)], by decide +kernel, by decide +kernel,
    by decide +kernel, fun n e => by cases e; decide, by decide +kernel, by decide +kernel, by decide +kernel⟩

theorem wit_pps_after : ∃ s : State, s.dev.alive = true ∧ s.dev.flag F.TIME_PPS_CFG_IN_EN = true ∧ s.dev.time.held = false ∧
    (∀ n, s.dev.time.ppsAge = some n → ppsMin ≤ n) ∧ s.dev.time.dropMeas = false ∧ s.dev.nowEighths % 8000000000 < 4000000000 :=
  ⟨timeIn { now := ⟨0, 499999999, 0⟩ } [(F.TIME_PPS_CFG_IN_EN, 1)], by decide +kernel, by decide +kernel, by decide +kernel,
    fun n e => (by cases e), by decide +kernel, by decide +kernel⟩

theorem wit_pps_early : ∃ (s : State) (n : Nat), s.dev.alive = true ∧ s.dev.time.ppsAge = some n ∧ n < ppsMin :=
  ⟨timeIn { ppsAge := some 449999999 }, 449999999, by decide⟩

theorem wit_holdover_expires : ∃ s : State, s.dev.alive = true ∧ s.dev.servo = 4 ∧ s.dev.flag F.TIME_MIX_HOLD_MAX = true ∧
    s.dev.flag F.TIME_STATUS_HOLD_EXP = false := ⟨atF [(F.TIME_STATUS_SERVO_STATE, 4), (F.TIME_MIX_HOLD_MAX, 1)], by decide +kernel⟩

theorem wit_incr : ∃ (s : State) (r : Requester) (v : BitVec 32) (w : Nat), s.dev.alive = true ∧ s.dev.servo = 0 ∧
    s.dev.time.slewRem = 0 ∧ s.dev.time.yServo = 0 ∧ s.dev.time.yXo = 0 ∧
    w = v.toNat + (s.dev.takeStaged r A.TIME_INCR_HI).1.toNat % 256 * 2 ^ 32 ∧ 0x1FFE5C91E ≤ w ∧ w ≤ 0x2001A36E2 :=
  ⟨ofD ((setAll {} [(F.TIME_STATUS_SERVO_STATE, 0)]).setStaged .cp0 A.TIME_INCR_HI 2), .cp0, 0x1A36E2, 0x2001A36E2,
    by decide +kernel⟩

theorem wit_incr_refused : ∃ s : State, s.dev.alive = true ∧ s.dev.servo ≠ 0 :=
  ⟨atF [(F.TIME_STATUS_SERVO_STATE, 1)], by decide +kernel⟩

theorem wit_clock_source : ∃ s t : State, s.dev.alive = true ∧ s.dev.flag F.TIME_CTRL_CLK_SRC ≠ true ∧ s.dev.tilesQuiet = true ∧
    t.dev.alive = true ∧ t.dev.flag F.TIME_CTRL_CLK_SRC ≠ true ∧ t.dev.tilesQuiet = false :=
  ⟨atF [], atF [(F.TILE_STAT_PLL_STATE 3, 3)], by decide +kernel⟩

theorem wit_slew : ∃ (s : State) (r : Requester) (v : BitVec 32) (w : Nat), s.dev.alive = true ∧
    w = v.toNat + (s.dev.takeStaged r A.TIME_SLEW_HI).1.toNat % 65536 * 2 ^ 32 ∧ w ≠ 0 :=
  ⟨ofD ((({} : Dev).setStaged .cp0 A.TIME_SLEW_HI 0x8000)), .cp0, 0, 0x800000000000, by decide +kernel⟩

theorem wit_slew_zero : ∃ (s : State) (r : Requester) (v : BitVec 32), s.dev.alive = true ∧
    0 = v.toNat + (s.dev.takeStaged r A.TIME_SLEW_HI).1.toNat % 65536 * 2 ^ 32 := ⟨atF [], .cp0, 0, by decide +kernel⟩

theorem wit_step_at : ∃ s : State, s.dev.alive = true ∧ s.dev.flag F.TIME_CTRL_STEP_AT = true :=
  ⟨atF [(F.TIME_CTRL_STEP_AT, 1)], by decide +kernel⟩

theorem wit_step : ∃ (s : State) (r : Requester) (v : BitVec 32) (q : StepReq) (n : TimeVal), s.dev.alive = true ∧
    q = ⟨s.dev.flag F.TIME_CTRL_LOAD_REL,
      (s.dev.takeStaged r A.TIME_LOAD_SEC_LO).1.toNat + (s.dev.takeStaged r A.TIME_LOAD_SEC_HI).1.toNat * 2 ^ 32, v.toNat,
      (s.dev.takeStaged r A.TIME_LOAD_FRAC).1.toNat⟩ ∧
    s.dev.flag F.TIME_CTRL_STEP_AT = false ∧ n = TimeVal.ofFrac (s.dev.stepTarget q % (2 ^ 64 * 1000000000 * 2 ^ 32)).toNat ∧
    n.air ≤ s.dev.nowAir :=
  ⟨timeIn { now := ⟨1, 0, 0⟩ }, .cp0, 999999999, _, _, rfl, rfl, by decide +kernel, rfl, by decide +kernel⟩

theorem wit_step_pending : ∃ (s : State) (q : StepReq) (n : TimeVal), s.dev.alive = true ∧ s.dev.time.stepPend = some q ∧
    n = TimeVal.ofFrac (s.dev.stepTarget q % (2 ^ 64 * 1000000000 * 2 ^ 32)).toNat ∧ n.air ≤ s.dev.nowAir :=
  ⟨timeIn { now := ⟨1, 0, 0⟩, stepPend := some ⟨true, 2 ^ 64 - 1, 0, 0⟩ }, ⟨true, 2 ^ 64 - 1, 0, 0⟩, _, rfl, rfl, rfl,
    by decide +kernel⟩

theorem wit_eval_idle : ∃ s : State, s.dev.alive = true ∧ s.dev.time.meas = [] ∧ s.dev.servo ≠ 2 ∧ s.dev.servo ≠ 3 :=
  ⟨atF [(F.TIME_STATUS_SERVO_STATE, 1)], by decide +kernel⟩

theorem wit_eval_misses : ∀ k ∈ [0, 1], ∃ s : State, s.dev.alive = true ∧ s.dev.time.meas = [] ∧ s.dev.servo = 3 ∧
    s.dev.time.noUpd + k = max 1 (s.dev.getF F.TIME_LOCK_HOLD_TO) := by
  intro k h
  refine ⟨timeIn { noUpd := 9 - k } [(F.TIME_STATUS_SERVO_STATE, 3), (F.TIME_LOCK_HOLD_TO, 9)], ?_⟩
  simp only [List.mem_cons, List.not_mem_nil, or_false] at h
  rcases h with rfl | rfl <;> decide +kernel

theorem wit_eval : ∃ (s : State) (θ : Int) (y : Rat), s.dev.alive = true ∧ s.dev.time.meas = [(0, θ)] ∧
    s.dev.getF F.TIME_MIX_W_PTP ≠ 0 ∧ s.dev.servo = 1 ∧ s.dev.flag F.TIME_CTRL_AUTO = true ∧
    s.dev.flag F.TIME_CTRL_HOLD_FORCE = false ∧ 2 ≤ s.dev.getF F.TIME_LOCK_LOCK_CNT ∧ s.dev.fw.running = false ∧
    y = -((θ : Rat) / 65536 / (2 ^ s.dev.getF F.TIME_SERVO_KP_ACQ : Nat) +
      (s.dev.time.integ + (θ : Rat) / 65536 / (2 ^ s.dev.getF F.TIME_SERVO_KI_ACQ : Nat))) / s.dev.servoNs ∧
    -yLim ≤ y + (s.dev.time.yManual + s.dev.ySlew) ∧ y + (s.dev.time.yManual + s.dev.ySlew) ≤ yLim :=
  ⟨timeIn { meas := [(0, 65536)] } [(F.TIME_MIX_W_PTP, 1), (F.TIME_STATUS_SERVO_STATE, 1), (F.TIME_CTRL_AUTO, 1),
      (F.TIME_LOCK_LOCK_CNT, 2)], 65536, _, by decide +kernel, by decide +kernel, by decide +kernel, by decide +kernel,
    by decide +kernel, by decide +kernel, by decide +kernel, by decide +kernel, rfl, by decide +kernel, by decide +kernel⟩

theorem wit_ptp : ∃ (s : State) (θ : Int), s.dev.alive = true ∧ s.dev.fw.running = true ∧ s.dev.fw.ptpCfg.testBit 0 = true ∧
    s.dev.fw.autoStep = false ∧ fitsBits 48 θ = true ∧ s.dev.time.dropMeas = false :=
  ⟨ofD { fw := { running := true, ptpCfg := 1, autoStep := false } }, -(2 ^ 47), by decide +kernel⟩

/-- Entry 255 of the active timetable, with EN of the sequencer. -/
def entryAt (w0 w1 : Nat) (d : Dev := {}) : State :=
  ofD (setAll d [(F.TTBL_CTRL_EN, 1), (⟨A.TTBL_ACTV_W0 255, 0, 32⟩, w0), (⟨A.TTBL_ACTV_W1 255, 0, 32⟩, w1)])

theorem wit_tt_refused : ∃ s t : State, s.dev.alive = true ∧ s.dev.ttRefused = true ∧ t.dev.alive = true ∧ t.dev.ttRefused = false :=
  ⟨atF [(⟨A.TTBL_STGD_W0 255, 0, 32⟩, 2 ^ 31 + 2 ^ 30)], atF [], by decide +kernel⟩

theorem wit_tt_level : ∃ (s : State) (e : Fin 256) (w : Nat × Nat), s.dev.alive = true ∧ w = s.dev.ttActive e.val ∧
    s.dev.flag F.TTBL_CTRL_EN = true ∧ ttIn w s.dev.frameNow = true ∧
    s.dev.frameStart s.dev.frameNow + (ttOffset w * airNs : Nat) ≤ s.dev.nowAir ∧ ttIsLevel (ttTarget w) = true ∧
    s.dev.mod ≠ .safe ∧ ttMode w = 1 ∧ ttAction w = 3 :=
  ⟨entryAt (2 ^ 31 + 2 ^ 29 + 3 * 2 ^ 27 + 45 * 2 ^ 20) 0, 255, _, by decide +kernel, rfl, by decide +kernel⟩

theorem wit_tt_safe : ∃ (s : State) (e : Fin 256) (w : Nat × Nat), s.dev.alive = true ∧ w = s.dev.ttActive e.val ∧
    s.dev.flag F.TTBL_CTRL_EN = true ∧ ttIn w s.dev.frameNow = true ∧
    s.dev.frameStart s.dev.frameNow + (ttOffset w * airNs : Nat) ≤ s.dev.nowAir ∧ s.dev.mod = .safe ∧ ttTarget w = 33 :=
  ⟨entryAt (2 ^ 31 + 33 * 2 ^ 20) 0 { mod := .safe }, 255, _, by decide +kernel, rfl, by decide +kernel⟩

/-- An entry that rings the doorbell of script 7, with bells pending. -/
def bellAt (b : List Nat) : State := entryAt (2 ^ 31 + 59 * 2 ^ 20) 0 { fw := { running := true, bells := b } }

theorem wit_tt_bell : ∀ b ∈ [[], [7]], (bellAt b).dev.alive = true ∧ (bellAt b).dev.flag F.TTBL_CTRL_EN = true ∧
    ttIn ((bellAt b).dev.ttActive 255) (bellAt b).dev.frameNow = true ∧
    (bellAt b).dev.frameStart (bellAt b).dev.frameNow + (ttOffset ((bellAt b).dev.ttActive 255) * airNs : Nat) ≤
      (bellAt b).dev.nowAir ∧
    ttTarget ((bellAt b).dev.ttActive 255) = 52 + 7 ∧ (bellAt b).dev.fw.running = true ∧ (bellAt b).dev.fw.bells = b ∧
    (∀ x ∈ (bellAt b).dev.fw.scriptsRunning, x.1 ≠ 7) := by decide +kernel

theorem wit_tt_idle : ∃ (s : State) (p : Fin 64), s.dev.alive = true ∧ s.dev.flag F.TTBL_CTRL_EN = false ∧
    p.val ∉ s.dev.ttbl.pulses := ⟨atF [], 63, by decide +kernel⟩

theorem wit_pulse : ∃ (s : State) (p : Fin 64), s.dev.alive = true ∧ p.val ∈ s.dev.ttbl.pulses ∧ ttIsLevel p.val = true :=
  ⟨ofD { ttbl := { pulses := [45] } }, 45, by decide⟩

theorem wit_tt_in : ∃ (s : State) (i : Fin 8), s.dev.alive = true ∧
    (bitsN (s.dev.reg A.TTBL_IN_CFG).toNat (2 * i.val) 2).testBit 0 = true ∧
    (bitsN (s.dev.reg A.TTBL_IN_CFG).toNat (2 * i.val) 2).testBit 1 = false ∧ (s.dev.ttFifo i.val).length < 8 :=
  ⟨atF [(⟨A.TTBL_IN_CFG, 0, 32⟩, 2 ^ 14)], 7, by decide +kernel⟩

theorem wit_tt_in_full : ∃ (s : State) (i : Fin 8), s.dev.alive = true ∧
    (bitsN (s.dev.reg A.TTBL_IN_CFG).toNat (2 * i.val) 2).testBit 1 = true ∧ 8 ≤ (s.dev.ttFifo i.val).length :=
  ⟨ofD (setAll { ttbl := { fifos := [(7, List.replicate 8 ⟨true, 0, 0, 0⟩)] } } [(⟨A.TTBL_IN_CFG, 0, 32⟩, 2 ^ 15)]), 7,
    by decide +kernel⟩

theorem wit_tt_in_read : ∃ (s : State) (i : Fin 8) (x : TtEdge) (l : List TtEdge), s.dev.alive = true ∧
    s.dev.ttFifo i.val = x :: l := ⟨ofD { ttbl := { fifos := [(7, [⟨true, 0, 0, 0⟩])] } }, 7, ⟨true, 0, 0, 0⟩, [], by decide⟩

theorem wit_timeCfg : ∃ (s : State) (h : CmdHdr) (pl : List Byte), CmdOk s h 0x5001 pl ∧ pl.length = 24 ∧ byteAt pl 0 ≤ 1 ∧
    byteAt pl 1 ≤ 7 ∧ byteAt pl 2 ≤ 6 ∧ byteAt pl 3 = 0 ∧ leAt pl 4 4 &&& 0xF0000FF8 = 0 ∧ leAt pl 16 4 &&& 0xFC = 0 ∧
    (byteAt pl 0 = s.dev.getF F.TIME_CTRL_CLK_SRC ∨ s.dev.tilesQuiet = true) :=
  ⟨inMod .standby, hdr0, [1, 7, 6, 0] ++ leBytes 4 0x0FFFF000 ++ leBytes 4 0xFFFFFFFF ++ leBytes 4 0xFFFFFFFF ++
    leBytes 4 0xFFFFFF03 ++ leBytes 4 0xFFFFFFFF, cmdOk_of_first (by decide +kernel), by decide +kernel⟩

theorem wit_timeSet : ∀ b ∈ [(0 : Byte), 3], firstOk (inMod .standby { time := { now := ⟨1, 0, 0⟩ } }) hdr0 0x5002
    ([b, 0, 0, 0] ++ leBytes 8 0 ++ leBytes 4 999999999 ++ leBytes 4 0xFFFFFFFF) = true ∧
    (TimeVal.mk 0 999999999 0xFFFFFFFF).air ≤ (inMod .standby { time := { now := ⟨1, 0, 0⟩ } }).dev.nowAir := by decide +kernel

theorem wit_timeSlew : ∃ (s : State) (h : CmdHdr) (pl : List Byte), CmdOk s h 0x5003 pl ∧ pl.length = 9 ∧
    fitsBits 48 (sgn 64 (leAt pl 0 8)) = true ∧ 1 ≤ byteAt pl 8 ∧ byteAt pl 8 ≤ 200 :=
  ⟨inMod .ready, hdr0, [0, 0, 0, 0, 0, 0x80, 0xFF, 0xFF, 200], cmdOk_of_first (by decide +kernel), by decide +kernel⟩

theorem wit_timeGet : ∃ (s : State) (h : CmdHdr) (pl : List Byte), CmdOk s h 0x5004 pl ∧ pl = [] :=
  ⟨inMod .standby, hdr0, [], cmdOk_of_first (by decide +kernel), rfl⟩

theorem wit_ptpCfg : ∃ (s : State) (h : CmdHdr) (pl : List Byte), CmdOk s h 0x5005 pl ∧ pl.length = 4 :=
  ⟨inMod .standby, hdr0, [3, 127, 7, 0], cmdOk_of_first (by decide +kernel), rfl⟩

theorem wit_ttWrite : ∃ (s : State) (h : CmdHdr) (pl : List Byte), CmdOk s h 0x5010 pl ∧ 1 ≤ byteAt pl 1 ∧ byteAt pl 1 ≤ 64 ∧
    byteAt pl 0 + byteAt pl 1 ≤ 256 ∧ pl.length = 4 + 8 * byteAt pl 1 :=
  ⟨inMod .ready, hdr0, [255, 1, 0, 0] ++ List.replicate 8 0, cmdOk_of_first (by decide +kernel), by decide +kernel⟩

theorem wit_ttCommit : ∃ (s : State) (h : CmdHdr) (pl : List Byte), CmdOk s h 0x5011 pl ∧ pl = [] ∧ s.dev.ttRefused = false :=
  ⟨inMod .ready, hdr0, [], cmdOk_of_first (by decide +kernel), by decide +kernel⟩

theorem wit_ttRead : ∃ (s : State) (h : CmdHdr) (pl : List Byte), CmdOk s h 0x5012 pl ∧ pl.length = 4 ∧ 1 ≤ byteAt pl 1 ∧
    byteAt pl 1 ≤ 64 ∧ byteAt pl 0 + byteAt pl 1 ≤ 256 ∧ byteAt pl 2 ≤ 1 :=
  ⟨inMod .ready, hdr0, [192, 64, 1, 0], cmdOk_of_first (by decide +kernel), by decide +kernel⟩

theorem wit_ttScript : ∃ (s : State) (h : CmdHdr) (pl : List Byte) (fs : List (List Byte)), CmdOk s h 0x5013 pl ∧
    4 ≤ pl.length ∧ pl.length ≤ 4096 ∧ byteAt pl 0 ≤ 5 ∧ byteAt pl 1 ≤ 16 ∧ scriptFrames (byteAt pl 1) (pl.drop 4) = some fs ∧
    (∀ x ∈ s.dev.fw.scriptsRunning, x.1 ≠ byteAt pl 0) :=
  ⟨inMod .ready, hdr0, [5, 1, 0, 0] ++ List.replicate 8 0, [List.replicate 8 0], cmdOk_of_first (by decide +kernel),
    by decide +kernel⟩

/-- A block whose bands lie at 3.5 GHz. -/
def bandDev : Dev :=
  { rf := { bands := [(0, some (3500000000, 3500000000))], nco := [(0, bandWord .tx 3500000000), (1, bandWord .rx 3500000000)] } }

theorem wit_rmbCfg : ∃ (s : State) (h : CmdHdr) (pl : List Byte) (f gt gr wt wr : Nat), CmdOk s h 0x6001 pl ∧ pl.length = 20 ∧
    byteAt pl 0 ≤ 63 ∧ byteAt pl 1 ≤ 63 ∧ byteAt pl 2 ≤ 63 ∧ byteAt pl 3 ≤ 63 ∧ leAt pl 12 2 ≤ 0xFFF ∧ byteAt pl 18 ≤ 15 ∧
    f = leAt pl 4 8 ∧ gt = s.dev.bandGroup (tileOf (byteAt pl 0)) ∧ gr = s.dev.bandGroup (tileOf (byteAt pl 1)) ∧
    gr = s.dev.bandGroup (tileOf (byteAt pl 2)) ∧ s.dev.rmbChannelOk f gt .tx = true ∧ s.dev.rmbChannelOk f gr .rx = true ∧
    carWord ((f : Rat) - s.dev.bandFreq gt .tx) = some wt ∧ carWord ((f : Rat) - s.dev.bandFreq gr .rx) = some wr :=
  ⟨inMod .ready bandDev, hdr0, [63, 63, 62, 63] ++ leBytes 8 3500000000 ++ [0xFF, 0x0F, 0xFF, 0xFF, 255, 255, 15, 0], 3500000000,
    0, 0, 0, 0, cmdOk_of_first (by decide +kernel), by decide +kernel⟩

theorem wit_rmbSend : ∃ (s : State) (h : CmdHdr) (pl : List Byte), CmdOk s h 0x6002 pl ∧ s.dev.ready 14 = true ∧
    byteAt pl 0 ∈ [1, 5] ∧ leAt pl 2 2 ≤ 0xFFF ∧ 1 ≤ leAt pl 12 2 ∧ leAt pl 12 2 ≤ 2048 ∧
    pl.length = 16 + (if byteAt pl 0 = 1 then leAt pl 12 2 else 0) ∧
    ((byteAt pl 1).testBit 2 = true → leAt pl 8 4 < 1000000000) ∧ leAt pl 12 2 ≤ s.dev.rmbLargest ∧ s.dev.rmbQueued < 16 :=
  ⟨inMod .ready (setAll {} [(F.SYS_FUNC_READY_READY, 2 ^ 14), (F.RMB_WIN_CFG_WIN_US, 255)]), hdr0,
    [1, 7, 0xFF, 0x0F, 0, 0, 0, 0, 0xFF, 0xC9, 0x9A, 0x3B, 1, 0, 0, 0, 0], cmdOk_of_first (by decide +kernel), by decide +kernel⟩

theorem wit_rmbTt : ∃ (s : State) (h : CmdHdr) (pl : List Byte), CmdOk s h 0x6003 pl ∧ pl.length = 12 ∧ 1 ≤ byteAt pl 1 ∧
    leAt pl 2 2 ≤ 0xFFF :=
  ⟨inMod .ready, hdr0, [3, 1, 0xFF, 0x0F, 0, 0, 0, 0, 0, 0, 0, 0], cmdOk_of_first (by decide +kernel), by decide +kernel⟩

theorem wit_coexCfg : ∃ (s : State) (h : CmdHdr) (pl : List Byte), CmdOk s h 0x6004 pl ∧ pl.length = 4 ∧ byteAt pl 2 ≤ 15 ∧
    byteAt pl 0 % 4 = 0 := ⟨inMod .ready, hdr0, [4, 255, 15, 0], cmdOk_of_first (by decide +kernel), by decide +kernel⟩

theorem wit_rmbStat : ∃ (s : State) (h : CmdHdr) (pl : List Byte), CmdOk s h 0x6005 pl ∧ pl = [] :=
  ⟨inMod .ready, hdr0, [], cmdOk_of_first (by decide +kernel), rfl⟩

/-! The Rambler. -/

/-- The Rambler as given, its ring at the start of the Hamper. -/
def rmbIn (b : RmbSt) (fs : List (Fld × Nat) := []) (d : Dev := {}) : State :=
  ofD (setAll { d with rmb := b } ((⟨A.RMB_RX_BASE, 0, 32⟩, 0x10000000) :: fs))

/-- A header of a TYPE with flag ACK_REQ, to a unit, its length and its check. -/
def hdrTo (type ack dst n : Nat) : BitVec 64 :=
  let m := type * 2 ^ 44 + ack * 2 ^ 43 + 9 * 2 ^ 35 + 7 * 2 ^ 23 + dst * 2 ^ 11 + (n - 1)
  BitVec.ofNat 64 (m * 65536 + crc16 (beBytes 6 m))

/-- A payload with its check, and a report without a preamble. -/
def withCrc (p : List Byte) : List Byte := p ++ beBytes 4 (crc32 p)
def rxOf (bs : List Byte) (evm : Int := -80) : RxPayload := ⟨0, bs, evm, 0, 0, 0⟩
def rx10 (h : BitVec 64) : RmbRx := { level := 4, branch := false, lev0 := 0, lev1 := 0, hdr := h }

theorem wit_window_open : ∃ s : State, s.dev.alive = true ∧ s.dev.flag F.TTBL_STAT_RMB_WIN = true ∧ s.dev.rmb.opened = none :=
  ⟨rmbIn {} [(F.TTBL_STAT_RMB_WIN, 1)], by decide +kernel⟩

theorem wit_window_close : ∀ st ∈ [1, 2, 3], ∃ (s : State) (x : RmbRx), s.dev.alive = true ∧ s.dev.flag F.TTBL_STAT_RMB_WIN = false ∧
    s.dev.rmb.opened ≠ none ∧ s.dev.rmb.rx = some x ∧ s.dev.rxState = st ∧ s.dev.rmb.burst = none ∧ RingReady s := by
  intro st h
  refine ⟨rmbIn { opened := some 0, rx := some (rx10 0), nextSlot := 15 } [(F.RMB_STATUS_RX_STATE, st)], rx10 0, ?_⟩
  simp only [List.mem_cons, List.not_mem_nil, or_false] at h
  rcases h with rfl | rfl | rfl <;>
    exact ⟨by decide +kernel, by decide +kernel, by decide +kernel, rfl, by decide +kernel, rfl, ⟨rfl, rfl, by decide +kernel⟩⟩

theorem wit_preamble : ∃ (s : State) (p : Preamble), s.dev.alive = true ∧ s.dev.rmbHears = true ∧ s.dev.rmb.rx = none ∧ p.at0 < p.at1 :=
  ⟨rmbIn { opened := some 0 } [(F.RMB_CTRL_RX_EN, 1)], ⟨0, 0, 3, 4⟩, by decide +kernel⟩

/-- A window in which the receiver hears, on a packet, in a state. -/
def hearing (st : Nat) : State := rmbIn { opened := some 0, rx := some (rx10 0) } [(F.RMB_CTRL_RX_EN, 1), (F.RMB_STATUS_RX_STATE, st)]

theorem wit_preamble_captures : ∃ (s : State) (p q : Preamble) (x : RmbRx), s.dev.alive = true ∧ s.dev.rmbHears = true ∧
    s.dev.rmb.rx = some x ∧ s.dev.rxState = 1 ∧ x.level ≤ p.at0 ∧ p.at1 < p.at0 ∧ q.at0 < x.level ∧ q.at1 < x.level ∧ q.at0 ≠ q.at1 :=
  ⟨hearing 1, ⟨0, 0, 4, 3⟩, ⟨0, 0, 3, 2⟩, rx10 0, by decide +kernel⟩

theorem wit_preamble_threshold : ∀ st ∈ [2, 3], ∃ (s : State) (p q : Preamble) (x : RmbRx), s.dev.alive = true ∧
    s.dev.rmbHears = true ∧ s.dev.rmb.rx = some x ∧ s.dev.rxState = st ∧ q.at0 ≠ q.at1 ∧
    q.at0 < x.level + (clampN 3 15 (s.dev.getF F.RMB_RXCFG_CAPTURE_DB) : Nat) ∧
    q.at1 < x.level + (clampN 3 15 (s.dev.getF F.RMB_RXCFG_CAPTURE_DB) : Nat) ∧ p.at0 < p.at1 ∧ RingReady s ∧
    x.level + (clampN 3 15 (s.dev.getF F.RMB_RXCFG_CAPTURE_DB) : Nat) ≤ p.at1 := by
  intro st h
  refine ⟨hearing st, ⟨0, 0, 4, 19⟩, ⟨0, 0, 4, 5⟩, rx10 0, ?_⟩
  simp only [List.mem_cons, List.not_mem_nil, or_false] at h
  rcases h with rfl | rfl <;>
    exact ⟨by decide +kernel, by decide +kernel, rfl, by decide +kernel, by decide +kernel, by decide +kernel, by decide +kernel,
      by decide +kernel, ⟨rfl, rfl, by decide +kernel⟩, by decide +kernel⟩

theorem wit_header : ∃ (s : State) (x : RmbRx) (bad other mine : BitVec 64), s.dev.alive = true ∧ s.dev.rmb.rx = some x ∧
    s.dev.rxState = 2 ∧ hdrOk bad = false ∧ hdrOk other = true ∧ hdrDst other ≠ s.dev.unitId ∧ hdrDst other ≠ 0xFFF ∧
    hdrOk mine = true ∧ hdrDst mine = 0xFFF := ⟨hearing 2, rx10 0, 0, hdrTo 1 0 0x7FF 1, hdrTo 5 0 0xFFF 2048, by decide +kernel⟩

/-- The receiver in the payload of a frame. -/
def inFrame (h : BitVec 64) (b : RmbSt := {}) (fs : List (Fld × Nat) := []) : State :=
  rmbIn { b with opened := some 0, rx := some (rx10 h) } ([(F.RMB_CTRL_UNIT, 5), (F.RMB_CTRL_RX_EN, 1), (F.RMB_STATUS_RX_STATE, 3)] ++ fs)

/-- What the frame clauses need of such a state. -/
theorem inFrame_ready (h : BitVec 64) (b : RmbSt) (fs : List (Fld × Nat)) (e : (inFrame h b fs).dev.fw.running = false)
    (hs : (inFrame h b fs).dev.rmb.slots = 0)
    (hl : inHamper (((inFrame h b fs).dev.reg A.RMB_RX_BASE).toNat + 2112 * ((inFrame h b fs).dev.rmb.nextSlot % 16)) 2112 = true) :
    RingReady (inFrame h b fs) := ⟨e, hs, hl⟩

theorem wit_payload_crc : ∃ (s : State) (x : RmbRx) (good bad : RxPayload) (n : Nat), s.dev.alive = true ∧ s.dev.rmb.rx = some x ∧
    s.dev.rxState = 3 ∧ n = hdrLen x.hdr ∧ good.bytes.length = n + 4 ∧ bad.bytes.length = n + 4 ∧ RingReady s ∧
    crc32 (bad.bytes.take n) ≠ beAt bad.bytes n 4 ∧ crc32 (good.bytes.take n) = beAt good.bytes n 4 ∧
    hdrDst x.hdr ≠ s.dev.unitId :=
  ⟨inFrame (hdrTo 1 0 0xFFF 1), rx10 (hdrTo 1 0 0xFFF 1), rxOf (withCrc [1]), rxOf [1, 0, 0, 0, 0], 1, by decide +kernel, rfl,
    by decide +kernel, by decide +kernel, by decide +kernel, by decide +kernel,
    inFrame_ready _ _ _ rfl rfl (by decide +kernel), by decide +kernel, by decide +kernel, by decide +kernel⟩

theorem wit_rmb_queues : ∃ s t : State, s.dev.alive = true ∧ s.dev.rmb.rxq = [(1, 15)] ∧ s.dev.rmb.done = [(8, 63, 2 ^ 31)] ∧
    t.dev.alive = true ∧ t.dev.rmb.rxq = [] ∧ t.dev.rmb.done = [] :=
  ⟨rmbIn { rxq := [(1, 15)], done := [(8, 63, 2 ^ 31)] }, rmbIn {}, by decide +kernel⟩

theorem wit_frame_data : ∀ a ∈ [0, 1], (inFrame (hdrTo 1 a 5 1)).dev.alive = true ∧ (inFrame (hdrTo 1 a 5 1)).dev.rxState = 3 ∧
    hdrLen (hdrTo 1 a 5 1) = 1 ∧ (rxOf (withCrc [1])).bytes.length = 5 ∧
    crc32 ((rxOf (withCrc [1])).bytes.take 1) = beAt (rxOf (withCrc [1])).bytes 1 4 ∧
    hdrDst (hdrTo 1 a 5 1) = (inFrame (hdrTo 1 a 5 1)).dev.unitId ∧ hdrType (hdrTo 1 a 5 1) = 1 ∧
    (hdrTo 1 a 5 1).toNat.testBit 59 = (a == 1) ∧ hdrType (hdrTo 3 0 5 1) = 3 ∧ (rxOf []).evm ≤ -80 := by decide +kernel

theorem wit_frame_ack : ∃ (s : State) (x : RmbRx) (rx : RxPayload) (a : RmbAck), s.dev.alive = true ∧ s.dev.rmb.rx = some x ∧
    s.dev.rxState = 3 ∧ rx.bytes.length = hdrLen x.hdr + 4 ∧ RingReady s ∧
    crc32 (rx.bytes.take (hdrLen x.hdr)) = beAt rx.bytes (hdrLen x.hdr) 4 ∧ hdrDst x.hdr = s.dev.unitId ∧ hdrType x.hdr = 2 ∧
    s.dev.rmb.acks = [a] ∧ a.tx.seq = byteAt rx.bytes 0 % 64 ∧ a.tx.dst = hdrSrc x.hdr ∧ a.tx.hw = false ∧ a.tx.fw = false ∧
    a.timing = true :=
  ⟨inFrame (hdrTo 2 0 5 1) { acks := [⟨{ type := 1, dst := 7, n := 1, seq := 63 }, true⟩] }, rx10 (hdrTo 2 0 5 1),
    rxOf (withCrc [63]), ⟨{ type := 1, dst := 7, n := 1, seq := 63 }, true⟩, by decide +kernel, rfl, by decide +kernel,
    by decide +kernel, inFrame_ready _ _ _ rfl rfl (by decide +kernel), by decide +kernel⟩

/-- The payload of a time response to request 63, with t2 and t3. -/
def timeResp : List Byte := [63, 0, 0, 0, 0, 8, 0, 0, 0, 0, 16]

theorem wit_frame_time : ∃ (s : State) (x : RmbRx) (rx : RxPayload) (e : RmbExch) (t1 t2 t3 : Int), s.dev.alive = true ∧
    s.dev.rmb.rx = some x ∧ s.dev.rxState = 3 ∧ 11 = hdrLen x.hdr ∧ rx.bytes.length = 11 + 4 ∧ RingReady s ∧
    crc32 (rx.bytes.take 11) = beAt rx.bytes 11 4 ∧ hdrDst x.hdr = s.dev.unitId ∧ hdrType x.hdr = 4 ∧ s.dev.rmb.exch = some e ∧
    e.t1 = some t1 ∧ e.seq = byteAt rx.bytes 0 % 64 ∧ hdrSrc x.hdr = s.dev.getF F.RMB_TT_PEER ∧ rx.evm ≤ -80 ∧
    e.stepped = false ∧ t2 % 2 ^ 40 = (beAt rx.bytes 1 5 : Nat) ∧ t3 % 2 ^ 40 = (beAt rx.bytes 6 5 : Nat) ∧
    (t2 - t1).natAbs < 2 ^ 39 ∧ (t3 - x.ts).natAbs < 2 ^ 39 :=
  ⟨inFrame (hdrTo 4 0 5 11) { exch := some { seq := 63, t1 := some 3 } } [(F.RMB_TT_PEER, 7)], rx10 (hdrTo 4 0 5 11),
    rxOf (withCrc timeResp), { seq := 63, t1 := some 3 }, 3, 8, 16, by decide +kernel, rfl, by decide +kernel, by decide +kernel,
    by decide +kernel, inFrame_ready _ _ _ rfl rfl (by decide +kernel), by decide +kernel⟩

theorem wit_ack_timer : ∃ (s t : State) (a b : RmbAck), s.dev.alive = true ∧ s.dev.rmb.acks = [a] ∧ a.tx.seq = (63 : BitVec 6).toNat ∧
    a.timing = true ∧ a.tx.tries ≤ s.dev.getF F.RMB_ACK_RETRY ∧ t.dev.alive = true ∧ t.dev.rmb.acks = [b] ∧
    b.tx.seq = (63 : BitVec 6).toNat ∧ b.timing = true ∧ t.dev.getF F.RMB_ACK_RETRY < b.tx.tries ∧ b.tx.hw = false ∧
    b.tx.fw = false :=
  ⟨rmbIn { acks := [⟨{ type := 1, dst := 7, n := 1, seq := 63, tries := 1 }, true⟩] } [(F.RMB_ACK_RETRY, 1)],
    rmbIn { acks := [⟨{ type := 1, dst := 7, n := 1, seq := 63, tries := 2 }, true⟩] } [(F.RMB_ACK_RETRY, 1)],
    ⟨{ type := 1, dst := 7, n := 1, seq := 63, tries := 1 }, true⟩, ⟨{ type := 1, dst := 7, n := 1, seq := 63, tries := 2 }, true⟩,
    by decide +kernel⟩

theorem wit_exchange_timer : ∃ (s : State) (e : RmbExch) (t1 : Int), s.dev.alive = true ∧ s.dev.rmb.exch = some e ∧ e.t1 = some t1 :=
  ⟨rmbIn { exch := some { seq := 63, t1 := some 3 } }, { seq := 63, t1 := some 3 }, 3, by decide +kernel⟩

/-- A frame with a descriptor. -/
def tx10 : RmbTx := { type := 1, dst := 7, n := 1 }

theorem wit_txq_full : ∃ s : State, s.dev.alive = true ∧ 16 ≤ s.dev.rmbQueued :=
  ⟨rmbIn { txq := List.replicate 16 tx10 }, by decide +kernel⟩

/-- A descriptor of a SOUND frame at the start of the Hamper. -/
def descMem : Mem := memWrites [] [(0x10000000, [0, 0xF0, 0xFF, 0x54])]

theorem wit_txq_push : ∃ (s : State) (desc : BitVec 32) (b : List Byte), s.dev.alive = true ∧ b = memRead s.mem desc.toNat 32 ∧
    s.dev.rmbQueued < 16 ∧ inHamper desc.toNat 32 = true ∧ s.dev.memi.ecc = [] ∧ leAt b 0 4 / 2 ^ 28 ∈ [1, 5] ∧
    (leAt b 0 4).testBit 24 = false ∧ (leAt b 0 4).testBit 11 = false ∧ zeroAt b 16 16 = true :=
  ⟨{ rmbIn {} with mem := descMem }, 0x10000000, memRead descMem 0x10000000 32, by decide +kernel⟩

theorem wit_txq_refused : ∃ (s : State) (desc : BitVec 32) (b : List Byte), s.dev.alive = true ∧ b = memRead s.mem desc.toNat 32 ∧
    s.dev.rmbQueued < 16 ∧ inHamper desc.toNat 32 = true ∧ s.dev.memi.ecc = [] ∧ leAt b 0 4 / 2 ^ 28 ∉ [1, 3, 5] :=
  ⟨rmbIn {}, 0x10000000, memRead [] 0x10000000 32, by decide +kernel⟩

theorem wit_time_interval : ∀ e ∈ [none, some ({ seq := 63 } : RmbExch)],
    let s := rmbIn { exch := e, interval := 1 } [(F.RMB_TT_REQ_EN, 1)] { fw := { running := true } }
    s.dev.alive = true ∧ s.dev.fw.running = true ∧ s.dev.rmb.interval ≠ 0 ∧ s.dev.flag F.RMB_TT_REQ_EN = true ∧
    s.dev.rmbQueued < 16 ∧ s.dev.rmb.exch = e := by decide +kernel

/-- A block with a frame queued, in a transmit window that has 255 µs, its tile running and its PLLs locked as given. -/
def sending (lock : Bool) (run : Nat) (b : RmbSt := {}) (fs : List (Fld × Nat) := []) : State :=
  rmbIn { b with txq := [tx10], opened := some 0, locked := lock } ([(F.RMB_WIN_CFG_WIN_US, 255), (F.RMB_STATUS_TXWIN, 1),
    (F.RMB_CTRL_TX_EN, 1), (F.TILE_STAT_PLL_STATE 0, 3), (F.AUXD_STAT_TXMUTE, 0), (runF 0 .tx, run), (stoppedF 0 .tx, 1 - run)] ++ fs) { mod := .ready }

theorem wit_burst_at : ∃ (s t : State) (x y : RmbTx) (w : Nat × Nat), s.dev.alive = true ∧ s.dev.rmb.txq = [x] ∧
    s.dev.rmb.burst = none ∧ s.dev.rmb.hold = none ∧ x.at_ = some w ∧ s.dev.nowAir < s.dev.atAir w ∧ t.dev.alive = true ∧
    t.dev.rmb.txq = [y] ∧ t.dev.rmb.burst = none ∧ t.dev.rmb.hold = none ∧ y.at_ = some w ∧
    t.dev.atAir w + (airSample : Int) ≤ t.dev.nowAir ∧ y.hw = false ∧ y.fw = false :=
  ⟨rmbIn { txq := [{ tx10 with at_ := some (9, 1) }] },
    rmbIn { txq := [{ tx10 with at_ := some (9, 1) }] } [] { time := { now := ⟨2, 0, 0⟩ } }, { tx10 with at_ := some (9, 1) },
    { tx10 with at_ := some (9, 1) }, (9, 1), by decide +kernel⟩

theorem wit_burst_long : ∃ (s : State) (x : RmbTx), s.dev.alive = true ∧ s.dev.rmb.txq = [x] ∧ s.dev.rmb.burst = none ∧
    s.dev.rmb.hold = none ∧ x.at_ = none ∧ s.dev.rmbTooLong x.n = true ∧ x.hw = false ∧ x.fw = false :=
  ⟨rmbIn { txq := [{ tx10 with n := 2048 }] } [(F.RMB_WIN_CFG_WIN_US, 1)], { tx10 with n := 2048 }, by decide +kernel⟩

/-- What every burst of such a block meets. -/
def canStart (s : State) : Bool :=
  s.dev.alive && decide (s.dev.rmb.txq = [tx10]) && s.dev.rmb.burst.isNone && s.dev.rmb.hold.isNone && !s.dev.rmbTooLong 1 &&
    s.dev.txWindow && !s.dev.rmb.gone

theorem wit_burst_waits : (rmbIn { txq := [tx10] } [(F.RMB_WIN_CFG_WIN_US, 255)]).dev.txWindow = false ∧
    (rmbIn { txq := [tx10] } [(F.RMB_WIN_CFG_WIN_US, 255)]).dev.rmbTooLong 1 = false := by decide +kernel

theorem wit_burst_blocked : canStart (sending true 0) = true ∧ (sending true 0).dev.rmbBlocked = true := by decide +kernel

theorem wit_burst_held : canStart (sending false 1) = true ∧ (sending false 1).dev.rmbBlocked = false ∧
    (sending false 1).dev.rmbLocked = false := by decide +kernel

theorem wit_burst_denied : ∀ k ∈ [1, 2], let s := sending true 1 {} [(F.COEX_CTRL_YIELD_EN, 1), (F.COEX_STAT_REQ_IN, 1), (F.COEX_CTRL_MAX_DEFER, k)]
    canStart s = true ∧ s.dev.rmbBlocked = false ∧ s.dev.rmbLocked = true ∧ s.dev.flag F.COEX_CTRL_YIELD_EN = true ∧
    s.dev.flag F.COEX_STAT_REQ_IN = true ∧ (decide (tx10.denials + 1 < max 1 (s.dev.getF F.COEX_CTRL_MAX_DEFER)) = (k == 2)) := by
  decide +kernel

theorem wit_burst_sent : canStart (sending true 1) = true ∧ (sending true 1).dev.rmbBlocked = false ∧
    (sending true 1).dev.rmbLocked = true ∧ (sending true 1).dev.flag F.COEX_CTRL_YIELD_EN = false ∧
    (sending true 1).dev.flag F.COEX_CTRL_REQ_EN = false ∧ (sending true 1).dev.rmbMuted = false ∧
    (sending true 1).dev.memi.ecc = [] := by decide +kernel

/-- A burst held for a lock. -/
def heldAt : State := sending true 1 { hold := some tx10 }

theorem wit_lock_releases : heldAt.dev.alive = true ∧ heldAt.dev.rmb.hold = some tx10 ∧
    heldAt.dev.getF (F.TILE_STAT_PLL_STATE (tileOf heldAt.dev.rmbTxPath)) = 3 ∧ heldAt.dev.rmbBlocked = false ∧
    heldAt.dev.rmb.opened ≠ none ∧ heldAt.dev.rmbFits tx10.n heldAt.dev.nowAir = true ∧
    heldAt.dev.flag F.COEX_CTRL_YIELD_EN = false ∧ heldAt.dev.flag F.COEX_CTRL_REQ_EN = false ∧ heldAt.dev.rmbMuted = false ∧
    heldAt.dev.memi.ecc = [] ∧ tx10.hw = false ∧ tx10.fw = false := by decide +kernel

theorem wit_burst_end : ∀ ack ∈ [true, false], let s := rmbIn { burst := some ({ tx10 with ackReq := ack }, 0) }
    s.dev.alive = true ∧ s.dev.rmb.burst = some ({ tx10 with ackReq := ack }, 0) ∧ ({ tx10 with ackReq := ack } : RmbTx).acked = false ∧
    ({ tx10 with acked := true } : RmbTx).acked = true := by decide +kernel

theorem wit_coex_request : ∃ (s : State) (x : RmbTx), s.dev.alive = true ∧ s.dev.rmb.txq = [x] ∧
    s.dev.flag F.COEX_CTRL_REQ_EN = true ∧ s.dev.mod ≠ .safe ∧ s.dev.rmb.burst = none :=
  ⟨sending true 1 {} [(F.COEX_CTRL_REQ_EN, 1)], tx10, by decide +kernel⟩

theorem wit_coex_in : ∃ s t : State, s.dev.alive = true ∧ s.dev.flag F.COEX_CTRL_YIELD_EN = true ∧ s.dev.rmb.burst = none ∧
    s.dev.mod ≠ .safe ∧ t.dev.alive = true ∧ t.dev.flag F.COEX_CTRL_YIELD_EN = true ∧ t.dev.rmb.burst ≠ none :=
  ⟨rmbIn {} [(F.COEX_CTRL_YIELD_EN, 1)], rmbIn { burst := some (tx10, 0) } [(F.COEX_CTRL_YIELD_EN, 1)], by decide +kernel⟩

/-! Front-end control. -/

/-- Channel 95 of the bias DACs: enabled, its range 0 to 8190, driven as given, with a queue. -/
def auxAt (q : List Nat) (driven gain code : Nat) (fs : List (Fld × Nat) := []) : State :=
  ofD (setAll { fe := { aux := { queues := [(95, q)] } } } ([(F.AUXD_CHn_CFG_EN 95, 1), (F.AUXD_CHn_STAT_DRIVEN 95, driven),
    (F.AUXD_CHn_STAT_GAIN 95, gain), (F.AUXD_CHn_STAT_CODE 95, code), (F.AUXD_CHn_LIM_MIN 95, 0),
    (F.AUXD_CHn_LIM_MAX 95, 8190)] ++ fs))

/-- The limits of channel 95 there. -/
def auxLo (s : State) : Nat := (s.dev.auxLimits 95).1
def auxHi (s : State) : Nat := (s.dev.auxLimits 95).2

theorem wit_aux_queue : ∃ s t : State, s.dev.alive = true ∧ (s.dev.auxQ 95).length < 16 ∧ t.dev.alive = true ∧ 16 ≤ (t.dev.auxQ 95).length :=
  ⟨atF [], auxAt (List.replicate 16 0) 0 0 0, by decide +kernel⟩

/-- What every pop of channel 95 meets, and what its entry must lie between. -/
def pops (s : State) (e : Nat) (q : List Nat) : Bool :=
  s.dev.alive && !s.dev.fe.aux.clearing.contains 95 && !s.dev.flag (F.AUXD_CHn_STAT_HOLDING 95) && s.dev.flag (F.AUXD_CHn_CFG_EN 95) &&
    s.dev.getF (F.AUXD_CHn_CFG_GROUP 95) == 0 && s.dev.auxQ 95 == e :: q && decide (e / 4096 ≤ 1)

theorem wit_aux_straight : pops (auxAt [4095, 1] 0 0 0) 4095 [1] = true ∧
    (auxAt [4095, 1] 0 0 0).dev.flag (F.AUXD_CHn_STAT_DRIVEN 95) = false ∧ auxLo (auxAt [4095, 1] 0 0 0) ≤ 4095 * (1 + 4095 / 4096) ∧
    4095 * (1 + 4095 / 4096) ≤ auxHi (auxAt [4095, 1] 0 0 0) := by decide +kernel

theorem wit_aux_clamped : let s := auxAt [8191] 0 0 0 [(F.AUXD_CHn_LIM_MAX 95, 99)]
    pops s 8191 [] = true ∧ s.dev.flag (F.AUXD_CHn_STAT_DRIVEN 95) = false ∧ auxHi s < 4095 * (1 + 1) ∧
    auxLo s ≤ auxHi s / (1 + 1) * (1 + 1) := by decide +kernel

theorem wit_aux_hold : ∀ c ∈ [255, 256], let s := auxAt [c] 1 0 0
    pops s c [] = true ∧ s.dev.flag (F.AUXD_CHn_STAT_DRIVEN 95) = true ∧ auxLo s ≤ c * (1 + 0) ∧ c * (1 + 0) ≤ auxHi s ∧
    auxLo s ≤ auxValue (s.dev.getF (F.AUXD_CHn_STAT_GAIN 95)) (s.dev.getF (F.AUXD_CHn_STAT_CODE 95)) ∧
    auxValue (s.dev.getF (F.AUXD_CHn_STAT_GAIN 95)) (s.dev.getF (F.AUXD_CHn_STAT_CODE 95)) ≤ auxHi s ∧
    decide (c / 256 = s.dev.getF (F.AUXD_CHn_STAT_CODE 95) / 256) = (c == 255) ∧ 0 = s.dev.getF (F.AUXD_CHn_STAT_GAIN 95) := by
  decide +kernel

theorem wit_aux_clearing : ∃ (s : State) (ch : Fin 96) (e : Nat), s.dev.alive = true ∧ ch.val ∈ s.dev.fe.aux.clearing ∧ e < 8192 ∧
    Tab.get (fun _ => none) ch.val s.dev.fe.aux.holds = some e :=
  ⟨ofD { fe := { aux := { clearing := [95], holds := [(95, some 8191)] } } }, 95, 8191, by decide +kernel⟩

theorem wit_aux_idle : ∃ (s : State) (ch : Fin 96), s.dev.alive = true ∧ ch.val ∉ s.dev.fe.aux.clearing ∧
    s.dev.flag (F.AUXD_CHn_CFG_EN ch.val) = false ∧ Tab.get (fun _ => none) ch.val s.dev.fe.aux.holds = none :=
  ⟨atF [], 95, by decide +kernel⟩

theorem wit_spi_start : ∃ (s t : State) (k : Fin 4), s.dev.alive = true ∧ s.dev.flag (F.FESPIk_STAT_BUSY k.val) = false ∧
    s.dev.flag (F.FESPIk_CFG_EN k.val) = true ∧ t.dev.alive = true ∧ t.dev.flag (F.FESPIk_STAT_BUSY k.val) = true :=
  ⟨atF [(F.FESPIk_CFG_EN 3, 1)], atF [(F.FESPIk_STAT_BUSY 3, 1)], 3, by decide +kernel⟩

theorem wit_spi_done : ∃ (s : State) (k : Fin 4) (x : SpiXfer), s.dev.alive = true ∧
    Tab.get (fun _ => none) k.val s.dev.fe.spi = some x := ⟨ofD { fe := { spi := [(3, some ⟨64, 3, true, 0⟩)] } }, 3, ⟨64, 3, true, 0⟩, by decide +kernel⟩

theorem wit_i2c : ∃ (s t : State) (x : I2cXfer), s.dev.alive = true ∧ s.dev.flag F.FEI2C_STAT_BUSY = false ∧
    s.dev.flag F.FEI2C_CFG_EN = true ∧ t.dev.alive = true ∧ t.dev.fe.i2c = some x ∧ x.count ≤ 16 ∧ s.dev.fe.i2c = none :=
  ⟨atF [(F.FEI2C_CFG_EN, 1)], ofD { fe := { i2c := some ⟨true, false, 127, 16, []⟩ } }, ⟨true, false, 127, 16, []⟩, by decide +kernel⟩

/-- Monitor converter 1 as given. -/
def monIn (m : MonSt) (fs : List (Fld × Nat) := []) (d : Dev := {}) : State :=
  ofD (setAll { d with fe := { d.fe with mon := [(1, m)] } } fs)

theorem wit_inject : ∃ s t : State, s.dev.alive = true ∧ (s.dev.monc 1).inj.length < 4 ∧ t.dev.alive = true ∧
    4 ≤ (t.dev.monc 1).inj.length := ⟨atF [], monIn { inj := List.replicate 4 (0, false) }, by decide +kernel⟩

/-- What every conversion of converter 1 meets. -/
def converts (s : State) : Bool := s.dev.alive && decide (s.dev.time.now.ns < 1000000000) && !s.dev.monCal 1

theorem wit_conversion_idle : converts (monIn {}) = true ∧ ((monIn {}).dev.monc 1).cur = none := by decide +kernel

theorem wit_conversion_list : let s := monIn { cur := some 0, cont := 159 } [(F.MON_CLIST_INPUT 1 159, 159)]
    converts s = true ∧ (s.dev.monc 1).trig ≠ some 0 ∧ (s.dev.monc 1).cur = some 0 ∧ 159 = s.dev.getF (F.MON_CLIST_INPUT 1 (s.dev.monc 1).cont) := by
  decide +kernel

theorem wit_conversion_injected : let s := monIn { cur := some 2, inj := [(159, false)] }
    converts s = true ∧ (s.dev.monc 1).cur = some 2 ∧ (s.dev.monc 1).inj = [(159, false)] := by decide +kernel

theorem wit_conversion_triggered : let s := monIn { cur := some 1, trig := some 15 } [(F.MON_TLIST_INPUT 1 15, 159)]
    converts s = true ∧ (s.dev.monc 1).cur = some 1 ∧ (s.dev.monc 1).trig = some 15 ∧ 159 = s.dev.getF (F.MON_TLIST_INPUT 1 15) := by
  decide +kernel

theorem wit_conversion_first : let s := monIn { trig := some 0 } [(F.MON_TLIST_INPUT 1 0, 159)]
    converts s = true ∧ (s.dev.monc 1).trig = some 0 ∧ (s.dev.monc 1).inj = [] ∧ s.dev.getF (F.MON_TLIST_INPUT 1 0) < 160 := by
  decide +kernel

theorem wit_conversion_calibrating : ∃ s : State, s.dev.alive = true ∧ s.dev.monCal 1 = true := ⟨atF [(F.CAL_MON_BUSY, 2)], by decide +kernel⟩

/-- Converter 1 on input 143, whose window is 100 to 200, with a count of two. -/
def windowed (a cnt : Nat) : State :=
  monIn { cur := some 0 } [(F.MON_CLIST_INPUT 1 0, 143), (F.MON_WACTn_EN 143, 1), (F.MON_WINn_LOW 143, 100), (F.MON_WINn_HIGH 143, 200),
    (F.MON_WACTn_ACTION 143, a), (F.MON_WACTn_CNT 143, 2), (F.MON_WACTn_PATH 143, 63)] { fe := { outCnt := [(143, cnt)] } }

theorem wit_window : ∀ a ∈ [0, 1, 2, 3], ∀ n ∈ [0, 1], converts (windowed a n) = true ∧ ((windowed a n).dev.monc 1).cur = some 0 ∧
    143 = (windowed a n).dev.getF (F.MON_CLIST_INPUT 1 ((windowed a n).dev.monc 1).cont) ∧
    (windowed a n).dev.flag (F.MON_WACTn_EN 143) = true ∧ (windowed a n).dev.getF (F.MON_WINn_LOW 143) ≤ (100 : BitVec 12).toNat ∧
    (200 : BitVec 12).toNat ≤ (windowed a n).dev.getF (F.MON_WINn_HIGH 143) ∧
    (windowed a n).dev.getF (F.MON_WINn_HIGH 143) < (201 : BitVec 12).toNat ∧ (windowed a n).dev.flag (F.MON_WACTn_OUT 143) = false ∧
    decide (Tab.get (fun _ => 0) 143 (windowed a n).dev.fe.outCnt + 1 < max 1 ((windowed a n).dev.getF (F.MON_WACTn_CNT 143))) = (n == 0) ∧
    (windowed a n).dev.getF (F.MON_WACTn_ACTION 143) = a := by decide +kernel

theorem wit_mute : ∃ (s : State) (v : BitVec 32), s.dev.alive = true ∧ v.toNat.testBit 31 = true ∧
    s.dev.muteMask.testBit (32 * 1 + 31) = true ∧ s.dev.muteFree (fun a q => (winPaths a q).contains (32 * 1 + 31)) = false ∧
    v.toNat.testBit 0 = true ∧ s.dev.flag F.MON_MUTE_ALL_ALL = true :=
  ⟨atF [(⟨A.MON_MUTE_LO + 4, 0, 32⟩, 2 ^ 31), (F.MON_MUTE_ALL_ALL, 1), (F.MON_WACTn_EN 143, 1), (F.MON_WACTn_OUT 143, 1),
    (F.MON_WACTn_ACTION 143, 1), (F.MON_WACTn_PATH 143, 63)], 0x80000001, by decide +kernel⟩

theorem wit_txmute : ∃ s t : State, s.dev.alive = true ∧ s.dev.flag F.AUXD_STAT_TXMUTE = false ∧ t.dev.alive = true ∧
    t.dev.flag F.AUXD_STAT_TXMUTE = true := ⟨atF [(F.AUXD_STAT_TXMUTE, 0)], atF [], by decide +kernel⟩

/-! Carrier and RF commands. -/

theorem wit_bandCfg : ∃ (s : State) (h : CmdHdr) (pl : List Byte) (wtx wrx : Nat) (d : Dev), CmdOk s h 0x2001 pl ∧ pl.length = 20 ∧
    byteAt pl 0 < 2 ∧ (byteAt pl 0 = 1 → (byteAt pl 1).testBit 0 = true) ∧
    (byteAt pl 1).testBit 0 = s.dev.flag F.TILE_GROUP_SPLIT ∧ bandWord .tx (leAt pl 4 8) = some wtx ∧
    bandWord .rx (leAt pl 12 8) = some wrx ∧
    (s.dev.popIn h.mb.val).bandSet (byteAt pl 0) (s.dev.flag F.TILE_GROUP_SPLIT) wtx wrx (leAt pl 4 8) (leAt pl 12 8) = d ∧
    planOk d.plan d.bandFreq = true ∧ planLimit d.plan 8 1 = none ∧ d.carChecks = none :=
  ⟨inMod .standby, hdr0, [0, 0, 0, 0] ++ leBytes 8 3500000000 ++ leBytes 8 3500000000, (bandWord .tx 3500000000).getD 0,
    (bandWord .rx 3500000000).getD 0, _, cmdOk_of_first (by decide +kernel), by decide +kernel, by decide +kernel, by decide +kernel,
    by decide +kernel, by decide +kernel, by decide +kernel, rfl, by decide +kernel, by decide +kernel,
    carChecks_none (by decide +kernel)⟩

/-- A CARRIER_CFG of carrier 7: 100 MHz of 273 resource blocks at 3.5 GHz. -/
def carPl : List Byte :=
  [7, 0, 1, 100, 17, 1, 2, 1] ++ leBytes 8 3500000000 ++ leBytes 8 3500000000 ++ [0xFF, 0xFF, 13, 13, 0xFF, 3, 0, 0]

theorem wit_carrierCfg : ∃ (s : State) (h : CmdHdr) (pl : List Byte) (k : Fin 8) (wdl wul : Nat), CmdOk s h 0x2002 pl ∧
    pl.length = 32 ∧ byteAt pl 0 = k.val ∧ carrierCfgOk (s.dev.flag F.TILE_GROUP_SPLIT) pl = true ∧
    carWord ((leAt pl 8 8 : Nat) - s.dev.bandFreq (byteAt pl 1) .tx) = some wdl ∧
    carWord ((leAt pl 16 8 : Nat) - s.dev.bandFreq (byteAt pl 1) .rx) = some wul ∧
    planOk (s.dev.plan.filter (fun c => c.k != k.val) ++ [planOf pl]) s.dev.bandFreq = true ∧
    planLimit (s.dev.plan.filter (fun c => c.k != k.val) ++ [planOf pl]) k.val (byteAt pl 2) = none ∧
    ((s.dev.popIn h.mb.val).carrierSet pl wdl wul).carChecks = none :=
  ⟨inMod .standby bandDev, hdr0, carPl, 7, 0, 0, cmdOk_of_first (by decide +kernel), by decide +kernel, by decide +kernel,
    by decide +kernel, by decide +kernel, by decide +kernel, by decide +kernel, by decide +kernel, carChecks_none (by decide +kernel)⟩

/-- A block with that carrier. -/
def carState : State :=
  inMod .ready (setAll { bandDev with rf := { bandDev.rf with fwCars := [(7, some ⟨100, 3500000000, 3500000000⟩)] } }
    [(F.CARk_CFG_EN 7, 1), (F.CARk_CFG_MU 7, 1), (F.CARk_CFG_NPRB 7, 273)])

theorem wit_carrierRetune : ∃ (s : State) (h : CmdHdr) (pl : List Byte) (k : Fin 8) (c : CarFw) (wdl wul : Nat),
    CmdOk s h 0x2003 pl ∧ pl.length = 24 ∧ byteAt pl 0 = k.val ∧ byteAt pl 1 = 3 ∧
    Tab.get (fun _ => none) k.val s.dev.rf.fwCars = some c ∧
    carWord ((leAt pl 8 8 : Nat) - s.dev.bandFreq (s.dev.carGroup k.val) .tx) = some wdl ∧
    carWord ((leAt pl 16 8 : Nat) - s.dev.bandFreq (s.dev.carGroup k.val) .rx) = some wul ∧
    planOk (s.dev.plan.map (fun x => if x.k = k.val then
      { s.dev.planCar k with dl := (leAt pl 8 8 : Nat), ul := (leAt pl 16 8 : Nat) } else x)) s.dev.bandFreq = true ∧
    planUnits s.dev.plan ≤ 4368 ∧ s.dev.carChecks = none ∧ s.dev.rf.retunes = [] :=
  ⟨carState, hdr0, [7, 3, 0, 0, 0, 0, 0, 0] ++ leBytes 8 3500000000 ++ leBytes 8 3500000000, 7, ⟨100, 3500000000, 3500000000⟩, 0, 0,
    cmdOk_of_first (by decide +kernel), by decide +kernel, by decide +kernel, by decide +kernel, by decide +kernel,
    by decide +kernel, by decide +kernel, by decide +kernel, by decide +kernel, carChecks_none (by decide +kernel), rfl⟩

theorem wit_carrierDel : ∃ (s : State) (h : CmdHdr) (pl : List Byte) (k : Fin 8), CmdOk s h 0x2004 pl ∧ pl.length = 4 ∧
    byteAt pl 0 = k.val := ⟨carState, hdr0, [7, 0, 0, 0], 7, cmdOk_of_first (by decide +kernel), by decide +kernel⟩

theorem wit_filterLoad : ∃ (s : State) (h : CmdHdr) (pl : List Byte), CmdOk s h 0x2010 pl ∧ 3 ∈ bitsOf 4 (byteAt pl 0) ∧
    byteAt pl 0 < 16 ∧ byteAt pl 1 < 2 ∧ (byteAt pl 2 = 1 ∨ byteAt pl 2 = 2) ∧ 1 ≤ byteAt pl 4 ∧ byteAt pl 4 ≤ 95 ∧ byteAt pl 5 ≤ 7 ∧
    leAt pl 6 2 ≤ 4095 ∧ pl.length = 8 + 4 * storedTaps ((byteAt pl 3).testBit 0) (byteAt pl 4) ∧
    (∀ i, i < storedTaps ((byteAt pl 3).testBit 0) (byteAt pl 4) → fitsBits 18 (sgn 32 (leAt pl (8 + 4 * i) 4)) = true) :=
  ⟨inMod .standby, hdr0, [15, 1, 2, 1, 95, 7, 0xFF, 15] ++ (List.range 48).flatMap (fun _ => [0, 0, 0xFE, 0xFF]),
    cmdOk_of_first (by decide +kernel), by decide +kernel⟩

theorem wit_filterSelect : ∃ (s : State) (h : CmdHdr) (pl : List Byte) (n gdly : Nat) (sym : Bool), CmdOk s h 0x2011 pl ∧
    pl.length = 4 ∧ 3 ∈ bitsOf 4 (byteAt pl 0) ∧ byteAt pl 0 < 16 ∧ byteAt pl 1 < 2 ∧
    shipped (byteAt pl 3) = some (byteAt pl 2, n, gdly, sym) :=
  ⟨inMod .standby, hdr0, [15, 1, 2, 0x12], 23, 48, false, cmdOk_of_first (by decide +kernel), by decide +kernel⟩

/-- A block with a tile mask's PLLs locked. -/
def pllsLocked : Dev := setAll {} [(F.TILE_STAT_PLL_STATE 0, 3), (F.TILE_STAT_PLL_STATE 3, 3)]

theorem wit_pllRecal : ∃ (s : State) (h : CmdHdr) (pl : List Byte), CmdOk s h 0x2020 pl ∧ pl.length = 8 ∧ 0 < byteAt pl 0 ∧
    byteAt pl 0 < 16 ∧ (byteAt pl 1).testBit 0 = false ∧
    (∀ u ∈ bitsOf 4 (byteAt pl 0), s.dev.awake u = true ∧ s.dev.pll u ≠ 0 ∧ s.dev.pll u ≠ 1) ∧ s.dev.rf.recals = [] :=
  ⟨inMod .ready pllsLocked, hdr0, [9, 0, 0, 0, 0, 0, 0, 0], cmdOk_of_first (by decide +kernel), by decide +kernel⟩

theorem wit_tileSleep : ∃ (s : State) (h : CmdHdr) (pl : List Byte), CmdOk s h 0x2021 pl ∧ pl.length = 4 ∧ 0 < byteAt pl 0 ∧
    byteAt pl 0 < 16 ∧ byteAt pl 1 = 0 ∧ s.dev.mod ≠ .active ∧ s.dev.groupUsed 0 = false ∧ s.dev.groupUsed 1 = false ∧
    (∀ u ∈ bitsOf 4 (byteAt pl 0), s.dev.flag (F.TILE_STAT_ASLEEP u) = false) :=
  ⟨inMod .ready pllsLocked, hdr0, [9, 0, 0, 0], cmdOk_of_first (by decide +kernel), by decide +kernel⟩

theorem wit_pathMask : ∃ (s : State) (h : CmdHdr) (pl : List Byte), CmdOk s h 0x2022 pl ∧ pl.length = 16 :=
  ⟨inMod .ready, hdr0, List.replicate 16 0xFF, cmdOk_of_first (by decide +kernel), rfl⟩

theorem wit_rfStat : ∃ (s : State) (h : CmdHdr) (pl : List Byte), CmdOk s h 0x2030 pl ∧ pl = [] ∧
    (∀ t : Fin 4, (s.dev.tile t.val).down = 0 ∧ (s.dev.tile t.val).downRem = 0) :=
  ⟨inMod .ready, hdr0, [], cmdOk_of_first (by decide +kernel), by decide +kernel⟩

/-! Front-end commands. -/

theorem wit_auxdCfg : ∃ (s : State) (h : CmdHdr) (pl : List Byte) (n lo hi : Nat), CmdOk s h 0x7001 pl ∧ pl.length = 8 ∧
    n = byteAt pl 0 ∧ n < 96 ∧ byteAt pl 2 ≤ 4 ∧ leAt pl 4 2 ≤ 8191 ∧ leAt pl 6 2 ≤ 8191 ∧ s.dev.mod ≠ .safe ∧
    (lo, hi) = s.dev.auxStored n (leAt pl 4 2) (leAt pl 6 2) ∧
    (s.dev.lcOpen = true ∨ (s.dev.getF (F.AUXD_CHn_LIM_MIN n) ≤ lo ∧ hi ≤ s.dev.getF (F.AUXD_CHn_LIM_MAX n))) :=
  ⟨inMod .ready, hdr0, [95, 3, 4, 0, 0, 0, 0xFF, 31], 95, _, _, cmdOk_of_first (by decide +kernel), by decide +kernel,
    by decide +kernel, by decide +kernel, by decide +kernel, by decide +kernel, by decide +kernel, by decide +kernel, rfl,
    by decide +kernel⟩

theorem wit_auxdPush : ∃ (s : State) (h : CmdHdr) (pl : List Byte), CmdOk s h 0x7002 pl ∧ byteAt pl 0 < 96 ∧ 1 ≤ byteAt pl 1 ∧
    byteAt pl 1 ≤ 16 ∧ pl.length = 4 + 2 * byteAt pl 1 ∧ (s.dev.auxQ (byteAt pl 0)).length + byteAt pl 1 ≤ 16 :=
  ⟨inMod .ready, hdr0, [95, 16, 0, 0] ++ List.replicate 32 0xFF, cmdOk_of_first (by decide +kernel), by decide +kernel⟩

theorem wit_auxdHiz : ∃ (s : State) (h : CmdHdr) (pl : List Byte), CmdOk s h 0x7003 pl ∧ pl.length = 12 ∧
    (leAt pl 0 12).testBit 95 = true ∧ s.dev.flag (F.AUXD_CHn_CFG_EN 95) = true :=
  ⟨inMod .ready (setAll {} [(F.AUXD_CHn_CFG_EN 95, 1)]), hdr0, List.replicate 12 0x80, cmdOk_of_first (by decide +kernel), by decide +kernel⟩

theorem wit_monSeq : ∃ (s : State) (h : CmdHdr) (pl : List Byte) (c n : Nat), CmdOk s h 0x7010 pl ∧ c = byteAt pl 0 ∧
    n = byteAt pl 1 ∧ c < 2 ∧ 1 ≤ n ∧ n ≤ 160 ∧ pl.length = 4 + n ∧ (∀ i, i < n → byteAt pl (4 + i) < 160) :=
  ⟨inMod .ready, hdr0, [1, 160, 0, 0] ++ List.replicate 160 159, 1, 160, cmdOk_of_first (by decide +kernel), by decide +kernel⟩

theorem wit_monTrig : ∃ (s : State) (h : CmdHdr) (pl : List Byte) (c n : Nat), CmdOk s h 0x7011 pl ∧ c = byteAt pl 0 ∧
    n = byteAt pl 1 ∧ c < 2 ∧ 1 ≤ n ∧ n ≤ 16 ∧ pl.length = 4 + n ∧ (∀ i, i < n → byteAt pl (4 + i) < 160) :=
  ⟨inMod .ready, hdr0, [1, 16, 0, 0] ++ List.replicate 16 159, 1, 16, cmdOk_of_first (by decide +kernel), by decide +kernel⟩

theorem wit_monInject : ∃ (s : State) (h : CmdHdr) (pl : List Byte), CmdOk s h 0x7012 pl ∧ pl.length = 4 ∧ byteAt pl 0 < 2 ∧
    byteAt pl 1 < 160 ∧ (s.dev.monc (byteAt pl 0)).inj.length < 4 :=
  ⟨inMod .ready, hdr0, [1, 159, 0, 0], cmdOk_of_first (by decide +kernel), by decide +kernel⟩

theorem wit_monRead : ∃ (s : State) (h : CmdHdr) (pl : List Byte), CmdOk s h 0x7013 pl ∧ pl.length = 4 ∧ 1 ≤ byteAt pl 1 ∧
    byteAt pl 0 + byteAt pl 1 ≤ 160 := ⟨inMod .ready, hdr0, [159, 1, 0, 0], cmdOk_of_first (by decide +kernel), by decide +kernel⟩

theorem wit_monWindow : ∃ (s : State) (h : CmdHdr) (pl : List Byte) (n : Nat), CmdOk s h 0x7014 pl ∧ pl.length = 12 ∧
    n = byteAt pl 0 ∧ n < 144 ∧ byteAt pl 1 ≤ 3 ∧ byteAt pl 2 ≤ 15 ∧ byteAt pl 3 ≤ 63 ∧ leAt pl 4 2 ≤ 4095 ∧ leAt pl 6 2 ≤ 4095 :=
  ⟨inMod .ready, hdr0, [143, 3, 15, 63, 0xFF, 15, 0xFF, 15, 1, 0, 0, 0], 143, cmdOk_of_first (by decide +kernel), by decide +kernel⟩

theorem wit_monUnmute : ∃ (s : State) (h : CmdHdr) (pl : List Byte), CmdOk s h 0x7015 pl ∧ pl.length = 9 :=
  ⟨inMod .ready, hdr0, List.replicate 9 0xFF, cmdOk_of_first (by decide +kernel), rfl⟩

theorem wit_fespiXfer : ∃ (s : State) (h : CmdHdr) (pl : List Byte) (k : Nat), CmdOk s h 0x7020 pl ∧ pl.length = 12 ∧
    k = byteAt pl 0 ∧ k < 4 ∧ byteAt pl 1 < 4 ∧ 1 ≤ byteAt pl 2 ∧ byteAt pl 2 ≤ 64 ∧ s.dev.flag (F.FESPIk_STAT_BUSY k) = false :=
  ⟨inMod .ready, hdr0, [3, 3, 64, 1] ++ List.replicate 8 0xFF, 3, cmdOk_of_first (by decide +kernel), by decide +kernel⟩

theorem wit_fei2cXfer : ∃ (s : State) (h : CmdHdr) (pl : List Byte), CmdOk s h 0x7021 pl ∧ byteAt pl 1 < 128 ∧ 1 ≤ byteAt pl 2 ∧
    byteAt pl 2 ≤ 16 ∧ s.dev.flag F.FEI2C_STAT_BUSY = false ∧
    pl.length = 4 + (if (byteAt pl 0).testBit 0 then 0 else byteAt pl 2) :=
  ⟨inMod .ready, hdr0, [2, 127, 16, 0] ++ List.replicate 16 0xFF, cmdOk_of_first (by decide +kernel), by decide +kernel⟩

theorem wit_feStat : ∃ (s : State) (h : CmdHdr) (pl : List Byte), CmdOk s h 0x7030 pl ∧ pl = [] :=
  ⟨inMod .ready, hdr0, [], cmdOk_of_first (by decide +kernel), rfl⟩

/-! Temperature and power. -/

/-- The zones in these states and steps, with DWELL 1. -/
def zonesAt (l : List (Nat × Nat × Nat)) (fs : List (Fld × Nat) := []) : State :=
  ofD (setAll {} (l.flatMap (fun z => [(F.THRM_Zz_STAT_STATE z.1, z.2.1), (F.THRM_Zz_STAT_K z.1, z.2.2), (F.THRM_Zz_HYS_DWELL z.1, 1)]) ++ fs))

/-- Zones 0 to 6 with one temperature each, at the first sensor of each. -/
def zoneTemps (l : List Int) : List Int :=
  (List.range 7).flatMap (fun z => l.getD z 0 :: List.replicate ((zoneSensors z).length - 1) 0)

/-- The block after a sample. -/
def sampledAt (s : State) (temps : List Int) : Dev := match execSensorSample temps s with
  | .next t => t.dev
  | _ => {}

/-- The premises every move of a zone shares, its state, its step and its temperature. -/
def zoneMoves (s : State) (t : Dev) (c : Nat × Nat × Nat × Int) : Bool :=
  t.zoneNow c.1 != none && decide (t.zoneT c.1 = c.2.2.2) && s.dev.getF (F.THRM_Zz_STAT_STATE c.1) == c.2.1 &&
    s.dev.zoneK c.1 == c.2.2.1 && decide (max 1 (s.dev.getF (F.THRM_Zz_HYS_DWELL c.1)) ≤ 0 + 1)

/-- Zones at the limits of SHUT, THROT, the hysteresis and WARN. -/
def hotZones : State := zonesAt [(0, 0, 0), (1, 1, 0), (2, 1, 0), (3, 3, 16), (4, 3, 1), (5, 0, 0), (6, 1, 0)] [(F.THRM_CTRL_ASK, 4), (F.THRM_PLAUS_AGREE_C, 255)]

theorem wit_zones_hot : hotZones.dev.alive = true ∧
    (fun t => [(0, 0, 0, (1000 : Int)), (1, 1, 0, 999), (2, 1, 0, 880), (3, 3, 16, 880), (4, 3, 1, 879), (5, 0, 0, 800),
      (6, 1, 0, 0)].all (zoneMoves hotZones t)) (sampledAt hotZones (zoneTemps [1000, 999, 880, 880, 879, 800, 0])) = true := by
  decide +kernel

theorem wit_zone_levels : ∀ z, z < 6 → hotZones.dev.zoneLevel (F.THRM_Zz_CFG_SHUT z) 0 = 1000 ∧
    hotZones.dev.zoneLevel (F.THRM_Zz_CFG_THROT z) 0 = 880 ∧ hotZones.dev.zoneLevel (F.THRM_Zz_CFG_WARN z) 0 = 800 ∧
    hotZones.dev.zoneLevel (F.THRM_Zz_CFG_THROT z) (hotZones.dev.getF (F.THRM_Zz_HYS_HYS_T z)) ≤ 879 ∧
    0 < hotZones.dev.zoneLevel (F.THRM_Zz_CFG_THROT z) (hotZones.dev.getF (F.THRM_Zz_HYS_HYS_T z)) ∧
    (hotZones.dev.getF F.THRM_CTRL_ASK).testBit 2 = true ∧ (hotZones.dev.getF F.THRM_CTRL_ASK).testBit 1 = false := by decide +kernel

theorem wit_zone_six : 0 < hotZones.dev.zoneLevel (F.THRM_Zz_CFG_WARN 6) (hotZones.dev.getF (F.THRM_Zz_HYS_HYS_W 6)) ∧
    0 < hotZones.dev.zoneLevel (F.THRM_Zz_CFG_THROT 6) 0 ∧ 0 < hotZones.dev.zoneLevel (F.THRM_Zz_CFG_SHUT 6) 0 := by decide +kernel

/-- Zones that cool: two steps of THROTTLE, GRACE, one with a failed sensor, and one without sensors. -/
def coolZones : State :=
  zonesAt [(0, 3, 1), (1, 3, 2), (2, 2, 0), (3, 3, 2)]
    [(F.THRM_Ss_FAILED 72, 1), (F.THRM_Ss_FAILED 120, 1), (F.THRM_Ss_FAILED 121, 1), (F.THRM_Ss_FAILED 122, 1), (F.THRM_Ss_FAILED 123, 1)]

theorem wit_zones_cool : coolZones.dev.alive = true ∧ (fun t => [(0, 3, 1, (0 : Int)), (1, 3, 2, 0), (2, 2, 0, 0),
      (3, 3, 2, 8 * coolZones.dev.getF (F.THRM_Zz_HYS_OFFSET 3))].all (zoneMoves coolZones t) &&
      (t.getF F.THRM_STAT_SUBST).testBit 3 && !(t.getF F.THRM_STAT_SUBST).testBit 2 && (t.zoneNow 6).isNone)
    (sampledAt coolZones (zoneTemps [])) = true := by decide +kernel

theorem wit_sample : ∃ (s : State) (l m : List Int), s.dev.alive = true ∧ 123 ∈ zoneSensors 6 ∧ s.dev.implausible l 6 123 = false ∧
    s.dev.implausible m 6 123 = true ∧ s.dev.sensOk 123 = true :=
  ⟨atF [], List.replicate 124 1200, List.replicate 124 1201, by decide +kernel⟩

theorem wit_grace : ∃ (s : State) (z : Fin 7), s.dev.alive = true ∧ s.dev.getF (F.THRM_Zz_STAT_STATE z.val) = 2 ∧
    (s.dev.zone z.val).nvGrace = true := ⟨ofD (setAll { therm := { zone := [(6, { nvGrace := true })] } } [(F.THRM_Zz_STAT_STATE 6, 2)]), 6, by decide +kernel⟩

theorem wit_grace_over : ∃ (s : State) (z : Fin 7), s.dev.alive = true ∧ s.dev.getF (F.THRM_Zz_STAT_STATE z.val) ≠ 2 ∧
    (s.dev.zone z.val).nvGrace = false := ⟨zonesAt [(6, 4, 0)], 6, by decide +kernel⟩

theorem wit_sensor_clear : ∀ g ∈ [63, 64], let s := ofD (setAll { therm := { sens := [(123, { good := g })] } } [(F.THRM_Ss_FAILED 123, 1)])
    s.dev.alive = true ∧ s.dev.sensOk 123 = false ∧ (s.dev.sens 123).good = g ∧ s.dev.sensOk 0 = true := by decide +kernel

/-- The power limiter at 40 W and a step, DWELL 1 in every zone. -/
def powerAt (k : Nat) : State :=
  ofD (setAll {} ([(F.PWR_LIMIT_PLIM_W, 40), (F.PWR_LIMIT_STEP, k)] ++ (List.range 7).map (fun z => (F.THRM_Zz_HYS_DWELL z, 1))))

theorem powerAt_dwell (k z : Nat) (hk : k ∈ [0, 11, 12]) (hz : z < 7) : (powerAt k).dev.getF (F.THRM_Zz_HYS_DWELL z) = 1 :=
  (by decide +kernel : ∀ k ∈ [0, 11, 12], ∀ z, z < 7 → (powerAt k).dev.getF (F.THRM_Zz_HYS_DWELL z) = 1) k hk z hz

theorem wit_power : ∀ k ∈ [0, 11, 12], ∃ (vin iin mw lo dw p : Nat), (powerAt k).dev.alive = true ∧ vin < 65536 ∧ iin < 65536 ∧
    mw < 262144 ∧ dw = max 1 ((powerAt k).dev.getF (F.THRM_Zz_HYS_DWELL Config.dwellZone.val)) ∧
    p = max 1 ((powerAt k).dev.getF F.PWR_LIMIT_PLIM_W) ∧ k = (powerAt k).dev.getF F.PWR_LIMIT_STEP ∧ 1000 * p ≤ mw ∧
    dw ≤ (powerAt k).dev.therm.pwrHi + 1 ∧ 100 * lo < 95000 * p ∧ dw ≤ (powerAt k).dev.therm.pwrLo + 1 := by
  intro k hk
  refine ⟨65535, 65535, 40000, 37999, 1, 40, ?_⟩
  rw [powerAt_dwell k _ hk Config.dwellZone.isLt]
  simp only [List.mem_cons, List.not_mem_nil, or_false] at hk
  rcases hk with rfl | rfl | rfl <;> decide +kernel

/-! Control firmware. -/

theorem wit_state_refused : ∃ s t u : State, s.dev.alive = true ∧ (fromStates 3).testBit s.dev.mod.code = false ∧
    t.dev.alive = true ∧ t.dev.mod = .safe ∧ t.dev.reg A.SYS_SAFE_CAUSE ≠ 0 ∧ u.dev.alive = true ∧ u.dev.mod = .boot ∧
    u.dev.ready 0 = false :=
  ⟨atF [], ofD (setAll { mod := .safe } [(⟨A.SYS_SAFE_CAUSE, 0, 32⟩, 4)]), atF [], by decide +kernel⟩

theorem wit_state_standby : ∃ s t : State, s.dev.alive = true ∧ s.dev.mod = .safe ∧ s.dev.reg A.SYS_SAFE_CAUSE = 0 ∧
    t.dev.alive = true ∧ t.dev.mod = .boot ∧ t.dev.ready 0 = true ∧ t.dev.ready 1 = true ∧ t.dev.fw.running = true :=
  ⟨ofD { mod := .safe }, ofD (setAll { fw := { running := true } } [(F.SYS_FUNC_READY_READY, 3)]), by decide +kernel⟩

theorem wit_state_writes : ∀ m ∈ [ModState.standby, .ready, .active, .safe, .boot], (ofD { mod := m }).dev.alive = true ∧
    (ofD { mod := m }).dev.mod = m := by decide +kernel

theorem wit_safe_cause : ∃ (s : State) (v : BitVec 32), s.dev.alive = true ∧ v.toNat.testBit 0 = true ∧
    (s.dev.reg A.SYS_SAFE_CAUSE).toNat.testBit 0 = true ∧ s.dev.thermHolds = true :=
  ⟨atF [(⟨A.SYS_SAFE_CAUSE, 0, 32⟩, 31), (F.THRM_Zz_STAT_TEMP 6, 1200)], 31, by decide +kernel⟩

theorem wit_function_ready : ∃ s t : State, s.dev.alive = true ∧ s.dev.rmb.locked = true ∧ s.dev.obs.hardCond.testBit 2 = false ∧
    s.dev.therm.sampled = true ∧ s.dev.power.booted = true ∧ (∀ c, c < 16 → s.dev.getF (F.CLU_STAT_STATE c) = 0) ∧
    (∀ u, u < 4 → s.dev.awake u = true → s.dev.ready (7 + u) = true) ∧ s.dev.ready 17 = false ∧ t.dev.alive = true ∧
    t.dev.rmb.locked = false ∧ t.dev.therm.sampled = false ∧ t.dev.power.booted = false :=
  ⟨ofD (setAll { rmb := { locked := true }, therm := { sampled := true }, power := { booted := true } }
    [(F.SYS_FUNC_READY_READY, 0x780)]), atF [], by decide +kernel⟩

theorem wit_function_boot : ∃ (s : State) (fn : Fin 18), s.dev.alive = true ∧ fn.val ≤ 1 ∧ s.dev.ready (1 - fn.val) = true ∧
    s.dev.therm.sampled = true ∧ s.dev.power.booted = true ∧ s.dev.mod = .boot ∧ s.dev.fw.running = true :=
  ⟨ofD (setAll { therm := { sampled := true }, power := { booted := true }, fw := { running := true } } [(F.SYS_FUNC_READY_READY, 1)]),
    1, by decide +kernel⟩

theorem wit_runtime_start : ∀ m ∈ [ModState.boot, .safe], ∃ (s : State) (prof : Profiles), s.dev.alive = true ∧
    s.dev.fw.loader = true ∧ s.dev.fw.running = false ∧ prof.fe = none ∧ s.dev.mod = m ∧ s.dev.ready 0 = true ∧ s.dev.ready 1 = true := by
  intro m h
  refine ⟨ofD (setAll { mod := m, fw := { loader := true } } [(F.SYS_FUNC_READY_READY, 3)]), ⟨none, none, []⟩, ?_⟩
  simp only [List.mem_cons, List.not_mem_nil, or_false] at h
  rcases h with rfl | rfl <;> decide +kernel

theorem wit_runtime_waits : ∃ (s t : State), s.dev.alive = true ∧ s.dev.fw.loader = false ∧ t.dev.alive = true ∧
    t.dev.fw.loader = true ∧ t.dev.fw.running = false ∧ t.dev.mod = .boot ∧ t.dev.ready 0 = false :=
  ⟨atF [], ofD { fw := { loader := true } }, by decide +kernel⟩

theorem wit_watchdog : ∀ w ∈ [false, true], ∃ (s : State) (key : BitVec 32), s.dev.alive = true ∧ key.toNat % 65536 = 0x6B1D ∧
    s.dev.flag F.SYS_WDOG_CFG_PERIOD = true ∧ s.dev.power.wdogWarned = w := by
  intro w _
  exact ⟨ofD (setAll { power := { wdogWarned := w } } [(F.SYS_WDOG_CFG_PERIOD, 1)]), 0xFFFF6B1D, rfl, rfl,
    (by decide +kernel : (atF [(F.SYS_WDOG_CFG_PERIOD, 1)]).dev.flag F.SYS_WDOG_CFG_PERIOD = true), rfl⟩

theorem wit_watchdog_off : ∃ s : State, s.dev.alive = true ∧ s.dev.flag F.SYS_WDOG_CFG_PERIOD = false :=
  ⟨atF [(F.SYS_WDOG_CFG_PERIOD, 0)], by decide +kernel⟩

/-- A pending TT_COMMIT on MB2. -/
def pend13 : PendOp := ⟨2, 255, 65535, 0x5011, []⟩

theorem wit_limit : ∃ (s : State) (mb : Fin 4) (seq : BitVec 16) (p : PendOp), s.dev.alive = true ∧ s.dev.fw.running = true ∧
    s.dev.fw.pendingOps = [p] ∧ p.mb = mb.val ∧ p.seq = seq.toNat ∧ mb.val ≠ 3 ∧ p.opcode = 0x5011 :=
  ⟨ofD { fw := { running := true, pendingOps := [pend13] } }, 2, 0xFFFF, pend13, by decide⟩

theorem wit_limit_none : ∃ (s : State) (mb : Fin 4) (seq : BitVec 16), s.dev.alive = true ∧ s.dev.fw.running = true ∧
    (∀ p ∈ s.dev.fw.pendingOps, p.mb ≠ mb.val ∨ p.seq ≠ seq.toNat) :=
  ⟨ofD { fw := { running := true, pendingOps := [pend13] } }, 2, 0xFFFE, by decide⟩

/-- MB1 on, its ring at the start of the Hamper. -/
def mb1 (b : MboxSt) (en : Nat) : State :=
  ofD (setAll { mbox := [(1, b)] } [(F.MBOX_m_CTRL_EN 1, en), (⟨A.MBOX_m_IN_BASE 1, 0, 32⟩, 0x10000000)])

theorem wit_frame_write : ∃ (s : State) (bytes : List Byte) (a : Nat), s.dev.alive = true ∧ 8 ≤ bytes.length ∧
    bytes.length = 8 + leAt bytes 3 2 ∧ s.dev.flag (F.MBOX_m_CTRL_EN 1) = true ∧ (s.dev.mbx 1).inRing = [] ∧
    cmdLegal (leAt bytes 0 2) ≠ none ∧
    a = (s.dev.reg (A.MBOX_m_IN_BASE 1)).toNat + 0x1040 * ((s.dev.mbx 1).inHead % 8) ∧ inHamper a bytes.length = true :=
  ⟨mb1 { inHead := 7 } 1, frameOf 0x5011 255 0 65535 [] [1], 0x10000000 + 0x1040 * 7, by decide +kernel⟩

theorem wit_frame_discarded : ∃ s t : State, s.dev.alive = true ∧ s.dev.flag (F.MBOX_m_CTRL_EN 1) = false ∧ t.dev.alive = true ∧
    8 ≤ (t.dev.mbx 1).inRing.length := ⟨mb1 {} 0, mb1 { inRing := List.replicate 8 [] } 1, by decide +kernel⟩

theorem wit_frame_read : ∃ (s : State) (f : List Byte) (l : List (List Byte)), s.dev.alive = true ∧ (s.dev.mbx 1).outRing = f :: l :=
  ⟨mb1 { outRing := [[1]] } 1, [1], [], by decide +kernel⟩

theorem wit_in_pop : ∃ (s : State) (m : Fin 4) (f : List Byte), s.dev.alive = true ∧ (s.dev.mbx m.val).inRing = [f] ∧
    s.dev.upstream = none ∧ (∀ k, k < 4 → k ≠ m.val → (s.dev.mbx k).inRing = []) :=
  ⟨mb1 { inRing := [[1]] } 1, 1, [1], by decide +kernel⟩

theorem wit_out_push : ∀ v ∈ [(8 : BitVec 32), 4108], ∃ (s : State) (m : Fin 4), s.dev.alive = true ∧
    (s.dev.mbx m.val).outRing.length < 8 ∧ 8 ≤ v.toNat % 8192 ∧ v.toNat % 8192 ≤ 4108 := by
  intro v h
  refine ⟨atF [], 3, rfl, by decide +kernel, ?_⟩
  simp only [List.mem_cons, List.not_mem_nil, or_false] at h
  rcases h with rfl | rfl <;> decide

/-- The firmware running, a script of MB3 with its doorbell rung. -/
def scriptAt (fs : List (List Byte)) : State :=
  ofD (setAll { fw := { running := true, bells := [7], scripts := [(7, fs)] } } [(F.MBOX_m_CTRL_EN 0, 1)])

theorem wit_script : ∀ fs ∈ [[], [frameOf 0xFFFF 0 0 0 [] []]], (scriptAt fs).dev.alive = true ∧
    (scriptAt fs).dev.fw.running = true ∧ ((scriptAt fs).dev.mbx 3).waiting = none ∧
    (scriptAt fs).dev.fw.scriptsRunning = [] ∧ 7 ∈ (scriptAt fs).dev.fw.bells ∧
    Tab.get (fun _ => []) 7 (scriptAt fs).dev.fw.scripts = fs ∧ cmdLegal (leAt (frameOf 0xFFFF 0 0 0 [] []) 0 2) = none ∧
    (scriptAt fs).dev.flag (F.MBOX_m_CTRL_EN 0) = true := by decide +kernel

theorem wit_script_idle : ∃ (s : State) (sc : Fin 8), s.dev.alive = true ∧ sc.val ∉ s.dev.fw.bells ∧
    (∀ x ∈ s.dev.fw.scriptsRunning, x.1 ≠ sc.val) := ⟨inMod .ready, 7, by decide +kernel⟩

/-- MB0 served in a module state, with the SEQ it expects and its last response. -/
def seqAt (m : ModState) (e : Option Nat) (r : Option (Nat × List Byte)) : State :=
  inMod m { mbox := [(0, { expSeq := e, lastResp := r })] }

theorem wit_command_order : ∃ (s t u : State) (h : CmdHdr) (pl r : List Byte), h.mb.val ≠ 3 ∧
    s.dev.serves h.mb.val (frameOf 0x5011 h.tag 0 h.seq.toNat [] pl) = true ∧
    (s.dev.mbx h.mb.val).lastResp = some (h.seq.toNat, r) ∧
    t.dev.serves h.mb.val (frameOf 0x5011 h.tag 0 h.seq.toNat [] pl) = true ∧ (t.dev.mbx h.mb.val).lastResp = none ∧
    (t.dev.mbx h.mb.val).expSeq = some 65535 ∧ 65535 ≠ h.seq.toNat ∧
    u.dev.serves h.mb.val (frameOf 0x5011 h.tag 0 h.seq.toNat [] pl) = true ∧ (u.dev.mbx h.mb.val).lastResp = none ∧
    (u.dev.mbx h.mb.val).expSeq = some h.seq.toNat ∧ pl ≠ [] ∧ u.dev.upstream = none ∧ (u.dev.mbx h.mb.val).inRing.length ≤ 1 :=
  ⟨seqAt .ready none (some (0, [])), seqAt .ready (some 65535) none, seqAt .ready (some 0) none, hdr0, [1], [], by decide +kernel⟩

theorem wit_command_illegal : ∀ m ∈ [ModState.boot, .safe], (seqAt m none none).dev.serves 0 (frameOf 0x5011 0 0 0 [] []) = true ∧
    ((seqAt m none none).dev.mbx 0).expSeq = none ∧ (seqAt m none none).dev.fw.recovery = false ∧ (seqAt m none none).dev.mod = m ∧
    (seqAt m none none).dev.alive = true := by decide +kernel

/-! The signature engine. -/

/-- The head of a signature block. -/
def sigBlk (dom : String) (signer slot : Byte) : List Byte := le4 0x53474E31 ++ [1, 0, signer, slot] ++ List.replicate 8 0 ++ ascii dom

/-- The engine on a job. -/
def jobAt (op n : Nat) (m : Mem) (d : Dev := {}) : State := { mem := m, dev := { d with lcs := { job := some ⟨op, 0x10000000, n, 0⟩ } } }

/-- A job that waits for its check. -/
def waits (s : State) (op n : Nat) : Bool :=
  s.dev.alive && decide (s.dev.lcs.job = some ⟨op, 0x10000000, n, 0⟩) && s.dev.lcs.outcome.isNone && decide (s.dev.memi.ecc = []) &&
    inHamper 0x10000000 n

/-- An image with a body of 64 bytes. -/
def imgMem (magic : Nat) (dom : String) : Mem :=
  memWrites [] [(0x10000000, le4 magic ++ [1, 0, 0, 0, 0, 0, 0, 0, 64, 0, 0, 0, 63]), (0x10000080, sigBlk dom 1 3)]

theorem wit_verify_none : ∃ s t : State, s.dev.alive = true ∧ s.dev.lcs.job = none ∧ t.dev.alive = true ∧ t.dev.lcs.outcome ≠ none :=
  ⟨atF [], ofD { lcs := { job := some ⟨0, 0x10000000, 64, 0⟩, outcome := some (1, 0, 0, 0) } }, by decide +kernel⟩

theorem wit_verify_range : ∃ (s : State) (j : EngJob), s.dev.alive = true ∧ s.dev.lcs.job = some j ∧ s.dev.lcs.outcome = none ∧
    s.dev.memi.ecc = [] ∧ j.op = 0 ∧ inHamper j.addr j.len = false :=
  ⟨jobAt 0 0x8000001 [], ⟨0, 0x10000000, 0x8000001, 0⟩, by decide +kernel⟩

theorem wit_image : ∀ magic ∈ [0x424C4452, 0x5254494D], ∀ dom ∈ ["SKB-IMG1", "SKB-IMG2"],
    let s := jobAt 0 (128 + sigLen) (imgMem magic dom)
    let o := memRead s.mem 0x10000000 (128 + sigLen)
    waits s 0 (128 + sigLen) = true ∧ leAt o 0xC 4 = 64 ∧ leAt o 0 4 = magic ∧ leAt o 4 2 = 1 ∧ zeroAt o 6 2 = true ∧ 64 % 64 = 0 ∧
    leAt o 0x10 4 < 64 ∧ zeroAt o 0x14 44 = true ∧ blockForm (o.drop 128) "SKB-IMG1" = (dom == "SKB-IMG1") := by decide +kernel

theorem wit_image_magic : let s := jobAt 0 64 []
    waits s 0 64 = true ∧ leAt (memRead s.mem 0x10000000 64) 0 4 ≠ 0x424C4452 ∧ leAt (memRead s.mem 0x10000000 64) 0 4 ≠ 0x5254494D := by
  decide +kernel

/-- A kernel of one bundle. -/
def kernMem : Mem := memWrites [] [(0x10000000, kernImg), (0x10000040, sigBlk "SKB-KRN1" 0 0)]

theorem wit_kernel : let s := jobAt 1 (64 + sigLen) kernMem
    let o := memRead s.mem 0x10000000 (64 + sigLen)
    waits s 1 (64 + sigLen) = true ∧ leAt o 0x10 2 = 1 ∧ leAt o 0 4 = 0x4B45524E ∧ leAt o 4 2 = 1 ∧ leAt o 6 2 ≤ 2 ∧ leAt o 8 4 ≠ 0 ∧
    leAt o 0x12 2 < 1 ∧ zeroAt o 0x18 8 = true ∧ blockForm (o.drop 64) "SKB-KRN1" = true ∧ s.dev.kernelEntry (leAt o 8 4) = some 0 := by
  decide +kernel

theorem wit_kernel_full : (setAll {} ((List.range 32).map (fun e => (F.LCS_KE_INFO_VALID e, 1)))).kernelEntry 9 = none := by
  decide +kernel

/-- Slots whose key is 432 bytes of zeros. -/
def zeroKey : KeySlot := { valid := true, hash := sha384 (List.replicate 432 0) }
def zeroFuse (f : FuseSt := {}) : FuseSt := { f with vendor := [zeroKey, zeroKey, zeroKey], owner := [zeroKey, zeroKey, zeroKey, zeroKey] }

/-- The verifiers are opaque: what a good signature is, the model does not say. Where they accept one, the checks of a block with such
a key pass. -/
theorem blockCheck_good (hr : ∀ k m g, Config.rsaGood k m g = true) (hs : ∀ k m g, Config.slhGood k m g = true) (d : Dev)
    (body b : List Byte) (signer slot : Nat) (e6 : byteAt b 6 = signer) (e7 : byteAt b 7 = slot)
    (h1 : (d.fuse.slots signer).getD slot {} = zeroKey)
    (h2 : (b.drop 0x20).take 432 = List.replicate 432 0) (h3 : d.signerOk signer = true)
    (h4 : d.fuse.svnVendor = 0 ∧ d.fuse.svnOwner = 0) : d.blockCheck body b = 0 := by
  unfold Dev.blockCheck
  dsimp only
  rw [e6, e7, h1, h2, hr, hs, h3, h4.1, h4.2, if_neg (fun h => h rfl), if_neg (by decide), if_neg (by decide), if_neg (by decide),
    if_neg (by decide), ite_self, if_neg (Nat.not_lt_zero _)]

theorem wit_block_good (hr : ∀ k m g, Config.rsaGood k m g = true) (hs : ∀ k m g, Config.slhGood k m g = true) :
    ∃ (s : State) (j : EngJob), s.dev.lcs.job = some j ∧
      s.dev.blockCheck ((memRead s.mem j.addr j.len).take 64) ((memRead s.mem j.addr j.len).drop 64) = 0 :=
  ⟨jobAt 1 (64 + sigLen) kernMem { fuse := zeroFuse }, ⟨1, 0x10000000, 64 + sigLen, 0⟩, rfl,
    blockCheck_good hr hs _ _ _ 0 0 (by decide +kernel) (by decide +kernel) rfl (by decide +kernel) (by decide +kernel) ⟨rfl, rfl⟩⟩

theorem wit_block_refused : ({ fuse := { vendor := [] } } : Dev).blockCheck [] [] ≠ 0 := by
  unfold Dev.blockCheck
  dsimp only
  rw [if_pos (by decide +kernel)]
  decide

/-- An authorisation: its OP, its slot, a device ID and a nonce, and one or two blocks. -/
def authMem (op slot : Nat) (ids : List Byte) : Mem :=
  (le4 0x41555448 ++ [BitVec.ofNat 8 op, 0, 0, 0] ++ ids ++ [BitVec.ofNat 8 slot]).zipIdx.map (fun p => (0x10000000 + p.2, p.1)) ++
    (sigBlk "SKB-AUT1" (BitVec.ofNat 8 (authSigner op)) 0).zipIdx.map (fun p => (0x10000060 + p.2, p.1)) ++
    (if op = 6 then (sigBlk "SKB-AUT1" 0 0).zipIdx.map (fun p => (0x10000060 + sigLen + p.2, p.1)) else [])

/-- The length and the slot of the example of an OP. -/
def authLen (op : Nat) : Nat := 96 + sigLen * (if op = 6 then 2 else 1)
def authSlot (op : Nat) : Nat := if op = 3 ∨ op = 4 then 3 else if op = 5 then 2 else 0

/-- The tests of `AuthObject`. -/
def authTest (o : List Byte) (n op slot : Nat) : Bool :=
  decide (leAt o 0 4 = 0x41555448) && decide (byteAt o 4 = op) && decide (1 ≤ op ∧ op ≤ 7) && decide (zeroAt o 5 3 = true ∧ zeroAt o 41 7 = true) &&
  decide (byteAt o 40 = slot) && decide (if 3 ≤ op ∧ op ≤ 5 then slot < (if op = 5 then 3 else 4) else slot = 0) &&
  decide (op = 3 ∨ zeroAt o 48 48 = true) && decide (n = 96 + sigLen * (if op = 6 then 2 else 1)) &&
  decide (blockForm ((o.drop 96).take sigLen) "SKB-AUT1" = true) && decide (byteAt ((o.drop 96).take sigLen) 6 = authSigner op) &&
  decide (op = 5 → byteAt ((o.drop 96).take sigLen) 7 ≠ slot) &&
  decide (op = 6 → blockForm (o.drop (96 + sigLen)) "SKB-AUT1" = true ∧ byteAt (o.drop (96 + sigLen)) 6 = 0)

theorem authObject_of {o : List Byte} {n op slot : Nat} (h : authTest o n op slot = true) : AuthObject o n op slot := by
  simp only [authTest, Bool.and_eq_true, decide_eq_true_eq] at h
  obtain ⟨⟨⟨⟨⟨⟨⟨⟨⟨⟨⟨h1, h2⟩, h3⟩, h4⟩, h5⟩, h6⟩, h7⟩, h8⟩, h9⟩, h10⟩, h11⟩, h12⟩ := h
  exact ⟨h1, h2, h3, h4, h5, h6, h7, h8, h9, h10, h11, h12⟩

theorem wit_authorisation : ∀ op ∈ [1, 2, 3, 4, 5, 6, 7],
    waits (jobAt 2 (authLen op) (authMem op (authSlot op) (List.replicate 32 1))) 2 (authLen op) = true ∧
    AuthObject (memRead (authMem op (authSlot op) (List.replicate 32 1)) 0x10000000 (authLen op)) (authLen op) op (authSlot op) := by
  have e : ∀ op ∈ [1, 2, 3, 4, 5, 6, 7],
      waits (jobAt 2 (authLen op) (authMem op (authSlot op) (List.replicate 32 1))) 2 (authLen op) = true ∧
      authTest (memRead (authMem op (authSlot op) (List.replicate 32 1)) 0x10000000 (authLen op)) (authLen op) op (authSlot op) = true := by
    decide +kernel
  exact fun op h => ⟨(e op h).1, authObject_of (e op h).2⟩

theorem wit_auth_states : ∃ (s t u : State), s.dev.lc = .maker ∧ t.dev.lc = .field ∧ lastKey t.dev.fuse.owner 3 = true ∧
    lastKey s.dev.fuse.vendor 2 = false ∧ lastKey t.dev.fuse.vendor 2 = true ∧ (t.dev.fuse.owner.getD 0 {}).empty = true ∧
    u.dev.lc = .returned ∧ s.dev.authLegal 4 = false :=
  ⟨ofD { fuse := zeroFuse { openA := false, openB := false } },
    ofD { fuse := { fieldA := true, fieldB := true, vendor := [{}, {}, zeroKey], owner := [{}, {}, {}, zeroKey] } },
    ofD { fuse := { retA := true, retB := true } }, by decide +kernel, by decide +kernel, by decide +kernel, by decide +kernel,
    by decide +kernel, by decide +kernel, by decide +kernel, by decide +kernel⟩

theorem wit_report : ∃ (s : State) (j : EngJob), s.dev.alive = true ∧ s.dev.lcs.job = some j ∧ s.dev.lcs.outcome = none ∧
    s.dev.memi.ecc = [] ∧ j.op = 3 ∧ inHamper j.addr j.len = true ∧ j.len = 256 + sigLen :=
  ⟨jobAt 3 (256 + sigLen) [], ⟨3, 0x10000000, 256 + sigLen, 0⟩, by decide +kernel⟩

theorem wit_report_bad : ∃ (s : State) (j : EngJob), s.dev.alive = true ∧ s.dev.lcs.job = some j ∧ s.dev.lcs.outcome = none ∧
    j.op = 3 ∧ inHamper j.addr j.len = true ∧ j.len = 256 + sigLen ∧ (∃ e ∈ s.dev.badWords (j.addr + 24) 32, e.2.1 = .ue) :=
  ⟨jobAt 3 (256 + sigLen) [] { memi := { ecc := [(6, .ue, 0)] } }, ⟨3, 0x10000000, 256 + sigLen, 0⟩, by decide +kernel, by decide +kernel,
    by decide +kernel, by decide +kernel, by decide +kernel, by decide +kernel, (6, .ue, 0), by decide +kernel⟩

/-- A job with its result, of a command or of a register write. -/
def endsAt (who r : Nat) : State :=
  ofD { lcs := { job := some ⟨2, 0x10000000, 64, who⟩, outcome := some (r, 1, 3, 31), queue := [⟨0, 0x10000000, 64, 0⟩] },
        fw := { running := true, pendingOps := [⟨2, 255, 65535, who, []⟩] } }

theorem wit_job_end : ∀ who ∈ [0, 0x0010, 0xA003, 0xA005], ∀ r ∈ [0, 15], (endsAt who r).dev.alive = true ∧
    (endsAt who r).dev.lcs.job = some ⟨2, 0x10000000, 64, who⟩ ∧ (endsAt who r).dev.lcs.outcome = some (r, 1, 3, 31) ∧
    (endsAt who r).dev.pendingFor who = [⟨2, 255, 65535, who, []⟩] := by decide +kernel

/-! Memory integrity, self-test and DMA. -/

theorem wit_partition : ∃ (s t : State) (l : List Nat), s.dev.alive = true ∧
    l = (List.range 5).map (fun r => s.dev.getF (F.MEMI_PART_SIZEr_UNITS r)) ∧ s.dev.mod = .standby ∧ sizesOk l = true ∧
    t.dev.alive = true ∧ t.dev.mod ≠ .standby := ⟨ofD { mod := .standby }, atF [], _, rfl, rfl, by decide +kernel⟩

/-- The last word of the Hamper as the scrubber finds it. -/
def scrubAt (b : List (Nat × ErrClass × Byte)) (log : List LogEntry := []) (recent : List (Nat × Nat) := []) : State :=
  ofD (setAll { memi := { ecc := b, scrubPtr := 2 ^ 24 - 1, log := log, recent := recent } } [(F.MEMI_CTRL_SCRUB_EN, 1)])

/-- A log entry. -/
def log15 : LogEntry := ⟨1, 0, 255, 2 ^ 24 - 1, 0, 0⟩

theorem wit_scrub : ∀ cls ∈ [ErrClass.ce, .ue, .addr], let s := scrubAt [(2 ^ 24 - 1, cls, 255)]
    s.dev.alive = true ∧ s.dev.flag F.MEMI_CTRL_SCRUB_EN = true ∧ s.dev.memi.hamperSleep = false ∧ s.dev.memi.scrubPtr = 2 ^ 24 - 1 ∧
    s.dev.badWords (hamperLo + 8 * (2 ^ 24 - 1)) 8 = [(2 ^ 24 - 1, cls, 255)] ∧ cls ≠ .clean ∧
    s.dev.memi.recent.contains (2 ^ 24 - 1, errCode cls) = false ∧ s.dev.memi.log.length < 1024 := by decide +kernel

theorem wit_scrub_full : let s := scrubAt [(2 ^ 24 - 1, .ce, 255)] (List.replicate 1024 log15)
    s.dev.badWords (hamperLo + 8 * (2 ^ 24 - 1)) 8 = [(2 ^ 24 - 1, .ce, 255)] ∧ 1024 ≤ s.dev.memi.log.length := by decide +kernel

theorem wit_scrub_again : (scrubAt [(2 ^ 24 - 1, .ce, 255)] [] [(2 ^ 24 - 1, errCode .ce)]).dev.memi.recent.contains
    (2 ^ 24 - 1, errCode .ce) = true := by decide +kernel

theorem wit_scrub_clean : (scrubAt []).dev.badWords (hamperLo + 8 * (2 ^ 24 - 1)) 8 = [] := by decide +kernel

theorem wit_scrub_off : ∃ s t : State, s.dev.alive = true ∧ s.dev.flag F.MEMI_CTRL_SCRUB_EN = false ∧ t.dev.alive = true ∧
    t.dev.memi.hamperSleep = true := ⟨atF [(F.MEMI_CTRL_SCRUB_EN, 0)], ofD { memi := { hamperSleep := true } }, by decide +kernel⟩

theorem wit_writeback : ∃ (s : State) (w v : Nat), s.dev.alive = true ∧ w ∈ s.dev.memi.writeback ∧ v ∉ s.dev.memi.writeback :=
  ⟨ofD { memi := { writeback := [2 ^ 24 - 1] } }, 2 ^ 24 - 1, 0, by decide⟩

theorem wit_log : ∃ (s : State) (e : LogEntry) (l : List LogEntry), s.dev.alive = true ∧ s.dev.memi.log = e :: l :=
  ⟨scrubAt [] [log15], log15, [], by decide⟩

theorem wit_retire : ∃ (s t : State) (page : BitVec 15), s.dev.alive = true ∧ s.dev.memi.retiring = none ∧
    s.dev.retired.contains page.toNat = false ∧ s.dev.getF (spareF (pageDie page.toNat)) ≠ 0 ∧ t.dev.alive = true ∧
    t.dev.getF (spareF (pageDie page.toNat)) = 0 :=
  ⟨atF [(F.MEMI_STAT_SPARE1, 1)], atF [(F.MEMI_STAT_SPARE1, 0)], 32767, by decide +kernel⟩

theorem wit_retire_done : ∃ (s : State) (page i : Nat), s.dev.alive = true ∧ s.dev.memi.retiring = some page ∧ page < 32768 ∧ i < 128 ∧
    s.dev.flag (F.MEMI_REMAPi_VALID i) = false ∧ (∀ j, j < i → s.dev.flag (F.MEMI_REMAPi_VALID j) = true) ∧
    s.dev.fw.retireWait = [] ∧ s.dev.fw.running = true :=
  ⟨ofD (setAll { memi := { retiring := some 32767 }, fw := { running := true } } [(F.MEMI_REMAPi_VALID 0, 1)]), 32767, 1, by decide +kernel⟩

/-- A packet of a kind at the head of port 3's B queue. -/
def bulkAt (kind : Nat) (pl : List Byte) : State :=
  ofD { link := { ports := [(3, { vcs := [(vcB, { rxq := [{ pkt := { vc := vcB, kind := kind, payload := pl }, at_ := {} }] })] })] } }

theorem wit_bulk : ∃ (s t u : State) (i j k : Ingress), s.dev.alive = true ∧ ((s.dev.port 3).vc vcB).rxq = [i] ∧ i.pkt.kind = 1 ∧
    i.pkt.payload.drop 8 ≠ [] ∧ (i.pkt.payload.drop 8).length ≤ 16352 ∧ leAt i.pkt.payload 0 4 % 8 = 0 ∧
    s.dev.bulkFloor ≤ leAt i.pkt.payload 0 4 ∧ leAt i.pkt.payload 0 4 + (i.pkt.payload.drop 8).length ≤ s.dev.regionSize 4 ∧
    t.dev.alive = true ∧ ((t.dev.port 3).vc vcB).rxq = [j] ∧ j.pkt.kind = 1 ∧ leAt j.pkt.payload 0 4 % 8 ≠ 0 ∧
    u.dev.alive = true ∧ ((u.dev.port 3).vc vcB).rxq = [k] ∧ k.pkt.kind = 3 ∧ u.dev.bulkHead 3 1 = none ∧ t.dev.bulkHead 3 3 = none :=
  ⟨bulkAt 1 ([0xF8, 0xFF, 0x7F, 0, 0, 0, 0, 0] ++ List.replicate 8 1), bulkAt 1 [1, 0, 0, 0, 0, 0, 0, 0, 1], bulkAt 3 [1, 2, 3, 4], _, _, _,
    by decide +kernel, rfl, by decide +kernel, by decide +kernel, by decide +kernel, by decide +kernel, by decide +kernel,
    by decide +kernel, by decide +kernel, rfl, by decide +kernel, by decide +kernel, by decide +kernel, rfl, by decide +kernel,
    by decide +kernel, by decide +kernel⟩

theorem wit_bist_start : ∃ s t : State, s.dev.alive = true ∧ s.dev.flag F.BIST_STAT_BUSY = false ∧
    (s.dev.getF F.BIST_STAT_NO_SPARE).testBit (s.dev.getF F.BIST_SLICE_SLICE / 256) = true ∧ t.dev.alive = true ∧
    t.dev.flag F.BIST_STAT_BUSY = false ∧ (t.dev.getF F.BIST_STAT_NO_SPARE).testBit (t.dev.getF F.BIST_SLICE_SLICE / 256) = false :=
  ⟨atF [(F.BIST_STAT_NO_SPARE, 2), (F.BIST_SLICE_SLICE, 511)], atF [(F.BIST_STAT_NO_SPARE, 1), (F.BIST_SLICE_SLICE, 256)],
    by decide +kernel⟩

theorem wit_bist_pace : ∃ s t : State, s.dev.alive = true ∧ s.dev.flag F.BIST_STAT_BUSY = false ∧ s.dev.fw.running = true ∧
    s.dev.fw.bistPace ≠ 0 ∧ s.dev.fw.bistNext < 512 ∧
    (s.dev.getF F.BIST_STAT_NO_SPARE).testBit (s.dev.fw.bistNext / 256) = false ∧ t.dev.alive = true ∧ t.dev.fw.bistPace = 0 :=
  ⟨ofD { fw := { running := true, bistPace := 1, bistNext := 511 } }, ofD { fw := { bistPace := 0 } }, by decide +kernel⟩

/-- A test in a phase, on slice 511, with rows of its block used. -/
def bistAt (ph used : Nat) (stop : Bool := false) : State :=
  ofD (setAll { memi := { bist := { softRows := [(127, used)], stopped := stop } } }
    [(F.BIST_STAT_BUSY, 1), (F.BIST_STAT_PHASE, ph), (F.BIST_STAT_SLICE, 511)])

theorem wit_bist_phase : ∀ ph ∈ [1, 2, 3, 4], ∀ stop ∈ [false, true], (bistAt ph 6 stop).dev.alive = true ∧
    (bistAt ph 6 stop).dev.flag F.BIST_STAT_BUSY = true ∧ (bistAt ph 6 stop).dev.getF F.BIST_STAT_PHASE = ph ∧
    (bistAt ph 6 stop).dev.memi.bist.stopped = stop ∧ (bistAt ph 6).dev.rowsUsed (511 / 4) + 2 ≤ 8 ∧
    8 < (bistAt ph 6).dev.rowsUsed (511 / 4) + 3 ∧ (bistAt ph 6).dev.getF F.BIST_STAT_SLICE / 4 = 511 / 4 := by decide +kernel

theorem wit_fuse_rows : ∃ s t : State, s.dev.alive = true ∧ s.dev.lcOpen = true ∧ Tab.wf (fun _ => 0) s.dev.memi.bist.softRows = true ∧
    s.dev.memi.bist.softRows ≠ [] ∧ t.dev.alive = true ∧ t.dev.lcOpen = false :=
  ⟨bistAt 0 6, ofD { fuse := { fieldA := true, fieldB := true } }, by decide +kernel⟩

theorem wit_loopback_start : ∃ s t : State, s.dev.alive = true ∧ s.dev.flag F.BIST_LB_CTRL_BUSY = false ∧
    s.dev.flag F.CAL_RECIP_CFG_BUSY = false ∧ t.dev.alive = true ∧ t.dev.flag F.CAL_RECIP_CFG_BUSY = true :=
  ⟨atF [], atF [(F.CAL_RECIP_CFG_BUSY, 1)], by decide +kernel⟩

theorem wit_loopback_done : ∃ (s : State) (meas : List (Int × Nat)), s.dev.alive = true ∧ s.dev.flag F.BIST_LB_CTRL_BUSY = true ∧
    s.dev.tileLocked (tileOf 63) = true ∧ 63 < meas.length ∧ meas.getD 63 (0, 0) = (-7, 30) ∧ s.dev.tileLocked (tileOf 0) = false :=
  ⟨atF [(F.BIST_LB_CTRL_BUSY, 1), (F.TILE_STAT_PLL_STATE 3, 3)], List.replicate 64 (-7, 30), by decide +kernel⟩

/-- Channel 15 in a state, with a transfer. -/
def dmaAt (st mode src dst n : Nat) (m : MemSt := {}) (fs : List (Fld × Nat) := []) : State :=
  ofD (setAll { memi := m } ([(F.DMA_CHc_STAT_STATE 15, st), (F.DMA_CHc_CFG_MODE 15, mode), (F.DMA_CHc_CFG_WAYS_M1 15, 1),
    (⟨A.DMA_CHc_SRC 15, 0, 32⟩, src), (⟨A.DMA_CHc_DST 15, 0, 32⟩, dst), (⟨A.DMA_CHc_COUNT 15, 0, 32⟩, n),
    (⟨A.DMA_CHc_PSTRIDE 15, 0, 32⟩, 4096)] ++ fs))

theorem wit_dma_start : ∀ n ∈ [0, 4], (dmaAt 0 0 0x10000000 0x17FFF000 n).dev.alive = true ∧
    (dmaAt 0 0 0x10000000 0x17FFF000 n).dev.dmaState 15 = dmaIdle ∧ ((dmaAt 0 0 0x10000000 0x17FFF000 n).dev.xfer 15).ok = true ∧
    ((dmaAt 0 0 0x10000000 0x17FFF000 n).dev.dmaDomains 15).any (fun x => x != some 16 && (dmaAt 0 0 0x10000000 0x17FFF000 n).dev.domainDown x) =
      false ∧ ((dmaAt 0 0 0x10000000 0x17FFF000 n).dev.xfer 15).count = n := by decide +kernel

theorem wit_dma_start_down : ∃ s t : State, s.dev.alive = true ∧ s.dev.dmaState 15 = dmaIdle ∧ (s.dev.xfer 15).ok = false ∧
    t.dev.alive = true ∧ t.dev.dmaState 15 = dmaIdle ∧ (t.dev.xfer 15).ok = true ∧
    (t.dev.dmaDomains 15).any (fun x => x != some 16 && t.dev.domainDown x) = true :=
  ⟨dmaAt 0 0 0x10000000 0x17FFF000 3, dmaAt 0 0 0x10000000 (cluWindow 15) 4 {} [(F.MEMI_CLU_PWR_ON, 0x7FFF)], by decide +kernel⟩

theorem wit_dma_states : ∀ st ∈ [0, 1, 2, 3], ∀ w ∈ [0, 1], let s := dmaAt st 0 0x10000000 0x17FFF000 4 {} [(F.DMA_CHc_WDOG_US 15, w)]
    s.dev.alive = true ∧ s.dev.dmaState 15 = st ∧ s.dev.getF (F.DMA_CHc_WDOG_US 15) = w ∧
    (s.dev.dmaDomains 15).any s.dev.domainDown = false := by decide +kernel

theorem wit_dma_resume_down : let s := dmaAt 2 0 0x10000000 (cluWindow 15) 4 {} [(F.MEMI_CLU_PWR_ON, 0x7FFF)]
    s.dev.alive = true ∧ s.dev.dmaState 15 = dmaPaused ∧ (s.dev.dmaDomains 15).any s.dev.domainDown = true := by decide +kernel

theorem wit_dma_burst : ∀ st ∈ [dmaRun, dmaDraining], ∀ n ∈ [4, 8192], let s := dmaAt st 0 0x17FFE000 0x04000000 n
    s.dev.alive = true ∧ s.dev.dmaState 15 = st ∧ (s.dev.reg (A.DMA_CHc_DONE 15)).toNat = 0 ∧ s.dev.memi.ecc = [] ∧
    (s.dev.dmaSt 15).ue = false ∧ (s.dev.dmaSt 15).prot = false ∧ (s.dev.xfer 15).mode = 0 ∧
    domainOf ((s.dev.xfer 15).dst + 0) = none ∧ domainOf ((s.dev.xfer 15).src + 0) = some 16 ∧ (s.dev.xfer 15).count = n := by decide +kernel

theorem wit_dma_planes : ∀ mode ∈ [1, 2], let s := if mode = 1 then dmaAt 1 1 0x17FFE000 0x04000000 8 else dmaAt 1 2 0x04000000 0x04040000 8
    s.dev.dmaState 15 = dmaRun ∧ (s.dev.xfer 15).mode = mode ∧ min 4096 ((s.dev.xfer 15).count - 0) % (s.dev.xfer 15).esize = 0 ∧
    (∀ i, i < 8 / (s.dev.xfer 15).esize → domainOf ((s.dev.xfer 15).planeAddr 0x04000000 (0 + i * (s.dev.xfer 15).esize)) = none) ∧
    (mode = 1 → domainOf ((s.dev.xfer 15).src + 0) = some 16) ∧ (mode = 2 → domainOf ((s.dev.xfer 15).dst + 0) = none) := by decide +kernel

theorem wit_cluster_power : ∃ (s : State) (on : BitVec 16), s.dev.alive = true ∧ (s.dev.getF F.MEMI_CLU_PWR_ON).testBit 15 = true ∧
    (on.toNat.testBit 15 || ((s.dev.getF F.MEMI_CLU_PWR_ON).testBit 15 && (s.dev.cluState 15 == cluRun || s.dev.cluState 15 == cluLoading))) =
      false ∧ s.dev.dmaState 15 = dmaRun ∧ (s.dev.dmaDomains 15).contains (some 15) = true :=
  ⟨dmaAt 1 0 0x10000000 (cluWindow 15) 4 {} [(F.MEMI_CLU_PWR_ON, 0xFFFF)], 0x7FFF, by decide +kernel⟩

/-- A block that may sleep deeply, channel 15 in a state. -/
def sleepy (st : Nat) : State :=
  { dev := { (dmaAt st 0 0x10000000 0x17FFF000 4 {} [(F.TILE_STAT_ASLEEP 0, 1), (F.TILE_STAT_ASLEEP 1, 1), (F.TILE_STAT_ASLEEP 2, 1),
      (F.TILE_STAT_ASLEEP 3, 1), (F.MEMI_CLU_PWR_ON, 0)]).dev with mod := .standby } }

theorem wit_deep_sleep : ∀ st ∈ [1, 2], (sleepy st).dev.alive = true ∧ (sleepy st).dev.deepSleep = true ∧
    (sleepy st).dev.dmaState 15 = st ∧ ((sleepy st).dev.dmaDomains 15).contains (some 16) = true ∧
    ∀ k, k < 15 → (sleepy st).dev.dmaState k = dmaIdle := by decide +kernel

theorem wit_deep_sleep_not : ∃ s : State, s.dev.alive = true ∧ s.dev.deepSleep = false := ⟨atF [], by decide +kernel⟩

/-! Errors, observation and power. -/

/-- A block with hard faults latched, their conditions, and a first fault recorded or not. -/
def faultAt (hard cond valid : Nat) : State :=
  ofD (setAll { obs := { hardCond := cond } } [(F.OBS_FAULT_STAT_HARD, hard), (F.OBS_FIRST_INFO_VALID, valid)])

theorem wit_fault_new : ∀ v ∈ [0, 1], (faultAt 0 0 v).dev.alive = true ∧ ((faultAt 0 0 v).dev.getF F.OBS_FAULT_STAT_HARD).testBit 5 = false ∧
    (faultAt 0 0 v).dev.flag F.OBS_FIRST_INFO_VALID = (v == 1) ∧ ((faultAt 63 0 1).dev.getF F.OBS_FAULT_STAT_HARD).testBit 5 = true := by
  decide +kernel

theorem wit_fault_clear : ∀ c ∈ [0, 4], (faultAt 4 c 1).dev.alive = true ∧
    ((faultAt 4 c 1).dev.getF F.OBS_FAULT_STAT_HARD).testBit 2 = true ∧ (faultAt 4 c 1).dev.obs.hardCond.testBit 2 = (c == 4) ∧
    (faultAt 4 c 1).dev.getF F.OBS_FAULT_STAT_HARD = 4 ∧ (BitVec.ofNat 32 A.OBS_FAULT_STAT).toNat = A.OBS_FAULT_STAT := by decide +kernel

theorem wit_degraded_clear : ∃ (s : State) (v : BitVec 32), s.dev.alive = true ∧ (s.dev.getF F.OBS_DEGR_STAT_DEGR).testBit 4 = true ∧
    v.getLsbD 4 = true ∧ s.dev.degrCond 4 = true ∧ (s.dev.getF F.OBS_DEGR_STAT_DEGR).testBit 2 = true ∧ s.dev.degrCond 2 = false :=
  ⟨atF [(F.OBS_DEGR_STAT_DEGR, 0xFFF), (F.THRM_Ss_FAILED 123, 1)], 0xFFF, by decide +kernel⟩

/-- A module with its power as given. -/
def powIn (m : ModState) (p : PowerSt) (d : Dev := {}) : State := ofD { d with mod := m, power := p }

theorem wit_power_up : ∃ s t : State, s.dev.mod = .off ∧ s.dev.power.vinHigh = false ∧ s.dev.power.vinLow = false ∧ t.dev.mod ≠ .off ∧
    t.dev.power.rails ≠ 15 := ⟨powIn .off {}, powIn .safe { rails := 14 }, by decide⟩

theorem wit_power_good : ∀ b ∈ [false, true], (powIn .boot { booted := b }).dev.mod ≠ .off ∧ (powIn .boot { booted := b }).dev.power.rails = 15 ∧
    (powIn .boot { booted := b }).dev.power.resetN = true ∧ (powIn .boot { booted := b }).dev.power.pwrGood = false := by decide

theorem wit_boot_faults : ∃ (b : BootBist) (k : Fin 128) (n : Nat), b.faults = [(k, n)] := ⟨⟨[(127, 8)], []⟩, 127, 8, rfl⟩

/-- An image that verifies, of SVN 1. -/
def image15 : SlotImage := ⟨[1], 9, false, 1⟩

/-- A booted block after so many attempts. -/
def bootAt (n : Nat) (other : Bool) : State :=
  ofD (setAll { power := { booted := true }, fw := { rebootOther := other } } [(F.SYS_BOOT_ATTEMPTS, n)])

theorem wit_boot_loader : ∀ n ∈ [2, 3], ∀ o ∈ [false, true], (bootAt n o).dev.alive = true ∧ (bootAt n o).dev.fw.running = false ∧
    (bootAt n o).dev.fw.loader = false ∧ (bootAt n o).dev.fw.recovery = false ∧ (bootAt n o).dev.power.booted = true ∧
    ((some image15).filter (bootAt n o).dev.imageOk).isSome = true ∧
    (decide (3 ≤ (bootAt n o).dev.getF F.SYS_BOOT_ATTEMPTS) || (bootAt n o).dev.fw.rebootOther) = (n == 3 || o) := by decide +kernel

theorem wit_boot_images : ∃ (i j : BootImages) (m : List Byte), i.loader = some m ∧ i.pref.getD false = true ∧ i.slotB = some image15 ∧
    i.slotA = none ∧ j.loader = none := ⟨⟨some [1], none, some image15, some true⟩, ⟨none, none, none, none⟩, [1], by decide⟩

/-! Commands of the system, thermal, security, memory and observation classes. -/

theorem wit_thermCfg : ∃ (s : State) (h : CmdHdr) (pl : List Byte) (z : Nat), CmdOk s h 0x8001 pl ∧ pl.length = 12 ∧ byteAt pl 0 = z ∧ z ≤ 6 ∧
    byteAt pl 1 ≤ 1 ∧ byteAt pl 5 ≤ 15 ∧ byteAt pl 6 ≤ 15 ∧ byteAt pl 7 ≤ 15 ∧ byteAt pl 8 ≤ 31 ∧ byteAt pl 9 ≤ 31 ∧
    10 ≤ leAt pl 10 2 ∧ leAt pl 10 2 ≤ 1000 ∧ leAt pl 10 2 % 10 = 0 ∧ s.dev.throtOk z (byteAt pl 3) = true ∧
    s.dev.shutOk z (byteAt pl 4) = true :=
  ⟨inMod .ready (setAll {} [(F.THRM_FUSE_SHUT_MAX, 130)]), hdr0, [6, 1, 100, 110, 130, 15, 15, 15, 31, 31, 0xE8, 3], 6, cmdOk_of_first (by decide +kernel), by decide +kernel⟩

theorem wit_shedOrder : ∃ (s : State) (h : CmdHdr) (pl : List Byte), CmdOk s h 0x8002 pl ∧ pl.length = 32 ∧ s.dev.anyShed = false ∧
    (∀ b ∈ pl, b.toNat < 64) ∧ (∀ i, i < 16 → byteAt pl (2 * i) ≠ byteAt pl (2 * i + 1) ∧
      byteAt pl (2 * i) / 16 = byteAt pl (2 * i + 1) / 16) ∧
    (∀ i, i < 32 → ∀ j, j < 32 → i / 2 ≠ j / 2 → byteAt pl i ≠ byteAt pl j) :=
  ⟨inMod .ready, hdr0, (List.range 32).map (fun i => BitVec.ofNat 8 (63 - i)), cmdOk_of_first (by decide +kernel), by decide +kernel⟩

theorem wit_sensClear : ∃ (s : State) (h : CmdHdr) (pl : List Byte), CmdOk s h 0x8003 pl ∧ pl.length = 16 :=
  ⟨inMod .ready, hdr0, List.replicate 16 0xFF, cmdOk_of_first (by decide +kernel), by decide +kernel⟩

theorem wit_pwrCfg : ∃ (s : State) (h : CmdHdr) (pl : List Byte), CmdOk s h 0x8004 pl ∧ pl.length = 4 :=
  ⟨inMod .ready, hdr0, [255, 0, 0, 0], cmdOk_of_first (by decide +kernel), by decide +kernel⟩

theorem wit_thermStat : ∃ (s : State) (h : CmdHdr) (pl : List Byte), CmdOk s h 0x8005 pl ∧ pl = [] :=
  ⟨inMod .ready, hdr0, [], cmdOk_of_first (by decide +kernel), by decide +kernel⟩

theorem wit_sysInfo : ∃ (s : State) (h : CmdHdr) (pl : List Byte), CmdOk s h 0x0001 pl ∧ pl = [] :=
  ⟨inMod .ready, hdr0, [], cmdOk_of_first (by decide +kernel), by decide +kernel⟩

theorem wit_fwStat : ∃ (s : State) (h : CmdHdr) (pl : List Byte), CmdOk s h 0x0012 pl ∧ pl = [] :=
  ⟨inMod .ready, hdr0, [], cmdOk_of_first (by decide +kernel), by decide +kernel⟩

theorem wit_lcStat : ∃ (s : State) (h : CmdHdr) (pl : List Byte), CmdOk s h 0xA001 pl ∧ pl = [] :=
  ⟨inMod .ready, hdr0, [], cmdOk_of_first (by decide +kernel), by decide +kernel⟩

theorem wit_lcNonce : ∃ (s : State) (h : CmdHdr) (pl : List Byte), CmdOk s h 0xA002 pl ∧ pl = [] :=
  ⟨inMod .ready, hdr0, [], cmdOk_of_first (by decide +kernel), by decide +kernel⟩

theorem wit_bistStat : ∃ (s : State) (h : CmdHdr) (pl : List Byte), CmdOk s h 0x9011 pl ∧ pl = [] :=
  ⟨inMod .ready, hdr0, [], cmdOk_of_first (by decide +kernel), by decide +kernel⟩

theorem wit_obsFaults : ∃ (s : State) (h : CmdHdr) (pl : List Byte), CmdOk s h 0xB002 pl ∧ pl = [] :=
  ⟨inMod .ready, hdr0, [], cmdOk_of_first (by decide +kernel), by decide +kernel⟩

theorem wit_sysStateSet_standby : ∃ (s : State) (h : CmdHdr) (pl : List Byte), CmdOk s h 0x0002 pl ∧ pl.length = 4 ∧ byteAt pl 0 = 2 ∧ s.dev.mod = .safe ∧
    s.dev.reg A.SYS_SAFE_CAUSE = 0 :=
  ⟨inMod .safe, hdr0, [2, 0, 0, 0], cmdOk_of_first (by decide +kernel), by decide +kernel⟩

theorem wit_sysStateSet_ready : ∃ (s : State) (h : CmdHdr) (pl : List Byte), CmdOk s h 0x0002 pl ∧ pl.length = 4 ∧ byteAt pl 0 = 3 ∧ s.dev.mod = .active ∧
    s.dev.missingForReady = 0 :=
  ⟨inMod .active (setAll {} [(F.SYS_FUNC_READY_READY, 0x2780)]), hdr0, [3, 0, 0, 0], cmdOk_of_first (by decide +kernel), by decide +kernel⟩

theorem wit_sysStateSet_active : ∃ (s : State) (h : CmdHdr) (pl : List Byte), CmdOk s h 0x0002 pl ∧ pl.length = 4 ∧ byteAt pl 0 = 4 ∧ s.dev.mod = .ready ∧
    s.dev.flag F.FHP_CTRL_DL_EN = true ∧ s.dev.flag F.SYS_STATE_ACT_PEND = false :=
  ⟨inMod .ready (setAll {} [(F.FHP_CTRL_DL_EN, 1)]), hdr0, [4, 0, 0, 0], cmdOk_of_first (by decide +kernel), by decide +kernel⟩

theorem wit_sysStateSet_safe : ∃ (s : State) (h : CmdHdr) (pl : List Byte), CmdOk s h 0x0002 pl ∧ pl.length = 4 ∧ byteAt pl 0 = 5 :=
  ⟨inMod .ready, hdr0, [5, 0, 0, 0], cmdOk_of_first (by decide +kernel), by decide +kernel⟩

theorem wit_safeClear : ∃ (s : State) (h : CmdHdr) (pl : List Byte), CmdOk s h 0x0003 pl ∧ pl.length = 4 :=
  ⟨inMod .safe, hdr0, [31, 0, 0, 0], cmdOk_of_first (by decide +kernel), by decide +kernel⟩

theorem wit_sysReboot : ∃ (s : State) (h : CmdHdr) (pl : List Byte), CmdOk s h 0x0004 pl ∧ pl.length = 4 :=
  ⟨inMod .ready, hdr0, [1, 0, 0, 0], cmdOk_of_first (by decide +kernel), by decide +kernel⟩

theorem wit_wdogCfg : ∃ (s : State) (h : CmdHdr) (pl : List Byte) (p : Nat), CmdOk s h 0x0005 pl ∧ pl.length = 4 ∧ leAt pl 0 2 = p ∧ p = 0 ∧
    s.dev.lcOpen = true ∧ s.dev.flag F.SYS_WDOG_CFG_LOCK = false :=
  ⟨inMod .ready, hdr0, [0, 0, 1, 0], 0, cmdOk_of_first (by decide +kernel), by decide +kernel⟩

theorem wit_wdogCfg_locked : ∃ (s : State) (h : CmdHdr) (pl : List Byte) (p : Nat), CmdOk s h 0x0005 pl ∧ pl.length = 4 ∧ leAt pl 0 2 = p ∧ 10 ≤ p ∧
    p ≤ 10000 ∧ s.dev.flag F.SYS_WDOG_CFG_LOCK = true ∧ p = s.dev.getF F.SYS_WDOG_CFG_PERIOD :=
  ⟨inMod .ready (setAll {} [(F.SYS_WDOG_CFG_LOCK, 1), (F.SYS_WDOG_CFG_PERIOD, 10000)]), hdr0, [0x10, 0x27, 0, 0], 10000, cmdOk_of_first (by decide +kernel), by decide +kernel⟩

theorem wit_fwStage : ∃ (s : State) (h : CmdHdr) (pl : List Byte), CmdOk s h 0x0010 pl ∧ pl.length = 8 ∧ s.dev.pendingFor 0x0010 = [] ∧
    leAt pl 0 4 % 64 = 0 ∧ leAt pl 4 4 ≠ 0 ∧ leAt pl 0 4 + leAt pl 4 4 ≤ s.dev.regionSize 4 ∧
    s.dev.flag F.LCS_VCTRL_BUSY = false ∧ s.dev.lcs.queue = [] :=
  ⟨inMod .standby, hdr0, [0xC0, 0xFF, 0x7F, 0, 0x40, 0, 0, 0], cmdOk_of_first (by decide +kernel), by decide +kernel⟩

theorem wit_fwStage_busy : ∃ (s : State) (h : CmdHdr) (pl : List Byte), CmdOk s h 0x0010 pl ∧ pl.length = 8 ∧ s.dev.pendingFor 0x0010 = [] ∧
    leAt pl 0 4 % 64 = 0 ∧ leAt pl 4 4 ≠ 0 ∧ leAt pl 0 4 + leAt pl 4 4 ≤ s.dev.regionSize 4 ∧
    s.dev.flag F.LCS_VCTRL_BUSY = true :=
  ⟨inMod .standby (setAll {} [(F.LCS_VCTRL_BUSY, 1)]), hdr0, [0xC0, 0xFF, 0x7F, 0, 0x40, 0, 0, 0], cmdOk_of_first (by decide +kernel), by decide +kernel⟩

theorem wit_lcAuth : ∃ (s : State) (h : CmdHdr) (pl : List Byte), CmdOk s h 0xA003 pl ∧ pl.length = 8 ∧ s.dev.pendingFor 0xA003 = [] ∧
    leAt pl 0 4 % 64 = 0 ∧ leAt pl 4 4 ≠ 0 ∧ leAt pl 0 4 + leAt pl 4 4 ≤ s.dev.regionSize 4 ∧
    s.dev.flag F.LCS_VCTRL_BUSY = false ∧ s.dev.lcs.queue = [] :=
  ⟨inMod .standby, hdr0, [0xC0, 0xFF, 0x7F, 0, 0x40, 0, 0, 0], cmdOk_of_first (by decide +kernel), by decide +kernel⟩

theorem wit_lcAuth_busy : ∃ (s : State) (h : CmdHdr) (pl : List Byte), CmdOk s h 0xA003 pl ∧ pl.length = 8 ∧ s.dev.pendingFor 0xA003 = [] ∧
    leAt pl 0 4 % 64 = 0 ∧ leAt pl 4 4 ≠ 0 ∧ leAt pl 0 4 + leAt pl 4 4 ≤ s.dev.regionSize 4 ∧
    s.dev.flag F.LCS_VCTRL_BUSY = true :=
  ⟨inMod .standby (setAll {} [(F.LCS_VCTRL_BUSY, 1)]), hdr0, [0xC0, 0xFF, 0x7F, 0, 0x40, 0, 0, 0], cmdOk_of_first (by decide +kernel), by decide +kernel⟩

theorem wit_fwActivate : ∃ (s : State) (h : CmdHdr) (pl : List Byte), CmdOk s h 0x0011 pl ∧ pl.length = 4 ∧ byteAt pl 0 ≤ 1 ∧
    (s.dev.fw.slot (byteAt pl 0)).verified ≠ none :=
  ⟨inMod .ready { fw := { slotB := ⟨some 7⟩ } }, hdr0, [1, 0, 0, 0], cmdOk_of_first (by decide +kernel), by decide +kernel⟩

theorem wit_pinLoopback : ∃ (s : State) (h : CmdHdr) (pl : List Byte) (g mode mask : Nat), CmdOk s h 0x0020 pl ∧ pl.length = 24 ∧ byteAt pl 0 = g ∧
    byteAt pl 1 = mode ∧ leAt pl 4 20 = mask ∧ s.dev.lcOpen = true ∧ loopOk g mode (byteAt pl 2) = true ∧ mask < 2 ^ loopLands g :=
  ⟨inMod .standby, hdr0, [7, 2, 0, 0] ++ List.replicate 18 0xFF ++ [0, 0], 7, 2, 2 ^ 144 - 1, cmdOk_of_first (by decide +kernel), by decide +kernel⟩

theorem wit_ownerKeySet : ∃ (s : State) (h : CmdHdr) (pl : List Byte) (i : Nat), CmdOk s h 0xA004 pl ∧ pl.length = 52 ∧ byteAt pl 0 = i ∧ i ≤ 3 ∧
    s.dev.lc = .ownerOpen ∧ (s.dev.fuse.owner.getD i {}).empty = true :=
  ⟨inMod .standby { fuse := { openA := true, openB := true } }, hdr0, [3, 0, 0, 0] ++ List.replicate 48 0xA5, 3, cmdOk_of_first (by decide +kernel), by decide +kernel⟩

theorem wit_attest : ∃ (s : State) (h : CmdHdr) (pl : List Byte), CmdOk s h 0xA005 pl ∧ pl.length = 32 ∧ s.dev.pendingFor 0xA005 = [] ∧
    s.dev.flag F.LCS_VCTRL_BUSY = false ∧ s.dev.lcs.queue = [] :=
  ⟨inMod .ready (setAll {} [(F.LCS_VCTRL_BUSY, 0)]), hdr0, List.replicate 32 0xFF, cmdOk_of_first (by decide +kernel), by decide +kernel⟩

theorem wit_attest_busy : ∃ (s : State) (h : CmdHdr) (pl : List Byte), CmdOk s h 0xA005 pl ∧ pl.length = 32 ∧ s.dev.pendingFor 0xA005 = [] ∧
    s.dev.flag F.LCS_VCTRL_BUSY = true ∧ s.dev.lcs.queue = [] :=
  ⟨inMod .ready (setAll {} [(F.LCS_VCTRL_BUSY, 1)]), hdr0, List.replicate 32 0xFF, cmdOk_of_first (by decide +kernel), by decide +kernel⟩

theorem wit_svnCommit : ∃ (s : State) (h : CmdHdr) (pl : List Byte), CmdOk s h 0xA006 pl ∧ pl = [] ∧ s.dev.lc = .field ∧
    s.dev.flag F.SYS_BOOT_CONFIRM = true ∧ s.dev.fw.runOwner = false :=
  ⟨inMod .standby (setAll { fuse := { fieldA := true, fieldB := true }, fw := { runOwner := false, runSvn := 40 } }
    [(F.SYS_BOOT_CONFIRM, 1)]), hdr0, [], cmdOk_of_first (by decide +kernel), by decide +kernel⟩

theorem wit_svnCommit_owner : ∃ (s : State) (h : CmdHdr) (pl : List Byte), CmdOk s h 0xA006 pl ∧ pl = [] ∧ s.dev.lc = .field ∧
    s.dev.flag F.SYS_BOOT_CONFIRM = true ∧ s.dev.fw.runOwner = true :=
  ⟨inMod .standby (setAll { fuse := { fieldA := true, fieldB := true }, fw := { runOwner := true, runSvn := 40 } }
    [(F.SYS_BOOT_CONFIRM, 1)]), hdr0, [], cmdOk_of_first (by decide +kernel), by decide +kernel⟩

theorem wit_kernelAdd : ∃ (s : State) (h : CmdHdr) (pl : List Byte) (id a : Nat), CmdOk s h 0x3060 pl ∧ pl.length = 12 ∧ leAt pl 0 4 = id ∧ id ≠ 0 ∧
    leAt pl 4 4 % 32 = 0 ∧ leAt pl 8 4 ≠ 0 ∧ leAt pl 4 4 + leAt pl 8 4 ≤ s.dev.regionSize 4 ∧ a = s.dev.regionBase 4 + leAt pl 4 4 ∧
    memNat s.mem (a + 8) 4 = id ∧ s.dev.kernelAssigned id = false ∧ s.dev.flag F.LCS_VCTRL_BUSY = false ∧
    s.dev.lcs.queue = [] :=
  ⟨let s := inMod .ready (setAll {} [(F.LCS_VCTRL_BUSY, 0)]); { s with mem := memWrite [] (s.dev.regionBase 4 + 40) [9, 0, 0, 0] },
    hdr0, [9, 0, 0, 0, 32, 0, 0, 0, 0, 4, 0, 0], 9, ({} : Dev).regionBase 4 + 32, cmdOk_of_first (by decide +kernel), by decide +kernel⟩

theorem wit_kernelAdd_busy : ∃ (s : State) (h : CmdHdr) (pl : List Byte) (id a : Nat), CmdOk s h 0x3060 pl ∧ pl.length = 12 ∧ leAt pl 0 4 = id ∧ id ≠ 0 ∧
    leAt pl 4 4 % 32 = 0 ∧ leAt pl 8 4 ≠ 0 ∧ leAt pl 4 4 + leAt pl 8 4 ≤ s.dev.regionSize 4 ∧ a = s.dev.regionBase 4 + leAt pl 4 4 ∧
    memNat s.mem (a + 8) 4 = id ∧ s.dev.kernelAssigned id = false ∧ s.dev.flag F.LCS_VCTRL_BUSY = true ∧
    s.dev.lcs.queue = [] :=
  ⟨let s := inMod .ready (setAll {} [(F.LCS_VCTRL_BUSY, 1)]); { s with mem := memWrite [] (s.dev.regionBase 4 + 40) [9, 0, 0, 0] },
    hdr0, [9, 0, 0, 0, 32, 0, 0, 0, 0, 4, 0, 0], 9, ({} : Dev).regionBase 4 + 32, cmdOk_of_first (by decide +kernel), by decide +kernel⟩

/-- The sizes of a partition that changes nothing. -/
def sizes16 : List Byte := le4 320 ++ le4 546 ++ le4 256 ++ le4 384 ++ le4 128

theorem fits_weights : (inMod .standby).dev.regionFits 0 320 = true := by decide +kernel

theorem fits_contexts : (inMod .standby).dev.regionFits 1 546 = true := by decide +kernel

theorem regionFits_two (d : Dev) (u : Nat) : d.regionFits 2 u = d.jitterFits (d.streams 0 []) d.earlySet (u * 65536) := rfl

theorem fits_jitter : (inMod .standby).dev.regionFits 2 256 = true := by
  rw [regionFits_two, streams_none (by decide +kernel) _ _ (by simp)]
  decide +kernel

theorem wit_memPartition : ∃ (s : State) (h : CmdHdr) (pl : List Byte) (l : List Nat), CmdOk s h 0x9001 pl ∧ pl.length = 20 ∧
    l = (List.range 5).map (fun r => leAt pl (4 * r) 4) ∧ sizesOk l = true ∧ ∀ r, r < 5 → s.dev.regionFits r (l.getD r 0) = true :=
  ⟨inMod .standby, hdr0, sizes16, [320, 546, 256, 384, 128],
    cmdOk_of_first (by decide +kernel), by decide +kernel, by decide +kernel, by decide +kernel, fun r hr => by
      match r, hr with
      | 0, _ => exact fits_weights
      | 1, _ => exact fits_contexts
      | 2, _ => exact fits_jitter
      | 3, _ => rfl
      | 4, _ => rfl⟩

theorem wit_memRead : ∃ (s : State) (h : CmdHdr) (pl : List Byte) (r n : Nat), CmdOk s h 0x9002 pl ∧ pl.length = 12 ∧ byteAt pl 0 = 2 ∧ r = 5 ∧
    leAt pl 8 4 = n ∧ n ≠ 0 ∧ n ≤ 0x1000000 ∧ leAt pl 4 4 + n ≤ s.dev.regionSize r ∧ s.dev.pendingFor 0x9002 = [] ∧ s.dev.memi.ecc = [] ∧
    s.dev.upstream = some 3 :=
  ⟨inMod .ready (upDev 3), hdr0, [2, 0, 255, 255, 0, 0, 0, 0, 0, 0, 0, 1], 5, 0x1000000, cmdOk_of_first (by decide +kernel), by decide +kernel⟩

theorem wit_memLog : ∃ (s : State) (h : CmdHdr) (pl : List Byte) (n : Nat) (es : List LogEntry), CmdOk s h 0x9003 pl ∧ pl.length = 4 ∧ byteAt pl 0 = n ∧
    1 ≤ n ∧ n ≤ 64 ∧ es = s.dev.memi.log.take n :=
  ⟨inMod .ready { memi := { log := [log15, log15] } }, hdr0, [64, 0, 0, 0], 64, [log15, log15], cmdOk_of_first (by decide +kernel), by decide +kernel⟩

theorem wit_pageRetire : ∃ (s : State) (h : CmdHdr) (pl : List Byte) (p : Nat), CmdOk s h 0x9004 pl ∧ pl.length = 4 ∧ leAt pl 0 2 = p ∧ p < 32768 ∧
    s.dev.retired.contains p = false ∧ s.dev.getF (spareF (pageDie p)) ≠ 0 ∧ s.dev.memi.retiring = none :=
  ⟨inMod .ready (setAll {} [(F.MEMI_STAT_SPARE1, 1)]), hdr0, [0xFF, 0x7F, 0, 0], 32767, cmdOk_of_first (by decide +kernel), by decide +kernel⟩

theorem wit_bistCfg : ∃ (s : State) (h : CmdHdr) (pl : List Byte), CmdOk s h 0x9010 pl ∧ pl.length = 4 ∧ (byteAt pl 2).testBit 0 = false :=
  ⟨inMod .ready, hdr0, [0xFF, 0xFF, 0, 0], cmdOk_of_first (by decide +kernel), by decide +kernel⟩

theorem wit_bistCfg_run : ∃ (s : State) (h : CmdHdr) (pl : List Byte), CmdOk s h 0x9010 pl ∧ pl.length = 4 ∧ (byteAt pl 2).testBit 0 = true ∧
    s.dev.flag F.BIST_STAT_BUSY = false :=
  ⟨inMod .ready, hdr0, [0xFF, 0xFF, 1, 0], cmdOk_of_first (by decide +kernel), by decide +kernel⟩

theorem wit_fuseRepair : ∃ (s : State) (h : CmdHdr) (pl : List Byte), CmdOk s h 0x9012 pl ∧ pl = [] ∧ s.dev.lcOpen = true :=
  ⟨inMod .standby { memi := { bist := { softRows := [(127, 8)] } } }, hdr0, [], cmdOk_of_first (by decide +kernel), by decide +kernel⟩

theorem wit_loopback : ∃ (s : State) (h : CmdHdr) (pl : List Byte), CmdOk s h 0x9013 pl ∧ pl.length = 4 ∧ s.dev.ttProgrammed 45 = true ∧
    byteAt pl 0 ≤ 31 ∧ s.dev.flag F.BIST_LB_CTRL_BUSY = false ∧ s.dev.flag F.CAL_RECIP_CFG_BUSY = false :=
  ⟨recipReady, hdr0, [31, 0, 0, 0], cmdOk_of_first (by decide +kernel), by decide +kernel⟩

theorem wit_obsFaultClear : ∃ (s : State) (h : CmdHdr) (pl : List Byte), CmdOk s h 0xB003 pl ∧ pl.length = 8 :=
  ⟨inMod .ready, hdr0, List.replicate 8 0xFF, cmdOk_of_first (by decide +kernel), by decide +kernel⟩

theorem wit_faultnCfg : ∃ (s : State) (h : CmdHdr) (pl : List Byte), CmdOk s h 0xB004 pl ∧ pl.length = 4 ∧ leAt pl 0 4 < 4096 :=
  ⟨inMod .ready, hdr0, [0xFF, 0x0F, 0, 0], cmdOk_of_first (by decide +kernel), by decide +kernel⟩

theorem wit_traceCfg : ∃ (s : State) (h : CmdHdr) (pl : List Byte) (l : Nat), CmdOk s h 0xB005 pl ∧ pl.length = 16 ∧ byteAt pl 0 = l ∧ l = 4 ∧
    leAt pl 4 4 < 1024 ∧ leAt pl 8 4 % 4 = 0 ∧ s.dev.devAccess = true :=
  ⟨inMod .ready, hdr0, [4, 0, 0, 0, 0xFF, 3, 0, 0, 0xFC, 0xFF, 0x1F, 0x40, 4, 0, 0, 0], 4, cmdOk_of_first (by decide +kernel), by decide +kernel⟩

theorem wit_no_store : ∃ (c : Instr) (s t : State), storingRow c = false ∧ exec c s = .next t :=
  ⟨.cluClear 0, ofD { mod := .off }, _, by decide +kernel, rfl⟩

theorem wit_footprint : ∃ (c : Instr) (ps : List Part) (s t : State) (p : Part), footprint c = some ps ∧ exec c s = .next t ∧ p ∉ ps :=
  ⟨.traceSync, [], ofD {}, _, .cal, rfl, rfl, by decide⟩

end Sys2Proof.Machine
end

section
/-! SUPPORT. What the handling of frames and the observation path do to registers: the ring bases of the mailboxes hold,
and no register with RC fields reads less than before; and where the frames are stored. -/

namespace Sys2Proof.Machine

/-- The two registers of a mailbox that hold the bases of its rings (R436). -/
def ringBase (a : Nat) : Prop := ∃ m, m < 4 ∧ (a = A.MBOX_m_IN_BASE m ∨ a = A.MBOX_m_OUT_BASE m)

/-- The bases of the rings hold, and no RC field has been cleared. -/
structure Dev.RegsCalm (d e : Dev) : Prop where
  base : ∀ a, ringBase a → e.reg a = d.reg a
  rc : RcKept d e

theorem ringBase_in {m : Nat} (h : m < 4) : ringBase (A.MBOX_m_IN_BASE m) := ⟨m, h, .inl rfl⟩

theorem ringBase_out {m : Nat} (h : m < 4) : ringBase (A.MBOX_m_OUT_BASE m) := ⟨m, h, .inr rfl⟩

/-- The ring bases lie in the first four mailboxes, at the second and third word of each. -/
theorem ringBase_bounds {a : Nat} (h : ringBase a) :
    0x40020104 ≤ a ∧ a < 0x40020200 ∧ (a % 0x40 = 4 ∨ a % 0x40 = 8) := by
  obtain ⟨m, hm, h | h⟩ := h
  · unfold A.MBOX_m_IN_BASE at h; omega
  · unfold A.MBOX_m_OUT_BASE at h; omega

/-! The relation. -/

theorem Dev.RegsCalm.trans {d e f : Dev} (h : d.RegsCalm e) (g : e.RegsCalm f) : d.RegsCalm f where
  base a ha := (g.base a ha).trans (h.base a ha)
  rc b row hb hr := le_trans (h.rc b row hb hr) (g.rc b row hb hr)

/-- Updates that leave the registers alone. -/
theorem Dev.RegsCalm.of_regs {d e : Dev} (h : e.regs = d.regs) : d.RegsCalm e := by
  have hr : ∀ a, e.reg a = d.reg a := fun a => by unfold Dev.reg; rw [h]
  exact ⟨fun a _ => hr a, fun b _ _ _ => by rw [hr b]⟩

theorem Dev.RegsCalm.refl (d : Dev) : d.RegsCalm d := .of_regs rfl

/-- An update before a calm one that leaves the registers alone. -/
theorem Dev.RegsCalm.from_regs {d e f : Dev} (h : e.RegsCalm f) (hr : e.regs = d.regs) : d.RegsCalm f :=
  Dev.RegsCalm.trans (.of_regs hr) h

/-- A fold of which every turn is calm. -/
theorem Dev.RegsCalm.foldl {α : Type} (l : List α) (f : Dev → α → Dev) (d : Dev) (h : ∀ e x, Dev.RegsCalm e (f e x)) :
    d.RegsCalm (l.foldl f d) :=
  Dev.forL_rel Dev.RegsCalm .refl (fun _ _ _ => .trans) l f d (fun e x _ => h e x)

/-- A register that is no ring base and whose row has no RC field may be written. -/
theorem Dev.setReg_calm (d : Dev) {a : Nat} (v : W32) (ha : ¬ ringBase a) (hrc : (regRow a).all (·.rc == 0) = true) :
    d.RegsCalm (d.setReg a v) where
  base _ hb := d.reg_setReg_ne v fun e => ha (e ▸ hb)
  rc b row hb hr := by
    have hne : b ≠ a := by
      rintro rfl
      rw [hb] at hrc
      exact hr (by simpa using hrc)
    rw [d.reg_setReg_ne v hne]

/-- A counter only counts up. -/
theorem Dev.count_calm (d : Dev) {a : Nat} (n : Nat) (ha : ¬ ringBase a) : d.RegsCalm (d.count a n) where
  base _ hb := d.reg_count_ne fun e => ha (e ▸ hb)
  rc b _ _ _ := by
    by_cases h : b = a
    · subst h
      have := (d.reg b).isLt
      rw [d.reg_count_self]
      omega
    · rw [d.reg_count_ne h]

/-! The trace port and the outbound frames. -/

theorem Dev.trace_calm (d : Dev) (src payload : Nat) : d.RegsCalm (d.trace src payload) := by
  have hdrop : ¬ ringBase A.OBS_TRC_DROP := fun h => by have := ringBase_bounds h; unfold A.OBS_TRC_DROP at this; omega
  have hint : ¬ ringBase A.OBS_INT_STAT := fun h => by have := ringBase_bounds h; unfold A.OBS_INT_STAT at this; omega
  unfold Dev.trace
  split
  · exact .refl d
  · split
    · exact .refl d
    · split
      · exact .of_regs rfl
      · have hcount := d.count_calm 1 hdrop
        have hset : ∀ e : Dev, e.RegsCalm (e.setB F.OBS_INT_STAT_TRC_DROP true) := fun e =>
          e.setReg_calm _ hint (by decide)
        exact (hcount.trans (hset _)).trans (.of_regs rfl)

theorem Dev.watch_calm (d : Dev) (src a : Nat) (bs : List Byte) : d.RegsCalm (d.watch src a bs) := by
  unfold Dev.watch
  dsimp only
  split
  · exact .refl d
  · refine .foldl _ _ _ fun e i => ?_
    split
    · exact e.trace_calm _ _
    · exact .refl e

theorem Dev.emit_calm (d : Dev) (m : Nat) (f : List Byte) : d.RegsCalm (d.emit m f) := by
  unfold Dev.emit
  split
  · exact .refl d
  · exact (d.trace_calm _ _).trans (.of_regs rfl)

theorem Dev.respond_calm (d : Dev) (mb : Nat) (tag : Byte) (seq opcode status d2 d3 : Nat) (data : List Byte) :
    d.RegsCalm (d.respond mb tag seq opcode status d2 d3 data) := (d.emit_calm mb _).trans (.of_regs rfl)

theorem Dev.answer_calm (d : Dev) (mb : Nat) (tag : Byte) (seq opcode : Nat) (r : Reply) :
    d.RegsCalm (d.answer mb tag seq opcode r) := by
  cases r with
  | ok data => exact d.respond_calm _ _ _ _ _ _ _ _
  | err st d2 d3 data => exact d.respond_calm _ _ _ _ _ _ _ _
  | pending args => exact (d.respond_calm _ _ _ _ _ _ _ _).trans (.of_regs rfl)
  | wait args => exact .of_regs rfl

theorem flushBox_calm (m n : Nat) (d : Dev) : d.RegsCalm (flushBox m n d).2 := by
  induction n generalizing d with
  | zero => exact .refl d
  | succ n ih =>
    unfold flushBox
    dsimp only
    split
    · exact .refl d
    · split
      · refine Dev.RegsCalm.trans ?_ (ih _)
        split
        · exact (Dev.watch_calm _ _ _ _).from_regs rfl
        · exact .of_regs rfl
      · exact .refl d

theorem flushAll_calm (d : Dev) : d.RegsCalm (flushAll d).2 :=
  ((flushBox_calm _ _ _).trans (flushBox_calm _ _ _)).trans (flushBox_calm _ _ _)

theorem settle_calm (s : State) (ws : Writes) (d : Dev) : d.RegsCalm (settle s ws d).dev := flushAll_calm d

/-! Where frames are stored. -/

theorem RingSlots.nil (d : Dev) : RingSlots d [] := fun _ h => absurd h List.not_mem_nil

theorem RingSlots.append {d : Dev} {ws us : Writes} (h : RingSlots d ws) (g : RingSlots d us) : RingSlots d (ws ++ us) :=
  fun w hw => (List.mem_append.1 hw).elim (h w) (g w)

/-- The slots of the rings depend on their bases alone. -/
theorem RingSlots.congr {d e : Dev} {ws : Writes} (h : ∀ a, ringBase a → e.reg a = d.reg a) (g : RingSlots d ws) :
    RingSlots e ws := by
  intro w hw
  obtain ⟨m, hm, k, hk, hs⟩ := g w hw
  exact ⟨m, hm, k, hk, by rwa [h _ (ringBase_in hm), h _ (ringBase_out hm)]⟩

theorem RingSlots.calm {d e : Dev} {ws : Writes} (h : d.RegsCalm e) (g : RingSlots d ws) : RingSlots e ws := g.congr h.base

/-- The same, from the block before. -/
theorem RingSlots.uncalm {d e : Dev} {ws : Writes} (h : d.RegsCalm e) (g : RingSlots e ws) : RingSlots d ws :=
  g.congr fun a ha => (h.base a ha).symm

/-- Frames leave for slots of their outbound ring (R418, R421). -/
theorem flushBox_ringSlots {m : Nat} (hm : m < 4) (n : Nat) (d : Dev) : RingSlots d (flushBox m n d).1 := by
  induction n generalizing d with
  | zero => exact .nil d
  | succ n ih =>
    unfold flushBox
    dsimp only
    split
    · exact .nil d
    · split
      · refine .append ?_ ?_
        · split
          · intro w hw
            obtain rfl := List.mem_singleton.1 hw
            exact ⟨m, hm, _, Nat.mod_lt _ (by decide), .inr rfl⟩
          · exact .nil d
        · refine RingSlots.uncalm ?_ (ih _)
          split
          · exact (Dev.watch_calm _ _ _ _).from_regs rfl
          · exact .of_regs rfl
      · exact .nil d

theorem flushAll_ringSlots (d : Dev) : RingSlots d (flushAll d).1 := by
  have h0 := flushBox_calm 0 (d.mbx 0).outWait.length d
  have h1 := flushBox_calm 1 ((flushBox 0 (d.mbx 0).outWait.length d).2.mbx 1).outWait.length
    (flushBox 0 (d.mbx 0).outWait.length d).2
  exact ((flushBox_ringSlots (by decide) _ d).append ((flushBox_ringSlots (by decide) _ _).uncalm h0)).append
    ((flushBox_ringSlots (by decide) _ _).uncalm (h0.trans h1))

/-- Runs stored in order: the first ones, then the rest. -/
theorem memWrites_append (m : Mem) (ws us : Writes) : memWrites m (ws ++ us) = memWrites (memWrites m ws) us :=
  List.foldl_append

/-- Settling stores the bytes given to it, and frames in slots of the rings. -/
theorem settle_storedAt (s : State) (ws : Writes) (d : Dev) : StoredAt s (settle s ws d) ws :=
  ⟨(flushAll d).1, (flushAll_ringSlots d).calm (settle_calm s ws d), (memWrites_append _ _ _).symm⟩

/-- Where all the bytes given to it are frames, settling stores nothing else. -/
theorem settle_storedAt_frames (s : State) {ws : Writes} {d : Dev} (h : RingSlots d ws) : StoredAt s (settle s ws d) [] :=
  ⟨ws ++ (flushAll d).1, (h.append (flushAll_ringSlots d)).calm (settle_calm s ws d), (memWrites_append _ _ _).symm⟩

/-! The mailboxes' inbound side. -/

theorem Dev.popIn_calm (d : Dev) (m : Nat) : d.RegsCalm (d.popIn m) := .of_regs (by rw [d.popIn_eq m])

theorem Dev.pushIn_calm (d : Dev) (m : Nat) (f : List Byte) : d.RegsCalm (d.pushIn m f).2 := by
  have hint : ¬ ringBase A.MBOX_INT_STAT := fun h => by have := ringBase_bounds h; unfold A.MBOX_INT_STAT at this; omega
  have hset : ∀ (e : Dev) v, e.RegsCalm (e.setF F.MBOX_INT_STAT_IN_AVAIL v) := fun e v =>
    e.setReg_calm _ hint (by decide)
  have hframe : ∀ v, d.RegsCalm (((d.trace 3 (m * 2 ^ 94 + leNat (f.take 8))).modMbx m
      (fun b => { b with inRing := b.inRing ++ [f] })).setF F.MBOX_INT_STAT_IN_AVAIL v) := fun v =>
    (d.trace_calm _ _).trans ((hset _ v).from_regs rfl)
  unfold Dev.pushIn
  dsimp only
  split
  · split
    · exact (hframe _).trans ((Dev.watch_calm _ _ _ _).from_regs rfl)
    · exact (hframe _).trans (Dev.watch_calm _ _ _ _)
  · exact hframe _

/-- A frame comes in at a slot of its inbound ring (R421, R436). -/
theorem Dev.pushIn_ringSlots (d : Dev) {m : Nat} (hm : m < 4) (f : List Byte) : RingSlots d (d.pushIn m f).1 := by
  unfold Dev.pushIn
  dsimp only
  split
  · intro w hw
    obtain rfl := List.mem_singleton.1 hw
    exact ⟨m, hm, _, Nat.mod_lt _ (by decide), .inl rfl⟩
  · exact .nil d

/-- Frames of the link come up: calm, and stored in slots of the rings. -/
theorem Dev.pumpM_calm (n : Nat) (d : Dev) : d.RegsCalm (Dev.pumpM n d).2 ∧ RingSlots d (Dev.pumpM n d).1 := by
  induction n generalizing d with
  | zero => exact ⟨.refl d, .nil d⟩
  | succ n ih =>
    have herr : ¬ ringBase (A.MBOX_m_FRAME_ERR d.linkBox) := fun h => by
      have := ringBase_bounds h; unfold A.MBOX_m_FRAME_ERR at this; omega
    have hrest : ∀ e, d.RegsCalm e → d.RegsCalm (Dev.pumpM n e).2 ∧ RingSlots d (Dev.pumpM n e).1 := fun e h =>
      ⟨h.trans (ih e).1, (ih e).2.uncalm h⟩
    unfold Dev.pumpM
    dsimp only
    split
    · exact ⟨.refl d, .nil d⟩
    · split
      · exact ⟨.refl d, .nil d⟩
      · split
        · exact ⟨.refl d, .nil d⟩
        · split
          · exact hrest _ ((Dev.count_calm _ 1 herr).from_regs rfl)
          · refine ⟨(hrest _ ?_).1, .append ?_ (hrest _ ?_).2⟩
            · exact (Dev.pushIn_calm _ _ _).from_regs rfl
            · exact (Dev.pushIn_ringSlots _ d.linkBox_lt _).uncalm (.of_regs rfl)
            · exact (Dev.pushIn_calm _ _ _).from_regs rfl

/-! Commands that only observe. -/

/-- On this memory and block a body stores nothing, moves no ring and clears no RC field. -/
def Observes (body : Body) (m : Mem) (d : Dev) : Prop := d.RegsCalm (body m d).2.1 ∧ (body m d).2.2 = []

/-- An answer that leaves the block. -/
theorem Observes.of_okR {body : Body} {m : Mem} {d : Dev} {data : List Byte} (h : body m d = okR d data) :
    Observes body m d := by
  unfold Observes
  rw [h]
  exact ⟨.refl d, rfl⟩

theorem cmdCore_observes {body : Body} {m : Mem} {d : Dev} (hb : Observes body m d) (mb op : Nat) (lenOk : Nat → Bool)
    (pl : List Byte) : Observes (cmdCore mb op lenOk pl body) m d := by
  have hself : d.RegsCalm d ∧ ([] : Writes) = [] := ⟨.refl d, rfl⟩
  unfold Observes cmdCore
  split
  · exact hself
  · split
    · exact hself
    · split
      · exact hself
      · dsimp only
        split
        · exact hself
        · exact hb

/-- Handling the frame of a command that only observes: it is answered, and no more. -/
theorem runOne_observes {body : Body} {h : CmdHdr} {m : Mem} {d : Dev} (hb : Observes body m (d.popIn h.mb.val)) (op : Nat)
    (lenOk : Nat → Bool) (pl : List Byte) :
    d.RegsCalm (runOne h op lenOk pl body m d).2 ∧ (runOne h op lenOk pl body m d).1 = [] := by
  have hpop := d.popIn_calm h.mb.val
  have hnext : ∀ seq exp, d.RegsCalm (runOne.runNext h op lenOk pl body h.mb.val seq exp (d.popIn h.mb.val) m).2 ∧
      (runOne.runNext h op lenOk pl body h.mb.val seq exp (d.popIn h.mb.val) m).1 = [] := by
    intro seq exp
    unfold runOne.runNext
    split
    · exact ⟨hpop.trans (Dev.emit_calm _ _ _), rfl⟩
    · obtain ⟨hcalm, hnone⟩ := cmdCore_observes hb h.mb.val op lenOk pl
      exact ⟨(hpop.trans hcalm).trans ((Dev.answer_calm _ _ _ _ _ _).from_regs rfl), hnone⟩
  unfold runOne
  dsimp only
  split
  · exact ⟨.refl d, rfl⟩
  · split
    · split
      · exact ⟨hpop.trans (Dev.emit_calm _ _ _), rfl⟩
      · exact hnext _ _
    · exact hnext _ _

theorem Dev.answerUnknown_calm (m n : Nat) (d : Dev) : d.RegsCalm (Dev.answerUnknown m n d) := by
  have hbody : ∀ e, Observes (fun _ d => badParam d) [] e := fun e => ⟨.refl e, rfl⟩
  induction n generalizing d with
  | zero => exact .refl d
  | succ n ih =>
    unfold Dev.answerUnknown
    split
    · exact .refl d
    · dsimp only
      split
      · exact (runOne_observes (hbody _) _ _ _).1.trans (ih _)
      · exact .refl d

theorem Dev.refill_calm (d : Dev) : d.RegsCalm d.refill.2 ∧ RingSlots d d.refill.1 := by
  obtain ⟨hcalm, hslots⟩ := d.pumpM_calm 16
  exact ⟨(hcalm.trans (Dev.answerUnknown_calm _ _ _)).trans (Dev.answerUnknown_calm _ _ _), hslots⟩

theorem runCmd_eq (h : CmdHdr) (op : Nat) (lenOk : Nat → Bool) (pl : List Byte) (body : Body) (m : Mem) (d : Dev) :
    runCmd h op lenOk pl body m d = ((runOne h op lenOk pl body m d).1 ++ (runOne h op lenOk pl body m d).2.refill.1,
      (runOne h op lenOk pl body m d).2.refill.2) := by
  unfold runCmd
  generalize runOne h op lenOk pl body m d = r
  obtain ⟨ws, e⟩ := r
  dsimp only

/-- A command that only observes clears no RC field and stores frames alone. -/
theorem runCmd_observes {body : Body} {s t : State} {h : CmdHdr} {op : Nat} {lenOk : Nat → Bool} {pl : List Byte}
    (hb : Observes body s.mem (s.dev.popIn h.mb.val)) (ha : s.dev.alive = true)
    (ht : runW s (runCmd h op lenOk pl body) = .next t) : RcKept s.dev t.dev ∧ StoredAt s t [] := by
  obtain ⟨hone, hnone⟩ := runOne_observes hb op lenOk pl
  obtain ⟨hfill, hslots⟩ := (runOne h op lenOk pl body s.mem s.dev).2.refill_calm
  rw [runW_alive _ ha, runCmd_eq, hnone, List.nil_append] at ht
  obtain rfl := Host.Outcome.next.inj ht
  exact ⟨((hone.trans hfill).trans (settle_calm s _ _)).rc, settle_storedAt_frames s (hslots.calm hfill)⟩

end Sys2Proof.Machine
end

section
/-! SUPPORT. The observation path (R7, R440, R492): what a word read through it answers, and what it leaves. -/

namespace Sys2Proof.Machine

theorem not_ringBase_obsDeny : ¬ ringBase A.OBS_DENY := fun h => by
  have := ringBase_bounds h
  unfold A.OBS_DENY at this
  omega

/-- What the life-cycle state grants a reader without a command (R440, R492). -/
def Dev.grants (d : Dev) (a : Nat) : Bool := inRegs a && (d.devAccess || (d.lc == .returned && isIdentity a))

/-- The block after a word that was granted, or denied and counted. -/
def Dev.judged (d : Dev) (ok : Bool) : Dev := if ok then d else d.count A.OBS_DENY

@[simp] theorem Dev.judged_latch (d : Dev) (ok : Bool) : (d.judged ok).latch = d.latch := by cases ok <;> rfl
@[simp] theorem Dev.judged_staged (d : Dev) (ok : Bool) : (d.judged ok).staged = d.staged := by cases ok <;> rfl
@[simp] theorem Dev.judged_fuse (d : Dev) (ok : Bool) : (d.judged ok).fuse = d.fuse := by cases ok <;> rfl

theorem Dev.judged_reg_ne (d : Dev) (ok : Bool) {b : Nat} (h : b ≠ A.OBS_DENY) : (d.judged ok).reg b = d.reg b := by
  cases ok with
  | true => rfl
  | false => exact d.reg_count_ne h

theorem Dev.judged_counted (d : Dev) (ok : Bool) : Counted d (d.judged ok) A.OBS_DENY (if ok then 0 else 1) := by
  cases ok with
  | true =>
    have := (d.reg A.OBS_DENY).isLt
    show (d.reg A.OBS_DENY).toNat = min 0xFFFFFFFF ((d.reg A.OBS_DENY).toNat + 0)
    omega
  | false => exact d.reg_count_self A.OBS_DENY 1

theorem Dev.judged_calm (d : Dev) (ok : Bool) : d.RegsCalm (d.judged ok) := by
  cases ok with
  | true => exact .refl d
  | false => exact d.count_calm 1 not_ringBase_obsDeny

/-- A word read over the management SPI (R7, R492): its live value where the life-cycle state grants it, else zero and a
count. -/
theorem Dev.obsWord_spi (m : Mem) (d : Dev) (a : Nat) :
    Dev.obsWord m d false a = (if d.grants a then d.live a else 0, d.judged (d.grants a)) := by
  unfold Dev.obsWord Dev.judged Dev.grants
  cases inRegs a with
  | false => simp
  | true =>
    simp only [Bool.and_false, Bool.or_false, Bool.true_and, if_true]
    cases d.devAccess || (d.lc == .returned && isIdentity a) <;> rfl

/-- A register read by command: every life-cycle state but RETURNED grants it (R440). -/
theorem Dev.obsWord_cmd (m : Mem) (d : Dev) {a : Nat} (ha : inRegs a = true) (hlc : d.lc ≠ .returned) :
    Dev.obsWord m d true a = (d.live a, d) := by
  have hgrant : (d.devAccess || (d.lc == .field && true) || (d.lc == .returned && isIdentity a)) = true := by
    unfold Dev.devAccess Dev.lcOpen
    cases h : d.lc with
    | returned => exact absurd h hlc
    | maker => rfl
    | ownerOpen => rfl
    | field => rfl
  unfold Dev.obsWord
  simp only [ha, if_true, hgrant, Bool.not_true, Bool.false_eq_true, if_false]

/-- One turn of OBS_READ: the words read so far, and the block. -/
def obsTurn (m : Mem) (a : Nat) (acc : List Byte × Dev) (i : Nat) : List Byte × Dev :=
  (acc.1 ++ word4 (Dev.obsWord m acc.2 true (a + 4 * i)).1, (Dev.obsWord m acc.2 true (a + 4 * i)).2)

/-- Where every word is granted, the turns answer the live values and leave the block. -/
theorem obsTurns_granted (m : Mem) (d : Dev) (a : Nat) (l : List Nat) (bs : List Byte)
    (h : ∀ i ∈ l, Dev.obsWord m d true (a + 4 * i) = (d.live (a + 4 * i), d)) :
    l.foldl (obsTurn m a) (bs, d) = (bs ++ l.flatMap (fun i => word4 (d.live (a + 4 * i))), d) := by
  induction l generalizing bs with
  | nil => simp
  | cons i l ih =>
    have hi : obsTurn m a (bs, d) i = (bs ++ word4 (d.live (a + 4 * i)), d) := by
      unfold obsTurn
      rw [h i List.mem_cons_self]
    rw [List.foldl_cons, hi, ih _ fun j hj => h j (List.mem_cons_of_mem _ hj)]
    simp

/-- OBS_READ by its turns. -/
theorem cmdObsRead_eq (pl : List Byte) (m : Mem) (d : Dev) :
    cmdObsRead pl m d = if leAt pl 0 4 % 4 ≠ 0 ∨ leAt pl 4 2 = 0 ∨ 256 < leAt pl 4 2 then badParam d
      else okR ((List.range (leAt pl 4 2)).foldl (obsTurn m (leAt pl 0 4)) ([], d)).2
        ((List.range (leAt pl 4 2)).foldl (obsTurn m (leAt pl 0 4)) ([], d)).1 := rfl

/-- OBS_READ of registers that the life-cycle state grants. -/
theorem cmdObsRead_granted {pl : List Byte} {m : Mem} {d : Dev} {a n : Nat} (ha : leAt pl 0 4 = a) (hn : leAt pl 4 2 = n)
    (halign : a % 4 = 0) (h1 : 1 ≤ n) (h256 : n ≤ 256) (hfirst : inRegs a = true) (hlast : inRegs (a + 4 * n - 4) = true)
    (hlc : d.lc ≠ .returned) :
    cmdObsRead pl m d = okR d ((List.range n).flatMap (fun i => word4 (d.live (a + 4 * i)))) := by
  have hword : ∀ i ∈ List.range n, Dev.obsWord m d true (a + 4 * i) = (d.live (a + 4 * i), d) := by
    intro i hi
    have hin := List.mem_range.1 hi
    refine d.obsWord_cmd m ?_ hlc
    unfold inRegs at hfirst hlast ⊢
    simp only [decide_eq_true_eq] at hfirst hlast ⊢
    omega
  rw [cmdObsRead_eq, ha, hn, if_neg (by omega), obsTurns_granted m d a _ [] hword]
  rfl

theorem exec_regRead (a : BitVec 32) (s : State) : exec (.regRead a) s = run s (fun d => Dev.spiRead s.mem d a.toNat) := rfl

theorem exec_obsRead (h : CmdHdr) (pl : List Byte) (s : State) :
    exec (.obsRead h pl) s = runW s (runCmd h 0xB001 (lenIs 8) pl (cmdObsRead pl)) := rfl

/-- A register read of the management SPI: the word answered, and its bytes in either order (R412). -/
theorem Dev.spiRead_eq (m : Mem) (d : Dev) (a : Nat) :
    ∃ w bs, w = (if d.grants a then d.live a else 0) ∧ (bs = word4 w ∨ bs = (word4 w).reverse) ∧
      Dev.spiRead m d a = { d.judged (d.grants a) with free := (d.judged (d.grants a)).free + 1, rdata := w, rbytes := bs } := by
  unfold Dev.spiRead
  rw [Dev.obsWord_spi]
  generalize d.judged (d.grants a) = e
  refine ⟨_, if Config.freeBool e.free then (word4 _).reverse else word4 _, rfl, ?_, rfl⟩
  split
  · exact .inr rfl
  · exact .inl rfl

theorem Dev.spiRead_regs (m : Mem) (d : Dev) (a : Nat) : (Dev.spiRead m d a).regs = (d.judged (d.grants a)).regs := by
  obtain ⟨w, bs, -, -, hread⟩ := Dev.spiRead_eq m d a
  rw [hread]

theorem Dev.spiRead_reg (m : Mem) (d : Dev) (a b : Nat) : (Dev.spiRead m d a).reg b = (d.judged (d.grants a)).reg b := by
  unfold Dev.reg
  rw [d.spiRead_regs]

theorem Dev.spiRead_calm (m : Mem) (d : Dev) (a : Nat) : d.RegsCalm (Dev.spiRead m d a) :=
  (d.judged_calm (d.grants a)).trans (.of_regs (d.spiRead_regs m a))

/-- What REG_READ of the management SPI brings about, granted or denied (R7, R412, R492). -/
theorem regRead_observes {s : State} {a : BitVec 32} (halive : s.dev.alive = true) {ok : Bool}
    (hok : ok = s.dev.grants a.toNat) :
    Completes (.regRead a) s (fun t => StoredAt s t [] ∧ t.dev.latch = s.dev.latch ∧ t.dev.staged = s.dev.staged ∧
      t.dev.fuse = s.dev.fuse ∧ t.dev.rdata = (if ok then s.dev.live a.toNat else 0) ∧
      (t.dev.rbytes = word4 t.dev.rdata ∨ t.dev.rbytes = (word4 t.dev.rdata).reverse) ∧
      Counted s.dev t.dev A.OBS_DENY (if ok then 0 else 1) ∧ RcKept s.dev t.dev ∧
      ∀ b, b ≠ A.OBS_DENY → b ≠ A.OBS_TRC_DROP → b ≠ A.OBS_INT_STAT → t.dev.reg b = s.dev.reg b) := by
  subst hok
  refine ⟨_, (exec_regRead a s).trans (run_alive _ halive), settle_storedAt s [] _, ?_⟩
  have hkept := ((s.dev.spiRead_calm s.mem a.toNat).trans (settle_calm s [] _)).rc
  have hreg := s.dev.spiRead_reg s.mem a.toNat
  obtain ⟨w, bs, hw, hbs, hread⟩ := Dev.spiRead_eq s.mem s.dev a.toNat
  refine ⟨by simp [hread], by simp [hread], by simp [hread], by simpa [hread] using hw,
    by simpa [hread] using hbs, ?_, hkept, ?_⟩
  · unfold Counted
    rw [settle_reg s [] _ (by decide) (by decide), hreg]
    exact s.dev.judged_counted _
  · intro b hdeny hdrop hint
    rw [settle_reg s [] _ hdrop hint, hreg, s.dev.judged_reg_ne _ hdeny]

/-- Settles O13: REG_READ by `regRead_observes`; OBS_READ because its body leaves the block, and every step of the handling
of its frame keeps the ring bases, clears no RC field and stores frames alone (`runCmd_observes`). -/
theorem observationOnlyReads : Obligations.ObservationOnlyReads := by
  unfold Obligations.ObservationOnlyReads
  intro s a halive
  refine ⟨fun ok hok => regRead_observes halive hok, ?_⟩
  intro h pl n hcmd hlen ha hn halign h1 h256 hfirst hlast hlc
  have hpop := s.dev.popIn_mail h.mb.val
  have hlc' : (s.dev.popIn h.mb.val).lc ≠ .returned := by
    unfold Dev.lc at hlc ⊢
    rwa [hpop.fuse]
  have hbody := cmdObsRead_granted (m := s.mem) ha hn halign h1 h256 hfirst hlast hlc'
  have hlenOk : lenIs 8 pl.length = true := by simp [lenIs, hlen]
  obtain ⟨t, ht, hmail, hanswer⟩ := runCmd_ok (mask := 0b111100) hcmd rfl hlenOk hbody (hpop.outs _)
  obtain ⟨hrc, hstored⟩ := runCmd_observes (.of_okR hbody) hcmd.alive ht
  exact ⟨t, (exec_obsRead h pl s).trans ht, hanswer, hpop.trans hmail, hrc, hstored⟩

end Sys2Proof.Machine
end

section
/-! SUPPORT. A write of a word with no behaviour of its own that changes other registers all the same: in a state reached
from reset by three register writes, a write of DPD_ID makes a committed path switch. -/

namespace Sys2Proof.Machine

/-- CP0 enables carrier 0, commits predistortion path 0 (R256), which now waits for a symbol boundary of the carrier, and
disables the carrier again. -/
def commitThenDisable : List Instr :=
  [.registerWrite .cp0 (BitVec.ofNat 32 (A.CARk_CFG 0)) (regReset (A.CARk_CFG 0) ||| 0x80000000),
   .registerWrite .cp0 (BitVec.ofNat 32 A.DPD_COMMIT_LO) 1,
   .registerWrite .cp0 (BitVec.ofNat 32 (A.CARk_CFG 0)) (regReset (A.CARk_CFG 0))]

/-- The next state of an outcome, where it has one. -/
def nextOf : Host.Outcome State Fault Refusal → Option State
  | .next s => some s
  | _ => none

/-- The state after them: path 0 has PEND set, and its band group has no enabled carrier. -/
def committedIdle : State :=
  (nextOf (Sys2Proof.core.run 3 { State.reset with pending := commitThenDisable })).getD State.reset

theorem eq_next_of_nextOf {o : Host.Outcome State Fault Refusal} {s : State} (h : (nextOf o).isSome = true) :
    o = .next ((nextOf o).getD s) := by
  cases o with
  | next t => rfl
  | fault r => cases h
  | refused r => cases h

/-- The state is reached from reset. -/
theorem committedIdle_reached :
    Sys2Proof.core.run 3 { State.reset with pending := commitThenDisable } = .next committedIdle :=
  eq_next_of_nextOf (by decide +kernel)

/-- A write at the bus that has power and names an address of the register space answers a next state. -/
theorem registerWrite_next {s : State} (r : Requester) {a : BitVec 32} (v : BitVec 32) (halive : s.dev.alive = true)
    (hin : inRegs a.toNat = true) :
    exec (.registerWrite r a v) s = .next (settle s (Dev.busWrite s.mem s.dev r a.toNat v.toNat).1
      (Dev.busWrite s.mem s.dev r a.toNat v.toNat).2) := by
  show runBus s a.toNat (fun m d => Dev.busWrite m d r a.toNat v.toNat) = _
  unfold runBus
  rw [hin, Bool.not_true, Bool.and_false, if_neg Bool.false_ne_true, runW_alive _ halive]

/-- The write of DPD_ID settles the band groups with no carrier, and path 0 exchanges its copies: ACT set, PEND clear. -/
theorem dpdIdWrite_switches :
    (Dev.busWrite committedIdle.mem committedIdle.dev .cp0 A.DPD_ID 0).2.reg (A.DPD_Pn_STAT 0) = 0x80000000 := by
  decide +kernel

/-- Refutes O12: DPD_ID is among the plain words, and its write changes DPD_P0_STAT where a committed path waits in a band
group without an enabled carrier: every write of the DPD block ends with the switches that are due (R257). The clause on
plain words holds no premise that keeps such a path out. -/
theorem not_registerAccess : ¬ Obligations.RegisterAccess := by
  unfold Obligations.RegisterAccess
  intro h
  have halive : committedIdle.dev.alive = true := by decide +kernel
  obtain ⟨-, -, hplain, -⟩ := h committedIdle .cp0 (BitVec.ofNat 32 A.DPD_ID) 0 halive
  obtain ⟨row, hrow⟩ : ∃ row, regRow (BitVec.ofNat 32 A.DPD_ID).toNat = some row := ⟨_, rfl⟩
  obtain ⟨t, ht, -, -, hkeeps⟩ := hplain row (by decide) hrow
  rw [registerWrite_next .cp0 0 halive (by decide)] at ht
  obtain rfl := Host.Outcome.next.inj ht
  have hstat := hkeeps (A.DPD_Pn_STAT 0) (by decide) (by decide) (by decide)
  rw [settle_reg _ _ _ (by decide) (by decide)] at hstat
  have hbefore : committedIdle.dev.reg (A.DPD_Pn_STAT 0) = 0x40000000 := by decide +kernel
  exact absurd ((dpdIdWrite_switches.symm.trans hstat).trans hbefore) (by decide)

end Sys2Proof.Machine
end

section
/-! SUPPORT. The equaliser of a running lane (R55 to R58): what the lane's registers read after its measurements and its
coefficients have been put into them, when the millisecond's snapshot is taken, and what a rollback brings about. -/

namespace Sys2Proof.Machine

/-- Divergence by the eye margin (R58): below the snapshot's × DIVERGE / 256. -/
def Dev.eyeLow (d : Dev) (n : Nat) (m : EqMeas) : Bool :=
  decide (256 * m.eye.toNat < d.getF (F.LINK_Ln_EYE_SNAP_EYE n) * d.getF F.LINK_EQ_CFG_DIVERGE)

/-- The millisecond that ends allows a snapshot (R57). -/
def Dev.goodMs (d : Dev) (n : Nat) (m : EqMeas) : Bool :=
  !(d.lane n).msFrozen && (d.lane n).msErrs == 0 && !(d.lane n).msRoll &&
    decide (d.getF F.LINK_EQ_CFG_EYE_TARGET ≤ m.eye.toNat) && !d.eyeLow n m

/-- The block with the measurements noted and, where the millisecond allows it, the snapshot taken (R57). -/
def Dev.snapshotTaken (d : Dev) (n : Nat) (m : EqMeas) : Dev :=
  if d.goodMs n m then
    ((d.eqNote n m).setF (F.LINK_Ln_EYE_SNAP_EYE n) m.eye.toNat).modLane n (fun l => { l with snap := (d.eqNote n m).coef n })
  else d.eqNote n m

/-- The lane has diverged (R58). -/
def Dev.diverged (d : Dev) (n : Nat) (m : EqMeas) : Prop :=
  d.flag (F.LINK_Ln_STAT_EQ_FROZEN n) = false ∧ (4 ≤ (d.lane n).msErrs ∨ d.eyeLow n m = true)

/-- The registers of a rollback (R58): the coefficients of the snapshot, the count and the event. -/
def Dev.rollbackRegs (d : Dev) (n : Nat) (m : EqMeas) : Dev :=
  (((d.putEye n m.eye m.density).putCoef n (d.lane n).snap).count (A.LINK_Ln_ROLLBACK_CNT n)).setB
    (linkInt (d.lead (n / 4)) 5) true

/-! Where the words of a lane stand (R82, R500). -/

theorem eqCfg_lt_stat (n : Nat) : A.LINK_EQ_CFG < A.LINK_Ln_STAT n := by
  unfold A.LINK_EQ_CFG A.LINK_Ln_STAT
  omega

theorem linkIntStat_lt_stat (n : Nat) : A.LINK_INT_STAT < A.LINK_Ln_STAT n := by
  unfold A.LINK_INT_STAT A.LINK_Ln_STAT
  omega

theorem stat_lt_eye (n : Nat) : A.LINK_Ln_STAT n < A.LINK_Ln_EYE n := by
  unfold A.LINK_Ln_STAT A.LINK_Ln_EYE
  omega

theorem eye_lt_ctle (n : Nat) : A.LINK_Ln_EYE n < A.LINK_Ln_CTLE n := by
  unfold A.LINK_Ln_EYE A.LINK_Ln_CTLE
  omega

theorem ctle_lt_dfe (n : Nat) : A.LINK_Ln_CTLE n < A.LINK_Ln_DFE0 n ∧ A.LINK_Ln_DFE0 n < A.LINK_Ln_DFE1 n ∧
    A.LINK_Ln_DFE1 n < A.LINK_Ln_DFE2 n := by
  unfold A.LINK_Ln_CTLE A.LINK_Ln_DFE0 A.LINK_Ln_DFE1 A.LINK_Ln_DFE2
  omega

theorem dfe2_lt_rollbackCnt (n : Nat) : A.LINK_Ln_DFE2 n < A.LINK_Ln_ROLLBACK_CNT n := by
  unfold A.LINK_Ln_DFE2 A.LINK_Ln_ROLLBACK_CNT
  omega

theorem eye_lt_rollbackCnt (n : Nat) : A.LINK_Ln_EYE n < A.LINK_Ln_ROLLBACK_CNT n := by
  unfold A.LINK_Ln_EYE A.LINK_Ln_ROLLBACK_CNT
  omega

theorem stat_lt_rollbackCnt (n : Nat) : A.LINK_Ln_STAT n < A.LINK_Ln_ROLLBACK_CNT n :=
  (stat_lt_eye n).trans (eye_lt_rollbackCnt n)

/-- The words of the lanes up to ROLLBACK_CNT are none of the two that settling may change. -/
theorem laneWord_not_trace {n a : Nat} (hn : n < 16) (ha : a ≤ A.LINK_Ln_ROLLBACK_CNT n) :
    a ≠ A.OBS_TRC_DROP ∧ a ≠ A.OBS_INT_STAT := by
  unfold A.LINK_Ln_ROLLBACK_CNT at ha
  unfold A.OBS_TRC_DROP A.OBS_INT_STAT
  omega

theorem settle_laneReg (s : State) (d : Dev) {n a : Nat} (hn : n < 16) (ha : a ≤ A.LINK_Ln_ROLLBACK_CNT n) :
    (settle s [] d).dev.reg a = d.reg a :=
  settle_reg s [] d (laneWord_not_trace hn ha).1 (laneWord_not_trace hn ha).2

theorem settle_laneField (s : State) (d : Dev) {n : Nat} {f : Fld} (hn : n < 16) (ha : f.addr ≤ A.LINK_Ln_ROLLBACK_CNT n) :
    (settle s [] d).dev.getF f = d.getF f := by
  unfold Dev.getF
  rw [settle_laneReg s d hn ha]

theorem settle_laneFlag (s : State) (d : Dev) {n : Nat} {f : Fld} (hn : n < 16) (ha : f.addr ≤ A.LINK_Ln_ROLLBACK_CNT n) :
    (settle s [] d).dev.flag f = d.flag f := by
  unfold Dev.flag
  rw [settle_laneField s d hn ha]

/-! The fields of a lane lie within their words (R82). -/

theorem eyeMargin_fits (n : Nat) : (F.LINK_Ln_EYE_EYE_MARGIN n).lo + (F.LINK_Ln_EYE_EYE_MARGIN n).w ≤ 32 := by
  simp [F.LINK_Ln_EYE_EYE_MARGIN]

theorem frozen_fits (n : Nat) : (F.LINK_Ln_STAT_EQ_FROZEN n).lo + (F.LINK_Ln_STAT_EQ_FROZEN n).w ≤ 32 := by
  simp [F.LINK_Ln_STAT_EQ_FROZEN]

theorem density_fits (n : Nat) : (F.LINK_Ln_EYE_DENSITY n).lo + (F.LINK_Ln_EYE_DENSITY n).w ≤ 32 := by
  simp [F.LINK_Ln_EYE_DENSITY]

theorem snapEye_fits (n : Nat) : (F.LINK_Ln_EYE_SNAP_EYE n).lo + (F.LINK_Ln_EYE_SNAP_EYE n).w ≤ 32 := by
  simp [F.LINK_Ln_EYE_SNAP_EYE]

/-! The coefficients in a lane's registers. -/

/-- Where the four words agree, so do the coefficients. -/
theorem Dev.coef_congr {d e : Dev} {n : Nat}
    (h : ∀ a, A.LINK_Ln_CTLE n ≤ a → a ≤ A.LINK_Ln_DFE2 n → e.reg a = d.reg a) : e.coef n = d.coef n := by
  obtain ⟨h0, h1, h2⟩ := ctle_lt_dfe n
  unfold Dev.coef
  rw [h _ le_rfl (by omega), h _ h0.le (by omega), h (A.LINK_Ln_DFE1 n) (by omega) h2.le, h (A.LINK_Ln_DFE2 n) (by omega) le_rfl]

theorem settle_coef (s : State) (d : Dev) {n : Nat} (hn : n < 16) : (settle s [] d).dev.coef n = d.coef n :=
  Dev.coef_congr fun _ _ ha => settle_laneReg s d hn (ha.trans (dfe2_lt_rollbackCnt n).le)

@[simp] theorem Dev.coef_modLane (d : Dev) (n k : Nat) (f : LaneSt → LaneSt) : (d.modLane n f).coef k = d.coef k := rfl

theorem Dev.coef_putCoef (d : Dev) (n : Nat) (c : EqCoef) : (d.putCoef n c).coef n = clampCoef c := by
  obtain ⟨h0, h1, h2⟩ := ctle_lt_dfe n
  unfold Dev.putCoef Dev.coef
  simp only [Dev.reg_setReg, if_pos, if_neg h0.ne, if_neg h1.ne, if_neg h2.ne, if_neg (h0.trans h1).ne,
    if_neg (h1.trans h2).ne, if_neg (h0.trans (h1.trans h2)).ne]

theorem Dev.reg_putCoef_ne (d : Dev) {n a : Nat} (c : EqCoef) (h : a < A.LINK_Ln_CTLE n ∨ A.LINK_Ln_DFE2 n < a) :
    (d.putCoef n c).reg a = d.reg a := by
  obtain ⟨h0, h1, h2⟩ := ctle_lt_dfe n
  unfold Dev.putCoef
  rw [Dev.reg_setReg_ne _ _ (by omega), Dev.reg_setReg_ne _ _ (by omega), Dev.reg_setReg_ne _ _ (by omega),
    Dev.reg_setReg_ne _ _ (by omega)]

theorem Dev.getF_putCoef_ne (d : Dev) {n : Nat} {f : Fld} (c : EqCoef) (h : f.addr < A.LINK_Ln_CTLE n ∨ A.LINK_Ln_DFE2 n < f.addr) :
    (d.putCoef n c).getF f = d.getF f := by
  unfold Dev.getF
  rw [d.reg_putCoef_ne c h]

@[simp] theorem Dev.putCoef_link (d : Dev) (n : Nat) (c : EqCoef) : (d.putCoef n c).link = d.link := by
  unfold Dev.putCoef
  rw [Dev.setReg_link, Dev.setReg_link, Dev.setReg_link, Dev.setReg_link]

@[simp] theorem Dev.lane_putCoef (d : Dev) (n k : Nat) (c : EqCoef) : (d.putCoef n c).lane k = d.lane k := by
  unfold Dev.lane
  rw [Dev.putCoef_link]

/-! The measurements in a lane's registers. -/

theorem Dev.reg_putEye_ne (d : Dev) {n a : Nat} (eye density : Byte) (h : a ≠ A.LINK_Ln_EYE n) :
    (d.putEye n eye density).reg a = d.reg a := by
  unfold Dev.putEye
  rw [Dev.reg_setF_ne _ _ h, Dev.reg_setF_ne _ _ h]

theorem Dev.getF_putEye_ne (d : Dev) {n : Nat} {f : Fld} (eye density : Byte) (h : f.addr ≠ A.LINK_Ln_EYE n) :
    (d.putEye n eye density).getF f = d.getF f := by
  unfold Dev.getF
  rw [d.reg_putEye_ne eye density h]

theorem Dev.putEye_snapEye (d : Dev) (n : Nat) (eye density : Byte) :
    (d.putEye n eye density).getF (F.LINK_Ln_EYE_SNAP_EYE n) = d.getF (F.LINK_Ln_EYE_SNAP_EYE n) := by
  unfold Dev.putEye
  rw [Dev.getF_setF_apart _ _ (density_fits n) (.inr (by simp [F.LINK_Ln_EYE_DENSITY, F.LINK_Ln_EYE_SNAP_EYE])),
    Dev.getF_setF_apart _ _ (eyeMargin_fits n) (.inr (by simp [F.LINK_Ln_EYE_EYE_MARGIN, F.LINK_Ln_EYE_SNAP_EYE]))]

theorem Dev.putEye_density (d : Dev) (n : Nat) (eye density : Byte) :
    (d.putEye n eye density).getF (F.LINK_Ln_EYE_DENSITY n) = density.toNat := by
  unfold Dev.putEye
  rw [Dev.getF_setF_self _ _ _ (density_fits n)]
  exact Nat.mod_eq_of_lt density.isLt

theorem Dev.putEye_eyeMargin (d : Dev) (n : Nat) (eye density : Byte) :
    (d.putEye n eye density).getF (F.LINK_Ln_EYE_EYE_MARGIN n) = eye.toNat := by
  unfold Dev.putEye
  rw [Dev.getF_setF_apart _ _ (density_fits n) (.inl (by simp [F.LINK_Ln_EYE_DENSITY, F.LINK_Ln_EYE_EYE_MARGIN])),
    Dev.getF_setF_self _ _ _ (eyeMargin_fits n)]
  exact Nat.mod_eq_of_lt eye.isLt

@[simp] theorem Dev.putEye_link (d : Dev) (n : Nat) (eye density : Byte) : (d.putEye n eye density).link = d.link := by
  unfold Dev.putEye
  rw [Dev.setF_link, Dev.setF_link]

@[simp] theorem Dev.lane_putEye (d : Dev) (n k : Nat) (eye density : Byte) : (d.putEye n eye density).lane k = d.lane k := by
  unfold Dev.lane
  rw [Dev.putEye_link]

/-! What a running lane notes (R56). -/

theorem Dev.getF_eqNote_below (d : Dev) {n : Nat} {f : Fld} (m : EqMeas) (h : f.addr < A.LINK_Ln_CTLE n) :
    (d.eqNote n m).getF f = (d.putEye n m.eye m.density).getF f := by
  unfold Dev.eqNote
  dsimp only
  split
  · rfl
  · exact Dev.getF_putCoef_ne _ _ (.inl h)

@[simp] theorem Dev.lane_eqNote (d : Dev) (n k : Nat) (m : EqMeas) : (d.eqNote n m).lane k = d.lane k := by
  unfold Dev.eqNote
  dsimp only
  split <;> simp

theorem Dev.eqNote_snapEye (d : Dev) (n : Nat) (m : EqMeas) :
    (d.eqNote n m).getF (F.LINK_Ln_EYE_SNAP_EYE n) = d.getF (F.LINK_Ln_EYE_SNAP_EYE n) :=
  (d.getF_eqNote_below m (eye_lt_ctle n)).trans (d.putEye_snapEye n _ _)

theorem Dev.eqNote_eyeMargin (d : Dev) (n : Nat) (m : EqMeas) :
    (d.eqNote n m).getF (F.LINK_Ln_EYE_EYE_MARGIN n) = m.eye.toNat :=
  (d.getF_eqNote_below m (eye_lt_ctle n)).trans (d.putEye_eyeMargin n _ _)

theorem Dev.getF_eqNote_eqCfg (d : Dev) {n : Nat} {f : Fld} (m : EqMeas) (h : f.addr = A.LINK_EQ_CFG) :
    (d.eqNote n m).getF f = d.getF f := by
  have hlt : f.addr < A.LINK_Ln_EYE n := h ▸ (eqCfg_lt_stat n).trans (stat_lt_eye n)
  exact (d.getF_eqNote_below m (hlt.trans (eye_lt_ctle n))).trans (d.getF_putEye_ne _ _ hlt.ne)

/-- A lane that is not frozen takes the coefficients it finds. -/
theorem Dev.coef_eqNote (d : Dev) {n : Nat} (m : EqMeas) (h : d.flag (F.LINK_Ln_STAT_EQ_FROZEN n) = false) :
    (d.eqNote n m).coef n = clampCoef m.coef := by
  have hkept : (d.putEye n m.eye m.density).flag (F.LINK_Ln_STAT_EQ_FROZEN n) = false := by
    unfold Dev.flag at h ⊢
    rwa [d.getF_putEye_ne _ _ (stat_lt_eye n).ne]
  unfold Dev.eqNote
  dsimp only
  rw [if_neg (by simp [hkept])]
  exact Dev.coef_putCoef _ _ _

/-- Noting the measurements does not change whether the millisecond was good. -/
theorem Dev.goodMs_eqNote (d : Dev) (n : Nat) (m : EqMeas) : (d.eqNote n m).goodMs n m = d.goodMs n m := by
  unfold Dev.goodMs Dev.eyeLow
  rw [d.lane_eqNote, d.eqNote_snapEye, d.getF_eqNote_eqCfg m rfl, d.getF_eqNote_eqCfg m rfl]

/-! The snapshot (R57). -/

theorem Dev.goodMs_iff (d : Dev) (n : Nat) (m : EqMeas) : d.goodMs n m = true ↔
    (d.lane n).msFrozen = false ∧ (d.lane n).msErrs = 0 ∧ (d.lane n).msRoll = false ∧
      d.getF F.LINK_EQ_CFG_EYE_TARGET ≤ m.eye.toNat ∧ d.eyeLow n m = false := by
  simp [Dev.goodMs, and_assoc]

/-- The meaning of the snapshot, through whether the millisecond was good. -/
theorem Dev.eqSnapshot_eq (d : Dev) (n : Nat) (m : EqMeas) :
    d.eqSnapshot n m = (d.snapshotTaken n m).modLane n (fun l =>
      { l with msFrozen := (d.snapshotTaken n m).flag (F.LINK_Ln_STAT_EQ_FROZEN n), msErrs := 0, msRoll := false }) := by
  unfold Dev.snapshotTaken
  rw [← d.goodMs_eqNote n m]
  unfold Dev.eqSnapshot Dev.goodMs Dev.eyeLow
  dsimp only

theorem Dev.eqSnapshot_snapEye (d : Dev) (n : Nat) (m : EqMeas) :
    (d.eqSnapshot n m).getF (F.LINK_Ln_EYE_SNAP_EYE n) =
      if d.goodMs n m then m.eye.toNat else d.getF (F.LINK_Ln_EYE_SNAP_EYE n) := by
  rw [d.eqSnapshot_eq, Dev.modLane_getF]
  unfold Dev.snapshotTaken
  split
  · rw [Dev.modLane_getF, Dev.getF_setF_self _ _ _ (snapEye_fits n)]
    exact Nat.mod_eq_of_lt m.eye.isLt
  · exact d.eqNote_snapEye n m

theorem Dev.eqSnapshot_snap (d : Dev) (n : Nat) (m : EqMeas) :
    ((d.eqSnapshot n m).lane n).snap = if d.goodMs n m then (d.eqNote n m).coef n else (d.lane n).snap := by
  rw [d.eqSnapshot_eq, Dev.lane_modLane, if_pos rfl]
  unfold Dev.snapshotTaken
  dsimp only
  split
  · rw [Dev.lane_modLane, if_pos rfl]
  · rw [d.lane_eqNote]

/-! The rollback (R58). -/

/-- The port that reports for a port is the lowest of its bond. -/
theorem Dev.lead_le (d : Dev) (p : Nat) : d.lead p ≤ p := by
  have hlow : ∀ b, ∀ g ∈ bondGroups b, ∀ q ∈ g, g.headD q ≤ q := fun b => by
    unfold bondGroups
    split <;> decide
  unfold Dev.lead Dev.group groupIn
  cases hg : (bondGroups d.link.bond).find? (fun g => g.contains p) with
  | none => exact le_rfl
  | some g => exact hlow _ g (List.mem_of_find?_eq_some hg) p (by simpa using List.find?_some hg)

theorem Dev.lead_congr {d e : Dev} (h : e.link = d.link) (p : Nat) : e.lead p = d.lead p := by
  unfold Dev.lead Dev.group
  rw [h]

theorem Dev.eqRollback_of_not_diverged (d : Dev) {n : Nat} {m : EqMeas} (h : ¬ d.diverged n m) : d.eqRollback n m = d := by
  unfold Dev.eqRollback
  refine if_pos ?_
  by_cases hfrozen : d.flag (F.LINK_Ln_STAT_EQ_FROZEN n) = true
  · exact .inl hfrozen
  · have hcalm := not_or.1 (fun hwhy => h ⟨Bool.eq_false_iff.2 hfrozen, hwhy⟩)
    exact .inr ⟨by simpa [Dev.eyeLow] using hcalm.2, Nat.not_le.1 hcalm.1⟩

theorem Dev.eqRollback_of_diverged (d : Dev) {n : Nat} {m : EqMeas} (h : d.diverged n m) :
    d.eqRollback n m = (d.rollbackRegs n m).modLane n (fun l => { l with msRoll := true, msErrs := 0 }) := by
  obtain ⟨hfrozen, hwhy⟩ := h
  unfold Dev.eqRollback Dev.rollbackRegs
  dsimp only
  rw [if_neg]
  · rw [Dev.lead_congr (d := d) (by rw [Dev.count_link, Dev.putCoef_link, Dev.putEye_link])]
  · rintro (hf | ⟨hlow, herrs⟩)
    · simp [hfrozen] at hf
    · rcases hwhy with h4 | hl
      · omega
      · simp only [Dev.eyeLow] at hl
        simp [hl] at hlow

theorem Dev.rollbackRegs_reg (d : Dev) {n a : Nat} (m : EqMeas) (h : A.LINK_Ln_STAT n ≤ a) :
    (d.rollbackRegs n m).reg a =
      (((d.putEye n m.eye m.density).putCoef n (d.lane n).snap).count (A.LINK_Ln_ROLLBACK_CNT n)).reg a :=
  Dev.reg_setB_ne _ _ ((linkIntStat_lt_stat n).trans_le h).ne'

theorem Dev.rollbackRegs_coef (d : Dev) (n : Nat) (m : EqMeas) : (d.rollbackRegs n m).coef n = clampCoef (d.lane n).snap := by
  rw [← (d.putEye n m.eye m.density).coef_putCoef n (d.lane n).snap]
  refine Dev.coef_congr fun a hlo hhi => ?_
  rw [d.rollbackRegs_reg m (((stat_lt_eye n).trans (eye_lt_ctle n)).le.trans hlo)]
  exact Dev.reg_count_ne _ (hhi.trans_lt (dfe2_lt_rollbackCnt n)).ne

theorem Dev.rollbackRegs_count (d : Dev) (n : Nat) (m : EqMeas) :
    ((d.rollbackRegs n m).reg (A.LINK_Ln_ROLLBACK_CNT n)).toNat =
      min 0xFFFFFFFF ((d.reg (A.LINK_Ln_ROLLBACK_CNT n)).toNat + 1) := by
  rw [d.rollbackRegs_reg m (stat_lt_rollbackCnt n).le, Dev.reg_count_self,
    Dev.reg_putCoef_ne _ _ (.inr (dfe2_lt_rollbackCnt n)), Dev.reg_putEye_ne _ _ _ (eye_lt_rollbackCnt n).ne']

theorem Dev.rollbackRegs_event (d : Dev) {n : Nat} (m : EqMeas) (hn : n < 16) :
    (d.rollbackRegs n m).flag (linkInt (d.lead (n / 4)) 5) = true := by
  have hlead := d.lead_le (n / 4)
  exact Dev.flag_setB_self _ _ _ rfl (by unfold linkInt; dsimp only; omega)

@[simp] theorem Dev.rollbackRegs_lane (d : Dev) (n k : Nat) (m : EqMeas) : (d.rollbackRegs n m).lane k = d.lane k := by
  unfold Dev.rollbackRegs
  rw [Dev.lane_setB, Dev.lane_count, Dev.lane_putCoef, Dev.lane_putEye]

/-! The commands. -/

theorem exec_eqFreeze (n : Fin 16) (m : EqMeas) (s : State) : exec (.eqFreeze n m) s = execEqFreeze n m s := rfl

theorem exec_eqResume (n : Fin 16) (m : EqMeas) (s : State) : exec (.eqResume n m) s = execEqResume n m s := rfl

theorem exec_eqSnapshot (n : Fin 16) (m : EqMeas) (s : State) : exec (.eqSnapshot n m) s = execEqSnapshot n m s := rfl

theorem exec_eqRollback (n : Fin 16) (m : EqMeas) (s : State) : exec (.eqRollback n m) s = execEqRollback n m s := rfl

theorem completes_of_run {c : Instr} {s : State} {f : Dev → Dev} {P : State → Prop} (hexec : exec c s = run s f)
    (halive : s.dev.alive = true) (h : P (settle s [] (f s.dev))) : Completes c s P :=
  ⟨_, hexec.trans (run_alive f halive), h⟩

section

variable {s : State} {n : Fin 16} {m : EqMeas}

theorem eqFreeze_completes (halive : s.dev.alive = true) (hmust : s.dev.mustFreeze n.val m = true) :
    Completes (.eqFreeze n m) s (fun t =>
      t.dev.flag (F.LINK_Ln_STAT_EQ_FROZEN n.val) = true ∧ (t.dev.lane n.val).msFrozen = true ∧
      t.dev.getF (F.LINK_Ln_EYE_EYE_MARGIN n.val) = m.eye.toNat) := by
  refine completes_of_run (exec_eqFreeze n m s) halive ?_
  rw [if_pos hmust, settle_laneFlag s _ n.isLt (stat_lt_rollbackCnt n).le, settle_lane,
    settle_laneField s _ n.isLt (eye_lt_rollbackCnt n).le, Dev.modLane_flag, Dev.modLane_getF, Dev.lane_modLane, if_pos rfl]
  refine ⟨Dev.flag_setB_self _ _ _ rfl (frozen_fits n), rfl, ?_⟩
  rw [Dev.getF_setB_ne _ _ (stat_lt_eye n).ne', Dev.eqNote_eyeMargin]

theorem eqResume_completes (halive : s.dev.alive = true) (hmust : s.dev.mustFreeze n.val m = false) :
    Completes (.eqResume n m) s (fun t =>
      t.dev.flag (F.LINK_Ln_STAT_EQ_FROZEN n.val) = false ∧ t.dev.getF (F.LINK_Ln_EYE_DENSITY n.val) = m.density.toNat) := by
  refine completes_of_run (exec_eqResume n m s) halive ?_
  rw [if_neg (by simp [hmust]), settle_laneFlag s _ n.isLt (stat_lt_rollbackCnt n).le,
    settle_laneField s _ n.isLt (eye_lt_rollbackCnt n).le, Dev.getF_setB_ne _ _ (stat_lt_eye n).ne', Dev.putEye_density]
  exact ⟨Dev.flag_setB_self _ _ _ rfl (frozen_fits n), rfl⟩

theorem eqSnapshot_completes (halive : s.dev.alive = true) :
    Completes (.eqSnapshot n m) s (fun t =>
      t.dev.getF (F.LINK_Ln_EYE_SNAP_EYE n.val) =
        (if s.dev.goodMs n m then m.eye.toNat else s.dev.getF (F.LINK_Ln_EYE_SNAP_EYE n.val)) ∧
      (t.dev.lane n.val).snap = if s.dev.goodMs n m then (s.dev.eqNote n m).coef n else (s.dev.lane n.val).snap) := by
  refine completes_of_run (exec_eqSnapshot n m s) halive ?_
  rw [settle_laneField s _ n.isLt (eye_lt_rollbackCnt n).le, settle_lane]
  exact ⟨s.dev.eqSnapshot_snapEye n m, s.dev.eqSnapshot_snap n m⟩

theorem eqRollback_completes (halive : s.dev.alive = true) (hdiv : s.dev.diverged n m) :
    Completes (.eqRollback n m) s (fun t =>
        t.dev.coef n.val = clampCoef (s.dev.lane n.val).snap ∧ (t.dev.lane n.val).snap = (s.dev.lane n.val).snap ∧
        (t.dev.reg (A.LINK_Ln_ROLLBACK_CNT n.val)).toNat =
          min 0xFFFFFFFF ((s.dev.reg (A.LINK_Ln_ROLLBACK_CNT n.val)).toNat + 1) ∧
        t.dev.flag (linkInt (s.dev.lead (n.val / 4)) 5) = true ∧ (t.dev.lane n.val).msRoll = true) := by
  refine completes_of_run (exec_eqRollback n m s) halive ?_
  rw [s.dev.eqRollback_of_diverged hdiv, settle_lane, Dev.lane_modLane, if_pos rfl, Dev.rollbackRegs_lane,
    settle_laneReg s _ n.isLt le_rfl, Dev.modLane_reg,
    settle_laneFlag s _ n.isLt ((linkIntStat_lt_stat n).trans (stat_lt_rollbackCnt n)).le, Dev.modLane_flag]
  refine ⟨?_, rfl, s.dev.rollbackRegs_count n m, s.dev.rollbackRegs_event m n.isLt, rfl⟩
  rw [settle_coef s _ n.isLt, Dev.coef_modLane, Dev.rollbackRegs_coef]

theorem eqRollback_calm (halive : s.dev.alive = true) (hcalm : ¬ s.dev.diverged n m) :
    exec (.eqRollback n m) s = .next (settle s [] s.dev) := by
  rw [exec_eqRollback]
  unfold execEqRollback
  rw [run_alive _ halive, s.dev.eqRollback_of_not_diverged hcalm]

end

/-- Settles O10: one clause for each command, through the millisecond that allows a snapshot (`Dev.goodMs`) and the
divergence of the lane (`Dev.diverged`). -/
theorem equaliserHolds : Obligations.EqualiserHolds := by
  unfold Obligations.EqualiserHolds
  rintro s n m low halive rfl
  refine ⟨eqFreeze_completes halive, eqResume_completes halive, ?_, ?_, ?_, ?_⟩
  · intro hrun hfrozen herrs hroll htarget hlow
    have hgood : s.dev.goodMs n m = true := (s.dev.goodMs_iff n m).2 ⟨hfrozen, herrs, hroll, htarget, hlow⟩
    have := eqSnapshot_completes (n := n) (m := m) halive
    rwa [hgood, if_pos rfl, if_pos rfl, s.dev.coef_eqNote m hrun] at this
  · intro hbad
    have hgood : ¬ s.dev.goodMs n m = true := by
      rw [s.dev.goodMs_iff]
      rintro ⟨hfrozen, herrs, hroll, htarget, hlow⟩
      rcases hbad with h | h | h | h | h
      · exact Bool.false_ne_true (hfrozen.symm.trans h)
      · exact h herrs
      · exact Bool.false_ne_true (hroll.symm.trans h)
      · exact Nat.not_lt.2 htarget h
      · exact Bool.false_ne_true (hlow.symm.trans h)
    have := eqSnapshot_completes (n := n) (m := m) halive
    rwa [if_neg hgood, if_neg hgood] at this
  · exact fun hrun hwhy => eqRollback_completes halive ⟨hrun, hwhy⟩
  · intro hcalm
    refine eqRollback_calm halive ?_
    rintro ⟨hrun, hwhy⟩
    rcases hcalm with hfrozen | ⟨herrs, hlow⟩
    · exact Bool.false_ne_true (hrun.symm.trans hfrozen)
    · exact hwhy.elim (Nat.not_le.2 herrs) fun h => Bool.false_ne_true (hlow.symm.trans h)

end Sys2Proof.Machine
end
